-- ==== Sys2Proof/Word.lean ====
section
/-! DEFINITION. The word types of the device: bytes, 16-bit and 32-bit fields (spec 00_scope, R25), and nothing else. -/

namespace Sys2Proof

/-- An 8-bit field of a packet, a message or a register. -/
abbrev Byte := BitVec 8

/-- A 16-bit field. -/
abbrev Half := BitVec 16

/-- A register word (00_scope, "Registers": registers are 32 bits wide). -/
abbrev Word := BitVec 32

end Sys2Proof
end

