-- ==== Sys2Proof/Syntax.lean ====
section
/-! DEFINITION. The commands the device takes: one constructor of `Instr` per row of spec/opcode_table.json, each with the
instant `t` (ns) at which it occurs and the operands its rule names; and `Cmd`, what a command packet asks for (Table 2.9). -/

namespace Sys2Proof

/-- The three command ports (Table 2.3): CSPI, WSPI and Hoist CMD. -/
inductive Port where
  | cspi | wspi | hcmd
  deriving DecidableEq, Repr

/-- The two SPI ports, which alone have SPI transactions (Table 2.4). -/
inductive SpiPort where
  | cspi | wspi
  deriving DecidableEq, Repr

/-- What a command packet asks for: its opcode with its parameters (Table 2.9). -/
inductive Cmd where
  | nop
  | identify
  | status
  | portStatus (port : Byte)
  | regRead (addr : Word) (count : Half)
  | regWrite (addr : Word) (values : List Word)
  | regModify (addr mask value : Word)
  | commit (groups : Word)
  | modeSet (target : Byte)
  | timebaseSelect (source : Byte)
  | safeRequest (target : Byte) (reason : Half)
  | surfaceDefine (surf format : Byte) (base : Word) (width height : Half) (stride : Word)
  | surfaceDelete (surf : Byte)
  | leaseTake (surf : Byte) (crc : Word)
  | leaseRelease (surf : Byte)
  | objlist (listseq : Half) (frag last : Byte) (data : List Byte)
  | ceilingLoad (surf : Byte) (crc : Word)
  | frameStatus
  | dtimeRead
  | engineInfo
  | engineNvRead (seg : Byte) (count : Half) (addr : Word)
  | engineNvWrite (seg : Byte) (addr : Word) (data : List Byte)
  | keepaliveWrite (seg surf : Byte) (crc : Word)
  | pixelCensus (segmask : Half)
  | lifeRead
  | thermalMeasure (chanmask : Half)
  | calRun (itemmask burn : Byte)
  | calRead (record : Byte)
  | evtRead (count : Byte)
  | faultAck (block : Byte) (code : Half)
  | evtReset
  | laneTest (lanemask : Half) (pattern inject : Byte) (duration : Half)
  | safetyTest (test : Byte)
  | reset (key : Half)
  deriving DecidableEq, Repr

/-- The parts of a Hoist HEAD that every message carries, with its two check values as received (Table 9.6, R393). -/
structure HoistHead where
  epoch : Byte
  cseq : Half
  hcrc : Word
  bcrc : Word
  deriving DecidableEq, Repr

/-- The host's capability record (Table 9.3). -/
structure CapRecord where
  version : Byte
  lanes : Byte
  rates : Byte
  prec : Byte
  tstamp : Byte
  id : BitVec 64
  deriving DecidableEq, Repr

/-- A host TRAIN block on one HRX lane (Table 9.4), and whether the equaliser of the device's own receiver of that lane is ready. -/
structure HoistTrainMsg where
  phase : Nat
  count : Nat
  rseq : Byte
  pre : Nat
  main : Nat
  post : Nat
  tapStatus : Byte
  flags : Byte
  hreq : Byte
  hrseq : Byte
  ready : Bool
  deriving DecidableEq, Repr

/-- A backchannel TRAIN message (Table 7.9). -/
structure TrainMsg where
  phase : Nat
  req : Byte
  rseq : Byte
  flags : Byte
  ahi : Half
  alo : Half
  deriving DecidableEq, Repr

/-- Who asks the store port (Table 3.2). -/
inductive Requester where
  | scan
  | flyLine
  | worker (w : Fin 32)
  | hoist
  | halyard
  | background
  deriving DecidableEq, Repr

/-- One request pending at the store port: a read, or a write of the bytes `mask` names. -/
structure StoreReq where
  who : Requester
  write : Bool
  word : BitVec 18
  data : BitVec 1024
  mask : BitVec 128
  deriving DecidableEq, Repr

/-- What the SEC-DED check finds in a 64-bit group of the word read that is not clean (R133, R135). -/
inductive EccResult where
  | corrected
  | uncorrectable
  deriving DecidableEq, Repr

/-- Which rendered table completes (R216, R217, R233). -/
inductive RenderTable where
  | pass | composition | coarse
  deriving DecidableEq, Repr

/-- The four logic-die rails (Table 15.1). -/
inductive Rail where
  | vcore | vio18 | vlane | vlaneh
  deriving DecidableEq, Repr

/-- The supply conditions of Table 15.4 that SUPPLY_THRESHOLD reports. -/
inductive SupplyCond where
  | vbatHigh | vbatSag | vbatCrank | vio18Sag | vledUnder | vledOver
  deriving DecidableEq, Repr

/-- The safety inputs, in the bit order of ENS.INSTAT.RAW (Table 10.16). -/
inductive SafetyInput where
  | darkA | darkB | hsgA | hsgB | svcA | svcB | nfA | nfB
  deriving DecidableEq, Repr

/-- The input pairs that have a discrepancy (Table 10.7). -/
inductive InputPair where
  | dark | hsg | nf
  deriving DecidableEq, Repr

/-- The two channels of a pair. -/
inductive Channel where
  | a | b
  deriving DecidableEq, Repr

/-- The switch monitors that raise a class P fault past their filter (Table 10.5). -/
inductive SwitchMonitor where
  | gate | vds | leak | imis
  deriving DecidableEq, Repr

/-- What the switch latent-fault test measures (Table 10.6, R441): the current at the start, the current while the high side is
the switch under test, the current while the low side is, and the drain-source drop after each is turned on again. -/
structure SwitchMeas where
  startMa : Nat
  highMa : Nat
  lowMa : Nat
  highVdsMv : Nat
  lowVdsMv : Nat
  deriving DecidableEq, Repr

/-- The direction of a die-link frame (Table 15.2). -/
inductive LinkDir where
  | down | up
  deriving DecidableEq, Repr

/-- The reliable die-link messages (Table 15.3). -/
inductive Reliable where
  | escalate | request | regaddr | timehigh | event | drops
  deriving DecidableEq, Repr

/-- What a register read of a low half latches (R264 and the registers that work as it does). -/
inductive HalfPair where
  | framecnt | fliptime | rtc | lasttime
  deriving DecidableEq, Repr

/-- What a receiver of Hoist heard of one FEC group beside its byte errors, as it arrived at the pair: the headers of the 30 blocks, bytes 2
and 3 of each payload (LEN where the block is a HEAD), and the LANEID and MSEQ fields that a MARKER in the first slot has (assumption 88). -/
structure GroupHeard where
  headers : List Byte
  lens : List Half
  laneId : Half
  mseq : BitVec 24
  deriving DecidableEq, Repr

/-- A frame of the backchannel as received: its lane and its 12 bytes (R320). -/
structure BackFrame where
  lane : Fin 16
  bytes : List Byte
  deriving DecidableEq, Repr

/-- A command of the table. The first operand of every constructor is the instant at which it occurs, in ns. -/
inductive Instr where
  -- command packets (Table 2.9), well framed, on port `p`
  | nop (t : Nat) (p : Port) (tag flags : Byte)
  | identify (t : Nat) (p : Port) (tag flags : Byte)
  | status (t : Nat) (p : Port) (tag flags : Byte)
  | portStatus (t : Nat) (p : Port) (tag flags : Byte) (port : Byte)
  | regRead (t : Nat) (p : Port) (tag flags : Byte) (addr : Word) (count : Half)
  | regWrite (t : Nat) (p : Port) (tag flags : Byte) (addr : Word) (values : List Word)
  | regModify (t : Nat) (p : Port) (tag flags : Byte) (addr mask value : Word)
  | commit (t : Nat) (p : Port) (tag flags : Byte) (groups : Word)
  | modeSet (t : Nat) (p : Port) (tag flags : Byte) (target : Byte)
  | timebaseSelect (t : Nat) (p : Port) (tag flags : Byte) (source : Byte)
  | safeRequest (t : Nat) (p : Port) (tag flags : Byte) (target : Byte) (reason : Half)
  | surfaceDefine (t : Nat) (p : Port) (tag flags : Byte) (surf format : Byte) (base : Word) (width height : Half) (stride : Word)
  | surfaceDelete (t : Nat) (p : Port) (tag flags : Byte) (surf : Byte)
  | leaseTake (t : Nat) (p : Port) (tag flags : Byte) (surf : Byte) (crc : Word)
  | leaseRelease (t : Nat) (p : Port) (tag flags : Byte) (surf : Byte)
  | objlist (t : Nat) (p : Port) (tag flags : Byte) (listseq : Half) (frag last : Byte) (data : List Byte)
  | ceilingLoad (t : Nat) (p : Port) (tag flags : Byte) (surf : Byte) (crc : Word)
  | frameStatus (t : Nat) (p : Port) (tag flags : Byte)
  | dtimeRead (t : Nat) (p : Port) (tag flags : Byte)
  | engineInfo (t : Nat) (p : Port) (tag flags : Byte)
  | engineNvRead (t : Nat) (p : Port) (tag flags : Byte) (seg : Byte) (count : Half) (addr : Word)
  | engineNvWrite (t : Nat) (p : Port) (tag flags : Byte) (seg : Byte) (addr : Word) (data : List Byte)
  | keepaliveWrite (t : Nat) (p : Port) (tag flags : Byte) (seg surf : Byte) (crc : Word)
  | pixelCensus (t : Nat) (p : Port) (tag flags : Byte) (segmask : Half)
  | lifeRead (t : Nat) (p : Port) (tag flags : Byte)
  | thermalMeasure (t : Nat) (p : Port) (tag flags : Byte) (chanmask : Half)
  | calRun (t : Nat) (p : Port) (tag flags : Byte) (itemmask burn : Byte)
  | calRead (t : Nat) (p : Port) (tag flags : Byte) (record : Byte)
  | evtRead (t : Nat) (p : Port) (tag flags : Byte) (count : Byte)
  | faultAck (t : Nat) (p : Port) (tag flags : Byte) (block : Byte) (code : Half)
  | evtReset (t : Nat) (p : Port) (tag flags : Byte)
  | laneTest (t : Nat) (p : Port) (tag flags : Byte) (lanemask : Half) (pattern inject : Byte) (duration : Half)
  | safetyTest (t : Nat) (p : Port) (tag flags : Byte) (test : Byte)
  | reset (t : Nat) (p : Port) (tag flags : Byte) (key : Half)
  -- SPI transactions (Table 2.4)
  | put (t : Nat) (p : SpiPort) (bytes : List Byte)
  | get (t : Nat) (p : SpiPort) (n : Nat)
  | stat (t : Nat) (p : SpiPort)
  | resync (t : Nat) (p : SpiPort) (bytes : List Byte)
  -- register accesses with an effect of their own
  | registerWrite (t : Nat) (p : Port) (addr value : Word)
  | rcRead (t : Nat) (p : Port) (addr : Word)
  | framecntlRead (t : Nat) (p : Port) (which : HalfPair)
  | evtWindowRead (t : Nat) (p : Port)
  | rel (t : Nat)
  | pathctlStart (t : Nat) (deltaMa : Nat)
  | pathMeasureDone (t : Nat) (deltaUv deltaMa : Nat)
  | crcInjArm (t : Nat) (unit : Byte)
  | rtcLoad (t : Nat)
  | alarmhWrite (t : Nat) (value : Word)
  | refillWrite (t : Nat) (value : Byte)
  | pcdivmaxWrite (t : Nat) (value : BitVec 2)
  -- Hoist
  | vid (t : Nat) (h : HoistHead) (surf : Byte) (offset : Word) (data : List Byte)
  | vidStoreEntry (t : Nat)
  | vidWriteDone (t : Nat)
  | obj (t : Nat) (h : HoistHead) (listseq : Half) (frag last : Byte) (data : List Byte)
  | cmd (t : Nat) (h : HoistHead) (packet : List Byte)
  | time (t : Nat) (h : HoistHead) (t1 : BitVec 64) (token : Word)
  | hcredit (t : Nat) (h : HoistHead) (ack0 ack1 ack2 replyAdv timeAdv : Half)
  | restartreq (t : Nat) (h : HoistHead)
  | fecGroup (t : Nat) (lane : Fin 4) (errors : Nat) (heard : GroupHeard)
  | creditTimer (t : Nat)
  | creditAudit (t : Nat)
  | hoistLinkdown (t : Nat) (lane : Fin 5)
  | capabilityRecord (t : Nat) (record : CapRecord)
  | hoistTrain (t : Nat) (lane : Fin 4) (m : HoistTrainMsg)
  | hoistTrainingTimeout (t : Nat)
  -- composition and scan-out
  | flipInstant (t : Nat)
  | compositionDeadline (t : Nat)
  | tileDone (t : Nat) (worker : Fin 32)
  | workerHung (t : Nat) (worker : Fin 32)
  | scanAnchor (t : Nat)
  | passStart (t : Nat)
  | passLatch (t : Nat)
  | tableRenderDone (t : Nat) (which : RenderTable)
  | maskTableDeadline (t : Nat)
  | midPassCompare (t : Nat)
  | tokenLatch (t : Nat)
  | readUnderrun (t : Nat) (lane : Fin 16) (line : Byte) (pixel : Byte)
  | echoDeadline (t : Nat)
  | echoLostTimeout (t : Nat) (lane : Fin 16)
  | retrainAnchor (t : Nat)
  | retrainTimeout (t : Nat)
  -- frame store
  | storeAccess (t : Nat) (reqs : List StoreReq) (ecc : List (Fin 16 × EccResult))
  | bistRegionStart (t : Nat)
  | bistRegionDone (t : Nat) (mismatch : Option (Fin 32 × Fin 16)) (rerunFails : Bool)
  | leaseCheckDone (t : Nat)
  | ceilingLoadDone (t : Nat)
  | ceilingCrcCheck (t : Nat)
  | powerPlausibility (t : Nat)
  | drainTimeout (t : Nat)
  -- supplies, wake and bring-up
  | vbatPowerOn (t : Nat)
  | vbatOff (t : Nat)
  | wakeNLow (t : Nat)
  | hrx0Edge (t : Nat)
  | rtcTick (t : Nat)
  | railsGood (t : Nat)
  | railsTimeout (t : Nat)
  | logicResetRelease (t : Nat) (straps : BitVec 4)
  | storeClearDone (t : Nat)
  | patchCheckDone (t : Nat) (lead sigs firmware config : List Byte)
  | laneUpTimeout (t : Nat) (lane : Fin 16)
  | xtalGood (t : Nat)
  | xtalLoss (t : Nat)
  | modeTransitionDone (t : Nat)
  | sleepPmicRelease (t : Nat)
  | sleepComplete (t : Nat)
  | brownout (t : Nat) (rail : Rail)
  | vcoreWindow (t : Nat) (vcore : Half)
  | supplyThreshold (t : Nat) (cond : SupplyCond) (enters : Bool) (level : Nat)
  | sagInhibitEnd (t : Nat)
  -- escalation and the two channels
  | graceTimerExpiry (t : Nat) (cls : Fin 7)
  | ensignGraceExpiry (t : Nat) (power : Bool)
  | heartbeatSend (t : Nat)
  | heartbeat (t : Nat) (seq answer : Byte) (test : Bool) (linkOk : Bool)
  | heartbeatWindowClose (t : Nat)
  | ensignStatusSend (t : Nat)
  | ensignStatus (t : Nat)
  | ensignSilent (t : Nat)
  -- die link
  | escalate (t : Nat)
  | request (t : Nat)
  | regaddr (t : Nat)
  | regdata (t : Nat)
  | regresp (t : Nat)
  | timemarkSend (t : Nat)
  | timemark (t : Nat)
  | timehigh (t : Nat)
  | ack (t : Nat) (msg : Reliable) (tag : BitVec 4)
  | meas (t : Nat) (ma mv : Half)
  | event (t : Nat)
  | drops (t : Nat)
  | dieLinkResend (t : Nat) (msg : Reliable)
  -- Ensign inputs and switches
  | oscCheck (t : Nat) (deviationPermille : Nat)
  | oscStartTimeout (t : Nat)
  | rtcOscOk (t : Nat)
  | rtcOscStop (t : Nat)
  | darkDemand (t : Nat)
  | darkDemandEnd (t : Nat)
  | housingOpen (t : Nat)
  | housingClosed (t : Nat)
  | serviceEnableArm (t : Nat)
  | serviceEnableDisarm (t : Nat)
  | nearFieldInterruption (t : Nat) (ch : Channel)
  | nearFieldRelease (t : Nat)
  | nfTestPulseTimeout (t : Nat) (ch : Channel)
  | inputDiscrepancy (t : Nat) (pair : InputPair)
  | engineOvercurrent (t : Nat) (fast : Bool)
  | switchMonitorFault (t : Nat) (monitor : SwitchMonitor)
  | switchTestDone (t : Nat) (m : SwitchMeas)
  | safetyTestOverrideEnd (t : Nat)
  -- Fly and the engine
  | marker (t : Nat) (lane : Fin 16)
  | fstartFill (t : Nat) (lane : Fin 16)
  | echoMessage (t : Nat) (lane : Fin 16) (fseq : Half) (nsub : Byte) (crc : Word)
  | substMessage (t : Nat) (lane : Fin 16) (fseq : Half) (line cause : Byte)
  | markack (t : Nat) (lane : Fin 16) (mseq : BitVec 24) (residPs : Int) (elapsedPs : Nat)
  | trainMessage (t : Nat) (lane : Fin 16) (m : TrainMsg)
  | flyTrainingTimeout (t : Nat) (lane : Fin 16)
  | nvdata (t : Nat) (lane : Fin 16) (seq : Byte) (data : List Byte)
  | nvend (t : Nat) (lane : Fin 16) (tag status : Byte) (crc : Word)
  | statusMessage (t : Nat) (lane : Fin 16) (flags mslip : Byte) (inverted : Bool)
  | prbscnt (t : Nat) (lane : Fin 16) (errors blocks : Word)
  | ctrlack (t : Nat) (lane : Fin 16) (tag status : Byte) (data : BitVec 48)
  | backchannelDiscard (t : Nat) (frame : BackFrame)
  | ctrlTimeout (t : Nat) (lane : Fin 16) (tag : BitVec 2)
  | laneTestEnd (t : Nat)
  -- converter, thermal policy and fabric
  | conversionDone (t : Nat) (raw : Nat) (temp : Int)
  | conversionTimeout (t : Nat)
  | thermalPolicyTick (t : Nat) (guidon : Bool)
  | enfGraceExpiry (t : Nat)
  | enfRelax (t : Nat)
  | tjSecond (t : Nat)
  | guidonThermalOverride (t : Nat)
  | marginDecrease (t : Nat)
  | canaryMeasure (t : Nat) (cycles : Vector Half 24)
  | vreqStep (t : Nat)
  | fircMeasure (t : Nat) (error : Int)
  | fuseRowDone (t : Nat)
  | lifeTick (t : Nat)
  | lifeRecordDue (t : Nat)
  -- recorder, package and the rest
  | eventQueueExit (t : Nat)
  | bucketRefill (t : Nat) (code : BitVec 12)
  | jtagUpdateIr (t : Nat) (code : BitVec 5)
  | tmodeHigh (t : Nat)
  | safetyInputChange (t : Nat) (input : SafetyInput) (level : Bool)
  | dieLinkFrameDiscard (t : Nat) (dir : LinkDir) (seq : BitVec 4)
  | hoistTimeStale (t : Nat)
  | halFwStall (t : Nat)
  | halFwTrap (t : Nat)
  | gdnRomCheck (t : Nat) (ok : Bool)
  | limpBaseLayerPass (t : Nat)
  | prbscntTimeout (t : Nat)
  | pmicRetry (t : Nat)
  | wakeNHigh (t : Nat)
  | kaselPairMismatch (t : Nat) (goff : Bool)
  deriving DecidableEq, Repr

end Sys2Proof
end

