-- ==== Sys2Proof/Decode.lean ====
section
/-! DEFINITION. spec/opcode_table.json gives no row any bits: no word spells a command, and commands reach the device as the
packets, messages and events that the constructors of `Instr` carry. -/

namespace Sys2Proof

/-- The command that a word spells by the table's bits: none, since the table gives no row bits (assumption 11). -/
def decodeTableWord (_nbits _w : Nat) : Option Instr := none

end Sys2Proof
end

