-- ==== Sys2Proof/Machine/Bits.lean ====
section
/-! DEFINITION. Bit fields, byte order, serial comparison, saturating counts, check values and the sparse lists that memory and the
register words use. -/

namespace Sys2Proof.Machine

/-- Bits `hi` down to `lo` of `w`. -/
def bits (w hi lo : Nat) : Nat := w / 2 ^ lo % 2 ^ (hi + 1 - lo)

/-- Bit `i` of `w`. -/
def bit (w i : Nat) : Bool := w / 2 ^ i % 2 == 1

def b2n (b : Bool) : Nat := if b then 1 else 0

/-- `v` kept to `width` bits and placed at bit `lo`. -/
def place (lo width v : Nat) : Nat := v % 2 ^ width * 2 ^ lo

/-- The little-endian bytes of `v` (R25). -/
def le : Nat → Nat → List Byte
  | 0, _ => []
  | n + 1, v => BitVec.ofNat 8 v :: le n (v / 256)

/-- The number a little-endian byte string holds. -/
def ofLe : List Byte → Nat
  | [] => 0
  | b :: t => b.toNat + 256 * ofLe t

/-- Bytes `off` to `off + n - 1` of `l` as a number; bytes beyond the end read as 0. -/
def leAt (l : List Byte) (off n : Nat) : Nat := ofLe ((l.drop off).take n)

/-- Serial comparison over `n` bits (R26): `a` is later than `b`. -/
def later (n a b : Nat) : Bool :=
  let d := (a + 2 ^ n - b % 2 ^ n) % 2 ^ n
  decide (1 ≤ d) && decide (d < 2 ^ (n - 1))

/-- `a + b`, saturating at the largest value of the width. -/
def satAdd {w : Nat} (a : BitVec w) (b : Nat) : BitVec w :=
  if a.toNat + b < 2 ^ w then BitVec.ofNat w (a.toNat + b) else BitVec.allOnes w

/-- `v` brought into `lo` to `hi`. -/
def clamp (lo hi v : Nat) : Nat := if v < lo then lo else if hi < v then hi else v

/-- Two's-complement reading of the low `n` bits of `v`. -/
def signed (n v : Nat) : Int :=
  if v % 2 ^ n < 2 ^ (n - 1) then (v % 2 ^ n : Int) else (v % 2 ^ n : Int) - 2 ^ n

/-- The low `n` bits of the two's complement of `v`. -/
def unsigned (n : Nat) (v : Int) : Nat := (v % (2 ^ n : Int)).toNat

/-- Division rounded up. -/
def ceilDiv (a b : Nat) : Nat := (a + b - 1) / b

/-- One bit of a reflected 32-bit check value. -/
def crcBit (poly c : Word) : Word := if c.getLsbD 0 then (c >>> 1) ^^^ poly else c >>> 1

def crcBits (poly : Word) : Nat → Word → Word
  | 0, c => c
  | n + 1, c => crcBits poly n (crcBit poly c)

def crcByte (poly c : Word) (b : Byte) : Word := crcBits poly 8 (c ^^^ b.zeroExtend 32)

/-- Reflected CRC-32 of the bytes, final XOR all ones. -/
def crcReflected (poly init : Word) (bs : List Byte) : Word := bs.foldl (crcByte poly) init ^^^ 0xFFFFFFFF#32

/-- CRC-32C (polynomial 0x1EDC_6F41, R88) with initial value 0xFFFF_FFFF XOR `seed`. -/
def crc32c (seed : Word) (bs : List Byte) : Word := crcReflected 0x82F63B78#32 (0xFFFFFFFF#32 ^^^ seed) bs

/-- CRC-32 (polynomial 0x04C1_1DB7, R146) with initial value 0xFFFF_FFFF XOR `seed`. -/
def crc32 (seed : Word) (bs : List Byte) : Word := crcReflected 0xEDB88320#32 (0xFFFFFFFF#32 ^^^ seed) bs

/-- A linear map of 32-bit words as the images of the 32 single-bit words, applied to a word. -/
def linApply (m : List Word) (c : Word) : Word := ((List.range 32).zip m).foldl (fun acc p => if c.getLsbD p.1 then acc ^^^ p.2 else acc) 0

/-- The register after `n` zero bytes, `n` given by its binary digits from the lowest: doubling of the map of one zero byte. -/
def crcZeroRun : List Bool → List Word → Word → Word
  | [], _, c => c
  | b :: t, m, c => crcZeroRun t (m.map (linApply m)) (if b then linApply m c else c)

/-- `crcReflected` of 262,144 zero bytes, one segment's picture of code 0. -/
def crcZeroSegment (poly init : Word) : Word :=
  crcZeroRun ((List.range 19).map (fun i => i == 18)) ((List.range 32).map (fun i => crcByte poly ((1 : Word) <<< i) 0)) init ^^^ 0xFFFFFFFF#32

/-- Non-reflected bit-serial CRC, most significant bit of the register out first. -/
def crcSerial {w : Nat} (poly : BitVec w) (c : BitVec w) (b : Bool) : BitVec w :=
  let top := c.getLsbD (w - 1)
  let c' := c <<< 1
  if top != b then c' ^^^ poly else c'

/-- The value a sorted sparse list holds at `a`; an unlisted address holds `d`. -/
def sparseGet {α : Type} (d : α) : List (Nat × α) → Nat → α
  | [], _ => d
  | (b, v) :: t, a => if a = b then v else sparseGet d t a

/-- The list with `v` at `a`, in canonical form when the list is: addresses rising, no entry equal to what an unlisted address holds. -/
def sparseSet {α : Type} [DecidableEq α] (d : α) : List (Nat × α) → Nat → α → List (Nat × α)
  | [], a, v => if v = d then [] else [(a, v)]
  | (b, w) :: t, a, v =>
    if a < b then (if v = d then (b, w) :: t else (a, v) :: (b, w) :: t)
    else if a = b then (if v = d then t else (a, v) :: t)
    else (b, w) :: sparseSet d t a v

/-- Every address of the list is above `a`. -/
def sparseAbove {α : Type} (a : Nat) : List (Nat × α) → Bool
  | [] => true
  | (b, _) :: _ => decide (a < b)

/-- The canonical form: addresses strictly rising, no entry equal to `d`. -/
def sparseWf {α : Type} [DecidableEq α] (d : α) : List (Nat × α) → Bool
  | [] => true
  | (b, v) :: t => decide (v ≠ d) && sparseAbove b t && sparseWf d t

/-- Bytes `a` to `a + n - 1` of a sparse memory. -/
def sparseBytes (l : List (Nat × Byte)) : Nat → Nat → List Byte
  | _, 0 => []
  | a, n + 1 => sparseGet 0 l a :: sparseBytes l (a + 1) n

/-- The cells that the bytes from `a` upward take; a zero byte takes none. -/
def cellsOf : Nat → List Byte → List (Nat × Byte)
  | _, [] => []
  | a, b :: t => if b = 0 then cellsOf (a + 1) t else (a, b) :: cellsOf (a + 1) t

/-- The memory with `bs` written from `a` upward, in canonical form when the memory is. -/
def memPut (l : List (Nat × Byte)) (a : Nat) (bs : List Byte) : List (Nat × Byte) :=
  l.filter (fun p => decide (p.1 < a)) ++ (cellsOf a bs ++ l.filter (fun p => decide (a + bs.length ≤ p.1)))

/-- `f` applied to the numbers below `n` in ascending order. -/
def iter {α : Type} (f : Nat → α → α) : Nat → α → α
  | 0, x => x
  | n + 1, x => f n (iter f n x)

/-- The first number below `n` for which `p` holds. -/
def firstBelow (p : Nat → Bool) (n : Nat) : Option Nat := (List.range n).find? p

/-- How many numbers below `n` satisfy `p`. -/
def countBelow (p : Nat → Bool) (n : Nat) : Nat := ((List.range n).filter p).length

/-- A bit vector from a predicate on its bit numbers. -/
def bitsOf (p : Nat → Bool) (n : Nat) : Nat := (List.range n).foldl (fun acc i => acc + b2n (p i) * 2 ^ i) 0

/-- Entry `i` of a vector, entry 0 beyond its end. -/
def vget {α : Type} {n : Nat} (v : Vector α (n + 1)) (i : Nat) : α := v.toArray.getD i v[0]

/-- The vector with entry `i` replaced; unchanged beyond its end. -/
def vset {α : Type} {n : Nat} (v : Vector α n) (i : Nat) (x : α) : Vector α n := v.setIfInBounds i x

/-- The vector with entry `i` changed by `f`. -/
def vmod {α : Type} {n : Nat} (v : Vector α (n + 1)) (i : Nat) (f : α → α) : Vector α (n + 1) := vset v i (f (vget v i))

def sumV {n : Nat} (v : Vector Nat n) : Nat := v.toList.sum

/-- Insertion of `x` into a sorted list of integers. -/
def insertInt (x : Int) : List Int → List Int
  | [] => [x]
  | y :: t => if x ≤ y then x :: y :: t else y :: insertInt x t

def sortInt (l : List Int) : List Int := l.foldr insertInt []

/-- The median, the mean of the middle two rounded down for an even count (R527). -/
def median (l : List Int) : Option Int :=
  let s := sortInt l
  let n := s.length
  if n = 0 then none
  else if n % 2 = 1 then s[n / 2]?
  else match s[n / 2 - 1]?, s[n / 2]? with
    | some a, some b => some ((a + b) / 2)
    | _, _ => none

/-- The largest of a list of integers. -/
def maxInt? (l : List Int) : Option Int := (sortInt l).getLast?

end Sys2Proof.Machine
end

