-- ==== Sys2Proof/Machine/Ecdsa.lean ====
section
/-! DEFINITION. ECDSA over curve P-256 with SHA-256, by which the patch image is authenticated (R84, R85). The spec names the two
algorithms; what they compute is that of their standards, FIPS 180-4 and FIPS 186-4 (assumption 66). -/

namespace Sys2Proof.Machine

/-! ### SHA-256 -/

/-- The 64 round constants. -/
def shaK : List Word :=
  [0x428a2f98#32, 0x71374491#32, 0xb5c0fbcf#32, 0xe9b5dba5#32, 0x3956c25b#32, 0x59f111f1#32, 0x923f82a4#32, 0xab1c5ed5#32,
   0xd807aa98#32, 0x12835b01#32, 0x243185be#32, 0x550c7dc3#32, 0x72be5d74#32, 0x80deb1fe#32, 0x9bdc06a7#32, 0xc19bf174#32,
   0xe49b69c1#32, 0xefbe4786#32, 0x0fc19dc6#32, 0x240ca1cc#32, 0x2de92c6f#32, 0x4a7484aa#32, 0x5cb0a9dc#32, 0x76f988da#32,
   0x983e5152#32, 0xa831c66d#32, 0xb00327c8#32, 0xbf597fc7#32, 0xc6e00bf3#32, 0xd5a79147#32, 0x06ca6351#32, 0x14292967#32] ++
  [0x27b70a85#32, 0x2e1b2138#32, 0x4d2c6dfc#32, 0x53380d13#32, 0x650a7354#32, 0x766a0abb#32, 0x81c2c92e#32, 0x92722c85#32,
   0xa2bfe8a1#32, 0xa81a664b#32, 0xc24b8b70#32, 0xc76c51a3#32, 0xd192e819#32, 0xd6990624#32, 0xf40e3585#32, 0x106aa070#32,
   0x19a4c116#32, 0x1e376c08#32, 0x2748774c#32, 0x34b0bcb5#32, 0x391c0cb3#32, 0x4ed8aa4a#32, 0x5b9cca4f#32, 0x682e6ff3#32,
   0x748f82ee#32, 0x78a5636f#32, 0x84c87814#32, 0x8cc70208#32, 0x90befffa#32, 0xa4506ceb#32, 0xbef9a3f7#32, 0xc67178f2#32]

/-- The eight working words. -/
structure Sha where
  a : Word
  b : Word
  c : Word
  d : Word
  e : Word
  f : Word
  g : Word
  h : Word
  deriving DecidableEq, Repr

def Sha.start : Sha :=
  { a := 0x6a09e667#32, b := 0xbb67ae85#32, c := 0x3c6ef372#32, d := 0xa54ff53a#32,
    e := 0x510e527f#32, f := 0x9b05688c#32, g := 0x1f83d9ab#32, h := 0x5be0cd19#32 }

def Sha.add (x y : Sha) : Sha :=
  { a := x.a + y.a, b := x.b + y.b, c := x.c + y.c, d := x.d + y.d, e := x.e + y.e, f := x.f + y.f, g := x.g + y.g, h := x.h + y.h }

/-- One round with its constant plus schedule word. -/
def Sha.round (x : Sha) (kw : Word) : Sha :=
  let s1 := x.e.rotateRight 6 ^^^ x.e.rotateRight 11 ^^^ x.e.rotateRight 25
  let ch := (x.e &&& x.f) ^^^ (~~~x.e &&& x.g)
  let t1 := x.h + s1 + ch + kw
  let s0 := x.a.rotateRight 2 ^^^ x.a.rotateRight 13 ^^^ x.a.rotateRight 22
  let maj := (x.a &&& x.b) ^^^ (x.a &&& x.c) ^^^ (x.b &&& x.c)
  { a := t1 + s0 + maj, b := x.a, c := x.b, d := x.c, e := x.d + t1, f := x.e, g := x.f, h := x.g }

/-- The message schedule's next word from the last sixteen, newest first. -/
def shaNext (w : List Word) : Word :=
  let x := w.getD 14 0
  let y := w.getD 1 0
  let s0 := x.rotateRight 7 ^^^ x.rotateRight 18 ^^^ (x >>> 3)
  let s1 := y.rotateRight 17 ^^^ y.rotateRight 19 ^^^ (y >>> 10)
  w.getD 15 0 + s0 + w.getD 6 0 + s1

/-- The rounds of a block: schedule words still to use, oldest first; the constants left; the last sixteen words, newest first. -/
def shaRounds : List Word → List Word → List Word → Sha → Sha
  | [], _, _, x => x
  | k :: ks, w :: ws, last, x => shaRounds ks ws (w :: last.take 15) (x.round (k + w))
  | k :: ks, [], last, x =>
    let w := shaNext last
    shaRounds ks [] (w :: last.take 15) (x.round (k + w))

/-- A big-endian number. -/
def ofBe (l : List Byte) : Nat := ofLe l.reverse

def beWords : Nat → List Byte → List Word
  | 0, _ => []
  | n + 1, l => BitVec.ofNat 32 (ofBe (l.take 4)) :: beWords n (l.drop 4)

/-- Blocks of 64 bytes. -/
def shaBlocks : Nat → List Byte → Sha → Sha
  | 0, _, x => x
  | n + 1, l, x => shaBlocks n (l.drop 64) (x.add (shaRounds shaK (beWords 16 (l.take 64)) [] x))

/-- The message padded to whole blocks. -/
def shaPad (l : List Byte) : List Byte :=
  l ++ [0x80#8] ++ List.replicate ((119 - l.length % 64) % 64) 0 ++ (le 8 (8 * l.length)).reverse

/-- The digest as a number, most significant word first. -/
def sha256 (l : List Byte) : Nat :=
  let m := shaPad l
  let x := shaBlocks (m.length / 64) m Sha.start
  [x.a, x.b, x.c, x.d, x.e, x.f, x.g, x.h].foldl (fun v w => v * 2 ^ 32 + w.toNat) 0

/-! ### The curve -/

def p256P : Nat := 0xffffffff00000001000000000000000000000000ffffffffffffffffffffffff
def p256N : Nat := 0xffffffff00000000ffffffffffffffffbce6faada7179e84f3b9cac2fc632551
def p256B : Nat := 0x5ac635d8aa3a93e7b3ebbd55769886bc651d06b0cc53b0f63bce3c3e27d2604b
def p256G : Nat × Nat :=
  (0x6b17d1f2e12c4247f8bce6e563a440f277037d812deb33a0f4a13945d898c296,
   0x4fe342e2fe1a7f9b8ee7eb4a7c0f9e162bce33576b315ececbb6406837bf51f5)

/-- b^e modulo m, over the low `n` bits of e. -/
def powMod (m b e : Nat) : Nat → Nat
  | 0 => 1 % m
  | n + 1 => powMod m b e n ^ 2 % m * (if bit e (255 - n) then b else 1) % m

/-- The inverse modulo a prime of 256 bits. -/
def invMod (m a : Nat) : Nat := powMod m a (m - 2) 256

/-- A point of the curve, none for the point at infinity. -/
abbrev Point := Option (Nat × Nat)

/-- The chord or tangent of slope k through (x, y) with x2 the other abscissa: the sum. -/
def slopeSum (k x y x2 : Nat) : Point :=
  let x3 := (k * k + 2 * p256P - x - x2) % p256P
  some (x3, (k * (x + p256P - x3) + p256P - y) % p256P)

def pointAdd (a b : Point) : Point :=
  match a, b with
  | none, b => b
  | a, none => a
  | some (x, y), some (u, v) =>
    if x ≠ u then slopeSum ((v + p256P - y) * invMod p256P ((u + p256P - x) % p256P) % p256P) x y u
    else if y = v ∧ y ≠ 0 then slopeSum ((3 * x * x + p256P - 3) * invMod p256P (2 * y % p256P) % p256P) x y x
    else none

/-- k times a point, over the top `n` of the 256 bits of k. -/
def pointMul (k : Nat) (a : Point) : Nat → Point
  | 0 => none
  | n + 1 =>
    let r := pointMul k a n
    let r := pointAdd r r
    if bit k (255 - n) then pointAdd r a else r

/-- Coordinates of a point of the curve other than infinity. -/
def onCurve (q : Nat × Nat) : Bool :=
  decide (q.1 < p256P ∧ q.2 < p256P ∧ q.2 * q.2 % p256P = (q.1 * q.1 * q.1 + (p256P - 3) * q.1 + p256B) % p256P)

/-- The signature (r, s) of a message verifies under a public key (R84). -/
def ecdsaVerify (key : Nat × Nat) (message : List Byte) (r s : Nat) : Bool :=
  if !onCurve key || decide (r = 0 ∨ p256N ≤ r ∨ s = 0 ∨ p256N ≤ s) then false
  else
    let w := invMod p256N s
    let u := sha256 message * w % p256N
    let v := r * w % p256N
    match pointAdd (pointMul u (some p256G) 256) (pointMul v (some key) 256) with
    | some (x, _) => decide (x % p256N = r)
    | none => false

/-- r and s as they stand at an offset of an image, big-endian, and the check of them (R84). -/
def signedBy (key : Nat × Nat) (message image : List Byte) (off : Nat) : Bool :=
  ecdsaVerify key message (ofBe ((image.drop off).take 32)) (ofBe ((image.drop (off + 32)).take 32))

end Sys2Proof.Machine
end

