-- ==== Sys2Proof/Config.lean ====
section
/-! DEFINITION. What the spec leaves open or an implementation fixes without saying how: opaque, so that nothing can be proved of a
value here. Each has an entry of the assumption log. -/

namespace Sys2Proof

/-- The k-th free value: a value the spec gives no number for, drawn afresh each time (assumption 3). -/
opaque Config.freeValue : Nat → Nat

/-- The 16 challenge and answer pairs fixed in the Ensign and in Guidon's ROM (10_functional_safety, "Heartbeat"; assumption 4). -/
opaque Config.answer : BitVec 4 → Byte

/-- CYCREF: a canary ring's cycle in ps on a typical die at the typical corner, held in ROM (R545; assumption 7). -/
opaque Config.cycRef : Nat → Nat

/-- Silicon revision, ROM version and unique identifier (Table 2.9, IDENTIFY; assumption 8). -/
opaque Config.rev : Byte
opaque Config.romVer : Half
opaque Config.uid : BitVec 64

/-- Device delay of a Fly lane in ps (R340, the DELAY column of R627; assumption 10). -/
opaque Config.tdev : Nat → Nat

/-- The level that the outside drives or leaves on general-purpose pad g at an instant while the device does not drive it and
pulls it nowhere (Table 18.3, IN; assumption 13). -/
opaque Config.padLevel : Nat → Nat → Bool

/-- What the outside drives onto general-purpose pad g at an instant while the device only pulls it; none where nothing does (R673;
assumption 13). -/
opaque Config.padDriver : Nat → Nat → Option Bool

/-- What the boundary register puts on a ball under EXTEST or CLAMP at an instant, a level or high impedance: no command of the table shifts
data through the TAP (Table 16.7; assumption 139). Ball g is GPIO g; 8 is INT_N, 9 SINT_N. -/
opaque Config.boundaryCell : Nat → Nat → Option Bool

/-- The temperature that a diode's measurement stands for under an ideality factor of 0, which no rule excludes and R511 cannot divide by
(assumption 46). -/
opaque Config.diodeOpen : Int → Int

/-- The temperature of a thermistor where R512's formula has none: a resistance, an R25 or a B constant of 0, or a sum of reciprocals that is not
above 0 (assumption 46). -/
opaque Config.ntcOpen : Nat → Nat → Nat → Int

/-- What the calibration in force makes of a diode's measurement, from the terms DOFS, DGAIN and RLINE, and of a thermistor's resistance, from NOFS and
NGAIN: the spec gives the terms and their units, and no formula (R512, Table 14.3; assumption 46). -/
opaque Config.diodeTrim : Int → Int → Int → Int → Int
opaque Config.ntcTrim : Nat → Int → Int → Nat

/-- The lanes HRX[0..3] whose receivers want precoded input: the device's own PRECODE_REQ (Table 9.4; assumption 109). -/
opaque Config.hrxWantsPrec : BitVec 4

/-- The order in which R344 chooses the PRBS blocks whose bit it inverts, and those bits, for the test of a free value (assumption 104). -/
opaque Config.injectPick : Nat → Nat → Nat

/-- The bytes of Ottor's factory trim in the layout of Table 14.3 (R581; assumption 14). -/
opaque Config.factoryTrim : Nat → Byte

/-- The ROM key of the patch signature: the coordinates of a public key of curve P-256 (R84, R85; assumption 66). -/
opaque Config.romKey : Nat × Nat

end Sys2Proof
end

