-- ==== Sys2Proof/Machine/Sources.lean ====
section
/-! DEFINITION. The 192 interrupt and event sources with their codes and classes (R479, R480, R510, Table 11.8), and the fault
classes (Table 11.1). -/

namespace Sys2Proof.Machine

/-- Class indices of Table 11.1. -/
def clsG : Nat := 0
def clsD : Nat := 1
def clsS : Nat := 2
def clsL : Nat := 3
def clsM : Nat := 4
def clsP : Nat := 5
def clsI : Nat := 6
def clsT : Nat := 7

/-- The fault sources with their class (Table 11.8). -/
def faultTable : List (Nat × Nat) :=
  [(0x005, 6), (0x041, 6), (0x046, 6), (0x047, 6), (0x081, 4), (0x084, 4), (0x085, 4), (0x0C1, 6),
   (0x102, 0), (0x103, 0), (0x104, 0), (0x105, 0), (0x107, 0),
   (0x144, 0), (0x145, 0), (0x146, 3), (0x147, 2), (0x148, 2), (0x149, 6), (0x14A, 3),
   (0x182, 3), (0x183, 3), (0x184, 3)] ++
  [(0x205, 3), (0x241, 0), (0x242, 1), (0x243, 6), (0x247, 6), (0x248, 6),
   (0x280, 5), (0x281, 5), (0x282, 5), (0x283, 5), (0x284, 5), (0x285, 5), (0x286, 5), (0x287, 6), (0x288, 6), (0x289, 6),
   (0x2C1, 6), (0x301, 7), (0x302, 7), (0x303, 7), (0x304, 7), (0x306, 7), (0x346, 6),
   (0x3C0, 0), (0x3C6, 5), (0x3C7, 6)]

/-- The class of a fault source; none for an event (R480). -/
def faultClass (code : Nat) : Option Nat := (faultTable.find? (fun p => p.1 == code)).map (·.2)

/-- The class shown in a source's recorder entries: its fault class, or the reporting class of an event (R480). -/
def entryClass (code : Nat) : Nat :=
  match faultClass code with
  | some c => c
  | none => if code = 0x088 then clsM else if code = 0x1C1 then clsL else if code = 0x3C5 then clsD else 15

/-- How many sources each block has, from index 0 upward (Table 11.8). -/
def sourceCount : Nat → Nat
  | 0x00 => 15 | 0x01 => 13 | 0x02 => 10 | 0x03 => 5 | 0x04 => 10 | 0x05 => 15 | 0x06 => 13 | 0x07 => 14 | 0x08 => 11
  | 0x09 => 10 | 0x0A => 16 | 0x0B => 4 | 0x0C => 11 | 0x0D => 7 | 0x0E => 21 | 0x0F => 11 | 0x10 => 3 | 0x11 => 3
  | _ => 0

/-- The block that raises a source and the source's index there (R479). -/
def srcBlock (code : Nat) : Nat := code / 64 % 64
def srcIdx (code : Nat) : Nat := code % 64

/-- Fault sources of a block as a mask over indices 32 w to 32 w + 31: the reset value of INTEN (Table 11.3). -/
def faultMask (block w : Nat) : Nat :=
  bitsOf (fun i => (faultClass (block * 64 + 32 * w + i)).isSome) 32

/-- A source of the ENS block, which lives on the HV die (R488). -/
def isEns (code : Nat) : Bool := srcBlock code == 0x0A

/-- The mode a class escalates to: SAFE-DARK for class P, else SAFE-BEAM (Table 11.1), in the SYS.MODE.CUR encoding. -/
def classTarget (cls : Nat) : Nat := if cls = clsP then 6 else 5

end Sys2Proof.Machine
end

