-- ==== Sys2Proof/Machine/Coding.lean ====
section
/-! DEFINITION. Ranok blocks and line coding, bit for bit, as Fly and Hoist share them: block types, the scrambler, the PRBS sequences,
symbols, header correction and block lock, the check values of line packets and backchannel messages, Reed-Solomon groups. -/

namespace Sys2Proof.Machine

/-! ### Blocks (R27, R301 to R308, R382) -/

/-- The block types that the device sends (Tables 7.2 and 9.2). -/
inductive BlockType where
  | idle | data | fstart | marker | keepalive | ctrl | train | furl | prbs7 | prbs15 | prbs31 | head
  deriving DecidableEq, Repr

def BlockType.header : BlockType → Nat
  | .idle => 0x1E | .data => 0x2D | .fstart => 0x33 | .marker => 0x4B | .keepalive => 0x55 | .ctrl => 0x66 | .train => 0x78 | .furl => 0x99
  | .prbs7 => 0xAA | .prbs15 => 0xB4 | .prbs31 => 0xCC | .head => 0x33

def BlockType.scrambled : BlockType → Bool
  | .marker => false | .keepalive => false | .prbs7 => false | .prbs15 => false | .prbs31 => false
  | .idle => true | .data => true | .fstart => true | .ctrl => true | .train => true | .furl => true | .head => true

/-- Rank in a slot in which several blocks are due, lowest first (R311). -/
def BlockType.rank : BlockType → Nat
  | .keepalive => 1 | .marker => 2 | .fstart => 3 | .head => 3 | .data => 4 | .train => 5 | .prbs7 => 5 | .prbs15 => 5 | .prbs31 => 5
  | .furl => 6 | .ctrl => 7 | .idle => 8

/-- A block as it is made up: its type and its payload before scrambling. -/
structure Block where
  type : BlockType
  payload : List Byte
  deriving DecidableEq, Repr

/-- A payload of 16 bytes, zeros after its fields. -/
def payload16 (l : List Byte) : List Byte := (l ++ List.replicate 16 0).take 16

/-- LANEID of a Fly lane, of HRX[n], and of HTX (R308, R382). -/
def flyLaneId (n : Nat) : Nat := 0xF100 + n
def hrxLaneId (n : Nat) : Nat := 0xA100 + n
def htxLaneId : Nat := 0xA1F0

/-- MARKER and KEEPALIVE payloads (Table 7.2). -/
def markerPayload (laneId : Nat) (mseq : BitVec 24) : List Byte := payload16 (le 2 laneId ++ le 3 mseq.toNat)
def keepalivePayload (n : Nat) : List Byte := le 2 (flyLaneId n) ++ List.replicate 14 0x5A#8

/-- CTRL payload (Table 7.10). -/
def ctrlPayload (op tag count addr : Nat) (data : List Byte) : List Byte :=
  payload16 (le 1 op ++ le 1 tag ++ le 2 count ++ le 4 addr ++ data.take 8)

/-- TRAIN payload of a Fly lane (Table 7.9): phase, COUNT, taps, STATUS, the RSEQ answered, precoding active. -/
def trainPayload (phase count pre main post status rseq : Nat) (prec : Bool) : List Byte :=
  payload16 (le 1 phase ++ le 1 count ++ le 1 pre ++ le 1 main ++ le 1 post ++ le 1 status ++ le 1 rseq ++ le 1 (b2n prec))

/-! ### Scrambler and PRBS (R307, R343) -/

/-- The generator 1 + x^28 + x^31 of R307, one step: the bit that goes out and the register after it. -/
def scramStep (r : BitVec 31) : Bool × BitVec 31 :=
  let b := r.getLsbD 30 != r.getLsbD 27
  (b, (r <<< 1) ||| (if b then 1 else 0))

/-- The scrambler register after a MARKER (R307). -/
def scramSeed (n : Nat) (mseq : BitVec 24) : BitVec 31 := BitVec.ofNat 31 (0x40000000 ||| mseq.toNat * 16 ||| n)

/-- `n` steps of the scrambler: the bits that go out, oldest first, and the register after them (R307). -/
def scramRun : Nat → BitVec 31 → List Bool × BitVec 31
  | 0, r => ([], r)
  | n + 1, r =>
    let x := scramStep r
    let y := scramRun n x.2
    (x.1 :: y.1, y.2)

/-- The register after `k` scrambled blocks (R307). -/
def scramAfter (k : Nat) (r : BitVec 31) : BitVec 31 := (List.range k).foldl (fun r _ => (scramRun 128 r).2) r

/-- One step of a PRBS generator of degree `d` with its second tap at `t`: 1 + x^t + x^d (R343). -/
def prbsStep (d t : Nat) (r : Nat) : Bool × Nat :=
  let b := bit r (d - 1) != bit r (t - 1)
  (b, (2 * r + b2n b) % 2 ^ d)

/-- The next `n` bits of a sequence, and the register after them. -/
def prbsRun (d t : Nat) : Nat → Nat → List Bool × Nat
  | 0, r => ([], r)
  | n + 1, r =>
    let x := prbsStep d t r
    let y := prbsRun d t n x.2
    (x.1 :: y.1, y.2)

/-- Degree and second tap of a LANE_TEST pattern: PRBS7, PRBS15, PRBS31 (R343). -/
def prbsTaps (pattern : Nat) : Nat × Nat := match pattern with | 0 => (7, 6) | 1 => (15, 14) | _ => (31, 28)

def prbsType (pattern : Nat) : BlockType := match pattern with | 0 => .prbs7 | 1 => .prbs15 | _ => .prbs31

/-- Bits packed into bytes, least significant first. -/
def bytesOfBits : Nat → List Bool → List Byte
  | 0, _ => []
  | n + 1, l => BitVec.ofNat 8 (bitsOf (fun i => l.getD i false) 8) :: bytesOfBits n (l.drop 8)

/-- Payload of the PRBS block of index k of a test whose register starts at `seed` (R343). -/
def prbsPayload (pattern seed k : Nat) : List Byte :=
  let t := prbsTaps pattern
  let r := (prbsRun t.1 t.2 (128 * k) seed).2
  bytesOfBits 16 (prbsRun t.1 t.2 128 r).1

/-- The key under which block k of 10^6 stands when the blocks to be inverted are chosen (R344). -/
def injectKey (v w k : Nat) : Nat := Config.injectPick v (1000000 * w + k)

/-- PRBS block k of a test has a bit inverted (R344): of each 10^6 blocks, the INJECT ones with the least keys. -/
def injected (v inject k : Nat) : Bool :=
  let w := k / 1000000
  let i := k % 1000000
  decide (countBelow (fun j => decide (injectKey v w j < injectKey v w i ∨ (injectKey v w j = injectKey v w i ∧ j < i))) 1000000 < inject)

/-- How many of the first k PRBS blocks have an inverted bit. -/
def injectedBelow (v inject k : Nat) : Nat := if inject = 0 then 0 else countBelow (injected v inject) k

/-- A payload with bit b inverted. -/
def flipBit (b : Nat) (l : List Byte) : List Byte := l.zipIdx.map (fun x => if x.2 = b / 8 then x.1 ^^^ BitVec.ofNat 8 (2 ^ (b % 8)) else x.1)

/-- The PRBS payload as sent, with the inversion of R344. -/
def prbsSent (pattern seed v inject k : Nat) : List Byte :=
  let p := prbsPayload pattern seed k
  if inject ≠ 0 ∧ injected v inject k then flipBit (Config.injectPick v (2 ^ 64 + k) % 128) p else p

/-! ### Bits and symbols (R28, R301 to R303) -/

/-- The bits of bytes, least significant first. -/
def bitsOfBytes (l : List Byte) : List Bool := l.flatMap (fun b => (List.range 8).map b.getLsbD)

/-- The 136 bits of a block, bit 0 first, and the scrambler after it (R27, R307). -/
def blockBits (ty : BlockType) (payload : List Byte) (r : BitVec 31) : List Bool × BitVec 31 :=
  let head := bitsOfBytes (le 1 ty.header)
  if ty.scrambled then
    (let y := scramRun 128 r
     (head ++ List.zipWith (· != ·) (bitsOfBytes payload) y.1, y.2))
  else (head ++ bitsOfBytes payload, r)

/-- The Gray map of two block bits, most significant first (R28, Table 0.8, R301). -/
def grayIndex (b1 b0 : Bool) : Nat := match b1, b0 with | false, false => 0 | false, true => 1 | true, true => 2 | true, false => 3

/-- Precoding of a level index (R303). -/
def precode (g prev : Nat) : Nat := (g + 4 - prev % 4) % 4

/-- Level indices of a block's bits at FULL: bits (2k+1, 2k) are symbol k. -/
def fullLevels : List Bool → List Nat
  | b0 :: b1 :: t => grayIndex b1 b0 :: fullLevels t
  | _ => []

/-- Level indices at LIMP: the outer levels. -/
def limpLevels (l : List Bool) : List Nat := l.map (fun b => if b then 3 else 0)

/-- Precoded level indices, from the index sent before. -/
def precodeLevels : Nat → List Nat → List Nat
  | _, [] => []
  | prev, g :: t => precode g prev :: precodeLevels (precode g prev) t

/-- What the receiver recovers (R303). -/
def recoverLevels : Nat → List Nat → List Nat
  | _, [] => []
  | prev, p :: t => (p + prev) % 4 :: recoverLevels p t

/-- The level indices of a block's bits on a transmitter at FULL or LIMP, precoding or not, whose last index was `prev`. -/
def levelsOf (full prec : Bool) (prev : Nat) (b : List Bool) : List Nat :=
  if full then (if prec then precodeLevels prev (fullLevels b) else fullLevels b) else limpLevels b

/-! ### Received headers (R305, R306, R381) -/

/-- Number of bits in which two headers differ. -/
def headerDistance (a b : Nat) : Nat := countBelow (fun i => bit a i != bit b i) 8

/-- A received header corrected at distance 1 from a code of a table; none where it is invalid (R305). -/
def headerClass (codes : List BlockType) (h : Nat) : Option BlockType := codes.find? (fun t => decide (headerDistance h t.header ≤ 1))

/-- The block types of Table 9.2. -/
def hoistTypes : List BlockType := [.idle, .head, .data, .marker, .train, .furl]

/-- The receiver's block lock over the last headers, newest first, true for valid: held after 32 valid ones in a row, lost when 8 of 32 are
invalid (R306). -/
def blockLock (was : Bool) (last : List Bool) : Bool :=
  if was then decide (((last.take 32).filter (!·)).length < 8) else decide (32 ≤ last.length) && (last.take 32).all id

/-- What a receiver makes of a block: an invalid header is DATA after the first DATA block of a message and before its last one, IDLE
elsewhere (R305, R381). -/
def blockClass (codes : List BlockType) (inside : Bool) (h : Nat) : BlockType :=
  (headerClass codes h).getD (if inside then .data else .idle)

/-- DATA blocks of a message body of `len` bytes with its CRC (Table 9.6). -/
def bodyBlocks (len : Nat) : Nat := if len = 0 then 0 else ceilDiv (len + 4) 16

/-- The classes of message-layer blocks in sequence, each given as its header and LEN field; `st` is the number of DATA blocks still to come
and whether the first has come. -/
def classBlocks : Nat × Bool → List (Byte × Half) → List BlockType × (Nat × Bool)
  | st, [] => ([], st)
  | st, b :: t =>
    let c := blockClass hoistTypes (st.2 && decide (2 ≤ st.1)) b.1.toNat
    let st := if c = .head then (bodyBlocks b.2.toNat, false) else if c = .data then (st.1 - 1, true) else st
    let r := classBlocks st t
    (c :: r.1, r.2)

/-! ### Check values of packets and messages (R312, R313, R320) -/

/-- The loop of R313 over the bits of a byte, least significant first. -/
def crc16Byte (c : BitVec 16) (b : Byte) : BitVec 16 :=
  (List.range 8).foldl (fun c i => crcSerial 0x1021#16 c (b.getLsbD i)) c

def crc16 (seed : BitVec 16) (bs : List Byte) : BitVec 16 := bs.foldl crc16Byte seed

/-- The bytes of codes in sending order (R276). -/
def codeBytes (l : List (Nat × Nat)) : List Byte := l.flatMap (fun p => le 2 p.1 ++ le 2 p.2)

/-- The line packet of Table 7.3 as bytes: a word of SEG, LINE and FSEQL, the codes, the CRC. -/
def linePacket (n line : Nat) (fseq : Half) (codes : List (Nat × Nat)) : List Byte :=
  let body := le 3 (n % 16 + 16 * (line % 256) + 4096 * (fseq.toNat % 256)) ++ codeBytes codes
  let seed := crc16 0xFFFF#16 (le 2 fseq.toNat ++ le 1 line ++ le 1 n)
  body ++ le 2 (crc16 seed body).toNat

/-- CRC of a backchannel message (R320). -/
def backCrc (n type : Nat) (payload : List Byte) : BitVec 16 := crc16 (0xFFFF#16 ^^^ BitVec.ofNat 16 n) (le 1 type ++ payload)

/-- The 12 bytes of a backchannel message on lane n (R320). -/
def backFrame (n type : Nat) (payload : List Byte) : List Byte :=
  let p := (payload ++ List.replicate 8 0).take 8
  le 1 0xB5 ++ le 1 type ++ p ++ le 2 (backCrc n type p).toNat

/-- A received frame has its length, SYNC and CRC right (R320). -/
def backCrcOk (n : Nat) (f : List Byte) : Bool :=
  decide (f.length = 12 ∧ leAt f 0 1 = 0xB5 ∧ leAt f 10 2 = (backCrc n (leAt f 1 1) ((f.drop 2).take 8)).toNat)

/-- Bytes with every bit inverted. -/
def flipBytes (l : List Byte) : List Byte := l.map (~~~ ·)

/-- Type and payload of a received frame; none where its length, SYNC or CRC is wrong or its type is reserved (R320, Table 7.6). -/
def backParse (n : Nat) (f : List Byte) : Option (Nat × List Byte) :=
  if backCrcOk n f ∧ leAt f 1 1 < 10 then some (leAt f 1 1, (f.drop 2).take 8) else none

/-! ### Reed-Solomon groups (R383, R384) -/

/-- Product by α = 2 in GF(2^8) with field polynomial 0x11D. -/
def gfDouble (a : Byte) : Byte := if a.getLsbD 7 then (a <<< 1) ^^^ 0x1D#8 else a <<< 1

/-- Product in the field: bit by bit of the second factor, from its top. -/
def gfMul (a b : Byte) : Byte := (List.range 8).foldl (fun acc i => if b.getLsbD (7 - i) then gfDouble acc ^^^ a else gfDouble acc) 0

def gfPow : Nat → Byte
  | 0 => 1
  | k + 1 => gfDouble (gfPow k)

/-- A polynomial, highest coefficient first, times (x − root). -/
def polyTimesRoot (p : List Byte) (root : Byte) : List Byte :=
  List.zipWith (· ^^^ ·) (p ++ [0#8]) (0#8 :: p.map (gfMul root))

/-- g(x) without its leading 1, highest coefficient first: 34 coefficients. -/
def rsGenerator : List Byte := ((List.range 34).foldl (fun p k => polyTimesRoot p (gfPow k)) [1#8]).drop 1

/-- One byte through the division by g(x). -/
def rsStep (reg : List Byte) (b : Byte) : List Byte :=
  match reg with
  | top :: rest => List.zipWith (· ^^^ ·) (rest ++ [0#8]) (rsGenerator.map (gfMul (top ^^^ b)))
  | [] => []

/-- The 34 parity bytes of 510 data bytes, in codeword order. -/
def rsParity (data : List Byte) : List Byte := data.foldl rsStep (List.replicate 34 0)

/-- A block slot counted from the lane's start: its FEC group, its place in the group, and whether that place carries a block (R383). -/
def slotGroup (slot : Nat) : Nat := slot / 32
def slotPlace (slot : Nat) : Nat := slot % 32
def slotCarries (slot : Nat) : Bool := decide (slotPlace slot < 30)
/-- A slot that carries a MARKER (R308, R382). -/
def slotMarker (slot : Nat) : Bool := decide (slot % 8192 = 0)
/-- A data slot: it carries a block and no MARKER (R386). -/
def slotData (slot : Nat) : Bool := slotCarries slot && !slotMarker slot

/-- The 510 data bytes of a group from the 30 blocks sent, after scrambling: string bit 136i + k is bit k of slot i (R384). -/
def groupData (blocks : List (List Bool)) : List Byte := bytesOfBits 510 (blocks.flatMap id)

/-- The 32 slots of a group as sent: the 30 blocks, then parity in slots 30 and 31 (R383, R384). -/
def groupSlots (blocks : List (List Bool)) : List (List Bool) :=
  let par := bitsOfBytes (rsParity (groupData blocks))
  blocks ++ [par.take 136, (par.drop 136).take 136]

/-- The bonded sequence of the data slots of the lanes from slot `a` for `k` slots: at each aligned slot lane 0, then 1, 2 and 3, as (slot,
lane); at LIMP, and on HTX, of lane 0 alone (R386). -/
def bondedSlots (lanes a k : Nat) : List (Nat × Nat) :=
  ((List.range k).filter (fun i => slotData (a + i))).flatMap (fun i => (List.range lanes).map (fun l => (a + i, l)))

end Sys2Proof.Machine
end

