-- ==== Sys2Proof/Machine/State.lean ====
section
/-! DEFINITION. Everything the spec gives the machine, as plain data, with the machine at reset (OFF, every register at the
value its table gives). The grouping follows the blocks of Table 18.1; INVENTORY.md lists each field's rule and reset value. -/

namespace Sys2Proof.Machine

/-- Why the model stops (see NOTES.md, '## Stops'). -/
inductive Fault where
  /-- Raised by STORE_ACCESS when the sender's request list holds a write by scan-out or by Fly line assembly, which Table 3.2
  makes readers only, or a read by Hoist, which it makes a writer only: the spec gives such an access no meaning. Safe: the model
  stops where the device never goes. -/
  | wrongAccess
  deriving DecidableEq, Repr

/-- Why a command has no meaning. -/
inductive Refusal where
  /-- A command whose meaning is not written yet, by its mnemonic. Safe: the model stops. -/
  | notModelled (mnemonic : String)
  deriving DecidableEq, Repr

/-- The eight modes of Table 0.3, and BOOT, which SYS.MODE reports before LIMP (Table 1.1). -/
inductive Mode where
  | off | sleep | boot | limp | ready | beam | service | safeBeam | safeDark
  deriving DecidableEq, Repr

/-- Who waits for a reply: the port and tag of a command packet. -/
structure ReqId where
  port : Port
  tag : Byte
  deriving DecidableEq, Repr

/-- A requester of a mode change; `viaSafe` marks SAFE_REQUEST, whose reply has another layout (Table 2.9). -/
structure ModeReq where
  id : ReqId
  viaSafe : Bool
  deriving DecidableEq, Repr

/-- The transition in progress (R42, R44): its requester if it has one, and the merged requesters. -/
structure Trans where
  target : Mode
  since : Nat
  owner : Option ModeReq
  merged : List ModeReq
  deriving DecidableEq, Repr

/-- The queued request (R42, R43, R45). -/
structure Queued where
  target : Mode
  owner : ModeReq
  merged : List ModeReq
  deriving DecidableEq, Repr

/-- How far SLEEP entry has come (Table 1.10): `replying` where the switches are open and the SLEEP reply waits for room, `replied` once it
has been placed (R81). -/
inductive SleepStage where
  | none | draining | life | log | switchTest | replying | replied | released
  deriving DecidableEq, Repr

/-- A RESET under way: its request, and the instant at which its reply was given, none while transfers drain (R77, R122). -/
structure Restart where
  id : ReqId
  since : Nat
  replied : Option Nat
  deriving DecidableEq, Repr

structure ModeState where
  cur : Mode
  trans : Option Trans
  queue : Option Queued
  /-- Highest bring-up step completed, 11 once READY has been entered (SYS.MODE.STEP). -/
  step : Nat
  /-- A safe state asked for before step 6, with each request and its target (R62, R117). -/
  bootSafe : Option (Mode × List (ModeReq × Mode))
  sleep : SleepStage
  /-- DTIME at which SLEEP entry began, then at which its reply was placed. -/
  sleepAt : Nat
  restart : Option Restart
  /-- The switch test of the BEAM entry in progress has passed (R32). -/
  tested : Bool
  /-- READY has been entered since the wake (R463, R375, R582). -/
  readySeen : Bool
  /-- BOOTSTAT.PATCH and the patch version in use, 0 without an applied image (R84, R85). -/
  patch : Nat
  patchVer : Half
  deriving DecidableEq, Repr

/-- HV-die supplies, wake and pad state (chapters 1, 15, 16). -/
structure Power where
  vbat : Bool
  pmicEn : Bool
  railsGood : Bool
  railsAt : Nat
  pmicAt : Nat
  /-- Logic-die reset released. -/
  logicOn : Bool
  /-- The single retry of Table 1.8 row 2 has been used. -/
  retried : Bool
  retryDue : Option Nat
  wakeN : Bool
  /-- Level sources ignored until they have gone inactive (Table 1.8): RTC, WAKE_N. -/
  ignoreRtc : Bool
  ignoreWakeN : Bool
  hrxEdge : Bool
  /-- The last logic-die restart was by RESET (R123) and by brownout (R607). -/
  viaReset : Bool
  brown : Bool
  padHeld : Bool
  /-- The values the 14 held pads are held at: GPIO[0..7], BF_SCLK, BF_CS_N, BF_IO[0..3]; 0 low, 1 high, 2 high impedance,
  3 pulled down, 4 pulled up (Table 16.6, R71). -/
  padVal : Vector Nat 14
  straps : BitVec 4
  strapsKept : Bool
  /-- Conditions of Table 15.4 in force, and of the VLED undervoltage the instant it was left. -/
  vbatHigh : Bool
  vbatSag : Bool
  vbatCrank : Bool
  vioSag : Bool
  vledUv : Bool
  vledOv : Bool
  vledUvLeft : Option Nat
  rails4 : BitVec 4
  meas0 : Word
  meas1 : Word
  deriving DecidableEq, Repr

/-- Time bases (Table 0.5). -/
structure Clock where
  /-- The instant of the last command, ns. -/
  now : Nat
  dtime : Nat
  /-- The part of a FIRC cycle that has run since DTIME last advanced, ns (R561). -/
  part : Nat
  tbXtal : Bool
  xtalOk : Bool
  /-- DMARK (R60) and the newest TIMEHIGH. -/
  dmark : Nat
  timeHigh : Nat
  /-- TIMEHIGH last acknowledged by the HV die. -/
  highSent : Option Nat
  markAt : Nat
  markWord : Option Word
  deriving DecidableEq, Repr

structure Rtc where
  count : Nat
  alarm : BitVec 40
  oscOk : Bool
  /-- Instant from which the next second is counted (R676). -/
  since : Nat
  deriving DecidableEq, Repr

/-- What a reply's data takes from the instant of its placement (R24, R90, Table 2.15): nothing, MODE, MODE and DTIME, or FRAMECNT. -/
inductive Fill where
  | none | mode | modeTime | frame
  deriving DecidableEq, Repr

/-- A reply completed but not yet placed. -/
structure Reply where
  tag : Byte
  status : Byte
  data : List Byte
  fill : Fill
  last : Bool
  /-- The reply answers an admitted command, whose tag it frees (R101). -/
  frees : Bool
  deriving DecidableEq, Repr

/-- A command admitted and not started (R102, FENCE). -/
structure Admitted where
  tag : Byte
  fence : Bool
  cmd : Cmd
  deriving DecidableEq, Repr

/-- An outstanding tag with the opcode it stands for (R101). -/
structure TagUse where
  tag : Byte
  op : Byte
  deriving DecidableEq, Repr

/-- One command port (Tables 2.3 to 2.6). -/
structure PortState where
  reqSeq : Word
  repSeq : Word
  accept : Word
  replied : Word
  discard : Half
  tags : List TagUse
  buf : List Byte
  held : List Reply
  /-- Whole replies kept across a RESET (R123). -/
  carry : List (List Byte)
  waiting : List Admitted
  /-- Bytes driven on MISO in the last SPI transaction. -/
  miso : List Byte
  frameHi : Word
  flipHi : Word
  rtcHi : Word
  lastHi : Word
  deriving DecidableEq, Repr

/-- A validated COMMIT awaiting the boundary (R22, R23, R116): the F words of its groups as validated. -/
structure PendingCommit where
  id : ReqId
  groups : BitVec 8
  snap : List (Nat × Word)
  deriving DecidableEq, Repr

/-- Register words that software or hardware stores: active values, shadow values, staged marks, pending COMMITs. A word that
a list does not name holds its reset value (Table 18.2). -/
structure RegFile where
  act : List (Nat × Word)
  shd : List (Nat × Word)
  staged : BitVec 8
  commits : List PendingCommit
  /-- COMMITs that reached execution between a pass latch and its flip (R290), in order. -/
  deferred : List (ReqId × Word)
  /-- Write-one-to-clear bits that hardware has set at the present instant: a write of 1 at this instant leaves them at 1 (R14). -/
  hot : List (Nat × Word)
  deriving DecidableEq, Repr

inductive SurfState where
  | undefined | incomplete | complete | checking | leased | releasing
  deriving DecidableEq, Repr

structure Surface where
  st : SurfState
  format : Nat
  base : Nat
  width : Nat
  height : Nat
  stride : Nat
  fill : Nat
  /-- The LEASE_TAKE or LEASE_RELEASE that waits, the CRC it declared, and whether flip N of R150 has passed. -/
  req : Option ReqId
  crc : Word
  flipN : Bool
  deriving DecidableEq, Repr

/-- A Hoist write transfer accepted at the store port (R140, R405). -/
structure Xfer where
  surf : Nat
  offset : Nat
  data : List Byte
  deriving DecidableEq, Repr

/-- The arbiter (R126, R127) and what it last granted. -/
structure Arb where
  slot : Nat
  grants : Vector Nat 7
  pointer : Nat
  lastGrant : Option Nat
  lastRead : BitVec 1024
  deriving DecidableEq, Repr

structure Store where
  mem : List Host.Cell
  clrDone : Bool
  surfs : Vector Surface 128
  /-- Surfaces in CHECKING, in LEASE_TAKE order (R599). -/
  checkQ : List (Fin 128)
  granted : Half
  released : Half
  wrefused : Half
  arb : Arb
  ceCnt : Half
  ueCnt : Byte
  eccAddr : Word
  /-- Words owed a corrected write-back, each with the number of older requests of its requester that are still to go (R128, R134). -/
  scrub : List (Nat × Nat)
  /-- 64-bit groups delivered as zero to a reader that still works with them: Halyard 4, worker w 8 + w (R135). -/
  zeroed : List (Nat × Nat)
  bistRegion : Nat
  bistActive : Bool
  bistPass : Half
  bistFail : Word
  bistAt : Nat
  /-- The save buffer of R161; the region's cells as every other requester sees them (R162). -/
  bistSave : List Host.Cell
  /-- The array's cells of the region under test, where the test's own writes go (R161, R162). -/
  bistArr : List Host.Cell
  bistHard : List Nat
  deriving DecidableEq, Repr

/-- What the picture in a buffer was composed with: segments reached by a live layer, segments whose live layer advanced
(R282, R283), and the segment sums of R245. -/
structure FrameInfo where
  watch : BitVec 16
  adv : BitVec 16
  scw : Vector Nat 16
  sam : Vector Nat 16
  deriving DecidableEq, Repr

/-- A dark zone in pixels, both ends covered (R224, R225), with its cap (R226). -/
structure Zone where
  c0 : Nat
  c1 : Nat
  r0 : Nat
  r1 : Nat
  cap : Nat
  deriving DecidableEq, Repr

/-- A composition in progress (R168, R177). -/
structure Comp where
  start : Nat
  deadline : Nat
  /-- The BUN words as latched, and the layers left out under R202. -/
  regs : List (Nat × Word)
  steps : Vector (Nat × Nat) 64
  surfs : Vector Surface 128
  excl : List Nat
  /-- The composition table; none until it is complete (R681). -/
  zones : Option (List Zone)
  vofs : Int
  mono : Bool
  back : Bool
  next : Nat
  reissue : List Nat
  workers : Vector (Option (Nat × Nat)) 32
  tiles : Nat
  lastWrite : Nat
  /-- The deadline has passed with tiles remaining (R171). -/
  dead : Bool
  info : FrameInfo
  deriving DecidableEq, Repr

structure LayerAux where
  stepH : Nat
  stepV : Nat
  repeats : Nat
  lastSeq : Option Half
  excl : Bool
  deriving DecidableEq, Repr

structure Bunting where
  layers : Vector LayerAux 64
  comp : Option Comp
  /-- The finished composition that the next flip shows. -/
  done : Option FrameInfo
  excluded : BitVec 32
  /-- Tiles taken from hung workers and not yet written again (R680, BUN_WORKER_HUNG). -/
  hungTiles : List Nat
  slackLast : Nat
  slackMin : Nat
  blkMin : Nat
  blkCount : Nat
  blkMissed : Bool
  blkAtMax : Bool
  compTime : Nat
  deriving DecidableEq, Repr

/-- A partial object list (R210). -/
structure Assembly where
  seq : Half
  next : Nat
  data : List Byte
  deriving DecidableEq, Repr

/-- An object entry (Table 5.3). -/
structure Object where
  x0 : Int
  x1 : Int
  y0 : Int
  y1 : Int
  vx : Int
  vy : Int
  capofs : Int
  cls : Nat
  margin : Nat
  objid : Nat
  deriving DecidableEq, Repr

/-- An accepted object list (R214). -/
structure ObjList where
  seq : Half
  capbase : Nat
  objs : List Object
  doneAt : Nat
  deriving DecidableEq, Repr

structure Mask where
  asm : Vector (Option Assembly) 3
  list : Option ObjList
  late : Nat
  /-- L before the last latch, whether that latch was late, and the list and L that it took. -/
  lateWas : Nat
  lateNow : Bool
  passList : Option ObjList
  passLate : Nat
  /-- The emission window for which the pass table was rendered (R216, R237). -/
  passWin : Nat × Nat
  /-- Renders in progress since the last latch. -/
  rendPass : Option (List Zone)
  rendComp : Option (List Zone)
  rendCoarse : Option (List Zone)
  latchAt : Nat
  /-- Pk − 40 µs of the pass that the renders serve (R218, R236). -/
  tableDue : Nat
  /-- The tables the next pass uses, and the composition table for the next composition. -/
  passTbl : List Zone
  compTbl : List Zone
  coarseTbl : List Zone
  /-- Both renders of the present latch are there to compare (R234). -/
  passFresh : Bool
  coarseFresh : Bool
  disc : Nat
  glate : Nat
  accepted : Half
  rejected : Half
  ceilLoaded : Bool
  ceilOk : Bool
  ceilCrc : Word
  ceilRun : Option ReqId
  /-- The optics map of the burgee: COLA and ROWA when OPTICS is 1, empty for the nominal map (R224). -/
  cola : List Int
  rowa : List Int
  deriving DecidableEq, Repr

structure Tokens where
  effbud : Nat
  /-- The thermal budget as last reported by PWR_THBUD (R524). -/
  thbud : Nat
  /-- What EFFBUD may not exceed at the last token latch: PMAX, or NFCAP under a near-field interruption (R248). -/
  limit : Nat
  pool : Nat
  nf : Bool
  ecw : Nat
  eam : Nat
  demand : Vector Nat 16
  hold : Vector Nat 16
  scale : Vector Nat 16
  /-- Segments whose PWR_SCALED has been raised for the frame (R249). -/
  scaled : BitVec 16
  deriving DecidableEq, Repr

structure Seg where
  undercnt : Byte
  taint : Bool
  taintNow : Bool
  watch : Bool
  adv : Bool
  echoskip : Byte
  echobad : Byte
  sigc : Word
  sige : Word
  echo : Word
  age : Nat
  t0 : Nat
  /-- T0 and ADV before the last flip, and the T0 for which a freeze fault was raised (R283, R284). -/
  t0Was : Nat
  advWas : Bool
  stuckAt : Option Nat
  /-- Underruns of the pass in progress: line and first pixel concerned (R272). -/
  under : List (Nat × Nat)
  /-- SIGC of the first pass of the frame shown (R283), and SIGC of that frame as any undisturbed pass reads it. -/
  firstSigc : Option Word
  sigF : Word
  /-- The pass whose echo is awaited: its FSEQ, SIGE and deadline. -/
  wait : Option (Half × Word × Nat)
  /-- DTIME of the last successful comparison, or of the first echo deadline after the anchor (R281). -/
  goodAt : Option Nat
  deriving DecidableEq, Repr

/-- A retraining change (Table 6.5): flip F, Ts, whether step 3 has passed, the instant training completed. -/
structure Retrain where
  flipAt : Nat
  ts : Nat
  opened : Bool
  doneAt : Option Nat
  failed : Bool
  deriving DecidableEq, Repr

structure Scan where
  run : Bool
  retrain : Option Retrain
  frontValid : Bool
  front : Bool
  pcdiv : Nat
  pcdivWant : Option Nat
  /-- The PCDIV change that the pass latch of the coming flip saw pending, and that this latch has passed (R290, R291). -/
  pcdivLatched : Option Nat
  flipLatched : Bool
  /-- Anchor A, index k of the next pass start, index of the next flip, divider in force, rate in force (R255, R256). -/
  anchor : Nat
  k : Nat
  flipK : Nat
  div : Nat
  refresh : Nat
  passPh : Nat
  stopping : Bool
  blank : Bool
  fseq : Half
  framecnt : Nat
  fliptime : Nat
  missed : Nat
  started : Nat
  segs : Vector Seg 16
  frame : FrameInfo
  underNow : Bool
  underPrev : Bool
  /-- The next freeze comparison is the first after a retraining (R297). -/
  freezeMute : Bool
  /-- What the pass in progress is sent with: pass table, coarse mask, scales, timing; and the 8-byte store groups delivered as zero. -/
  curPass : List Zone
  curCoarse : List Zone
  curScale : Vector Nat 16
  curHold : Vector Nat 16
  curBud : Nat
  curLimit : Nat
  curPool : Nat
  /-- A pass is in progress; it sends lines. -/
  curOn : Bool
  curLines : Bool
  /-- The lanes enabled at its start, whose pipelines read; those of them that carry lines; whether the pass before carried lines (R271,
  R317, R327). -/
  curRead : BitVec 16
  curLanes : BitVec 16
  hadLines : Bool
  /-- Index of the last flip instant, 0 before the first after an anchor. -/
  phK : Nat
  curClone : Nat
  zeros : List Nat
  /-- DTIME since which VCODE has held the target (R553). -/
  settleAt : Option Nat
  /-- The LIMP base layer's passes: the start of the first and the index of the next (R39). -/
  limp : Option (Nat × Nat)
  deriving DecidableEq, Repr

inductive LaneSt where
  | furled | idle | active | training
  deriving DecidableEq, Repr

inductive Show where
  | hold | next | dark | keep
  deriving DecidableEq, Repr

/-- What a CTRL operation in flight serves (Table 8.4); `dropped` where what it served has ended: it is an NV_READ, or an NV_PROG. -/
inductive CtrlUse where
  | burgee | optics | ring | log | gain | hostRead | census | wave | mergeRead | kaRead | pageLoad | pageProg
  | dropped (read prog : Bool)
  deriving DecidableEq, Repr

/-- Blocks that a Fly lane is asked to send a given number of (Tables 7.2 to 7.4, 7.10): a frame start, the line packets of a pass (from
its first block on; as bytes once the pass has ended), FURL, a CTRL operation. -/
inductive TxKind where
  | fstart (fseq : Half) (show_ : Show) (ofs : Nat)
  | data (sent : Option (List Byte))
  | furl
  | ctrl (payload : List Byte)
  deriving DecidableEq, Repr

/-- Blocks due on a lane: from which instant (ps of DTIME), how many of them have been sent before the last MARKER, how many are left. -/
structure Tx where
  due : Nat
  kind : TxKind
  done : Nat
  left : Nat
  deriving DecidableEq, Repr

/-- What fills the slots of a lane that nothing else takes: IDLE, TRAIN with its fields (Table 7.9), or the PRBS blocks of a LANE_TEST
with the register's start and the choice of inverted bits (R343, R344). -/
inductive FillKind where
  | idle
  | train (phase pre main post status rseq : Nat) (prec : Bool)
  | prbs (pattern seed choice inject : Nat)
  deriving DecidableEq, Repr

/-- A filler, from which instant (ps of DTIME), and how many of its blocks were sent before the last MARKER. -/
structure Filler where
  due : Nat
  kind : FillKind
  done : Nat
  deriving DecidableEq, Repr

/-- A CTRL operation without its answer yet (R337, R339). -/
structure Ctrl where
  tag : BitVec 2
  use : CtrlUse
  addr : Nat
  count : Nat
  /-- From when its block is due (ps of DTIME), and where a MARKER or a start has closed the slots in which it left, the instant (ns). -/
  due : Nat
  sentAt : Option Nat
  deriving DecidableEq, Repr

/-- Bytes of an NV read as they arrive (R338). -/
structure NvRead where
  seq : Byte
  data : List Byte
  deriving DecidableEq, Repr

structure Lane where
  st : LaneSt
  full : Bool
  block : Bool
  bclock : Bool
  prec : Bool
  /-- A line packet corrupted by an injection of R600 is out and its SUBST has not come. -/
  crcOut : Bool
  attempt : Nat
  down : Bool
  /-- Up since its last start (R328). -/
  up : Bool
  startedAt : Nat
  /-- The lane has started since logic-die reset release (R328, TXEQA). -/
  started : Bool
  txPre : Nat
  txMain : Nat
  txPost : Nat
  /-- Phase of the training attempt (Table 7.9), 0 outside training, and its step deadline. -/
  phase : Nat
  phaseDue : Nat
  /-- PHASE 1 has been acknowledged; instant (ps of DTIME) at which the last block of a countdown, COUNT 0, has left. -/
  acked : Bool
  countAt : Option Nat
  rseq : Byte
  tapStatus : Byte
  subcnt : Half
  /-- For each of the last passes, the pass in progress first: its SUBST messages and the NSUB of its ECHO (R323). -/
  window : List (Nat × Nat)
  loss : Nat
  rts : List Int
  bcrc : Byte
  mslip : Byte
  mslipSeen : Byte
  trainfail : Byte
  injcnt : Word
  /-- Block slots from the lane's start to its last MARKER, that marker's MSEQ, the scrambler as it left it (R307, R308), the instant at
  which its slot began, ps of DTIME. -/
  slots : Nat
  mseq : BitVec 24
  lfsr : BitVec 31
  baseAt : Nat
  /-- The last level index before that slot, and the instant from which precoding applies (R303). -/
  prev : Nat
  precAt : Nat
  /-- Blocks due since that slot, and the fillers in force since then, newest first. -/
  txq : List Tx
  fills : List Filler
  /-- The level indices sent between a failed attempt and the blind start that follows it (R330). -/
  tail : List Nat
  /-- Restarted by the end of an override, and not yet back at its active RATE: it is not dark (R37). -/
  rejoin : Bool
  fstartAt : Nat
  lastShow : Show
  /-- tL in ps of DTIME, and OFS, of the last FSTART (R315, R316). -/
  tl : Nat
  ofs : Nat
  badRun : Nat
  /-- DTIME since which no backchannel message was bad (R321). -/
  runFrom : Nat
  mis : Bool
  kaShown : Bool
  rxInv : Bool
  txInv : Bool
  ctrl : List Ctrl
  /-- Operations waiting for a tag (R337): what they serve, ADDR, COUNT. -/
  ctrlQ : List (CtrlUse × Nat × Nat)
  read : Option NvRead
  /-- End of the time that the CTRL transfers of a lane to be furled have to drain (R77, R325). -/
  furlDue : Option Nat
  /-- PRBS errors reported by the engine for the test that ran (R345). -/
  prbs : Option Word
  deriving DecidableEq, Repr

/-- What writes pages of engine NV (R349, R361, R372, R376). -/
inductive JobUse where
  | host (id : ReqId) | keepalive (id : ReqId) | life | log
  deriving DecidableEq, Repr

/-- One page to program: lane, page address, its 256 bytes. -/
structure Page where
  lane : Nat
  addr : Nat
  data : List Byte
  deriving DecidableEq, Repr

/-- A page job: the pages left, and how many NV_LOADs of the page at the front have been answered (R357). -/
structure Job where
  use : JobUse
  pages : List Page
  loaded : Nat
  deriving DecidableEq, Repr

/-- Where bring-up step 7 stands. -/
inductive Step7 where
  | wait | burgee | burgee8 | optics | ring | log | gain | done | failed
  deriving DecidableEq, Repr

structure Engine where
  engId : Bool
  pair : Bool
  gainBad : BitVec 16
  gainOk : Bool
  gainDone : BitVec 16
  laneMap : BitVec 16
  burgee0 : List Byte
  burgee8 : List Byte
  step7 : Step7
  tries : Nat
  gainTries : Vector Nat 16
  eol90 : BitVec 16
  eol100 : BitVec 16
  /-- GEN of the newest record and the best slot found while the ring is read; SESS likewise. -/
  gen : Option Nat
  sess : Option Nat
  slot : Nat
  acc : Vector Nat 16
  beamSec : Nat
  beamNs : Nat
  beamFrom : Option Nat
  /-- BEAM time in ns at the last life record (R372). -/
  markNs : Nat
  lifeTickAt : Nat
  jobs : List Job
  nvRead : Option (ReqId × Nat)
  /-- A KEEPALIVE_WRITE in progress: the pattern of each lane not yet read back (R364). -/
  kaCheck : Option (ReqId × List (Nat × List Byte))
  census : Option (ReqId × BitVec 16 × Vector (Half × Half) 16 × BitVec 16)
  laneTest : Option (ReqId × BitVec 16 × Nat × Bool)
  pathBusy : Bool
  pathRefused : Bool
  pathValid : Bool
  rmeas : Nat
  deriving DecidableEq, Repr

/-- Credit counters of one Hoist class (R398). -/
structure Cred where
  adv : Half
  cons : Half
  occ : Nat
  free : Nat
  deriving DecidableEq, Repr

/-- A message in the ingress buffer. -/
inductive Ingress where
  | vid (surf : Byte) (offset : Nat) (data : List Byte)
  | obj (listseq : Half) (frag last : Byte) (data : List Byte)
  | cmd (packet : List Byte)
  | time (t1 : BitVec 64) (token : Word) (t2 : Nat)
  deriving DecidableEq, Repr

/-- A message sent on HTX (Table 9.7): class, CSEQ, class fields and body. -/
structure HtxMsg where
  cls : Byte
  cseq : Half
  cf : List Byte
  body : List Byte
  deriving DecidableEq, Repr

/-- A Hoist lane: HRX[0..3] and, at index 4, HTX. -/
structure HLane where
  /-- Block lock of the receiver: the device's for HRX, as the host reports it for HTX. -/
  lock : Bool
  /-- HRX: whether each of the last block headers was valid, newest first (R306), and the FEC groups since the lane's start (R383). -/
  heads : List Bool
  groups : Nat
  /-- HRX: MSEQ of the last MARKER and DTIME at which its group arrived (R387). -/
  mseq : Option (BitVec 24)
  markAt : Nat
  prec : Bool
  /-- HRX: arrival behind the earliest lane at the last alignment, in ns (R387). -/
  skew : Option Nat
  /-- HRX: header and payload bytes 2 and 3 of the blocks of the last group, until they are classed, and the classes of its data slots (R305,
  R381). -/
  raw : List (Byte × Half)
  blocks : List BlockType
  pre : Nat
  main : Nat
  post : Nat
  ready : Bool
  /-- HRX: the device's tap request and its RSEQ (Table 9.4). -/
  req : Byte
  rseq : Byte
  deriving DecidableEq, Repr

/-- A message waiting for its turn on HTX, since an instant (ps of DTIME). -/
structure HtxWait where
  due : Nat
  msg : HtxMsg
  deriving DecidableEq, Repr

/-- A message that HTX has begun to send: its epoch, and the index of its first data slot since the start of HTX (R386). -/
structure HtxOut where
  msg : HtxMsg
  epoch : Byte
  at_ : Nat
  deriving DecidableEq, Repr

inductive HoistSt where
  | down | limp | training | bonded
  deriving DecidableEq, Repr

structure Hoist where
  st : HoistSt
  attempt : Nat
  phase : Nat
  phaseDue : Nat
  /-- Start of the attempt, and HOIST.CFG as the attempt has read it. -/
  trainAt : Nat
  cfgAt : Word
  /-- PHASE 1 has been acknowledged; instant at which the last block of a countdown has left (Table 9.5 steps 1 and 6). -/
  acked : Bool
  countAt : Option Nat
  /-- The host's PRECODE_REQ for HTX; precoding as negotiated for HTX and HRX[0..3] (Table 9.5 step 6). -/
  precReq : Bool
  negHtx : Bool
  negHrx : BitVec 4
  /-- STATUS of the last request for the HTX taps. -/
  tapStatus : Byte
  /-- After a failed attempt: the link has to be up again by this instant (R391). -/
  retryDue : Option Nat
  /-- HRX lanes that have acknowledged PHASE 4 (Table 9.5 step 7). -/
  acks : BitVec 4
  gaveUp : Bool
  htxPrec : Bool
  hrxPrec : BitVec 4
  epoch : Byte
  waitEpoch : Bool
  caps : Option CapRecord
  corr : Half
  ue : Half
  hcrcErr : Byte
  bcrcErr : Byte
  dup : Byte
  restarts : Byte
  cred : Vector Cred 4
  /-- Next CSEQ expected on HRX for classes 0 to 4, and next CSEQ to send on HTX for classes 0x80 to 0x84. -/
  inNext : Vector Half 5
  outNext : Vector Half 5
  retained : List HtxMsg
  /-- Replies waiting for credit (R409), and cumulative counts sent against REPLYADV and TIMEADV. -/
  replyQ : List (List Byte)
  timeQ : List (BitVec 64 × Word × Nat)
  replySent : Half
  timeSent : Half
  replyAdv : Half
  timeAdv : Half
  ingress : List Ingress
  cur : Option Xfer
  lanes : Vector HLane 5
  hrseq : Byte
  rxInv : BitVec 4
  txInv : Bool
  vidFreed : Nat
  changedAt : Option Nat
  creditAt : Nat
  timeAt : Option Nat
  /-- Every message the last command gave to HTX, in the order in which they leave. -/
  sent : List HtxMsg
  /-- HTX: the instant at which slot 0 of its present start began (ps of DTIME), its rate, the first data slot that no message has taken, the
  messages that wait, those begun, and the last blocks before the start (R383, R386, R391, R411). -/
  htxAt : Nat
  htxFull : Bool
  htxFree : Nat
  htxWait : List HtxWait
  htxOut : List HtxOut
  htxTail : List Block
  /-- The first block slot of HTX that is precoded (R303, R380). -/
  htxPrecAt : Nat
  /-- Receiving a message: its DATA blocks still to come, and whether the first has come (R305, R381). -/
  body : Nat × Bool
  deriving DecidableEq, Repr

/-- Guidon's side of the safe-state paths (Table 10.4, Table 10.14). -/
structure Guidon where
  kasel : Bool
  goff : Bool
  ensOk : Bool
  ensAt : Nat
  hbRun : Bool
  hbAt : Nat
  hbSeq : Byte
  chal : BitVec 4
  dlerr : Byte
  cause : Word
  expect : Nat
  measPow : Nat
  /-- Near-field cap as the newest Ensign status reports it, and the Ensign's MODE, HELD and switch bits. -/
  capSeen : Bool
  heldSeen : Bool
  ensMode : Nat
  swSeen : BitVec 4
  /-- The 4 ms window of R460: its start and Psent accumulated as pW times ns. -/
  winAt : Nat
  winEnergy : Nat
  /-- Time of the passes in that energy, ns. -/
  winTime : Nat
  imeas : Half
  vled : Half
  /-- The SAFETY_TEST that waits for its heartbeat (R461). -/
  test : Option (ReqId × Nat)
  deriving DecidableEq, Repr

/-- Why a switch latent-fault test runs (R32, R36, R76, SAFETY_TEST 1). -/
inductive SwUse where
  | beamEntry | sleepEntry | darkExit | safetyTest (id : ReqId)
  deriving DecidableEq, Repr

/-- A STATUS message (Table 15.3): CHAL, INSTAT[16:8], the switch bits, HELD and MODE. -/
structure StatusMsg where
  chal : BitVec 4
  inst : BitVec 9
  sw : BitVec 4
  held : Bool
  mode : Nat
  /-- It reports a change, and leaves ahead of every other upstream frame (R617). -/
  urgent : Bool
  deriving DecidableEq, Repr

/-- The Ensign (Tables 10.15, 10.16). -/
structure Ensign where
  ovr : Bool
  gdis : Bool
  hsOn : Bool
  lsOn : Bool
  testRes : Nat
  testCnt : Half
  ocTrip : Bool
  imeas : Half
  vled : Half
  badCnt : Byte
  chal : BitVec 4
  /-- The last 16 windows, newest first, true for bad; bad ones in a row; good ones in a row. -/
  wins : List Bool
  badRun : Nat
  goodRun : Nat
  hbSeq : Option Byte
  winAt : Nat
  oscPassed : Bool
  oscBad : Bool
  oscSkip : Bool
  powerOnAt : Nat
  statusAt : Nat
  /-- The safe state the Ensign holds. -/
  safe : Option Mode
  cause : Word
  raw : BitVec 8
  darkReq : Bool
  hsgOpen : Bool
  svcArm : Bool
  svcLock : Bool
  nfInt : Bool
  discDark : Option Nat
  discHsg : Option Nat
  discNf : Option Nat
  /-- Instant of the last change of each raw input. -/
  rawAt : Vector Nat 8
  /-- Instant of the change before it: a low too short to count leaves the level that began then (R453, R653). -/
  rawPrev : Vector Nat 8
  /-- The levels after the filters of Table 10.7. -/
  filt : BitVec 8
  /-- What the newest STATUS reported. -/
  told : StatusMsg
  /-- GRACE1 of the last applied FAULT set, which times the Ensign's own grace (R491). -/
  grace1 : Word
  svcFirst : Option Nat
  pulseA : Nat
  pulseB : Nat
  noPulseA : Bool
  noPulseB : Bool
  running : Bool
  svcMode : Bool
  swTest : Option (SwUse × Nat)
  /-- A test instruction of the TAP was current when it started (R641). -/
  testBad : Bool
  /-- A test that waits until the one in progress has ended (R32, R106). -/
  swNext : Option SwUse
  /-- Instant at which the high side follows the low side (R438); a release from SAFE-DARK closes the switches once R61 and R433 allow it. -/
  closeAt : Option Nat
  closeWait : Bool
  injectAt : Option (ReqId × Nat)
  deriving DecidableEq, Repr

/-- A first-source latch (Table 11.3, FLATCH). -/
structure Latch where
  valid : Bool
  idx : Nat
  cls : Nat
  inst : Nat
  ovf : Bool
  deriving DecidableEq, Repr

/-- A raise that met an active fault (R487): its instant, instance and DATA, and whether the condition was new on that instance. -/
structure Again where
  at_ : Nat
  inst : Nat
  data : Nat
  fresh : Bool
  deriving DecidableEq, Repr

/-- An active fault (R482): code, class, instance of its activation, and the instances on which its condition is present; the instant of its
activation, and the raises of the newest instant that met it (R487). -/
structure Active where
  code : Nat
  cls : Nat
  inst : Nat
  conds : List Nat
  born : Nat
  again : List Again
  /-- The logic die counts it: false for an ENS-block fault whose EVENT has not arrived (R489). -/
  seen : Bool
  deriving DecidableEq, Repr

/-- A class timer (R489, R492): the start while it runs, the mark that it has expired, and the mark that it expires at once
(a grace of 0 at the activation, or a grace already past when a FAULT set applies, R493). -/
structure Timer where
  start : Option Nat
  expired : Bool
  due : Bool
  deriving DecidableEq, Repr

structure Faults where
  latch : Vector Latch 18
  /-- Active faults, in the order of their activations. -/
  active : List Active
  timers : Vector Timer 7
  ensP : Timer
  ensI : Timer
  esc : BitVec 8
  acts : Vector Nat 8
  escs : Vector Nat 8
  deriving DecidableEq, Repr

/-- A recorder entry (Table 11.4). -/
structure Entry where
  ts : Nat
  code : Nat
  cls : Nat
  inst : Nat
  act : Bool
  ack : Bool
  esc : Bool
  lost : Bool
  hv : Bool
  frame : Half
  data : Word
  deriving DecidableEq, Repr

/-- A bucket below 4 tokens (R501): its code, its tokens, the start of its refill timer. -/
structure Bucket where
  code : Nat
  tokens : Nat
  since : Nat
  deriving DecidableEq, Repr

structure Recorder where
  queue : List Entry
  buckets : List Bucket
  store : List Entry
  cursor : Nat
  raised : Word
  rlimit : Word
  fulldrop : Word
  qovf : Word
  full : Bool
  gen : Half
  limcode : Nat
  lost : List Nat
  /-- How many entries at the end of the queue are of the present instant (R500). -/
  tied : Nat
  deriving DecidableEq, Repr

/-- A temperature channel (Table 12.8); temperatures in 1/16 degree. -/
structure ThermCh where
  temp : Int
  state : Nat
  broken : Bool
  lvl : Nat
  rateHot : Bool
  rateRun : Nat
  rate : Int
  disagree : Nat
  agree : Nat
  /-- Earlier conversions, newest first: instant and value (R518). -/
  hist : List (Nat × Int)
  convAt : Option Nat
  tstart : Int
  deriving DecidableEq, Repr

/-- Offset, gain and line resistance that a conversion applies (R512, Table 14.3). -/
structure CalTerms where
  ofs : Int
  gain : Int
  line : Int
  deriving DecidableEq, Repr

/-- The conversion in progress: channel (14 for calibration), start, which requesters it serves, and the terms of the calibration in force at its
start (R574); none stands for Ottor's factory trim. -/
structure Conv where
  ch : Nat
  startAt : Nat
  dur : Nat
  host : Bool
  policy : Bool
  gdn : Bool
  terms : Option CalTerms
  deriving DecidableEq, Repr

structure Thermal where
  ch : Vector ThermCh 14
  /-- Guidon's own view of the channels, from the conversions that served it (R534). -/
  gdnCh : Vector ThermCh 14
  /-- Guidon's own copies of the THERMAL words, from the last applied set (R534). -/
  gdnCopy : List (Nat × Word)
  pendHost : BitVec 14
  pendPol : BitVec 14
  pendGdn : BitVec 14
  conv : Option Conv
  lastCh : Nat
  nHost : Byte
  nPol : Byte
  nGdn : Byte
  nCal : Byte
  req : Nat
  enf : Nat
  floor : Option Nat
  tgt : Nat
  /-- For each level 1 to 7, since when TGT has been at it or higher; since when below ENF. -/
  levelAt : Vector (Option Nat) 8
  belowAt : Option Nat
  enfAt : Nat
  tj : Int
  tjValid : Bool
  tjHot : Bool
  tjLvl : Nat
  tjAt : Option Nat
  xcheck : BitVec 15
  dband : Nat
  eband : Vector Nat 8
  waveSent : BitVec 8
  gdnTgt : Nat
  gdnLagAt : Option Nat
  policyAt : Nat
  gdnAt : Nat
  measure : Option (ReqId × BitVec 14 × List (Nat × Int × Nat))
  deriving DecidableEq, Repr

structure Fabric where
  vcode : Nat
  vtarget : Nat
  stepAt : Nat
  /-- Codes driven before the present one, each with the instant of DTIME that it was left, newest first (R608). -/
  driven : List (Nat × Nat)
  speed : Nat
  speedBlk : Nat
  /-- SPEED last measured while VREQ stood at VMAX, for each DBAND (R556). -/
  spdMax : Vector (Option Nat) 7
  canary : Vector (Nat × Nat) 24
  canaryAt : Nat
  margin : Nat
  marginAt : Option Nat
  /-- Since when DBAND stands where it does (R541). -/
  bandAt : Nat
  firc : Int
  fircOk : Bool
  fircAt : Nat
  /-- VREQ stood at VMAX when the block began and since (Table 13.4 row 2). -/
  downWant : Bool
  vcoreBad : Bool
  deriving DecidableEq, Repr

/-- A CAL_RUN in progress (R568 to R594). -/
structure CalRun where
  id : ReqId
  items : BitVec 4
  burn : Bool
  convs : Nat
  shorts : Nat
  results : List Int
  row : Option Nat
  record : Nat
  bytes : List Byte
  /-- The command has been answered; only the row in progress is still burned (R594). -/
  ended : Bool
  deriving DecidableEq, Repr

structure Cal where
  inForce : List Byte
  src : Nat
  record : Nat
  ramOnly : Bool
  bank : Vector (List Byte) 32
  /-- COUNT as last read from the bank. -/
  count : Nat
  refV : Half
  refR : Half
  dstale : Bool
  inhVbat : Bool
  inhVio : Bool
  inhTj : Bool
  inhibit : Bool
  clearAt : Option Nat
  run : Option CalRun
  /-- The ended run whose row is still being burned when a new one has started (R594). -/
  ending : Option CalRun
  deriving DecidableEq, Repr

/-- A check-value unit (Table 14.8). -/
structure CrcUnit where
  cnt : Word
  mis : Half
  inj : Half
  exp : Word
  got : Word
  deriving DecidableEq, Repr

structure Checks where
  units : Vector CrcUnit 21
  /-- The unit with an armed injection (CRC.INJ.PEND). -/
  armed : Option (Fin 21)
  deriving DecidableEq, Repr

/-- An HV-die event waiting for, or sent in, an EVENT message (R618). -/
structure HvEvent where
  code : Nat
  inst : Nat
  data : Nat
  act : Bool
  esc : Bool
  /-- Its PEND bit was set at the raise (R495). -/
  pended : Bool
  deriving DecidableEq, Repr

/-- A reliable message without its acknowledgement: its TAG, how often it was sent again, when it was last sent (R614, R616). -/
structure Out (α : Type) where
  body : α
  tag : BitVec 4
  resends : Nat
  sentAt : Nat
  deriving DecidableEq, Repr

/-- An escalation report (Table 15.3, ESCALATE). -/
structure Escal where
  code : Nat
  cls : Nat
  block : Nat
  dark : Bool
  deriving DecidableEq, Repr

/-- A register access over the die link (REGADDR, REGDATA): word offset, block, write data if it is a write. -/
structure RegAcc where
  offset : Nat
  block : Nat
  write : Option Word
  deriving DecidableEq, Repr

/-- A REG_READ, REG_WRITE or REG_MODIFY that waits for the HV die (R670): what is asked (0 read, 1 write, 2 modify), the words still
to do with the values to write, the values read so far, and the MASK and VALUE of a REG_MODIFY. -/
structure RegJob where
  id : ReqId
  op : Nat
  todo : List (Nat × Word)
  acc : List Word
  mask : Word
  value : Word
  deriving DecidableEq, Repr

structure DieLink where
  seqDown : BitVec 4
  seqUp : BitVec 4
  rxDown : BitVec 4
  rxUp : BitVec 4
  escOut : Option (Out Escal)
  reqOut : Option (Out (Nat × Nat))
  regOut : Option (Out RegAcc)
  highOut : Option (Out Nat)
  evOut : Option (Out HvEvent)
  dropOut : Option (Out Nat)
  /-- Messages of those types still to be sent. -/
  escQ : List Escal
  reqQ : List (Nat × Nat)
    /-- TAG of the next message of each type, and the TAG last accepted per type at the receiver. -/
  escNext : BitVec 4
  reqNext : BitVec 4
  regNext : BitVec 4
  highNext : BitVec 4
  evNext : BitVec 4
  dropNext : BitVec 4
  escTag : Option (BitVec 4)
  reqTag : Option (BitVec 4)
  highTag : Option (BitVec 4)
  evTag : Option (BitVec 4)
  dropTag : Option (BitVec 4)
  /-- HV events in raise order (at most 16), the count lost and still to be reported. -/
  evBuf : List HvEvent
  lostNow : Nat
  downErr : Byte
  resend : Byte
  hvLost : Byte
  /-- A write REGADDR that the HV die has taken and whose REGDATA it awaits; the answer it sends. -/
  regWait : Option RegAcc
  regJob : Option RegJob
  /-- TAG of the REGADDR last accepted by the HV die. -/
  regTag : Option (BitVec 4)
  resp : Option Word
  lastResp : Word
  beatOut : Option (Byte × Byte × Bool)
  statusOut : Option StatusMsg
  deriving DecidableEq, Repr

structure Jtag where
  ir : BitVec 5
  tmode : Bool
  deriving DecidableEq, Repr

/-- The whole machine. -/
structure State where
  pending : List Instr
  clk : Clock
  mode : ModeState
  pow : Power
  rtc : Rtc
  ports : Vector PortState 3
  regs : RegFile
  store : Store
  bun : Bunting
  mask : Mask
  tok : Tokens
  scan : Scan
  fly : Vector Lane 16
  eng : Engine
  hoist : Hoist
  gdn : Guidon
  ens : Ensign
  flt : Faults
  evt : Recorder
  thm : Thermal
  fab : Fabric
  cal : Cal
  chk : Checks
  dl : DieLink
  jtag : Jtag
  /-- Numbers the next free value (Config.freeValue): the model's own, no part of the device. -/
  free : Nat
  deriving DecidableEq, Repr

/-! ## Reset values

One value per structure, the state a logic-die reset release (or power-on from OFF, for the HV die) leaves. -/

def ModeState.reset : ModeState :=
  { cur := .off, trans := none, queue := none, step := 3, bootSafe := none, sleep := .none, sleepAt := 0, restart := none, tested := false, readySeen := false, patch := 0, patchVer := 0 }

/-- Hold-cell reset states (Table 16.6): GPIO[0..3] high impedance, GPIO[4..7] pulled down, BF_SCLK low, BF_CS_N high, BF_IO pulled
up. -/
def Power.reset : Power :=
  { vbat := false, pmicEn := false, railsGood := false, railsAt := 0, pmicAt := 0, logicOn := false, retried := false,
    retryDue := none, wakeN := true, ignoreRtc := false, ignoreWakeN := false, hrxEdge := false, viaReset := false,
    brown := false, padHeld := true, padVal := #v[2, 2, 2, 2, 3, 3, 3, 3, 0, 1, 4, 4, 4, 4], straps := 0, strapsKept := false,
    vbatHigh := false, vbatSag := false, vbatCrank := false, vioSag := false, vledUv := false, vledOv := false,
    vledUvLeft := none, rails4 := 0, meas0 := 0, meas1 := 0 }

def Clock.reset : Clock :=
  { now := 0, dtime := 0, part := 0, tbXtal := false, xtalOk := false, dmark := 0, timeHigh := 0, highSent := none, markAt := 0,
    markWord := none }

def Rtc.reset : Rtc := { count := 0, alarm := 0xFFFFFFFFFF#40, oscOk := false, since := 0 }

def PortState.reset : PortState :=
  { reqSeq := 0, repSeq := 0, accept := 0, replied := 0, discard := 0, tags := [], buf := [], held := [], carry := [],
    waiting := [], miso := [], frameHi := 0, flipHi := 0, rtcHi := 0, lastHi := 0 }

def RegFile.reset : RegFile := { act := [], shd := [], staged := 0, commits := [], deferred := [], hot := [] }

def Surface.reset : Surface :=
  { st := .undefined, format := 0, base := 0, width := 0, height := 0, stride := 0, fill := 0, req := none, crc := 0, flipN := false }

def Arb.reset : Arb := { slot := 0, grants := Vector.replicate 7 0, pointer := 0, lastGrant := none, lastRead := 0 }

def Store.reset : Store :=
  { mem := [], clrDone := false, surfs := Vector.replicate 128 Surface.reset, checkQ := [], granted := 0, released := 0,
    wrefused := 0, arb := Arb.reset, ceCnt := 0, ueCnt := 0, eccAddr := 0, scrub := [], zeroed := [], bistRegion := 0,
    bistActive := false, bistPass := 0, bistFail := 0, bistAt := 0, bistSave := [], bistArr := [], bistHard := [] }

def FrameInfo.reset : FrameInfo := { watch := 0, adv := 0, scw := Vector.replicate 16 0, sam := Vector.replicate 16 0 }

def LayerAux.reset : LayerAux := { stepH := 0x10000, stepV := 0x10000, repeats := 0, lastSeq := none, excl := false }

def Bunting.reset : Bunting :=
  { layers := Vector.replicate 64 LayerAux.reset, comp := none, done := none, excluded := 0, hungTiles := [], slackLast := 1000,
    slackMin := 1000, blkMin := 1000, blkCount := 0, blkMissed := false, blkAtMax := false, compTime := 0 }

def Mask.reset : Mask :=
  { asm := Vector.replicate 3 none, list := none, late := 0, lateWas := 0, lateNow := false, passList := none, passLate := 0, passWin := (0, 0), rendPass := none, rendComp := none, rendCoarse := none, latchAt := 0, tableDue := 0,
    passTbl := [], compTbl := [], coarseTbl := [], passFresh := false, coarseFresh := false, disc := 0, glate := 0, accepted := 0,
    rejected := 0, ceilLoaded := false, ceilOk := false, ceilCrc := 0, ceilRun := none, cola := [], rowa := [] }

def Tokens.reset : Tokens :=
  { effbud := 0, thbud := 0, limit := 0, pool := 0, nf := false, ecw := 0, eam := 0, demand := Vector.replicate 16 0,
    hold := Vector.replicate 16 0, scale := Vector.replicate 16 0x10000, scaled := 0 }

def Seg.reset : Seg :=
  { undercnt := 0, taint := false, taintNow := false, watch := false, adv := false, echoskip := 0, echobad := 0, sigc := 0,
    sige := 0, echo := 0, age := 0, t0 := 0, t0Was := 0, advWas := false, stuckAt := none, under := [], firstSigc := none, sigF := 0, wait := none, goodAt := none }

def Scan.reset : Scan :=
  { run := false, retrain := none, frontValid := false, front := false, pcdiv := 0, pcdivWant := none, pcdivLatched := none, flipLatched := false, anchor := 0, k := 0,
    flipK := 0, div := 1, refresh := 120, passPh := 0, stopping := false, blank := false, fseq := 0, framecnt := 0, fliptime := 0,
    missed := 0, started := 0, segs := Vector.replicate 16 Seg.reset, frame := FrameInfo.reset, underNow := false,
    underPrev := false, freezeMute := false, curPass := [], curCoarse := [],
    curScale := Vector.replicate 16 0x10000, curHold := Vector.replicate 16 0, curBud := 0, curLimit := 0, curPool := 0, curOn := false, curLines := false, curRead := 0, curLanes := 0, hadLines := false, phK := 0, curClone := 0, zeros := [], settleAt := none, limp := none }

def Lane.reset : Lane :=
  { st := .furled, full := false, block := false, bclock := false, prec := false, crcOut := false, attempt := 0, down := false, up := false,
    startedAt := 0, started := false, txPre := 0, txMain := 0, txPost := 0, phase := 0, phaseDue := 0, acked := false, countAt := none, rseq := 0, tapStatus := 0,
    subcnt := 0, window := [], loss := 0, rts := [], bcrc := 0, mslip := 0, mslipSeen := 0, trainfail := 0,
    injcnt := 0, slots := 0, mseq := 0, lfsr := 0, baseAt := 0, prev := 0, precAt := 0, txq := [], fills := [], tail := [],
    fstartAt := 0, lastShow := .hold, tl := 0, ofs := 0, badRun := 0, runFrom := 0, mis := false, kaShown := false,
    rxInv := false, txInv := false, ctrl := [], ctrlQ := [], read := none, furlDue := none, prbs := none, rejoin := false }

def Engine.reset : Engine :=
  { engId := false, pair := false, gainBad := 0, gainOk := false, gainDone := 0, laneMap := 0, burgee0 := [], burgee8 := [],
    step7 := .wait, tries := 0, gainTries := Vector.replicate 16 0, eol90 := 0, eol100 := 0, gen := none, sess := none, slot := 0,
    acc := Vector.replicate 16 0, beamSec := 0, beamNs := 0, beamFrom := none, markNs := 0, lifeTickAt := 0, jobs := [], nvRead := none,
    kaCheck := none, census := none, laneTest := none, pathBusy := false, pathRefused := false, pathValid := false, rmeas := 0 }

def Cred.reset : Cred := { adv := 0, cons := 0, occ := 0, free := 0 }

def HLane.reset : HLane :=
  { lock := false, heads := [], groups := 0, mseq := none, markAt := 0, prec := false, skew := none, raw := [], blocks := [], pre := 0, main := 0, post := 0,
    ready := false, req := 0, rseq := 0 }

def Hoist.reset : Hoist :=
  { st := .down, attempt := 0, phase := 0, phaseDue := 0, trainAt := 0, cfgAt := 0, acked := false, countAt := none, precReq := false,
    negHtx := false, negHrx := 0, tapStatus := 0, retryDue := none, acks := 0, gaveUp := false, htxPrec := false, hrxPrec := 0, epoch := 0,
    waitEpoch := false, caps := none, corr := 0, ue := 0, hcrcErr := 0, bcrcErr := 0, dup := 0, restarts := 0,
    cred := Vector.replicate 4 Cred.reset, inNext := Vector.replicate 5 0, outNext := Vector.replicate 5 0, retained := [],
    replyQ := [], timeQ := [], replySent := 0, timeSent := 0, replyAdv := 0, timeAdv := 0, ingress := [], cur := none,
    lanes := Vector.replicate 5 HLane.reset, hrseq := 0, rxInv := 0, txInv := false, vidFreed := 0, changedAt := none, creditAt := 0,
    timeAt := none, sent := [], htxAt := 0, htxFull := false, htxFree := 0, htxWait := [], htxOut := [], htxTail := [], htxPrecAt := 0, body := (0, false) }

def Guidon.reset : Guidon :=
  { kasel := false, goff := false, ensOk := false, ensAt := 0, hbRun := false, hbAt := 0, hbSeq := 0, chal := 0, dlerr := 0,
    cause := 0, expect := 0, measPow := 0, capSeen := false, heldSeen := false, ensMode := 0, swSeen := 0, winAt := 0,
    winEnergy := 0, winTime := 0, imeas := 0, vled := 0, test := none }

def StatusMsg.reset : StatusMsg := { chal := 0, inst := 0, sw := 0, held := false, mode := 0, urgent := false }

def Ensign.reset : Ensign :=
  { ovr := false, gdis := false, hsOn := false, lsOn := false, testRes := 0, testCnt := 0, ocTrip := false, imeas := 0, vled := 0,
    badCnt := 0, chal := 0, wins := [], badRun := 0, goodRun := 0, hbSeq := none, winAt := 0, oscPassed := false, oscBad := false,
    oscSkip := false, powerOnAt := 0, statusAt := 0, safe := none, cause := 0, raw := 0, darkReq := false, hsgOpen := false,
    svcArm := false, svcLock := false, nfInt := false, discDark := none, discHsg := none, discNf := none,
    rawAt := Vector.replicate 8 0, rawPrev := Vector.replicate 8 0, filt := 0,
    told := StatusMsg.reset, grace1 := 0x00500A28, svcFirst := none, pulseA := 0, pulseB := 0, noPulseA := false, noPulseB := false,
    running := false, svcMode := false, swTest := none, testBad := false, swNext := none, closeAt := none, closeWait := false, injectAt := none }

def Latch.reset : Latch := { valid := false, idx := 0, cls := 0, inst := 0, ovf := false }

def Timer.reset : Timer := { start := none, expired := false, due := false }

def Faults.reset : Faults :=
  { latch := Vector.replicate 18 Latch.reset, active := [], timers := Vector.replicate 7 Timer.reset, ensP := Timer.reset,
    ensI := Timer.reset, esc := 0, acts := Vector.replicate 8 0, escs := Vector.replicate 8 0 }

def Recorder.reset : Recorder :=
  { queue := [], buckets := [], store := [], cursor := 0, raised := 0, rlimit := 0, fulldrop := 0, qovf := 0, full := false,
    gen := 0, limcode := 0, lost := [], tied := 0 }

def ThermCh.reset : ThermCh :=
  { temp := 0, state := 0, broken := false, lvl := 0, rateHot := false, rateRun := 0, rate := 0, disagree := 0, agree := 0,
    hist := [], convAt := none, tstart := 0 }

def Thermal.reset : Thermal :=
  { ch := Vector.replicate 14 ThermCh.reset, gdnCh := Vector.replicate 14 ThermCh.reset, gdnCopy := [], pendHost := 0, pendPol := 0, pendGdn := 0, conv := none, lastCh := 13, nHost := 0,
    nPol := 0, nGdn := 0, nCal := 0, req := 0, enf := 0, floor := none, tgt := 0, levelAt := Vector.replicate 8 none,
    belowAt := none, enfAt := 0, tj := 0, tjValid := false, tjHot := false, tjLvl := 0, tjAt := none, xcheck := 0, dband := 6,
    eband := Vector.replicate 8 0, waveSent := 0, gdnTgt := 0, gdnLagAt := none, policyAt := 0, gdnAt := 0, measure := none }

def Fabric.reset : Fabric :=
  { vcode := 40, vtarget := 40, stepAt := 0, driven := [], speed := 0, speedBlk := 0, spdMax := Vector.replicate 7 none, canary := Vector.replicate 24 (0, 0),
    canaryAt := 0, margin := 135, marginAt := none, bandAt := 0, firc := 0, fircOk := false, fircAt := 0, downWant := false, vcoreBad := false }

/-- A blank fuse bank: 32 records of 32 bytes of zero. The spec gives no content of the bank at the first power-on (assumption 14). -/
def Cal.reset : Cal :=
  { inForce := List.replicate 32 0, src := 0, record := 0, ramOnly := false, bank := Vector.replicate 32 (List.replicate 32 0),
    count := 0, refV := 0, refR := 0, dstale := false, inhVbat := false, inhVio := false, inhTj := true, inhibit := true,
    clearAt := none, run := none, ending := none }

def CrcUnit.reset : CrcUnit := { cnt := 0, mis := 0, inj := 0, exp := 0, got := 0 }

def Checks.reset : Checks := { units := Vector.replicate 21 CrcUnit.reset, armed := none }

def DieLink.reset : DieLink :=
  { seqDown := 0, seqUp := 0, rxDown := 0, rxUp := 0, escOut := none, reqOut := none, regOut := none, highOut := none, evOut := none,
    dropOut := none, escQ := [], reqQ := [], escNext := 0, reqNext := 0, regNext := 0, highNext := 0, evNext := 0, dropNext := 0, escTag := none, reqTag := none, highTag := none, evTag := none, dropTag := none,
    evBuf := [], lostNow := 0, downErr := 0, resend := 0, hvLost := 0, regWait := none, regJob := none, regTag := none, resp := none, lastResp := 0, beatOut := none,
    statusOut := none }

/-- Test-Logic-Reset selects IDCODE, code 0x01. -/
def Jtag.reset : Jtag := { ir := 1, tmode := false }

/-- The machine as the spec gives it before any supply is applied: OFF, every register at its reset value, no command waiting
(assumption 1 says how operation starts from here). -/
def State.reset : State :=
  { pending := [], clk := Clock.reset, mode := ModeState.reset, pow := Power.reset, rtc := Rtc.reset,
    ports := Vector.replicate 3 PortState.reset, regs := RegFile.reset, store := Store.reset, bun := Bunting.reset,
    mask := Mask.reset, tok := Tokens.reset, scan := Scan.reset, fly := Vector.replicate 16 Lane.reset, eng := Engine.reset,
    hoist := Hoist.reset, gdn := Guidon.reset, ens := Ensign.reset, flt := Faults.reset, evt := Recorder.reset,
    thm := Thermal.reset, fab := Fabric.reset, cal := Cal.reset, chk := Checks.reset, dl := DieLink.reset, jtag := Jtag.reset,
    free := 0 }

end Sys2Proof.Machine
end

