-- ==== Sys2Proof/Machine/Regs.lean ====
section
/-! DEFINITION. The register map (chapter 18): which words exist, which of their bits software writes and how, their reset values,
commit groups and reset domains; and the one place where a stored register word is read and changed. -/

namespace Sys2Proof.Machine

/-- What the map says of one word: the RW, W1C, WO and RC bits, the reset value of the RW and W1C bits, the commit group of its
class F fields, whether it is class H, and whether it lies in the HV domain (Table 18.2). -/
structure RegInfo where
  rw : Nat
  w1c : Nat
  wo : Nat
  rc : Nat
  reset : Nat
  grp : Option Nat
  halt : Bool
  hv : Bool
  deriving DecidableEq, Repr

/-- A word that software only reads. -/
def regRo : RegInfo := ⟨0, 0, 0, 0, 0, none, false, false⟩
/-- A word of class L with RW bits `m` and reset value `r`. -/
def regL (m r : Nat) : RegInfo := { regRo with rw := m, reset := r }
/-- A word of class F in group `g`. -/
def regF (g m r : Nat) : RegInfo := { regRo with rw := m, reset := r, grp := some g }
/-- A word of class H. -/
def regH (m r : Nat) : RegInfo := { regRo with rw := m, reset := r, halt := true, hv := true }
/-- A word with write-one-to-clear bits. -/
def regW1c (m : Nat) : RegInfo := { regRo with w1c := m }
/-- A word with read-to-clear bits. -/
def regRc (m : Nat) : RegInfo := { regRo with rc := m }

/-- Commit groups (Table 2.11). -/
def grpLayers : Nat := 0
def grpMask : Nat := 1
def grpCeiling : Nat := 2
def grpPower : Nat := 3
def grpTiming : Nat := 4
def grpLanes : Nat := 5
def grpThermal : Nat := 6
def grpFault : Nat := 7

/-- Default neighbours of a temperature channel (Table 12.3). -/
def adjReset : Nat → Nat
  | 0 => 0x012 | 1 => 0x025 | 2 => 0x04A | 3 => 0x084
  | 4 => 0x021 | 5 => 0x052 | 6 => 0x0A4 | 7 => 0x048
  | 8 => 0x0FF | 9 => 0x900 | 10 => 0x300 | 11 => 0x200
  | _ => 0

/-- Default limit of a temperature channel in 1/16 degree (Table 12.7). -/
def tlimReset (c : Nat) : Nat :=
  if c < 8 then 110 * 16 else if c = 8 then 105 * 16 else if c = 9 then 95 * 16 else if c = 10 then 115 * 16
  else if c = 11 then 100 * 16 else 0

/-- Class entry reset values (Table 5.6): the PAD word and the CAP word. -/
def padReset : Nat → Nat
  | 0 => 0x051E0A0A | 1 => 0x05140A0A | 2 => 0x000A0F0F | _ => 0x05050505
def capReset (k : Nat) : Nat := if k = 3 then 0x2000 else 0

def regSys (o : Nat) : Option RegInfo :=
  if o = 0 then some regRo
  else if o = 1 then some (regL 0x7F03 1)
  else if o = 2 then some { regL 0xF 0xB with hv := true }
  else if o = 3 then some { regW1c 0x33F with reset := 8, hv := true }
  else if o = 4 then some regRo
  else if o = 5 then some { regRo with wo := 1, hv := true }
  else if 0x10 ≤ o ∧ o < 0x14 then some (regL 0xF 0)
  else if 0x14 ≤ o ∧ o < 0x18 then some (regL 0xF 4)
  else none

def regHal (o : Nat) : Option RegInfo :=
  if o < 12 then (if o % 4 = 0 then some (regW1c 0x200) else some regRo)
  else if 0x100 ≤ o ∧ o < 0x200 then some (regL 0xFFFFFFFF 0)
  else if o = 0x200 then some (regL 0x77F7F (30 + 60 * 256 + 2 * 65536 + 0x40000))
  else if o = 0x201 then some (regL 0x3FF03FF (200 + 400 * 65536))
  else if o = 0x202 then some regRo
  else if o = 0x203 then some (regL 1 0)
  else if o = 0x204 then some regRo
  else if o = 0x205 then some regRo
  else if 0x210 ≤ o ∧ o < 0x228 then some regRo
  else none

def regStore (o : Nat) : Option RegInfo :=
  if o = 0 then some (regL 0x3F 40)
  else if o = 1 then some { regRo with rc := 0xFFFFFF, w1c := 0x1000000 }
  else if o = 2 then some regRo
  else if o = 3 then some (regL 1 0)
  else if o = 4 then some (regW1c 0x800000)
  else if o < 7 then some regRo
  else if 0x100 ≤ o ∧ o < 0x300 then some regRo
  else none

/-- The words of one Bunting layer (Tables 4.3 to 4.9). -/
def regLayer (k : Nat) : RegInfo :=
  if k = 0 then regF grpLayers 0x7F7FFF (2 * 512 + 2 * 2048)
  else if k = 1 then regF grpLayers 0x0FFF1FFF 0
  else if k = 2 then regF grpLayers 0x1FFF3FFF 0
  else if k = 3 then regF grpLayers 0x01FF07FF 0
  else if k = 4 then regF grpLayers 0x03FF0FFF 0
  else if k = 5 then regF grpLayers 0xFFFF 0xFFFF
  else if k = 6 then regF grpLayers 0xFFFFFFFF 0x8000
  else if k < 11 then regF grpLayers 0xFFFFFFFF 0
  else if k = 11 then regL 0xFFFF 0
  else regRo

def regBun (o : Nat) : Option RegInfo :=
  if o = 0 then some (regF grpLayers 0x3FFF1 (4 * 16 + 150 * 256))
  else if o < 4 then some regRo
  else if 0x400 ≤ o ∧ o < 0x800 then some (regLayer (o % 16))
  else if o = 0x800 ∨ o = 0x801 then some (regF grpLayers 1 0)
  else if 0x1000 ≤ o ∧ o < 0x1400 then
    (let k := o % 0x200
     if k < 297 then some (regF grpLayers 0xFFFFFFFF (512 * (k % 33) + 512 * (k / 33) * 65536)) else some regRo)
  else none

def regMask (o : Nat) : Option RegInfo :=
  if o = 0 then some (regF grpMask 0x0FFFFF7F (8 + 100 * 256 + 50 * 262144))
  else if o = 1 then some (regF grpMask 0xFFFF 2500)
  else if o = 2 then some (regF grpMask 3 2)
  else if o = 3 then some (regF grpCeiling 0xF 0)
  else if o < 9 then some regRo
  else if 0x10 ≤ o ∧ o < 0x1A then
    (if o % 2 = 0 then some (regF grpMask 0xFFFFFFFF (padReset ((o - 0x10) / 2)))
     else some (regF grpMask 0xFFFF (capReset ((o - 0x10) / 2))))
  else none

def regScan (o : Nat) : Option RegInfo :=
  if o = 0 then some (regF grpTiming 0x3FFF 120)
  else if o = 1 then some (regL 0x77F (40 + 0x400))
  else if o < 9 then some regRo
  else if o = 9 then some (regW1c 0x7F)
  else if 0x40 ≤ o ∧ o < 0xC0 then (if o % 8 = 0 then some (regRc 0xFFFF00FF) else some regRo)
  else none

/-- The words of one Fly lane (Table 7.12). -/
def regFlyLane (k : Nat) : RegInfo :=
  if k = 0 then regF grpLanes 0xF 7
  else if k = 1 then regF grpLanes 0x3F3F3F (4 + 51 * 256 + 8 * 65536)
  else if k = 4 then regRc 0xFFFF
  else if k = 7 then regRc 0xFFFFFF
  else if k = 9 then regW1c 0x7F
  else regRo

def regFly (o : Nat) : Option RegInfo :=
  if o = 0 then some (regL 0x1FFFFF3F (4 + 32 * 256 + 4400 * 65536))
  else if o = 1 then some regRo
  else if 0x40 ≤ o ∧ o < 0x140 then some (regFlyLane (o % 16))
  else none

def regEng (o : Nat) : Option RegInfo :=
  if o = 8 then some { regL 0xFFFF0000 (50 * 65536) with wo := 1 }
  else if o = 10 then some (regW1c 0x1F)
  else if o < 10 then some regRo
  else if 0x10 ≤ o ∧ o < 0x20 then some regRo
  else none

def regHoist (o : Nat) : Option RegInfo :=
  if o = 0 then some (regL 0x3F7 (3 + 16 * 16))
  else if o = 1 then some (regL 0x3F3F3F (4 + 51 * 256 + 8 * 65536))
  else if o = 6 then some (regRc 0xFFFFFFFF)
  else if o = 7 then some (regRc 0xFFFFFFFF)
  else if o = 8 then some (regW1c 0x3F)
  else if o < 6 then some regRo
  else if 0x10 ≤ o ∧ o < 0x18 then some regRo
  else if 0x20 ≤ o ∧ o < 0x2A then some regRo
  else none

def regSafe (o : Nat) : Option RegInfo :=
  if o = 0 then some (regRc 0xFF0000)
  else if o = 1 then some (regW1c 0x80000000)
  else if o = 2 then some regRo
  else if o = 3 then some (regW1c 0xF)
  else none

def regEns (o : Nat) : Option RegInfo :=
  if o = 0 then some (regH 0xFFFF01 (1 + 100 * 256 + 100 * 65536))
  else if o = 1 then some (regH 0xFFFF (120 + 40 * 256))
  else if o = 5 then some { regRc 0xFF with hv := true }
  else if o = 6 then some { regW1c 0x80000000 with hv := true }
  else if o = 7 then some { regW1c 0x3F with hv := true }
  else if o < 5 then some { regRo with hv := true }
  else none

def regEvt (o : Nat) : Option RegInfo :=
  if o = 0 then some (regL 0xFFFF (10 + 0xFF00))
  else if o = 2 then some (regL 0x1FFF 0)
  else if o = 0xC then some (regF grpFault 0xFFFFFFFF 0x28502814)
  else if o = 0xD then some (regF grpFault 0xFFFFFF 0x500A28)
  else if o < 0xC then some regRo
  else if 0x10 ≤ o ∧ o < 0x17 then some regRo
  else none

def regThm (o : Nat) : Option RegInfo :=
  if o = 0 then some (regF grpThermal 0xFF3F7F (20 + 5 * 256 + 20 * 65536))
  else if o = 1 then some (regF grpThermal 0xFFFF (40 + 15 * 256))
  else if o = 2 then some (regF grpThermal 0x3FFFF (15 + 30 * 256 + 3 * 65536))
  else if o < 7 then some regRo
  else if o = 7 then some (regW1c 0xFF)
  else if 0x10 ≤ o ∧ o < 0x48 then
    (if o % 4 = 0 then some (regF grpThermal 0xFFFFFF (tlimReset ((o - 0x10) / 4) + 50 * 65536))
     else if o % 4 = 1 then some (regF grpThermal 0x3FFF (adjReset ((o - 0x10) / 4)))
     else some regRo)
  else if 0x50 ≤ o ∧ o < 0x54 then some (regF grpThermal 0xFFFFFFFF (10000 + 3435 * 65536))
  else none

def regCal (o : Nat) : Option RegInfo :=
  if o = 0 then some { regRo with hv := true }
  else if o < 3 then some { regRo with hv := true }
  else if o = 3 then some regRo
  else if o = 4 then some (regW1c 0x7F)
  else if 8 ≤ o ∧ o < 16 then some { regRo with hv := true }
  else none

def regCrc (o : Nat) : Option RegInfo :=
  if o = 0 then some { regL 0x1F 0 with wo := 0x100 }
  else if 0x10 ≤ o ∧ o < 0x64 then (if o % 4 = 1 then some (regRc 0xFFFF) else some regRo)
  else none

def regPwr (o : Nat) : Option RegInfo :=
  if o = 0 then some (regF grpPower 0xFFFF 0)
  else if o = 1 then some (regF grpPower 0xFFFF 0)
  else if o < 4 then some regRo
  else if 0x10 ≤ o ∧ o < 0x20 then some (regF grpPower 0x7FF 64)
  else if 0x20 ≤ o ∧ o < 0x40 then some regRo
  else if o = 0x100 then some { regW1c 0x800 with hv := true }
  else if o = 0x101 ∨ o = 0x102 then some { regRo with hv := true }
  else if o = 0x103 then some { regW1c 0x1F with hv := true }
  else if o = 0x104 then some { regRc 0xFFFFFF with hv := true }
  else none

def regRtc (o : Nat) : Option RegInfo :=
  if o < 2 then some { regRo with hv := true }
  else if o = 2 then some { regL 0xFFFFFFFF 0xFFFFFFFF with hv := true }
  else if o = 3 then some { regL 0xFF 0xFF with hv := true }
  else if o = 4 then some { regL 0xFFFFFFFF 0 with hv := true }
  else if o = 5 then some { regL 0xFF 0 with hv := true }
  else if o = 6 then some { regL 1 0 with wo := 2, hv := true }
  else if o = 7 then some { regW1c 0xD with hv := true }
  else none

def regTest (o : Nat) : Option RegInfo :=
  if o = 0 then some { regRo with hv := true }
  else if o = 1 then some (regL 0x1FFFF 0)
  else if o = 2 then some regRo
  else if o = 3 then some (regL 1 0)
  else none

/-- The five fault words of every block (Table 11.2). Those of the ENS block lie on the HV die (R488, Table 18.2). -/
def regFault (b o : Nat) : Option RegInfo :=
  let hv := b == 0x0A
  if o = 0xFFF0 then some { regRo with hv := hv }
  else if o = 0xFFF1 ∨ o = 0xFFF2 then some { regW1c 0xFFFFFFFF with hv := hv }
  else if o = 0xFFF3 then some { regL 0xFFFFFFFF (faultMask b 0) with hv := hv }
  else if o = 0xFFF4 then some { regL 0xFFFFFFFF (faultMask b 1) with hv := hv }
  else none

/-- The word at offset `o` of block `b` (Table 18.1, R666); none where nothing is mapped. -/
def regInfoAt (b o : Nat) : Option RegInfo :=
  if 0xFFF0 ≤ o then (if b < 18 then regFault b o else none)
  else match b with
    | 0x00 => regSys o | 0x01 => regHal o | 0x02 => regStore o | 0x03 => regBun o | 0x04 => regMask o | 0x05 => regScan o
    | 0x06 => regFly o | 0x07 => regEng o | 0x08 => regHoist o | 0x09 => regSafe o | 0x0A => regEns o | 0x0B => regEvt o
    | 0x0C => regThm o | 0x0D => regCal o | 0x0E => regCrc o | 0x0F => regPwr o | 0x10 => regRtc o | 0x11 => regTest o
    | _ => none

/-- Bit 23 of a word address selects the shadow view (R665). -/
def addrShadow (a : Nat) : Bool := bit a 23
/-- The plain address of a word. -/
def addrPlain (a : Nat) : Nat := a % 0x800000
def addrBlock (a : Nat) : Nat := bits a 22 16
def addrOff (a : Nat) : Nat := a % 0x10000

/-- The map at a word address of either view (R665, R666); an address with bits above 23 is unmapped. -/
def regInfo (a : Nat) : Option RegInfo :=
  if a < 0x1000000 then regInfoAt (addrBlock a) (addrOff a) else none

/-- The value the RW and W1C bits of a plain address take at reset. -/
def regReset (a : Nat) : Word :=
  match regInfo a with
  | some r => BitVec.ofNat 32 r.reset
  | none => 0

/-- The word a sparse register list holds; an unlisted word holds its reset value. -/
def wordGet : List (Nat × Word) → Nat → Word
  | [], a => regReset a
  | (b, v) :: t, a => if a = b then v else wordGet t a

/-- An entry put before the first of a higher address. -/
def wordIns (a : Nat) (v : Word) : List (Nat × Word) → List (Nat × Word)
  | [] => [(a, v)]
  | (b, w) :: t => if a < b then (a, v) :: (b, w) :: t else (b, w) :: wordIns a v t

/-- The list with `v` at `a`, listed once, or not at all when it is the word's reset value. -/
def wordPut (l : List (Nat × Word)) (a : Nat) (v : Word) : List (Nat × Word) :=
  let rest := l.filter (fun p => p.1 != a)
  if v = regReset a then rest else wordIns a v rest

/-- The stored bits of a register word in force. -/
def State.actW (s : State) (a : Nat) : Word := wordGet s.regs.act a
/-- The shadow copy of a word's class F fields (R18). -/
def State.shdW (s : State) (a : Nat) : Word := wordGet s.regs.shd a
def State.act (s : State) (a : Nat) : Nat := (s.actW a).toNat
def State.shd (s : State) (a : Nat) : Nat := (s.shdW a).toNat

/-- Store the active bits of a word, unlisted when they equal the reset value. -/
def State.setAct (s : State) (a : Nat) (v : Word) : State :=
  { s with regs.act := wordPut s.regs.act a v }
def State.setShd (s : State) (a : Nat) (v : Word) : State :=
  { s with regs.shd := wordPut s.regs.shd a v }

/-- Hardware sets write-one-to-clear bits; they stay set against a write of the same instant (R14). -/
def State.hwSet (s : State) (a m : Nat) : State :=
  let s := s.setAct a (s.actW a ||| BitVec.ofNat 32 m)
  { s with regs := { s.regs with hot := (a, BitVec.ofNat 32 m) :: s.regs.hot } }
/-- The bits of a word that hardware has set at the present instant. -/
def hotBits (l : List (Nat × Word)) (a : Nat) : Word := l.foldl (fun m p => if p.1 = a then m ||| p.2 else m) 0
def State.hwClr (s : State) (a m : Nat) : State := s.setAct a (s.actW a &&& ~~~ (BitVec.ofNat 32 m))

/-- A field of an active register word. -/
def State.fld (s : State) (a hi lo : Nat) : Nat := bits (s.act a) hi lo
def State.flag (s : State) (a i : Nat) : Bool := bit (s.act a) i

/-- A register list without the words outside the HV domain: what a logic-die reset keeps (Table 18.2). -/
def keepHv (l : List (Nat × Word)) : List (Nat × Word) :=
  l.filter (fun p => match regInfo p.1 with | some r => r.hv | none => false)

end Sys2Proof.Machine
end

