-- ==== Sys2Proof/Machine/Slots.lean ====
section
/-! DEFINITION. The block slots of a Fly lane (R304, R308, R311, R337): what is due on a lane, which of it each slot carries, and what a
lane has sent since its last MARKER; and the data slots of HTX, on which messages are placed (R383, R386, R394, R411). -/

namespace Sys2Proof.Machine

/-- Block time in ps at the rate in force (Table 7.1). -/
def Lane.blockPs (l : Lane) : Nat := if l.full then 42500 else 340000

/-- The rate in force is FULL; a furled lane has none. -/
def Lane.fullNow (l : Lane) : Bool := l.full && decide (l.st ≠ .furled)

def TxKind.type : TxKind → BlockType
  | .fstart _ _ _ => .fstart | .data _ => .data | .furl => .furl | .ctrl _ => .ctrl

def FillKind.type : FillKind → BlockType
  | .idle => .idle | .train _ _ _ _ _ _ _ => .train | .prbs pattern _ _ _ => prbsType pattern

/-- COUNT of the TRAIN block of index i: 15 down to 0 in the countdowns of PHASE 1 and PHASE 3 (Table 7.8), 0 otherwise. -/
def trainCount (phase i : Nat) : Nat := if phase = 1 ∨ phase = 3 then 15 - i else 0

/-- Payload of a filler's block of index i. -/
def FillKind.payload (k : FillKind) (i : Nat) : List Byte :=
  match k with
  | .idle => payload16 []
  | .train phase pre main post status rseq prec => trainPayload phase (trainCount phase i) pre main post status rseq prec
  | .prbs pattern seed choice inject => prbsSent pattern seed choice inject i

/-- Blocks that may go out in a slot that starts at `t` ps: due, and no CTRL from 3,000 ns before a pass's lines to their last block
(R315, R337). -/
def Tx.open (t : Nat) (q : List Tx) (x : Tx) : Bool :=
  decide (x.due ≤ t ∧ 0 < x.left) &&
    !(decide (x.kind.type = .ctrl) && q.any (fun y => decide (y.kind.type = .data ∧ 0 < y.left ∧ y.due ≤ t + 3000000)))

/-- The first of the blocks of least rank (R311). -/
def leastRank : List Tx → Option Tx
  | [] => none
  | x :: t => match leastRank t with
    | some y => if y.kind.type.rank < x.kind.type.rank then some y else some x
    | none => some x

/-- One block of an item has gone out. -/
def sentOne (x : Tx) : List Tx → List Tx
  | [] => []
  | y :: t => if y = x then { y with done := y.done + 1, left := y.left - 1 } :: t else y :: sentOne x t

/-- The filler in force at `t` has filled one more slot. -/
def filledOne (t : Nat) : List Filler → List Filler
  | [] => []
  | f :: r => if f.due ≤ t then { f with done := f.done + 1 } :: r else f :: filledOne t r

/-- What a slot carries; an item's or filler's `done` is the index of the block. -/
inductive SlotUse where
  | marker | tx (x : Tx) | fill (f : Filler)
  deriving DecidableEq, Repr

def SlotUse.type : SlotUse → BlockType
  | .marker => .marker | .tx x => x.kind.type | .fill f => f.kind.type

/-- What a slot that starts at `t` ps carries, and what is left after it (R311). -/
def pickSlot (t : Nat) (q : List Tx × List Filler) : SlotUse × (List Tx × List Filler) :=
  let f := (q.2.find? (fun f => decide (f.due ≤ t))).getD { due := t, kind := .idle, done := 0 }
  let filler : SlotUse × (List Tx × List Filler) := (.fill f, (q.1, filledOne t q.2))
  match leastRank (q.1.filter (Tx.open t q.1)) with
  | some x => if f.kind.type.rank < x.kind.type.rank then filler else (.tx x, (sentOne x q.1, q.2))
  | none => filler

/-- Slot j, counted from the slot of the last MARKER. -/
def Lane.pick (l : Lane) (j : Nat) (q : List Tx × List Filler) : SlotUse × (List Tx × List Filler) :=
  if slotMarker j then (.marker, q) else pickSlot (l.baseAt + j * l.blockPs) q

/-- What is due before slot j. -/
def Lane.left (l : Lane) : Nat → List Tx × List Filler
  | 0 => (l.txq, l.fills)
  | j + 1 => (l.pick j (l.left j)).2

/-- What slot j carries. -/
def Lane.slotUse (l : Lane) (j : Nat) : SlotUse := (l.pick j (l.left j)).1

/-- Slots since the last MARKER that have ended at `now` ns of DTIME. -/
def Lane.slotsBy (now : Nat) (l : Lane) : Nat := (1000 * now - l.baseAt) / l.blockPs

/-- The first slot from j on, of n, whose use meets `p`; `q` is what is due before slot j. -/
def Lane.findSlot (l : Lane) (p : SlotUse → Bool) : Nat → Nat → List Tx × List Filler → Option Nat
  | 0, _, _ => none
  | n + 1, j, q =>
    let r := l.pick j q
    if p r.1 then some j else Lane.findSlot l p n (j + 1) r.2

/-- The end (ps) of the first of the k slots since the last MARKER whose use meets `p`. -/
def Lane.endOf (l : Lane) (p : SlotUse → Bool) (k : Nat) : Option Nat :=
  (l.findSlot p k 0 (l.txq, l.fills)).map (fun j => l.baseAt + (j + 1) * l.blockPs)

/-- A slot carries the block of a CTRL operation. -/
def Ctrl.inSlot (c : Ctrl) (u : SlotUse) : Bool :=
  match u with
  | .tx x => (match x.kind with | .ctrl p => leAt p 1 1 == c.tag.toNat && x.due == c.due | _ => false)
  | _ => false

/-- The instant (ns) at which the block of a CTRL operation left, among the first k slots since the last MARKER or before them (R339). -/
def Lane.leftAt (l : Lane) (k : Nat) (c : Ctrl) : Option Nat := c.sentAt.or ((l.endOf c.inSlot k).map (· / 1000))

/-- The first k slots are closed: when the CTRL blocks among them left is noted. -/
def Lane.noteSent (k : Nat) (l : Lane) : Lane := { l with ctrl := l.ctrl.map (fun c => { c with sentAt := l.leftAt k c }) }

/-- The end (ps) of the slot that carries COUNT 0 of a countdown whose TRAIN blocks begin at `now` ns (Table 7.8). A MARKER among its 16
blocks takes a slot of its own (R311). -/
def Lane.countEnd (now : Nat) (l : Lane) : Nat :=
  (l.endOf (fun u => match u with | .fill f => decide (f.kind.type = .train ∧ f.due = 1000 * now ∧ f.done = 15) | _ => false)
    (l.slotsBy now + 64)).getD (1000 * now + 17 * l.blockPs)

/-- The injected inversions of the test whose PRBS blocks a lane sends, up to now (R344); those of the last test otherwise. -/
def Lane.injections (now : Nat) (l : Lane) : Nat :=
  match l.fills with
  | { kind := .prbs _ _ choice inject, due := due, done := _ } :: _ =>
    match (l.left (l.slotsBy now)).2.find? (fun f => decide (f.due = due)) with
    | some f => injectedBelow choice inject f.done
    | none => 0
  | _ => l.injcnt.toNat

/-! ### HTX -/

/-- Block time of a Hoist lane in ps (Table 9.1). -/
def hoistPs (full : Bool) : Nat := if full then 21250 else 136000

/-- The data slot of index j since a lane's start: of 8,192 slots 30 in 32 carry blocks, and the first a MARKER (R383, R386). -/
def dataSlot (j : Nat) : Nat :=
  let r := j % 7679 + 1
  8192 * (j / 7679) + 32 * (r / 30) + r % 30

/-- The index of the first data slot at or after slot a. -/
def dataFrom (a : Nat) : Nat := 7679 * (a / 8192) + (30 * (a % 8192 / 32) + min (a % 32) 30 - 1)

/-- The instant (ps of DTIME) at which data slot j of HTX begins. -/
def Hoist.slotAt (j : Nat) (h : Hoist) : Nat := h.htxAt + dataSlot j * hoistPs h.htxFull

/-- The first data slot of HTX that begins at or after an instant (ps of DTIME). -/
def Hoist.dataBy (at_ : Nat) (h : Hoist) : Nat := dataFrom (ceilDiv (at_ - h.htxAt) (hoistPs h.htxFull))

/-- Blocks of a message: its HEAD, and its body region with the CRC in whole blocks (Table 9.6). -/
def HtxMsg.blocks (m : HtxMsg) : Nat := 1 + bodyBlocks m.body.length

/-- The order of priority on HTX (R411). -/
def HtxMsg.rank (m : HtxMsg) : Nat :=
  if m.cls = 0x84 then 0 else if m.cls = 0x80 then 1 else if m.cls = 0x81 then 2 else if m.cls = 0x83 then 3 else 4

/-- The first of the waiting messages of least rank. -/
def firstMsg : List HtxWait → Option HtxWait
  | [] => none
  | x :: t => match firstMsg t with
    | some y => if y.msg.rank < x.msg.rank then some y else some x
    | none => some x

/-- T3 of a TREPLY is written as its HEAD leaves (R414). -/
def HtxMsg.stamped (at_ : Nat) (m : HtxMsg) : HtxMsg :=
  if m.cls = 0x83 then { m with body := m.body.take 16 ++ le 8 at_ ++ m.body.drop 24 } else m

/-- The waiting message that leaves next takes consecutive data slots, with the epoch in force; of those that wait at its boundary it is the
one of the highest priority (R394, R411). -/
def Hoist.take (h : Hoist) (j : Nat) (x : HtxWait) : Hoist :=
  { h with
    htxWait := h.htxWait.erase x, htxFree := j + x.msg.blocks
    htxOut := h.htxOut ++ [{ msg := x.msg.stamped (h.slotAt j / 1000), epoch := h.epoch, at_ := j }] }

/-- Messages begin at every boundary before an instant (ps of DTIME). -/
def Hoist.begun (limit : Nat) : Nat → Hoist → Hoist
  | 0, h => h
  | n + 1, h =>
    match h.htxWait with
    | [] => h
    | w :: _ =>
      let j := max h.htxFree (h.dataBy w.due)
      if h.slotAt j < limit then
        match firstMsg (h.htxWait.filter (fun x => decide (x.due ≤ h.slotAt j))) with
        | some x => Hoist.begun limit n (h.take j x)
        | none => h
      else h

/-- Messages on HTX up to `now` ns of DTIME; those that ended two groups ago are forgotten. -/
def Hoist.upTo (now : Nat) (h : Hoist) : Hoist :=
  let h := Hoist.begun (1000 * now) h.htxWait.length h
  { h with htxOut := h.htxOut.filter (fun o => decide (1000 * now < h.slotAt (o.at_ + o.msg.blocks) + 64 * hoistPs h.htxFull)) }

/-- A message is handed to HTX at `now` ns of DTIME. -/
def Hoist.hand (now : Nat) (m : HtxMsg) (h : Hoist) : Hoist := { h with htxWait := h.htxWait ++ [{ due := 1000 * now, msg := m }] }

/-- Nothing waits for HTX, and its last block left 100 µs ago or more (R412). -/
def Hoist.quiet (now : Nat) (h : Hoist) : Bool :=
  h.htxWait.isEmpty && (decide (h.htxFree = 0) || decide (h.slotAt (h.htxFree - 1) + hoistPs h.htxFull + 100000000 ≤ 1000 * now))

/-- DTIME at which the HEAD of a message handed over now leaves, if none of higher priority follows it. -/
def Hoist.leaves (now : Nat) (m : HtxMsg) (h : Hoist) : Nat :=
  let h := h.hand now m
  let h := Hoist.begun (h.slotAt (max h.htxFree (h.dataBy (1000 * now)) + 7679 * h.htxWait.length)) h.htxWait.length h
  match h.htxOut.reverse.find? (fun o => decide (o.msg.cls = m.cls ∧ o.msg.cseq = m.cseq)) with
  | some o => h.slotAt o.at_ / 1000
  | none => now

end Sys2Proof.Machine
end

