-- ==== Sys2Proof/Machine/Ops.lean ====
section
/-! DEFINITION. The shared operations: time, raises and the recorder's queue, fault activation and class timers, the HV die's event
buffer, messages on HTX, and replies on the three ports. -/

namespace Sys2Proof.Machine

/-- The SYS.MODE.CUR encoding (Table 1.1), 7 for SLEEP (Table 2.15). -/
def Mode.code : Mode → Nat
  | .off => 0 | .boot => 0 | .limp => 1 | .ready => 2 | .beam => 3 | .service => 4 | .safeBeam => 5 | .safeDark => 6 | .sleep => 7

/-- DTIME after `d` ns of a running logic die: on FIRC it advances by 10 at each cycle, on the crystal by 1 each ns (R561, R562). -/
def Clock.run (c : Clock) (d : Nat) : Clock :=
  if c.tbXtal then { c with dtime := c.dtime + d } else { c with dtime := c.dtime + (c.part + d) / 10 * 10, part := (c.part + d) % 10 }

/-- The instant of the command in hand: time never runs backwards; DTIME counts while the logic die runs (Table 0.5, R59). What HTX
sent and MISO carried are those of this command alone; what hardware set at an earlier instant may be cleared (R14). -/
def State.tick (t : Nat) (s : State) : State :=
  { s with
    clk := { (if s.pow.logicOn then s.clk.run (t - s.clk.now) else s.clk) with now := max s.clk.now t }
    regs := { s.regs with hot := if s.clk.now < t then [] else s.regs.hot }
    hoist := { s.hoist with sent := [] }
    evt := { s.evt with tied := if s.clk.now < t then 0 else s.evt.tied } }

/-- The elapsed time since an instant. -/
def State.since (s : State) (at_ : Nat) : Nat := s.clk.now - at_

/-- A reported safe state (Table 2.2 SAFE, R497). -/
def State.inSafe (s : State) : Bool := decide (s.mode.cur = .safeBeam ∨ s.mode.cur = .safeDark)

/-- BUSY of SYS.MODE: a transition is in progress, or bring-up before LIMP. -/
def State.busy (s : State) : Bool := s.mode.trans.isSome || decide (s.mode.cur = .boot)

/-- The next free value. -/
def State.fresh (s : State) : Nat × State := (Config.freeValue s.free, { s with free := s.free + 1 })

/-! ### Raises -/

/-- The EVT register bit that a raise of a source also sets, by source and instance: Tables 6.12, 7.16, 8.9, 9.12, 10.14, 10.16,
12.8, 14.7 and 15.10. -/
def evtBit (code inst : Nat) : Option (Nat × Nat) :=
  match code with
  | 0x143 => some (0x50009, 8) | 0x145 => some (0x50009, 16) | 0x146 => some (0x50009, 16)
  | 0x147 => some (0x50009, 32) | 0x148 => some (0x50009, 32) | 0x14A => some (0x50009, 64) | 0x14B => some (0x50009, 64)
  | 0x180 => some (0x60049 + 16 * inst, 1) | 0x181 => some (0x60049 + 16 * inst, 2) | 0x182 => some (0x60049 + 16 * inst, 4)
  | 0x183 => some (0x60049 + 16 * inst, 8) | 0x184 => some (0x60049 + 16 * inst, 16) | 0x185 => some (0x60049 + 16 * inst, 32)
  | 0x186 => some (0x60049 + 16 * inst, 64)
  | 0x1C6 => some (0x7000A, 1) | 0x1C7 => some (0x7000A, 1) | 0x1C4 => some (0x7000A, 2) | 0x1C5 => some (0x7000A, 2)
  | 0x1C3 => some (0x7000A, 4) | 0x1C8 => some (0x7000A, 8) | 0x1C2 => some (0x7000A, 16)
  | 0x200 => some (0x80008, 1) | 0x201 => some (0x80008, 2) | 0x202 => some (0x80008, 4) | 0x203 => some (0x80008, 8)
  | 0x204 => some (0x80008, 16) | 0x205 => some (0x80008, 32)
  | 0x240 => some (0x90003, 1) | 0x241 => some (0x90003, 2) | 0x242 => some (0x90003, 2) | 0x244 => some (0x90003, 4)
  | 0x243 => some (0x90003, 8)
  | 0x28E => some (0xA0007, 1) | 0x286 => some (0xA0007, 2) | 0x280 => some (0xA0007, 4) | 0x281 => some (0xA0007, 4)
  | 0x28A => some (0xA0007, 8) | 0x28D => some (0xA0007, 16) | 0x287 => some (0xA0007, 32) | 0x288 => some (0xA0007, 32)
  | 0x289 => some (0xA0007, 32)
  | 0x300 => some (0xC0007, 1) | 0x301 => some (0xC0007, 2) | 0x302 => some (0xC0007, 4) | 0x309 => some (0xC0007, 4)
  | 0x30A => some (0xC0007, 4) | 0x303 => some (0xC0007, 8) | 0x304 => some (0xC0007, 16) | 0x305 => some (0xC0007, 32)
  | 0x306 => some (0xC0007, 64) | 0x308 => some (0xC0007, 128)
  | 0x340 => some (0xD0004, 1) | 0x341 => some (0xD0004, 2) | 0x342 => some (0xD0004, 4) | 0x343 => some (0xD0004, 8)
  | 0x344 => some (0xD0004, 16) | 0x345 => some (0xD0004, 32) | 0x346 => some (0xD0004, 64)
  | 0x3C3 => some (0xF0103, 1) | 0x3C4 => some (0xF0103, 1) | 0x3C8 => some (0xF0103, 2) | 0x3C9 => some (0xF0103, 4)
  | 0x3C5 => some (0xF0103, 8) | 0x3C6 => some (0xF0103, 8) | 0x3C7 => some (0xF0103, 16)
  | _ => none

/-- The word of a source's PEND bit (Table 11.2). -/
def pendAddr (code : Nat) : Nat := srcBlock code * 65536 + 0xFFF1 + srcIdx code / 32

/-- Set a source's PEND bit (R495) and its EVT register bit. -/
def State.setPend (s : State) (code inst : Nat) : State :=
  let s := s.hwSet (pendAddr code) (2 ^ (srcIdx code % 32))
  match evtBit code inst with
  | some (a, m) => s.hwSet a m
  | none => s

/-- The microsecond stamp of an entry (R498). -/
def State.stamp (s : State) : Nat := s.clk.dtime / 1000 % 2 ^ 48

/-- An entry among those of the same instant, behind those whose code is not higher (R500). -/
def slotIn (e : Entry) : List Entry → List Entry
  | [] => [e]
  | x :: t => if e.code < x.code then e :: x :: t else x :: slotIn e t

/-- One raise reaches the recorder: counted in RAISED, and queued in ascending code within its instant. The queue holds 16 entries; the raise
that finds it full is counted in QOVF (R500). -/
def State.enqueue (s : State) (e : Entry) : State :=
  let r := s.evt
  let k := r.queue.length - r.tied
  let q := r.queue.take k ++ slotIn e (r.queue.drop k)
  if r.queue.length < 16 then { s with evt := { r with raised := r.raised + 1, queue := q, tied := r.tied + 1 } }
  else { s with evt := { r with raised := r.raised + 1, qovf := r.qovf + 1, queue := q.take r.queue.length } }

/-- A recorder entry stamped now (Table 11.4). -/
def State.entry (s : State) (code inst data : Nat) : Entry :=
  { ts := s.stamp, code := code, cls := entryClass code, inst := inst % 256, act := false, ack := false, esc := false, lost := false,
    hv := false, frame := BitVec.ofNat 16 s.scan.framecnt, data := BitVec.ofNat 32 data }

/-- The fault of a code among the active ones. -/
def State.activeOf (s : State) (code : Nat) : Option Active := s.flt.active.find? (fun a => a.code == code)

/-- How many faults of a class the logic die counts as active (R489). -/
def State.classCount (s : State) (cls : Nat) : Nat := (s.flt.active.filter (fun a => a.seen && a.cls == cls)).length

/-- How many ENS-block faults of a class are active (R491). -/
def State.ensCount (s : State) (cls : Nat) : Nat := (s.flt.active.filter (fun a => isEns a.code && a.cls == cls)).length

/-- Active faults of a block. -/
def State.blockActive (s : State) (b : Nat) : List Active := s.flt.active.filter (fun a => srcBlock a.code == b)

/-- The grace of a class in ns of the last applied FAULT set (R493, Table 11.6). -/
def State.grace (s : State) (cls : Nat) : Nat :=
  100000 * (if cls < 4 then s.fld 0xB000C (8 * cls + 7) (8 * cls) else s.fld 0xB000D (8 * (cls - 4) + 7) (8 * (cls - 4)))

/-- Start a class's logic-die timer at the activation that takes its count from zero to one (R489). Class T has none (R494). -/
def State.startTimer (s : State) (cls : Nat) : State :=
  if cls < 7 ∧ s.classCount cls = 1 then
    let t : Timer := { start := some s.clk.dtime, expired := false, due := decide (s.grace cls = 0) }
    { s with flt := { s.flt with timers := vset s.flt.timers cls t } }
  else s

/-- The grace of class P or I in ns as the Ensign times it (R491). -/
def State.ensGrace (s : State) (cls : Nat) : Nat := 100000 * bits s.ens.grace1.toNat (8 * (cls - 4) + 7) (8 * (cls - 4))

/-- Start the Ensign's own timer of class P or I (R491). -/
def State.startEnsTimer (s : State) (cls : Nat) : State :=
  if s.ensCount cls = 1 then
    (if cls = clsP then { s with flt := { s.flt with ensP := { start := some s.clk.now, expired := false, due := decide (s.ensGrace cls = 0) } } }
     else if cls = clsI then { s with flt := { s.flt with ensI := { start := some s.clk.now, expired := false, due := decide (s.ensGrace cls = 0) } } }
     else s)
  else s

/-- Stop the timers of a class whose count is back at zero (R489, R492). -/
def State.stopTimers (s : State) (cls : Nat) : State :=
  let s := if cls < 7 ∧ s.classCount cls = 0 then { s with flt := { s.flt with timers := vset s.flt.timers cls Timer.reset } } else s
  if s.ensCount cls = 0 then
    (if cls = clsP then { s with flt := { s.flt with ensP := Timer.reset } }
     else if cls = clsI then { s with flt := { s.flt with ensI := Timer.reset } }
     else s)
  else s

/-- The first-source latch of a block at an activation (R483). -/
def State.latchFault (s : State) (code cls inst : Nat) : State :=
  let b := srcBlock code
  let l := vget s.flt.latch b
  let l' : Latch := if l.valid then { l with ovf := true }
    else { valid := true, idx := srcIdx code, cls := cls, inst := inst % 256, ovf := false }
  { s with flt := { s.flt with latch := vset s.flt.latch b l' } }

/-- A fault's condition is present on an instance; the flag says whether the raise was an activation (R482). -/
def State.present (s : State) (code cls inst data : Nat) (seen : Bool) : State × Bool :=
  match s.activeOf code with
  | some _ =>
    ({ s with flt := { s.flt with active := s.flt.active.map (fun a =>
        if a.code = code then
          { a with
            conds := if a.conds.contains inst then a.conds else a.conds ++ [inst]
            again := a.again.filter (fun g => g.at_ == s.clk.now) ++
              [{ at_ := s.clk.now, inst := inst, data := data, fresh := !a.conds.contains inst }] }
        else a) } }, false)
  | none =>
    let a : Active := { code := code, cls := cls, inst := inst, conds := [inst], seen := seen, born := s.clk.now, again := [] }
    ((({ s with flt := { s.flt with active := s.flt.active ++ [a] } } : State)).latchFault code cls inst, true)

/-- Count an activation for its class (Table 11.7 ACTS). -/
def State.countAct (s : State) (cls : Nat) : State :=
  { s with flt := { s.flt with acts := vmod s.flt.acts cls (· + 1) } }

/-- A raise of a logic-die source (R482, R483, R489, R495, R500). A grace of 0 marks the class's timer due; the command's end escalates. -/
def State.raise0 (s : State) (code inst data : Nat) : State :=
  let s := s.setPend code inst
  match faultClass code with
  | none => s.enqueue (s.entry code inst data)
  | some cls =>
    let res := s.present code cls inst data true
    let s := res.1
    if res.2 then ((s.startTimer cls).countAct cls).enqueue { s.entry code inst data with act := true }
    else s.enqueue (s.entry code inst data)

/-- Raise of an event of instance 0 without data. -/
def State.event (s : State) (code : Nat) : State := s.raise0 code 0 0

/-- The condition of a fault is absent on one instance. -/
def State.resolve (s : State) (code inst : Nat) : State :=
  { s with flt := { s.flt with active := s.flt.active.map (fun a =>
      if a.code = code then { a with conds := a.conds.filter (· != inst) } else a) } }

/-- The condition of a fault is absent on every instance. -/
def State.resolveAll (s : State) (code : Nat) : State :=
  { s with flt := { s.flt with active := s.flt.active.map (fun a => if a.code = code then { a with conds := [] } else a) } }

/-! ### Events of the HV die (R618) -/

/-- Send the oldest waiting event when none is outstanding (R614, R618); when none waits and losses are to be reported, DROPS. -/
def State.pumpUp (s : State) : State :=
  let s := match s.dl.evOut, s.dl.evBuf with
    | none, e :: t =>
      { s with dl := { s.dl with
          evBuf := t
          evOut := some { body := e, tag := s.dl.evNext, resends := 0, sentAt := s.clk.now }
          evNext := s.dl.evNext + 1 } }
    | _, _ => s
  if s.dl.dropOut.isNone ∧ s.dl.lostNow ≠ 0 ∧ s.dl.evBuf.length < 16 then
    { s with dl := { s.dl with
        dropOut := some { body := s.dl.lostNow, tag := s.dl.dropNext, resends := 0, sentAt := s.clk.now }
        dropNext := s.dl.dropNext + 1, lostNow := 0 } }
  else s

/-- An event enters the HV die's 16-entry buffer, or is counted lost (R618). -/
def State.bufferHv (s : State) (e : HvEvent) : State :=
  if s.dl.evBuf.length < 16 then ({ s with dl := { s.dl with evBuf := s.dl.evBuf ++ [e] } }).pumpUp
  else ({ s with dl := { s.dl with hvLost := satAdd s.dl.hvLost 1, lostNow := s.dl.lostNow + 1 } }).pumpUp

/-- A raise on the HV die. An ENS-block source latches there and then (R488); any other source does so when its EVENT arrives. Either sets its
PEND bit at once, that of a logic-die block while its die runs (R495). A fault's class timer on the logic die starts at the arrival (R489), the Ensign's at once (R491). -/
def State.raiseHv (s : State) (code inst data : Nat) : State :=
  if isEns code then
    let s := s.setPend code inst
    match faultClass code with
    | none => s.bufferHv { code := code, inst := inst, data := data, act := false, esc := false, pended := true }
    | some cls =>
      let res := s.present code cls inst data false
      let s := res.1
      (if res.2 then s.startEnsTimer cls else s).bufferHv { code := code, inst := inst, data := data, act := res.2, esc := false, pended := true }
  else
    (if s.pow.logicOn then s.setPend code inst else s).bufferHv
      { code := code, inst := inst, data := data, act := false, esc := false, pended := s.pow.logicOn }

/-! ### Messages on HTX -/

/-- The message layer runs: the link is up and not training. -/
def State.hoistUp (s : State) : Bool := decide (s.hoist.st = .limp ∨ s.hoist.st = .bonded)

/-- Send one message on HTX; XSTAT, REPLY and TREPLY are retained until acknowledged (R408). -/
def State.htx (s : State) (cls : Nat) (cf body : List Byte) : State :=
  let i := cls - 0x80
  let m : HtxMsg := { cls := BitVec.ofNat 8 cls, cseq := vget s.hoist.outNext i, cf := cf, body := body }
  let h : Hoist := { s.hoist with
    outNext := vmod s.hoist.outNext i (· + 1)
    retained := if cls = 0x81 ∨ cls = 0x82 ∨ cls = 0x83 then s.hoist.retained ++ [m] else s.hoist.retained }
  { s with hoist := if s.hoistUp then { h.hand s.clk.dtime m with sent := h.sent ++ [m] } else h }

/-- A cumulative limit allows one more message (R26 over 16 bits). -/
def creditLeft (limit sent : Half) : Bool := later 16 limit.toNat sent.toNat

/-- Send waiting REPLY messages within REPLYADV (R409). -/
def State.sendReplies : Nat → State → State
  | 0, s => s
  | n + 1, s =>
    match s.hoist.replyQ with
    | [] => s
    | b :: t =>
      if s.hoistUp && creditLeft s.hoist.replyAdv s.hoist.replySent then
        State.sendReplies n
          (({ s with hoist := { s.hoist with replyQ := t, replySent := s.hoist.replySent + 1 } }).htx 0x82 [] b)
      else s

/-! ### Packets and replies -/

/-- A packet: header, parameters or data, CRC under the sequence (Table 2.1, R88). -/
def packet (sync b1 tag flags : Byte) (seq : Word) (data : List Byte) : List Byte :=
  let h := [sync, b1, tag, flags] ++ le 2 data.length ++ data
  h ++ le 4 (crc32c seq h).toNat

/-- The number p of a port (Table 2.3). -/
def portIdx : Port → Fin 3
  | .cspi => 0 | .wspi => 1 | .hcmd => 2

def spiPort : SpiPort → Port
  | .cspi => .cspi | .wspi => .wspi

def State.port (s : State) (p : Port) : PortState := s.ports[portIdx p]
def State.setPort (s : State) (p : Port) (x : PortState) : State := { s with ports := s.ports.set (portIdx p) x }

/-- RBFULL: fewer than 1,034 bytes free in the 4,096-byte reply buffer; always 0 on Hoist CMD (R95, Table 2.5). -/
def PortState.rbFull (ps : PortState) (p : Port) : Bool := decide (p ≠ .hcmd) && decide (4096 - ps.buf.length < 1034)

/-- Reply FLAGS (Table 2.2). -/
def State.replyFlags (s : State) (last : Bool) : Byte :=
  BitVec.ofNat 8 (b2n s.inSafe + 2 * b2n (!s.flt.active.isEmpty) + 4 * b2n (decide (s.evt.cursor < s.evt.store.length)) + 8 * b2n last)

/-- The check of R99 at a placement: ACCEPT less REPLY equals the tags outstanding. -/
def State.auditReplies (s : State) (p : Port) : State :=
  let ps := s.port p
  if (ps.accept - ps.replied).toNat = ps.tags.length then s.resolve 0x041 (portIdx p).val else s.raise0 0x041 (portIdx p).val 0

/-- A reply's data with what its placement fills in (R24, R90, Table 2.15). -/
def State.filled (s : State) (r : Reply) : List Byte :=
  match r.fill with
  | .none => r.data
  | .mode => r.data.take 1 ++ le 1 s.mode.cur.code ++ r.data.drop 2
  | .modeTime => r.data.take 1 ++ le 1 s.mode.cur.code ++ le 2 0 ++ le 8 s.clk.dtime
  | .frame => r.data.take 8 ++ le 6 s.scan.framecnt ++ r.data.drop 14

/-- Place one reply: into the SPI reply buffer, or into the queue of Hoist replies (R81, R409). The tag is freed, REPLY and the
reply sequence advance (R89, R101). -/
def State.place (s : State) (p : Port) (r : Reply) : State :=
  let ps := s.port p
  let pkt := packet 0xC5 r.status r.tag (s.replyFlags r.last) ps.repSeq (s.filled r)
  let ps' := { ps with repSeq := ps.repSeq + 1, replied := ps.replied + 1, tags := if r.frees then ps.tags.filter (·.tag != r.tag) else ps.tags }
  let s' := match p with
    | .hcmd =>
      let s := s.setPort p ps'
      ({ s with hoist := { s.hoist with replyQ := s.hoist.replyQ ++ [pkt] } }).sendReplies 1
    | _ => s.setPort p { ps' with buf := ps.buf ++ pkt }
  let s'' := s'.auditReplies p
  if !ps.rbFull p && (s''.port p).rbFull p then s''.raise0 0x043 (portIdx p).val 0 else s''

/-- Replies kept across a RESET, then held replies, go to the buffer while RBFULL is 0, in order (R95, R123). -/
def State.placeHeld : Nat → Port → State → State
  | 0, _, s => s
  | n + 1, p, s =>
    let ps := s.port p
    if ps.rbFull p then s
    else match ps.carry, ps.held with
      | c :: t, _ => State.placeHeld n p (s.setPort p { ps with carry := t, buf := ps.buf ++ c })
      | [], r :: t => State.placeHeld n p ((s.setPort p { ps with held := t }).place p r)
      | [], [] => s

/-- A completed reply: placed at once where it can be, held in completion order otherwise (R95). -/
def State.reply (s : State) (p : Port) (r : Reply) : State :=
  let ps := s.port p
  if ps.held.isEmpty && ps.carry.isEmpty && !ps.rbFull p then s.place p r
  else State.placeHeld (ps.carry.length + ps.held.length + 1) p (s.setPort p { ps with held := ps.held ++ [r] })

/-- The reply that ends an admitted command; `fill` names what its placement adds. -/
def State.answerFill (s : State) (id : ReqId) (status : Nat) (fill : Fill) (data : List Byte) : State :=
  s.reply id.port { tag := id.tag, status := BitVec.ofNat 8 status, data := data, fill := fill, last := false, frees := true }
def State.answer (s : State) (id : ReqId) (status : Nat) (data : List Byte) : State := s.answerFill id status .none data

/-- A request is discarded as a framing failure or under RBFULL: counted on its port (R9, R87, R95). -/
def State.discard (s : State) (p : Port) : State :=
  (s.setPort p { s.port p with discard := satAdd (s.port p).discard 1 }).raise0 0x040 (portIdx p).val 0

/-! ### Status codes (Table 2.8) -/

def stOk : Nat := 0x00
def stBadOpcode : Nat := 0x01
def stBadLen : Nat := 0x02
def stBadParam : Nat := 0x03
def stPortDenied : Nat := 0x04
def stModeDenied : Nat := 0x05
def stBusy : Nat := 0x06
def stTagsExhausted : Nat := 0x07
def stTagInUse : Nat := 0x08
def stBadAddr : Nat := 0x09
def stCommitRefused : Nat := 0x0A
def stSuperseded : Nat := 0x0B
def stPreempted : Nat := 0x0C
def stTransferAborted : Nat := 0x0D
def stWakeActive : Nat := 0x0E
def stSwitchFault : Nat := 0x0F
def stXtalNotReady : Nat := 0x10
def stNoLease : Nat := 0x11
def stAlreadyLeased : Nat := 0x12
def stIncomplete : Nat := 0x13
def stCrcMismatch : Nat := 0x14
def stSupplyInhibit : Nat := 0x15
def stNotResolved : Nat := 0x16
def stStaleAck : Nat := 0x17
def stInUse : Nat := 0x18
def stTimeout : Nat := 0x19

end Sys2Proof.Machine
end

