-- ==== Sys2Proof/Machine/Enforce.lean ====
section
/-! DEFINITION. The enforced thermal level (R521 to R525): its rises, and its rise at the end of the grace. -/

namespace Sys2Proof.Machine

/-- The enforcement grace in ns (Table 12.7). -/
def State.enfGrace (s : State) : Nat := s.fld 0xC0000 6 0 * 100000000

/-- The thermal budget in mW (R524). -/
def State.thermalBudget (s : State) : Nat := s.fld 0xF0000 15 0 * (10 - s.thm.enf) / 10

/-- A change of the thermal budget raises PWR_THBUD: ENF or PMAX has changed (R524). -/
def State.budgetMoved (s : State) : State :=
  if s.thermalBudget = s.tok.thbud then s else ({ s with tok := { s.tok with thbud := s.thermalBudget } } : State).event 0x3CA

/-- ENF rises to `l`: THM_ENFORCE with DATA = ENF, and PWR_THBUD (R522, R524, R525). -/
def State.riseEnf (l : Nat) (s : State) : State :=
  if s.thm.enf < l then
    ((({ s with thm := { s.thm with enf := l, enfAt := s.clk.dtime, belowAt := none } } : State)).raise0 0x301 0 l).budgetMoved
  else s

/-- The highest level that TGT has held for GRACE (R522). -/
def State.heldLevel (s : State) : Nat :=
  ((List.range 8).filter (fun l => match vget s.thm.levelAt l with
    | some t0 => decide (s.enfGrace ≤ s.clk.dtime - t0)
    | none => false)).foldl max 0

/-- ENF rises to the level whose grace has passed (R522, R539). -/
def State.graceDue (s : State) : State := s.riseEnf s.heldLevel

end Sys2Proof.Machine
end

