-- ==== Sys2Proof/Machine/Pixels.lean ====
section
/-! DEFINITION. The picture: surface formats and footprints, ATC tiles, scaling, warp, colour, blending, the dark-dominant stages, dark
zones and the coarse mask, as functions of latched values (chapters 3, 4 and 5). -/

namespace Sys2Proof.Machine

/-! ### Surfaces (R136 to R158) -/

/-- Table 3.6: the format codes. -/
def fmtValid (f : Nat) : Bool := decide (1 ≤ f ∧ f ≤ 5) || decide (0x11 ≤ f ∧ f ≤ 0x14)
def fmtAtc (f : Nat) : Bool := decide (0x10 ≤ f)
/-- The uncompressed format that an ATC format's pixels follow. -/
def fmtBase (f : Nat) : Nat := f % 16
/-- Bytes per pixel of an uncompressed format. -/
def fmtBytes (f : Nat) : Nat := match fmtBase f with | 1 => 1 | 2 => 2 | 3 => 4 | 4 => 4 | _ => 2
/-- ATC slot words S (R154). -/
def atcSlot (f : Nat) : Nat := match fmtBase f with | 1 => 2 | 2 => 4 | _ => 8
/-- ATC channels and their width in bits. -/
def atcChans (f : Nat) : Nat := match fmtBase f with | 1 => 1 | 2 => 1 | 3 => 2 | _ => 4
def atcBits (f : Nat) : Nat := match fmtBase f with | 1 => 8 | 2 => 16 | 3 => 16 | _ => 8
def atcTw (w : Nat) : Nat := ceilDiv w 16
/-- Header region words H (R154). -/
def atcHdr (w h : Nat) : Nat := ceilDiv (atcTw w * atcTw h) 16

/-- Footprint in words (R138, R154). -/
def footWords (f w h stride : Nat) : Nat :=
  if fmtAtc f then atcHdr w h + atcTw w * atcTw h * atcSlot f else stride * h / 128

def Surface.words (u : Surface) : Nat := footWords u.format u.width u.height u.stride
def Surface.bytes (u : Surface) : Nat := 128 * u.words

/-- A row of 16 values of an ATC channel (R158). -/
def atcRow (stream b w : Nat) : Nat → Nat → Nat → List Nat
  | 0, _, _ => []
  | n + 1, pos, pred =>
    let z := stream / 2 ^ pos % 2 ^ w
    let v := if z % 2 = 1 then (pred + 2 ^ b - (z + 1) / 2 % 2 ^ b) % 2 ^ b else (pred + z / 2) % 2 ^ b
    v :: atcRow stream b w n (pos + w) v

/-- The channels of one tile row; none where a width field is too large or the stream runs past its end (R159). -/
def atcLine (stream limit b : Nat) : List Nat → Nat → Option (Nat × List (List Nat))
  | [], pos => some (pos, [])
  | p :: ps, pos =>
    let wb := if b = 8 then 4 else 5
    let w := stream / 2 ^ pos % 2 ^ wb
    let pos' := pos + wb + 16 * w
    if b < w ∨ limit < pos' then none
    else match atcLine stream limit b ps pos' with
      | none => none
      | some (q, rows) => some (q, atcRow stream b w 16 (pos + wb) p :: rows)

/-- The rows of a tile; the prediction of a row's first value is the first value of the row above (R158). -/
def atcRows (stream limit b : Nat) : Nat → List Nat → Nat → Option (Nat × List (List (List Nat)))
  | 0, _, pos => some (pos, [])
  | n + 1, preds, pos =>
    match atcLine stream limit b preds pos with
    | none => none
    | some (q, row) =>
      match atcRows stream limit b n (row.map (fun r => r.headD 0)) q with
      | none => none
      | some (e, rows) => some (e, row :: rows)

/-- Split a raw pixel of a base format into its channels (Table 3.6). -/
def splitPixel (base v : Nat) : List Nat :=
  match base with
  | 3 => [v % 65536, v / 65536 % 65536]
  | 4 => [v % 256, v / 256 % 256, v / 65536 % 256, v / 16777216 % 256]
  | 5 => [v / 2048 % 32, v / 32 % 64, v % 32]
  | 1 => [v % 256]
  | _ => [v % 65536]

/-- The pixels of an ATC tile, row by row, each a list of channels; none is a decode failure (R155, R158, R159). -/
def atcTile (f : Nat) (hdr slot : List Byte) : Option (List (List (List Nat))) :=
  let b0 := leAt hdr 0 1
  let words := b0 % 16
  let mode := b0 / 16
  let s := atcSlot f
  if mode = 0 then
    (if words = s then
      some ((List.range 16).map (fun y => (List.range 16).map (fun x =>
        splitPixel (fmtBase f) (leAt slot ((y * 16 + x) * fmtBytes f) (fmtBytes f)))))
     else none)
  else if mode = 2 then
    (if words = 0 then
      some (List.replicate 16 (List.replicate 16 (splitPixel (fmtBase f) (leAt hdr 4 4))))
     else none)
  else if mode = 1 then
    (if 1 ≤ words ∧ words < s then
      let stream := ofLe (slot.take (words * 128))
      match atcRows stream (words * 1024) (atcBits f) 16 (List.replicate (atcChans f) 0) 0 with
      | none => none
      | some (e, rows) =>
        if stream / 2 ^ e = 0 then
          some (rows.map (fun row => (List.range 16).map (fun x => row.map (fun ch => ch.getD x 0))))
        else none
     else none)
  else none

/-- The ATC tile that holds pixel (x, y) of a surface. -/
def atcIndex (u : Surface) (x y : Nat) : Nat := y / 16 * atcTw u.width + x / 16

def atcTileAt (m : List Host.Cell) (u : Surface) (t : Nat) : Option (List (List (List Nat))) :=
  let hdr := sparseBytes m (u.base * 128 + 8 * t) 8
  let slot := sparseBytes m ((u.base + atcHdr u.width u.height + t * atcSlot u.format) * 128) (atcSlot u.format * 128)
  atcTile u.format hdr slot

/-- Channel expansion to 16 bits (Table 4.10). -/
def expand (w v : Nat) : Nat :=
  if w = 8 then v * 257
  else if w = 6 then v * 1024 + v * 16 + v / 4
  else if w = 5 then v * 2048 + v * 64 + v * 2 + v / 16
  else v

/-- The expanded channels of a raw pixel as [c0, c1, c2, alpha] (R186). -/
def expandPixel (base : Nat) (cs : List Nat) : List Nat :=
  match base with
  | 1 => [expand 8 (cs.getD 0 0), 0, 0, 65535]
  | 2 => [cs.getD 0 0, 0, 0, 65535]
  | 3 => [cs.getD 0 0, cs.getD 1 0, 0, 65535]
  | 4 => [expand 8 (cs.getD 0 0), expand 8 (cs.getD 1 0), expand 8 (cs.getD 2 0), expand 8 (cs.getD 3 0)]
  | _ => [expand 5 (cs.getD 0 0), expand 6 (cs.getD 1 0), expand 5 (cs.getD 2 0), 65535]

/-- Pixel (x, y) of a surface; a tile that does not decode reads as zero pixels (R159). -/
def srcPixel (m : List Host.Cell) (u : Surface) (x y : Nat) : List Nat :=
  if fmtAtc u.format then
    match atcTileAt m u (atcIndex u x y) with
    | some rows => expandPixel (fmtBase u.format) ((rows.getD (y % 16) []).getD (x % 16) [])
    | none => expandPixel (fmtBase u.format) []
  else
    expandPixel u.format (splitPixel u.format
      (ofLe (sparseBytes m (u.base * 128 + y * u.stride + x * fmtBytes u.format) (fmtBytes u.format))))

/-! ### Layers (Tables 4.4 to 4.9) -/

/-- A layer as latched. -/
structure LayerCfg where
  ctl : Nat
  srcx : Nat
  srcy : Nat
  srcw : Nat
  srch : Nat
  dstx : Nat
  dsty : Nat
  dstw : Nat
  dsth : Nat
  alpha : Nat
  mixcw : Nat
  mixam : Nat
  mat : List Int
  stepH : Nat
  stepV : Nat
  deriving DecidableEq, Repr

def layerAddr (n : Nat) : Nat := 0x30400 + 16 * n

/-- The layer's values from a word reader, with its steps. -/
def layerCfg (w : Nat → Nat) (n : Nat) (steps : Nat × Nat) : LayerCfg :=
  let a := layerAddr n
  { ctl := w a, srcx := bits (w (a + 1)) 12 0, srcy := bits (w (a + 1)) 27 16, srcw := bits (w (a + 2)) 13 0,
    srch := bits (w (a + 2)) 28 16, dstx := bits (w (a + 3)) 10 0, dsty := bits (w (a + 3)) 24 16, dstw := bits (w (a + 4)) 11 0,
    dsth := bits (w (a + 4)) 25 16, alpha := bits (w (a + 5)) 15 0, mixcw := bits (w (a + 6)) 15 0, mixam := bits (w (a + 6)) 31 16,
    mat := [7, 8, 9, 10].flatMap (fun k => [signed 16 (w (a + k)), signed 16 (w (a + k) / 65536)]),
    stepH := steps.1, stepV := steps.2 }

def LayerCfg.en (l : LayerCfg) : Bool := bit l.ctl 0
def LayerCfg.live (l : LayerCfg) : Bool := bit l.ctl 1
def LayerCfg.proj (l : LayerCfg) : Bool := bit l.ctl 2
def LayerCfg.warp (l : LayerCfg) : Bool := bit l.ctl 3
def LayerCfg.mesh (l : LayerCfg) : Nat := bits l.ctl 4 4
def LayerCfg.blend (l : LayerCfg) : Nat := bits l.ctl 7 5
def LayerCfg.maten (l : LayerCfg) : Bool := bit l.ctl 8
def LayerCfg.hfilt (l : LayerCfg) : Nat := bits l.ctl 10 9
def LayerCfg.vfilt (l : LayerCfg) : Nat := bits l.ctl 12 11
def LayerCfg.hdec (l : LayerCfg) : Nat := bits l.ctl 14 13
def LayerCfg.surf (l : LayerCfg) : Nat := bits l.ctl 22 16
/-- Pre-decimated width (R188). -/
def LayerCfg.wp (l : LayerCfg) : Nat := ceilDiv l.srcw (2 ^ l.hdec)

/-- The steps of a layer (R189). -/
def layerSteps (l : LayerCfg) : Nat × Nat :=
  ((l.wp * 65536 + l.dstw / 2) / l.dstw, (l.srch * 65536 + l.dsth / 2) / l.dsth)

/-- Rounding to the nearest integer, halves away from zero. -/
def roundAway (n : Int) (d : Nat) : Int :=
  if 0 ≤ n then (2 * n + d) / (2 * d) else -((-2 * n + d) / (2 * d))

/-- Filter taps: offset from tap k, and coefficient (Table 4.11). -/
def filterTaps (f p : Nat) : List (Int × Int) :=
  let q : Int := p
  if f = 0 then [((if p < 32 then 0 else 1), 1024)]
  else if f = 1 then [(0, 1024 - 16 * q), (1, 16 * q)]
  else
    let cm := roundAway (-(q * q * q) + 128 * (q * q) - 4096 * q) 512
    let c1 := roundAway (-3 * (q * q * q) + 256 * (q * q) + 4096 * q) 512
    let c2 := roundAway (q * q * q - 64 * (q * q)) 512
    [(-1, cm), (0, 1024 - cm - c1 - c2), (1, c1), (2, c2)]

/-- An integer limited to 0 to `hi`. -/
def limitTo (hi : Nat) (v : Int) : Nat := if v < 0 then 0 else if (hi : Int) < v then hi else v.toNat

/-- A filter result (R192): an arithmetic shift, clamped to 0 to 65,535. -/
def filterSum (taps : List (Int × Int)) (k : Int) (hi : Nat) (sample : Nat → Nat) : Nat :=
  limitTo 65535 ((taps.foldl (fun acc t => acc + t.2 * (sample (limitTo hi (k + t.1)) : Int)) 0 + 512) / 1024)

/-- Tap and phase of a 16.16 position (R190). -/
def tapOf (pos : Int) : Int := pos / 65536
def phaseOf (pos : Int) : Nat := ((pos - 65536 * (pos / 65536)) / 1024).toNat

/-- Source position of destination column or row `i` (R190). -/
def srcPos (i step : Nat) : Int := (i : Int) * step + (step / 2 : Nat) - 32768

/-- Channel `c` of pre-decimated column `col` in crop line `row` (R187, R188). -/
def decimated (m : List Host.Cell) (u : Surface) (l : LayerCfg) (c col row : Nat) : Nat :=
  let d := 2 ^ l.hdec
  let total := (List.range d).foldl (fun acc i =>
    acc + (srcPixel m u (l.srcx + min (d * col + i) (l.srcw - 1)) (l.srcy + row)).getD c 0) 0
  (total + d / 2) / d

/-- Channel `c` of the scaled layer at destination position (i, j): stages 1 to 4. A horizontal tap outside is replaced by the edge column
of the pre-decimated row, which with HDEC 0 is the edge pixel of R187 (DESIGN CHOICE for HDEC above 0, assumption 114). -/
def scaled (m : List Host.Cell) (u : Surface) (l : LayerCfg) (c i j : Nat) : Nat :=
  let px := srcPos i l.stepH
  let py := srcPos j l.stepV
  filterSum (filterTaps l.vfilt (phaseOf py)) (tapOf py) (l.srch - 1) (fun row =>
    filterSum (filterTaps l.hfilt (phaseOf px)) (tapOf px) (l.wp - 1) (fun col => decimated m u l c col row))

/-- Mesh point (i, j) of mesh `mesh`: horizontal and vertical position (R193). -/
def meshPoint (w : Nat → Nat) (mesh i j : Nat) : Int × Int :=
  let v := w (0x31000 + 0x200 * mesh + 33 * j + i)
  (signed 16 v, signed 16 (v / 65536))

/-- The mesh position of output pixel (x, y) in the scaled layer, 16.16 (R193). -/
def meshPos (w : Nat → Nat) (l : LayerCfg) (x y : Nat) : Int × Int :=
  let i := x / 64
  let j := y / 64
  let fx : Int := (x % 64 : Nat)
  let fy : Int := (y % 64 : Nat)
  let p00 := meshPoint w l.mesh i j
  let p10 := meshPoint w l.mesh (i + 1) j
  let p01 := meshPoint w l.mesh i (j + 1)
  let p11 := meshPoint w l.mesh (i + 1) (j + 1)
  let mix (a b c d : Int) : Int := a * (64 - fx) * (64 - fy) + b * fx * (64 - fy) + c * (64 - fx) * fy + d * fx * fy
  (2 * mix p00.1 p10.1 p01.1 p11.1 - 65536 * l.dstx, 2 * mix p00.2 p10.2 p01.2 p11.2 - 65536 * l.dsty)

/-- A layer covers output pixel (x, y) (R182, R194). -/
def covers (w : Nat → Nat) (l : LayerCfg) (x y : Nat) : Bool :=
  if l.warp then
    let p := meshPos w l x y
    decide (-32768 ≤ p.1 ∧ p.1 < 65536 * (l.dstw : Int) - 32768 ∧ -32768 ≤ p.2 ∧ p.2 < 65536 * (l.dsth : Int) - 32768)
  else decide (l.dstx ≤ x ∧ x < l.dstx + l.dstw ∧ l.dsty ≤ y ∧ y < l.dsty + l.dsth)

/-- Channel `c` of a layer at a covered output pixel: stages 1 to 5 (R194). -/
def sample (m : List Host.Cell) (w : Nat → Nat) (u : Surface) (l : LayerCfg) (c x y : Nat) : Nat :=
  if l.warp then
    let p := meshPos w l x y
    filterSum (filterTaps 1 (phaseOf p.2)) (tapOf p.2) (l.dsth - 1) (fun j =>
      filterSum (filterTaps 1 (phaseOf p.1)) (tapOf p.1) (l.dstw - 1) (fun i => scaled m u l c i j))
  else scaled m u l c (x - l.dstx) (y - l.dsty)

/-- Colour (R196 to R198): the CW and AM of a sample. -/
def colour (l : LayerCfg) (base : Nat) (c0 c1 c2 : Nat) : Nat × Nat :=
  if base = 3 then (c0, c1)
  else if base = 1 ∨ base = 2 then
    (min 65535 ((c0 * l.mixcw + 16384) / 32768), min 65535 ((c0 * l.mixam + 16384) / 32768))
  else
    let mm (i : Nat) : Int := l.mat.getD i 0
    let f (a : Nat) : Nat := limitTo 65535 ((mm a * c0 + mm (a + 1) * c1 + mm (a + 2) * c2 + mm (a + 3) * 65536 + 2048) / 4096)
    (f 0, f 4)

/-- Effective alpha (R199). -/
def effAlpha (lalpha a : Nat) : Nat :=
  let l := lalpha + lalpha / 32768
  let v := (a * l + 32768) / 65536
  v + v / 32768

/-- Blend of one channel (Table 4.13). -/
def blend (mode s ae d : Nat) : Nat :=
  if mode = 0 then s
  else if mode = 1 then (s * ae + d * (65536 - ae) + 32768) / 65536
  else if mode = 2 then min 65535 (d + (s * ae + 32768) / 65536)
  else
    let f := s + s / 32768
    let f' := 65536 - ((65536 - f) * ae + 32768) / 65536
    (d * f' + 32768) / 65536

/-- One layer over the accumulator at output pixel (x, y) (R181, R182). -/
def layerOver (m : List Host.Cell) (w : Nat → Nat) (u : Surface) (l : LayerCfg) (x y : Nat) (acc : Nat × Nat) : Nat × Nat :=
  if covers w l x y then
    let ch (c : Nat) : Nat := sample m w u l c x y
    let cv := colour l (fmtBase u.format) (ch 0) (ch 1) (ch 2)
    let ae := effAlpha l.alpha (ch 3)
    (blend l.blend cv.1 ae acc.1, blend l.blend cv.2 ae acc.2)
  else acc

/-! ### Dark-dominant stages (Table 5.1) -/

/-- The least cap of the zones that cover pixel (x, y), 65,535 where none does (R226). -/
def zoneCap (zs : List Zone) (x y : Nat) : Nat :=
  zs.foldl (fun acc z => if z.c0 ≤ x ∧ x ≤ z.c1 ∧ z.r0 ≤ y ∧ y ≤ z.r1 then min acc z.cap else acc) 65535

/-- One bit of the largest c with (2c − 1)^16 × 2^(255 − b) ≤ 131,070^16: the rounding of R238 in integers. -/
def ceilStep (b : Nat) (c i : Nat) : Nat :=
  let c' := c + 2 ^ i
  if (2 * c' - 1) ^ 16 * 2 ^ (255 - b) ≤ 131070 ^ 16 then c' else c

/-- The ceiling cap of a map byte (R238). -/
def ceilCap (b : Nat) : Nat :=
  if b = 0 then 0 else [15, 14, 13, 12, 11, 10, 9, 8, 7, 6, 5, 4, 3, 2, 1, 0].foldl (ceilStep b) 0

def ceilBase : Nat := 0x2A000 * 128
def gainBase : Nat := 0x2C000 * 128
/-- First byte of output buffer A (`false`) or B (`true`) (Table 3.1). -/
def bufBase (b : Bool) : Nat := if b then 0x38000 * 128 else 0x30000 * 128

/-- The ceiling cap at pixel (x, y) under a row offset (R242). -/
def ceilAt (m : List Host.Cell) (vofs : Int) (x y : Nat) : Nat :=
  let r := (y : Int) - vofs
  if 0 ≤ r ∧ r < 512 then ceilCap (sparseGet 0 m (ceilBase + r.toNat * 2048 + x)).toNat else 0

/-- The gain byte of an emitter at pixel (x, y) (R243). -/
def gainAt (m : List Host.Cell) (e x y : Nat) : Nat := (sparseGet 0 m (gainBase + 2 * (y * 2048 + x) + e)).toNat

/-- Stages 1 to 3 on one pixel; a one-emitter engine's AM code is 0 (R244). -/
def darkStages (m : List Host.Cell) (zs : List Zone) (vofs : Int) (mono : Bool) (x y : Nat) (v : Nat × Nat) : Nat × Nat :=
  let z := zoneCap zs x y
  let c := ceilAt m vofs x y
  let g (e v : Nat) : Nat := min (min v z) c * (gainAt m e x y + 1) / 256
  (g 0 v.1, if mono then 0 else g 1 v.2)

/-- The segment that holds pixel (x, y). -/
def segmentAt (x y : Nat) : Nat := y / 256 * 8 + x / 256

/-- Source segment of pipeline n under a timing word (Table 6.4). -/
def srcSegment (timing n : Nat) : Nat :=
  if bit timing 12 && decide (8 ≤ n) then (if bit timing 13 then 15 - n else n - 8) else n

/-! ### Dark zones (R222 to R226) -/

/-- Column and row edge angles of the nominal optics map (R224). -/
def colaNominal (c : Nat) : Int := -20000 + (625 * c / 32 : Nat)
def rowaNominal (r : Nat) : Int := 5000 - (625 * r / 32 : Nat)

def clampInt (lo hi v : Int) : Int := if v < lo then lo else if hi < v then hi else v

/-- The configuration a render uses. -/
structure MaskCfg where
  pad : List Nat
  cap : List Nat
  dilh : Nat
  dilv : Nat
  late : Nat
  cola : Nat → Int
  rowa : Nat → Int

/-- An object's box in angle over the emission window [ta, tb] (R222, R223). -/
def zoneAngles (c : MaskCfg) (capbase : Nat) (o : Object) (ta tb : Int) : Int × Int × Int × Int :=
  let tc : Int := capbase + o.capofs
  let da := clampInt 0 64000000 (ta - tc)
  let db := clampInt 0 64000000 (tb - tc)
  let lo (v : Int) : Int := min (v * da) (v * db) / 100000000
  let hi (v : Int) : Int := -(-(max (v * da) (v * db)) / 100000000)
  let p := c.pad.getD o.cls 0
  let grow (field : Nat) (dil : Nat) : Int := 10 * ((o.margin : Int) + (field : Int)) + (c.late : Int) * dil
  (o.x0 + lo o.vx - grow (bits p 7 0) c.dilh, o.x1 + hi o.vx + grow (bits p 15 8) c.dilh,
   o.y0 + lo o.vy - grow (bits p 31 24) c.dilv, o.y1 + hi o.vy + grow (bits p 23 16) c.dilv)

/-- The first and last of `n` indices for which `p` holds. -/
def spanOf (p : Nat → Bool) (n : Nat) : Option (Nat × Nat) :=
  match (List.range n).find? p, (List.range n).reverse.find? p with
  | some a, some b => some (a, b)
  | _, _ => none

/-- A span widened to at least 8 within `n` (R225). -/
def widen (n : Nat) (ab : Nat × Nat) : Nat × Nat :=
  let len := ab.2 - ab.1 + 1
  if 8 ≤ len then ab
  else
    let m := 8 - len
    let lo : Int := (ab.1 : Int) - (m / 2 : Nat)
    let lo' := if lo < 0 then 0 else if (n : Int) < lo + 8 then n - 8 else lo.toNat
    (lo', lo' + 7)

/-- An object's zone in pixels; none where it covers no pixel (R224, R225). -/
def zoneOf (c : MaskCfg) (capbase : Nat) (o : Object) (ta tb : Int) : Option Zone :=
  let (xlo, xhi, ylo, yhi) := zoneAngles c capbase o ta tb
  match spanOf (fun k => decide (xlo < c.cola (k + 1) ∧ c.cola k < xhi)) 2048,
        spanOf (fun k => decide (c.rowa (k + 1) < yhi ∧ ylo < c.rowa k)) 512 with
  | some cs, some rs =>
    let cs := widen 2048 cs
    let rs := widen 512 rs
    some { c0 := cs.1, c1 := cs.2, r0 := rs.1, r1 := rs.2, cap := c.cap.getD o.cls 0 }
  | _, _ => none

/-- The zones of a list over a window, and the OBJIDs of the objects whose zones are dropped (R225). -/
def renderZones (c : MaskCfg) (l : Option ObjList) (ta tb : Int) : List Zone × List Nat :=
  match l with
  | none => ([], [])
  | some l =>
    (l.objs.filterMap (fun o => zoneOf c l.capbase o ta tb),
     (l.objs.filter (fun o => (zoneOf c l.capbase o ta tb).isNone)).map (·.objid))

/-! ### The coarse mask and its comparison (R233, R234) -/

/-- G8 of cell (cx, cy) (R233). -/
def coarseCell (zs : List Zone) (cx cy : Nat) : Nat := ceilDiv (zoneCap zs (8 * cx + 4) (8 * cy + 4)) 257

/-- F8 at a pixel (R234). -/
def fineCell (zs : List Zone) (x y : Nat) : Nat := ceilDiv (zoneCap zs x y) 257

/-- Cell (cx, cy) agrees: G8 lies between the least and greatest F8 of the clipped window (R234). -/
def cellAgrees (fine coarse : List Zone) (tol cx cy : Nat) : Bool :=
  let x := 8 * cx + 4
  let y := 8 * cy + 4
  let xs := (List.range (2 * tol + 1)).map (fun i => x + i - tol)
  let ys := ((List.range (2 * tol + 1)).map (fun i => y + i - tol))
  let fs := (ys.filter (· < 512)).flatMap (fun yy => (xs.filter (· < 2048)).map (fun xx => fineCell fine xx yy))
  let g := coarseCell coarse cx cy
  fs.any (fun f => decide (f ≤ g)) && fs.any (fun f => decide (g ≤ f))

/-- Disagreeing cells of a comparison (MASK.CMPSTAT.DISC). -/
def disagreeing (fine coarse : List Zone) (tol : Nat) : Nat :=
  countBelow (fun i => !cellAgrees fine coarse tol (i % 256) (i / 256)) 16384

/-! ### Power tokens (R245 to R247) -/

def demandPw (ecw eam scw sam : Nat) : Nat := scw * ecw + sam * eam

/-- The demand of a segment in tokens (R246). -/
def demandTok (effbud pd : Nat) : Nat :=
  if pd = 0 then 0 else if effbud = 0 then 1024 else min 1024 (ceilDiv (pd * 1024) (effbud * 1000000000))

/-- The tokens left after the proportional grants, given out one each in ascending order (R246). -/
def spread : Nat → List (Nat × Nat) → List Nat × Nat
  | left, [] => ([], left)
  | left, (g, need) :: t =>
    if 0 < left ∧ g < need then
      let r := spread (left - 1) t
      ((g + 1) :: r.1, r.2)
    else
      let r := spread left t
      (g :: r.1, r.2)

/-- Holdings and pool from bases and demands (R246). -/
def allocate (base dem : List Nat) : List Nat × Nat :=
  let bd := base.zip dem
  let h0 := bd.map (fun p => min p.1 p.2)
  let pool := (bd.map (fun p => p.1 - p.2)).sum
  let need := bd.map (fun p => p.2 - p.1)
  let b := need.sum
  if b ≤ pool then (dem, pool - b)
  else
    let g := need.map (fun n => pool * n / b)
    let r := spread (pool - g.sum) (g.zip need)
    (h0.zipWith (· + ·) r.1, r.2)

/-- A segment's scale (R247). -/
def scaleOf (effbud hold dem pd : Nat) : Nat :=
  if dem ≤ hold ∨ pd = 0 then 65536
  else if effbud = 0 then 0 else 65536 * hold * effbud * 1000000000 / (1024 * pd)

end Sys2Proof.Machine
end

