-- ==== Sys2Proof/Machine/RegRead.lean ====
section
/-! DEFINITION. What a register word reads as (chapter 18): the status fields each block shows, the active and the shadow view, and the
values a read latches or clears. -/

namespace Sys2Proof.Machine

/-! ### Derived status -/

def b2m (b : Bool) (i : Nat) : Nat := b2n b * 2 ^ i

/-- Field of a burgee: `n` bytes at `off` (Table 8.3). -/
def burg (b : List Byte) (off n : Nat) : Nat := leAt b off n

/-- The burgee of the engine that lane n serves (R354): the second engine's for lanes 8 to 15 of a clone pair. -/
def State.burgeeOf (s : State) (n : Nat) : List Byte :=
  if s.eng.pair && decide (8 ≤ n) then s.eng.burgee8 else s.eng.burgee0

/-- Lane n is mapped by an accepted burgee (R354). -/
def State.mapped (s : State) (n : Nat) : Bool := s.eng.laneMap.getLsbD n

/-- Stress of segment n in 0.01 stress-hours (R370). -/
def State.stress (s : State) (n : Nat) : Nat := if s.mapped n then vget s.eng.acc n / 36000000000 else 0

/-- One-way delay of a lane, in ps: half the mean of the last 16 round trips (R340). -/
def Lane.delay (l : Lane) : Int := if l.rts.isEmpty then 0 else l.rts.sum / (2 * (l.rts.length : Int))

def LaneSt.code : LaneSt → Nat
  | .furled => 0 | .idle => 1 | .active => 2 | .training => 3

/-- All lanes named in the burgee run at the full rate (Table 1.7a). -/
def State.flyFull (s : State) : Bool :=
  s.eng.engId && (List.range 16).all (fun n => !s.mapped n || (vget s.fly n).fullNow)

def SurfState.code : SurfState → Nat
  | .undefined => 0 | .incomplete => 1 | .complete => 2 | .checking => 3 | .leased => 4 | .releasing => 5

/-- Leases outstanding: surfaces in LEASED or RELEASING (R148). -/
def State.leases (s : State) : Nat :=
  (s.store.surfs.toList.filter (fun u => decide (u.st = .leased ∨ u.st = .releasing))).length

/-- Enabled layers of the active set, in ascending order. -/
def State.enabledLayers (s : State) : List Nat := (List.range 64).filter (fun n => s.flag (layerAddr n) 0)

/-- A validated COMMIT naming group g awaits its boundary. -/
def State.pendingGroup (s : State) (g : Nat) : Bool := s.regs.commits.any (fun c => c.groups.getLsbD g)

/-- The near-field cap request of the Ensign (R452, R453, R455). -/
def State.capReq (s : State) : Bool :=
  s.ens.nfInt || (s.ens.svcMode && !s.ens.svcArm) || (s.activeOf 0x289).isSome

/-- A safety input demands a safe state: a dark request, or an open housing outside the case of R449. -/
def State.inputDemand (s : State) : Bool :=
  s.ens.darkReq || (s.ens.hsgOpen && !(s.ens.svcMode && s.ens.svcArm))

/-- The Ensign withholds release (R437). -/
def State.ensHeld (s : State) : Bool :=
  s.inputDemand || !(s.blockActive 0x0A).isEmpty || decide (s.ens.goodRun < 3) || s.ens.oscBad || s.ens.ocTrip

/-- INSTAT[16:8] (Table 10.16). -/
def State.inFlags (s : State) : Nat :=
  let e := s.ens
  b2n e.darkReq + b2m e.hsgOpen 1 + b2m e.svcArm 2 + b2m e.svcLock 3 + b2m e.nfInt 4 + b2m s.capReq 5 + b2m e.discDark.isSome 6 +
    b2m e.discHsg.isSome 7 + b2m e.discNf.isSome 8

/-- The pause between regions of the background test, in 10 µs (R163). -/
def bistInterval (dband : Nat) : Nat :=
  if dband = 3 then 80 else if dband = 4 then 50 else if dband = 5 then 30 else 120

/-- Substituted lines over the last SUBWIN passes (R323), saturating in its field. -/
def State.winSum (s : State) (n : Nat) : Nat := (((vget s.fly n).window.take (s.fld 0x60000 15 8)).map (fun p => max p.1 p.2)).sum

/-- The divider in force N = 2^max(CDIV, PCDIV) (R254). -/
def State.divider (s : State) : Nat := 2 ^ max (s.fld 0x50000 11 10) s.scan.pcdiv

/-- Classes with an active fault, as a mask. -/
def State.actClasses (s : State) : Nat := bitsOf (fun k => s.flt.active.any (fun a => a.cls == k)) 8

/-- The 16 bytes of a recorder entry (Table 11.4). -/
def Entry.bytes (e : Entry) : List Byte :=
  le 6 e.ts ++ le 2 (e.code + 4096 * e.cls) ++ le 1 e.inst ++
    le 1 (b2m e.act 0 + b2m e.ack 1 + b2m e.esc 2 + b2m e.lost 3 + b2m e.hv 4) ++ le 2 e.frame.toNat ++ le 4 e.data.toNat

/-- LASTTIME: the RTC field of the calibration in force (R588). -/
def State.lastTime (s : State) : Nat := if s.cal.src = 0 then 0 else leAt s.cal.inForce 2 5

/-- EXTEST, CLAMP and HIGHZ (Table 16.7). -/
def testCode (c : Nat) : Bool := decide (c = 0 ∨ c = 4 ∨ c = 5)

/-- The Ensign's last STATUS reports both switches open with gate disable asserted (R640, Table 15.3). -/
def State.switchesSafe (s : State) : Bool := s.gdn.swSeen.getLsbD 3 && !s.gdn.swSeen.getLsbD 0 && !s.gdn.swSeen.getLsbD 1

/-- The instruction in force: the loaded one, or BYPASS for a test instruction outside R640 and for a code of no other (R640, R642). -/
def State.irNow (s : State) : Nat :=
  let c := s.jtag.ir.toNat
  if testCode c then (if s.flag 0x110003 0 && s.switchesSafe then c else 0x1F)
  else if c = 1 ∨ c = 2 then c else 0x1F

def State.testIns (s : State) : Bool := testCode s.irNow

/-- What a test instruction puts on ball `b`: nothing under HIGHZ, what the boundary register holds under EXTEST and CLAMP (Table 16.7). -/
def State.testDrive (s : State) (b : Nat) : Option Bool := if s.irNow = 5 then none else Config.boundaryCell b s.clk.now

/-- A general-purpose pad as the device holds it: driven low or high, pulled down or up, or neither. -/
inductive PadHold where
  | low | high | down | up | open
  deriving DecidableEq, Repr

/-- The state of a held pad by its code in the hold cells. -/
def padOf (v : Nat) : PadHold := match v with | 0 => .low | 1 => .high | 3 => .down | 4 => .up | _ => .open

/-- How the device holds pad g: by the hold cells (R71), by a test instruction (R640), or by its register (Table 18.3). While the hold cells
hold a pad, a test instruction does not reach it (assumption 139). -/
def State.padNow (s : State) (g : Nat) : PadHold :=
  let cfg := s.act (0x10 + g)
  if s.pow.padHeld then padOf (vget s.pow.padVal g)
  else if !s.pow.logicOn then .open
  else if s.testIns then (match s.testDrive g with | some false => .low | some true => .high | none => .open)
  else if bit cfg 0 then (if bit cfg 1 then .high else .low)
  else if bits cfg 3 2 = 1 then .down else if bits cfg 3 2 = 2 then .up else .open

/-- Level at general-purpose pad g: what the device drives, else what the outside drives, else the pull (R673). -/
def State.padIn (s : State) (g : Nat) : Bool :=
  match s.padNow g with
  | .low => false
  | .high => true
  | .down => (Config.padDriver g s.clk.now).getD false
  | .up => (Config.padDriver g s.clk.now).getD true
  | .open => Config.padLevel g s.clk.now

/-! ### Read-only bits by block -/

def State.roSys (s : State) (o : Nat) : Nat :=
  if o = 0 then
    s.mode.cur.code % 8 + 16 * (match s.mode.trans with | some t => t.target.code % 16 | none => s.mode.cur.code % 8) + b2m s.busy 8 +
      (match s.mode.queue with | some q => 512 * q.target.code + 8192 | none => 0) + 65536 * s.mode.step
  else if o = 4 then
    b2n s.store.clrDone + 2 * s.mode.patch + b2m s.clk.xtalOk 3 + b2m s.clk.tbXtal 4 + b2m s.eng.engId 5 + b2m s.eng.gainOk 6 +
      b2m s.flyFull 7 + b2m (decide (s.hoist.st = .bonded)) 8 + 65536 * bitsOf (fun n => !(vget s.fly n).fullNow) 16
  else if o = 5 then b2m s.pow.padHeld 1
  else if 0x10 ≤ o ∧ o < 0x18 then b2m (s.padIn (o - 0x10)) 4
  else 0

def State.roHal (s : State) (o : Nat) : Nat :=
  if o < 12 then
    let ps := s.ports.toArray.getD (o / 4) PortState.reset
    let p : Port := if o / 4 = 0 then .cspi else if o / 4 = 1 then .wspi else .hcmd
    if o % 4 = 0 then (32 - ps.tags.length) + b2m (ps.rbFull p) 8 + 65536 * ps.discard.toNat
    else if o % 4 = 1 then ps.accept.toNat else if o % 4 = 2 then ps.replied.toNat else 0
  else if o = 0x202 then
    s.fab.vcode + 256 * s.fab.vtarget + b2m (decide (s.fab.vcode = s.fld 0x10200 14 8)) 15 + 65536 * s.scan.pcdiv +
      0x100000 * s.fab.speed
  else if o = 0x204 then s.fab.margin + 256 * s.thm.dband + b2m s.fab.marginAt.isSome 11
  else if o = 0x205 then unsigned 16 s.fab.firc + b2m s.fab.fircOk 16
  else if 0x210 ≤ o ∧ o < 0x228 then
    (vget s.fab.canary (o - 0x210)).1 + 65536 * (vget s.fab.canary (o - 0x210)).2
  else 0

def Surface.word (u : Surface) (k : Nat) : Nat :=
  if u.st = .undefined then 0
  else if k = 0 then u.base + 0x40000 * u.format
  else if k = 1 then u.width + 65536 * u.height
  else if k = 2 then (u.words - 1) + (if fmtAtc u.format then 0 else 65536 * (u.stride / 128 - 1))
  else u.st.code + 256 * u.fill

def State.roStore (s : State) (o : Nat) : Nat :=
  if o = 1 then s.store.ceCnt.toNat + 65536 * s.store.ueCnt.toNat
  else if o = 2 then s.store.eccAddr.toNat
  else if o = 3 then 2 * s.store.bistRegion + b2m s.store.bistActive 14 + 65536 * s.store.bistPass.toNat
  else if o = 4 then s.store.bistFail.toNat % 0x800000 + 0x1000000 * bistInterval s.thm.dband
  else if o = 5 then s.store.granted.toNat + 65536 * s.store.released.toNat
  else if o = 6 then
    s.leases + 256 * s.store.checkQ.length + 65536 * s.store.wrefused.toNat
  else if 0x100 ≤ o ∧ o < 0x300 then (vget s.store.surfs ((o - 0x100) / 4)).word (o % 4)
  else 0

def State.roBun (s : State) (o : Nat) : Nat :=
  if o = 1 then
    b2n s.bun.comp.isSome + b2m (s.pendingGroup grpLayers) 1 + 256 * s.enabledLayers.length +
      65536 * (match s.bun.comp with | some c => c.tiles | none => 0) +
      0x2000000 * countBelow (fun w => s.bun.excluded.getLsbD w) 32
  else if o = 2 then s.bun.slackLast + 65536 * s.bun.slackMin
  else if o = 3 then s.bun.compTime
  else if 0x400 ≤ o ∧ o < 0x800 then
    let n := (o - 0x400) / 16
    let a := vget s.bun.layers n
    if o % 16 = 12 then a.stepH else if o % 16 = 13 then a.stepV
    else if o % 16 = 14 then (if s.flag (layerAddr n) 1 then a.repeats else 0) + b2m (s.flag (layerAddr n) 0) 16 + b2m a.excl 17
    else 0
  else 0

def State.roMask (s : State) (o : Nat) : Nat :=
  if o = 4 then
    (match s.mask.list with | some l => l.seq.toNat + 65536 * l.objs.length | none => 0) + 0x2000000 * min s.mask.late 127
  else if o = 5 then s.mask.disc + 65536 * min s.mask.glate 255
  else if o = 6 then s.mask.accepted.toNat + 65536 * s.mask.rejected.toNat
  else if o = 7 then b2n s.mask.ceilLoaded + b2m s.mask.ceilOk 1
  else if o = 8 then s.mask.ceilCrc.toNat
  else 0

def State.roScan (s : State) (o : Nat) : Nat :=
  if o = 2 then
    b2n s.scan.run + b2m s.scan.retrain.isSome 1 + b2m s.scan.frontValid 2 + b2m s.scan.front 3 + 16 * s.scan.pcdiv +
      64 * s.scan.passPh + b2m s.scan.blank 8 + b2m (s.pendingGroup grpTiming) 9 + 65536 * s.scan.fseq.toNat
  else if o = 3 then s.scan.framecnt % 2 ^ 32
  else if o = 5 then s.scan.fliptime % 2 ^ 32
  else if o = 7 then s.scan.missed % 2 ^ 32
  else if o = 8 then s.scan.started % 2 ^ 32
  else if 0x40 ≤ o ∧ o < 0xC0 then
    let g := vget s.scan.segs ((o - 0x40) / 8)
    match o % 8 with
    | 0 => g.undercnt.toNat + b2m g.taint 8 + b2m g.watch 9 + b2m g.adv 10 + 65536 * g.echoskip.toNat + 0x1000000 * g.echobad.toNat
    | 1 => g.sigc.toNat
    | 2 => g.sige.toNat
    | 3 => g.echo.toNat
    | 4 => min g.age 65535
    | _ => 0
  else 0

def State.roFly (s : State) (o : Nat) : Nat :=
  if o = 1 then b2n (s.gdn.kasel || s.ens.ovr)
  else if 0x40 ≤ o ∧ o < 0x140 then
    let l := vget s.fly ((o - 0x40) / 16)
    let tpd := s.fld 0x60000 28 16
    match o % 16 with
    | 2 => l.st.code + b2m l.fullNow 2 + b2m l.block 3 + b2m l.bclock 4 + b2m (l.prec && decide (l.st ≠ .furled)) 5 + 64 * l.attempt + b2m l.down 8
    | 3 => l.txPre + 256 * l.txMain + 65536 * l.txPost
    | 4 => l.subcnt.toNat + 65536 * min (s.winSum ((o - 0x40) / 16)) 255
    | 5 => l.loss + 65536 * (((l.delay.toNat) * 100 / max tpd 1) % 2048)
    | 6 => (l.delay.toNat / 10) % 65536
    | 7 => l.bcrc.toNat + 256 * l.mslip.toNat + 65536 * l.trainfail.toNat
    | 8 => l.injections s.clk.dtime
    | _ => 0
  else 0

def State.roEng (s : State) (o : Nat) : Nat :=
  let b := s.eng.burgee0
  if o = 0 then b2n s.eng.engId + b2m s.eng.pair 1 + 4 * s.eng.gainBad.toNat
  else if o = 1 then
    (if s.eng.engId then burg b 5 1 + 32 * burg b 7 1 + 128 * burg b 44 1 else 0) + 65536 * s.eng.laneMap.toNat
  else if o = 2 then (if s.eng.engId then burg b 8 4 else 0)
  else if o = 3 then (if s.eng.engId then burg b 12 4 else 0)
  else if o = 4 then (if s.eng.pair then burg s.eng.burgee8 8 4 else 0)
  else if o = 5 then (if s.eng.pair then burg s.eng.burgee8 12 4 else 0)
  else if o = 6 then s.eng.eol90.toNat + 65536 * s.eng.eol100.toNat
  else if o = 7 then (s.eng.gen.getD 0) % 0x1000000 + 0x1000000 * ((s.eng.sess.getD 0) % 256)
  else if o = 8 then b2m (s.eng.pathBusy || s.eng.pathRefused) 1
  else if o = 9 then s.eng.rmeas + b2m s.eng.pathValid 16
  else if 0x10 ≤ o ∧ o < 0x20 then s.stress (o - 0x10) % 2 ^ 32
  else 0

/-- Class capacities (Table 9.8). -/
def hoistCap : Nat → Nat
  | 0 => 256 | 1 => 12 | 2 => 16 | _ => 4

def State.roHoist (s : State) (o : Nat) : Nat :=
  let h := s.hoist
  if o = 2 then
    (match h.st with | .down => 0 | .limp => 1 | .training => 2 | .bonded => 3) + 4 * h.attempt + b2m h.htxPrec 4 +
      32 * h.hrxPrec.toNat + 65536 * h.epoch.toNat
  else if o = 3 then
    (match h.caps with
     | some c => c.lanes.toNat + 256 * c.rates.toNat + 65536 * c.prec.toNat + b2m (c.tstamp.toNat % 2 == 1) 24 + b2m (decide (c.version = 1)) 25
     | none => 0)
  else if o = 4 then (match h.caps with | some c => c.id.toNat % 2 ^ 32 | none => 0)
  else if o = 5 then (match h.caps with | some c => c.id.toNat / 2 ^ 32 | none => 0)
  else if o = 6 then h.corr.toNat + 65536 * h.ue.toNat
  else if o = 7 then h.hcrcErr.toNat + 256 * h.bcrcErr.toNat + 65536 * h.dup.toNat + 0x1000000 * h.restarts.toNat
  else if 0x10 ≤ o ∧ o < 0x18 then
    let c := vget h.cred ((o - 0x10) / 2)
    if o % 2 = 0 then c.adv.toNat + 65536 * c.cons.toNat else c.occ + 512 * c.free + 0x40000 * hoistCap ((o - 0x10) / 2)
  else if 0x20 ≤ o ∧ o < 0x2A then
    let l := vget h.lanes ((o - 0x20) / 2)
    if o % 2 = 0 then b2n l.lock + b2m l.prec 1 + 256 * min ((2000 * l.skew.getD 0 + 21250) / 42500) 31 else l.pre + 256 * l.main + 65536 * l.post
  else 0

def State.roSafe (s : State) (o : Nat) : Nat :=
  if o = 0 then b2n s.gdn.kasel + b2m s.gdn.goff 1 + b2m s.gdn.ensOk 2 + b2m s.gdn.hbRun 3 + 65536 * s.gdn.dlerr.toNat
  else if o = 1 then s.gdn.cause.toNat % 0x80000000
  else if o = 2 then min s.gdn.expect 65535 + 65536 * min s.gdn.measPow 65535
  else 0

def State.roEns (s : State) (o : Nat) : Nat :=
  let e := s.ens
  if o = 2 then e.raw.toNat + 256 * s.inFlags
  else if o = 3 then
    b2n e.hsOn + b2m e.lsOn 1 + 4 * e.testRes + b2m e.ocTrip 4 + b2m e.ovr 5 + b2m e.gdis 6 + 65536 * e.testCnt.toNat
  else if o = 4 then e.imeas.toNat + 65536 * e.vled.toNat
  else if o = 5 then e.badCnt.toNat + 256 * e.chal.toNat + 4096 * min (e.wins.filter id).length 15
  else if o = 6 then e.cause.toNat % 16 + b2m s.ensHeld 4
  else 0

/-- Word i of the entry at CURSOR (R507). -/
def State.window (s : State) (i : Nat) : Nat :=
  match s.evt.store[s.evt.cursor]? with
  | some e => leAt e.bytes (4 * i) 4
  | none => 0

/-- Grace left of a class timer, in 10 µs (Table 11.6). -/
def State.remain (s : State) (k : Nat) : Nat :=
  match (vget s.flt.timers k).start with
  | some t0 => if (vget s.flt.timers k).expired then 0 else (s.grace k - (s.clk.dtime - t0)) / 10000 + 65536
  | none => 0

def State.roEvt (s : State) (o : Nat) : Nat :=
  let r := s.evt
  if o = 1 then r.store.length + b2m r.full 13 + 65536 * r.gen.toNat
  else if o = 2 then r.cursor + 65536 * (r.store.length - r.cursor)
  else if 3 ≤ o ∧ o < 7 then s.window (o - 3)
  else if o = 7 then r.raised.toNat
  else if o = 8 then r.rlimit.toNat
  else if o = 9 then r.fulldrop.toNat
  else if o = 0xA then r.qovf.toNat
  else if o = 0xB then s.actClasses + 256 * s.flt.esc.toNat + 65536 * r.limcode
  else if 0x10 ≤ o ∧ o < 0x17 then s.remain (o - 0x10)
  else 0

def State.roThm (s : State) (o : Nat) : Nat :=
  let h := s.thm
  if o = 3 then
    h.req + 8 * h.enf + 64 * (h.floor.getD 0) + b2m h.floor.isSome 9 + b2m h.tjHot 10 +
      65536 * bitsOf (fun c => (vget h.ch c).broken) 14
  else if o = 4 then h.dband + 256 * (List.range 8).foldl (fun acc d => acc + vget h.eband d * 8 ^ d) 0
  else if o = 5 then unsigned 16 h.tj
  else if o = 6 then h.nHost.toNat + 256 * h.nPol.toNat + 65536 * h.nGdn.toNat + 0x1000000 * h.nCal.toNat
  else if 0x10 ≤ o ∧ o < 0x48 then
    let c := vget h.ch ((o - 0x10) / 4)
    if o % 4 = 2 then
      unsigned 16 c.temp + 65536 * c.state + b2m c.broken 18 + b2m c.rateHot 19 + 0x100000 * c.lvl +
        0x800000 * (match c.convAt with | some t0 => min ((s.clk.now - t0) / 1000000) 511 | none => 511)
    else if o % 4 = 3 then unsigned 16 c.tstart + 65536 * unsigned 16 c.rate
    else 0
  else 0

def State.roCal (s : State) (o : Nat) : Nat :=
  let c := s.cal
  if o = 0 then
    c.count + b2m (decide (c.count = 32)) 6 + b2m c.ramOnly 7 + 256 * c.src + 1024 * c.record + b2m (match c.run with | some r => !r.ended | none => false) 15 +
      b2m c.inhibit 16 + b2m c.inhVbat 17 + b2m c.inhVio 18 + b2m c.inhTj 19 + b2m c.dstale 20
  else if o = 1 then s.lastTime % 2 ^ 32
  else if o = 3 then c.refV.toNat + 65536 * c.refR.toNat
  else if 8 ≤ o ∧ o < 16 then leAt c.inForce (4 * (o - 8)) 4
  else 0

def State.roCrc (s : State) (o : Nat) : Nat :=
  if o = 0 then b2m s.chk.armed.isSome 9
  else if 0x10 ≤ o ∧ o < 0x64 then
    let u := vget s.chk.units ((o - 0x10) / 4)
    match o % 4 with
    | 0 => u.cnt.toNat
    | 1 => u.mis.toNat + 65536 * u.inj.toNat
    | 2 => u.exp.toNat
    | _ => u.got.toNat
  else 0

def State.roPwr (s : State) (o : Nat) : Nat :=
  let k := s.tok
  if o = 2 then k.effbud + 65536 * k.pool + b2m k.nf 27 + b2m (decide (0 < s.thm.enf)) 28
  else if o = 3 then k.ecw + 65536 * k.eam
  else if 0x20 ≤ o ∧ o < 0x30 then vget k.demand (o - 0x20) + 65536 * vget k.hold (o - 0x20)
  else if 0x30 ≤ o ∧ o < 0x40 then vget k.scale (o - 0x30)
  else if o = 0x100 then
    b2n s.pow.vbatSag + b2m s.pow.vbatCrank 1 + b2m s.pow.vbatHigh 2 + b2m s.pow.vioSag 3 + b2m s.pow.vledUv 4 +
      b2m s.pow.vledOv 5 + 64 * s.pow.rails4.toNat + b2m s.pow.pmicEn 10
  else if o = 0x101 then s.pow.meas0.toNat
  else if o = 0x102 then s.pow.meas1.toNat
  else if o = 0x104 then s.dl.downErr.toNat + 256 * s.dl.resend.toNat + 65536 * s.dl.hvLost.toNat
  else 0

def State.roRtc (s : State) (o : Nat) : Nat :=
  if o = 0 then s.rtc.count % 2 ^ 32 else if o = 7 then b2m s.rtc.oscOk 1 else 0

def State.roTest (s : State) (o : Nat) : Nat :=
  if o = 0 then s.pow.straps.toNat
  else if o = 2 then bitsOf (fun n => (vget s.fly n).rxInv) 16 + 65536 * s.hoist.rxInv.toNat
  else if o = 3 then
    2 * s.irNow + b2m s.testIns 6 + b2m s.jtag.tmode 7
  else 0

/-- FLATCH of a block (Table 11.3). -/
def State.flatch (s : State) (b : Nat) : Nat :=
  let l := vget s.flt.latch b
  l.idx + 64 * l.cls + b2m l.valid 9 + b2m l.ovf 10 + 65536 * l.inst + 0x1000000 * min (s.blockActive b).length 63

/-- The read-only and read-to-clear bits of a plain word. -/
def State.roBits (s : State) (a : Nat) : Nat :=
  let o := addrOff a
  let b := addrBlock a
  if o = 0xFFF0 then s.flatch b
  else if 0xFFF1 ≤ o then 0
  else match b with
    | 0x00 => s.roSys o | 0x01 => s.roHal o | 0x02 => s.roStore o | 0x03 => s.roBun o | 0x04 => s.roMask o | 0x05 => s.roScan o
    | 0x06 => s.roFly o | 0x07 => s.roEng o | 0x08 => s.roHoist o | 0x09 => s.roSafe o | 0x0A => s.roEns o | 0x0B => s.roEvt o
    | 0x0C => s.roThm o | 0x0D => s.roCal o | 0x0E => s.roCrc o | 0x0F => s.roPwr o | 0x10 => s.roRtc o | 0x11 => s.roTest o
    | _ => 0

/-- The high half a port's holding register keeps (R264 and the registers that work as it does). -/
def State.heldHigh (s : State) (p : Port) (a : Nat) : Option Word :=
  let ps := s.port p
  if a = 0x50004 then some ps.frameHi else if a = 0x50006 then some ps.flipHi
  else if a = 0x100001 then some ps.rtcHi else if a = 0xD0002 then some ps.lastHi else none

/-- What a read of a word address returns to a port (R108). Class F bits come from the shadow in the shadow view. -/
def State.readWord (s : State) (p : Port) (a : Nat) : Word :=
  let q := addrPlain a
  match regInfo a with
  | none => 0
  | some r =>
    match s.heldHigh p q with
    | some v => v
    | none =>
      let kept := if addrShadow a && r.grp.isSome then s.shdW q else s.actW q
      (kept &&& BitVec.ofNat 32 (r.rw ||| r.w1c)) ||| BitVec.ofNat 32 (s.roBits q)

/-- A read of a low half latches the high half for the port (R264, R588, Table 18.5). -/
def State.latchHigh (s : State) (p : Port) (a : Nat) : State :=
  let ps := s.port p
  let hi (v : Nat) : Word := BitVec.ofNat 32 (v / 2 ^ 32)
  if a = 0x50003 then s.setPort p { ps with frameHi := hi s.scan.framecnt }
  else if a = 0x50005 then s.setPort p { ps with flipHi := hi s.scan.fliptime }
  else if a = 0x100000 then s.setPort p { ps with rtcHi := hi s.rtc.count }
  else if a = 0xD0001 then s.setPort p { ps with lastHi := hi s.lastTime }
  else s

/-- The state with the RC fields of a word cleared, those that the mask reaches (R15, R112). -/
def State.clearRc (s : State) (a m : Nat) : State :=
  let o := addrOff a
  let k {w : Nat} (f : Nat) (x : BitVec w) : BitVec w := if m &&& f = 0 then x else 0
  if a = 0x20001 then { s with store := { s.store with ceCnt := k 0xFFFF s.store.ceCnt, ueCnt := k 0xFF0000 s.store.ueCnt } }
  else if 0x50040 ≤ a ∧ a < 0x500C0 ∧ o % 8 = 0 then
    { s with scan := { s.scan with segs := vmod s.scan.segs ((o - 0x40) / 8) (fun g =>
        { g with undercnt := k 0xFF g.undercnt, echoskip := k 0xFF0000 g.echoskip, echobad := k 0xFF000000 g.echobad }) } }
  else if 0x60040 ≤ a ∧ a < 0x60140 ∧ o % 16 = 4 then
    { s with fly := vmod s.fly ((o - 0x40) / 16) (fun l => { l with subcnt := k 0xFFFF l.subcnt }) }
  else if 0x60040 ≤ a ∧ a < 0x60140 ∧ o % 16 = 7 then
    { s with fly := vmod s.fly ((o - 0x40) / 16) (fun l =>
        { l with bcrc := k 0xFF l.bcrc, mslip := k 0xFF00 l.mslip, trainfail := k 0xFF0000 l.trainfail }) }
  else if a = 0x80006 then { s with hoist := { s.hoist with corr := k 0xFFFF s.hoist.corr, ue := k 0xFFFF0000 s.hoist.ue } }
  else if a = 0x80007 then
    { s with hoist := { s.hoist with
        hcrcErr := k 0xFF s.hoist.hcrcErr, bcrcErr := k 0xFF00 s.hoist.bcrcErr, dup := k 0xFF0000 s.hoist.dup,
        restarts := k 0xFF000000 s.hoist.restarts } }
  else if a = 0x90000 then { s with gdn := { s.gdn with dlerr := k 0xFF0000 s.gdn.dlerr } }
  else if a = 0xA0005 then { s with ens := { s.ens with badCnt := k 0xFF s.ens.badCnt } }
  else if 0xE0010 ≤ a ∧ a < 0xE0064 ∧ o % 4 = 1 then
    { s with chk := { s.chk with units := vmod s.chk.units ((o - 0x10) / 4) (fun u => { u with mis := k 0xFFFF u.mis }) } }
  else if a = 0xF0104 then
    { s with dl := { s.dl with downErr := k 0xFF s.dl.downErr, resend := k 0xFF00 s.dl.resend, hvLost := k 0xFF0000 s.dl.hvLost } }
  else s

/-- What a read of a word does besides returning its value: RC fields that the mask reaches clear and EVT.WINDOW[3] moves the cursor, on
CSPI and Hoist CMD (R15, R97, R112, R507); a low half latches its high half. -/
def State.readEffectIn (s : State) (p : Port) (a m : Nat) : State :=
  let a := addrPlain a
  let s := s.latchHigh p a
  if p = .wspi then s
  else if a = 0xB0006 then
    (if s.evt.cursor < s.evt.store.length then { s with evt := { s.evt with cursor := s.evt.cursor + 1 } } else s)
  else s.clearRc a m

def State.readEffect (s : State) (p : Port) (a : Nat) : State := s.readEffectIn p a 0xFFFFFFFF

end Sys2Proof.Machine
end

