-- ==== Sys2Proof/Machine/Lanes.lean ====
section
/-! DEFINITION. Starting, training and furling Fly lanes (R324 to R336): the operations that mode changes, LANES sets and the lane
messages share. -/

namespace Sys2Proof.Machine

def State.setLane (s : State) (n : Nat) (f : Lane → Lane) : State := { s with fly := vmod s.fly n f }

/-- Base of a lane's register words. -/
def laneAddr (n : Nat) : Nat := 0x60040 + 16 * n

def State.laneEn (s : State) (n : Nat) : Bool := s.flag (laneAddr n) 0
/-- The active RATE of a lane is FULL. -/
def State.laneRate (s : State) (n : Nat) : Bool := s.flag (laneAddr n) 1

/-! ### CTRL operations whose service ends -/

/-- The operation is an NV_READ (Table 8.4). -/
def CtrlUse.isRead : CtrlUse → Bool
  | .burgee => true | .optics => true | .ring => true | .log => true | .gain => true | .hostRead => true | .census => false
  | .wave => false | .mergeRead => true | .kaRead => true | .pageLoad => false | .pageProg => false | .dropped r _ => r

/-- The operation is an NV_PROG. -/
def CtrlUse.isProg : CtrlUse → Bool
  | .pageProg => true | .dropped _ p => p | _ => false

/-- The operation serves a page job. -/
def CtrlUse.isJob : CtrlUse → Bool
  | .mergeRead => true | .pageLoad => true | .pageProg => true | _ => false

/-- A lane has an operation of a kind under way or waiting. -/
def Lane.busyWith (l : Lane) (p : CtrlUse → Bool) : Bool := l.ctrl.any (fun c => p c.use) || l.ctrlQ.any (fun q => p q.1)

/-- An NV_PROG is outstanding on some lane (R357). -/
def State.progOut (s : State) : Bool := s.fly.toList.any (fun l => l.ctrl.any (fun c => c.use.isProg))

/-- What the operations named by `p` served on a lane has ended: those sent keep their tags until they are answered, and nothing reads the
answer; those waiting are not sent. -/
def State.dropOps (n : Nat) (p : CtrlUse → Bool) (s : State) : State :=
  s.setLane n (fun l => { l with
    ctrl := l.ctrl.map (fun c => if p c.use then { c with use := .dropped c.use.isRead c.use.isProg } else c)
    ctrlQ := l.ctrlQ.filter (fun q => !p q.1) })

/-- The lane of a job: that of the page at its front; lane 0 for a life record not yet formed. -/
def Job.lane (j : Job) : Nat := match j.pages with | p :: _ => p.lane | [] => 0

def Job.isKa (j : Job) : Bool := match j.use with | .keepalive _ => true | _ => false
def Job.isHost (j : Job) : Bool := match j.use with | .host _ => true | _ => false

/-- Page jobs end, with the operations of those under way. -/
def State.dropJobs (p : Job → Bool) (s : State) : State :=
  let s := iter (fun n s => match s.eng.jobs.find? (fun j => j.lane == n) with
    | some j => if p j then s.dropOps n CtrlUse.isJob else s
    | none => s) 16 s
  { s with eng := { s.eng with jobs := s.eng.jobs.filter (fun j => !p j) } }

/-- The host's NV read ends, with its operation. -/
def State.dropRead (s : State) : State :=
  match s.eng.nvRead with
  | some (_, n) => ({ s with eng := { s.eng with nvRead := none } } : State).dropOps n (fun u => decide (u = .hostRead))
  | none => s

/-- A census ends, with its operations. -/
def State.dropCensus (s : State) : State :=
  if s.eng.census.isSome then
    iter (fun n s => s.dropOps n (fun u => decide (u = .census))) 16 { s with eng := { s.eng with census := none } }
  else s

/-- A KEEPALIVE_WRITE ends, with its pages and its reads. -/
def State.dropKa (s : State) : State :=
  match s.eng.kaCheck with
  | some (_, l) =>
    l.foldl (fun s p => s.dropOps p.1 (fun u => decide (u = .kaRead)))
      (({ s with eng := { s.eng with kaCheck := none } } : State).dropJobs Job.isKa)
  | none => s

/-- One of those commands ends and is answered. -/
def State.endRead (s : State) (st : Nat) : State :=
  match s.eng.nvRead with | some (id, _) => s.dropRead.answer id st [] | none => s
def State.endCensus (s : State) (st : Nat) : State :=
  match s.eng.census with | some (id, _) => s.dropCensus.answer id st [] | none => s
def State.endKa (s : State) (st : Nat) : State :=
  match s.eng.kaCheck with | some (id, _) => s.dropKa.answer id st [] | none => s

/-- A page job, NV read, census or keep-alive write on a lane that leaves service is dropped; a host command is answered TRANSFER_ABORTED
(R78, R325). -/
def State.abortLaneOps (s : State) (n : Nat) : State :=
  let s := if (match s.eng.nvRead with | some (_, k) => k == n | none => false) then s.endRead stTransferAborted else s
  let s := if (match s.eng.kaCheck with | some (_, l) => l.any (fun p => p.1 == n) | none => false) then s.endKa stTransferAborted else s
  let s := if (match s.eng.census with | some (_, _, _, wait) => wait.getLsbD n | none => false) then s.endCensus stTransferAborted else s
  let hit := s.eng.jobs.filter (fun j => j.lane == n)
  hit.foldl (fun s j => match j.use with
    | .host id => s.answer id stTransferAborted []
    | _ => s) (s.dropJobs (fun j => j.lane == n))

/-! ### What a lane sends (R304, R308, R315 to R318) -/

/-- A filler takes over from an instant (ps). The inversions of PRBS blocks that it cuts off stay counted (R344). -/
def Lane.filler (at_ : Nat) (k : FillKind) (l : Lane) : Lane :=
  { l with fills := { due := at_, kind := k, done := 0 } :: l.fills, injcnt := BitVec.ofNat 32 (l.injections (at_ / 1000)) }

/-- Blocks become due. -/
def Lane.enqueue (x : Tx) (l : Lane) : Lane := { l with txq := l.txq ++ [x] }

/-- The TRAIN blocks of a phase from an instant (ps) on, with the taps, STATUS and RSEQ in force (Table 7.9). -/
def Lane.trains (at_ phase : Nat) (l : Lane) : Lane :=
  l.filler at_ (.train phase l.txPre l.txMain l.txPost l.tapStatus.toNat l.rseq.toNat l.prec)

/-- The end of the first slot that ends at or after an instant (ps) and is no MARKER's (R308, R315). Slots before the last MARKER lie on
the same grid. -/
def Lane.slotEnd (at_ : Nat) (l : Lane) : Nat :=
  if at_ ≤ l.baseAt then at_ + (l.baseAt - at_) % l.blockPs
  else
    let j := ceilDiv (at_ - l.baseAt) l.blockPs - 1
    let j := if slotMarker j then j + 1 else j
    l.baseAt + (j + 1) * l.blockPs

def Show.code : Show → Nat
  | .hold => 0 | .next => 1 | .dark => 2 | .keep => 3

/-- FSTART payload (Table 7.4). -/
def fstartPayload (fseq : Half) (sh : Show) (ofs : Nat) : List Byte :=
  payload16 (le 2 fseq.toNat ++ le 1 sh.code ++ [0#8] ++ le 2 ofs)

/-- OFS for a last symbol `lead` ps before Pk on a lane whose one-way delay is `dn` ps (R316), in units of 0.25 ns, halves up. -/
def fstartOfs (lead : Nat) (dn : Int) : Nat := ((2 * ((lead : Int) - dn) + 250) / 500).toNat

/-- A block in the slot that ends at `tl`; one before the last MARKER has gone out. -/
def Lane.enqueueAt (tl : Nat) (k : TxKind) (l : Lane) : Lane :=
  if tl ≤ l.baseAt then l else l.enqueue { due := tl - l.blockPs, kind := k, done := 0, left := 1 }

/-- The FSTART of a pass that starts at DTIME p: its block ends at the first free slot boundary at or after p − 3,000 ns, and OFS leads from
there to p (R315, R316). -/
def Lane.sendFstart (p : Nat) (fseq : Half) (show_ : Show) (l : Lane) : Lane :=
  let tl := l.slotEnd (1000 * p - 3000000)
  let ofs := fstartOfs (1000 * p - tl) l.delay
  { l.enqueueAt tl (.fstart fseq show_ ofs) with
    fstartAt := tl / 1000, lastShow := show_, tl := tl, ofs := ofs }

/-- An FSTART at once, with the OFS given: R316 rules OFS only for the frame start of a pass. -/
def Lane.sendExtra (now : Nat) (fseq : Half) (show_ : Show) (ofs : Nat) (l : Lane) : Lane :=
  let tl := l.slotEnd (1000 * now + l.blockPs)
  { l.enqueue { due := tl - l.blockPs, kind := .fstart fseq show_ ofs, done := 0, left := 1 } with
    fstartAt := now, lastShow := if show_ = .hold then l.lastShow else show_, tl := tl, ofs := ofs }

/-- An FSTART outside a pass on lane n (R318, R325, R343); its OFS is a free value (assumption 105). -/
def State.extraFstart (n : Nat) (show_ : Show) (s : State) : State :=
  let res := s.fresh
  res.2.setLane n (fun l => l.sendExtra s.clk.dtime s.scan.fseq show_ (res.1 % 65536))

/-- Nothing more of what is due on a lane leaves after `now`. -/
def Lane.cutAll (now : Nat) (l : Lane) : Lane :=
  { l with txq := List.zipWith (fun x y => { x with left := y.done - x.done }) l.txq (l.left (l.slotsBy now)).1 }

/-- A start of a lane at an instant (ps of DTIME) sends a MARKER as its first block, with MSEQ 0, and IDLE after it. Of what was due before
only the CTRL blocks that have not left are sent (R308, R339). -/
def Lane.begin (n at_ : Nat) (l : Lane) : Lane :=
  let k := l.slotsBy (at_ / 1000)
  let l := l.noteSent k
  { l with
    slots := 0, mseq := 0, lfsr := scramSeed n 0, baseAt := at_, prev := 0, precAt := 0
    txq := (l.left k).1.filter (fun x => decide (x.kind.type = .ctrl ∧ 0 < x.left))
    fills := [{ due := at_, kind := .idle, done := 0 }], injcnt := BitVec.ofNat 32 (l.injections (at_ / 1000)) }

/-- Blind start: LIMP, no precoding, the preset taps of the active TXEQ, the polarity of TXPOL, block count from zero (R328, R634). A lane
that is to be furled when its transfers have drained stays so (R324). -/
def State.laneBlind (n : Nat) (s : State) : State :=
  let w := s.act (laneAddr n + 1)
  s.setLane n (fun l => { Lane.begin n (1000 * s.clk.dtime) l with
    st := .idle, full := false, block := false, bclock := false, prec := false, up := false, down := false, started := true,
    startedAt := s.clk.dtime, phase := 0, phaseDue := 0, acked := false, countAt := none, txInv := s.flag 0x110001 n, txPre := bits w 5 0,
    txMain := bits w 13 8, txPost := bits w 21 16, fstartAt := s.clk.dtime, badRun := 0, runFrom := s.clk.dtime, mis := false, tail := [] })

/-- A lane furls at once: its CTRL transfers that are left are aborted, an FSTART with DARK and 16 FURL blocks take the next slots, then the
transmitter is in electrical idle (R311, R325). -/
def State.furlNow (n : Nat) (s : State) : State :=
  let s := s.abortLaneOps n
  let at_ := 1000 * s.clk.dtime
  let res := s.fresh
  (res.2.setLane n (fun l =>
    let l := ((l.cutAll s.clk.dtime).enqueue { due := at_, kind := .fstart s.scan.fseq .dark (res.1 % 65536), done := 0, left := 1 }).enqueue
      { due := at_, kind := .furl, done := 0, left := 16 }
    { l.filler at_ .idle with
      st := .furled, block := false, bclock := false, up := false, phase := 0, acked := false, countAt := none, attempt := 0, ctrl := []
      ctrlQ := [], read := none, lastShow := .dark, furlDue := none, rejoin := false, ofs := res.1 % 65536 })).raise0 0x18A n 0

/-- Operations, jobs or reads of a lane that are still to drain. -/
def State.laneBusy (s : State) (n : Nat) : Bool :=
  let l := vget s.fly n
  !l.ctrl.isEmpty || !l.ctrlQ.isEmpty || s.eng.jobs.any (fun j => j.lane == n)

/-- Furl (R324, R325): the CTRL transfers of the lane have 500 µs to drain (R77). -/
def State.laneFurl (n : Nat) (s : State) : State :=
  if (vget s.fly n).st = .furled then s
  else if s.laneBusy n then s.setLane n (fun l => { l with furlDue := l.furlDue.or (some (s.clk.dtime + 500000)) })
  else s.furlNow n

/-- Lanes to be furled whose transfers have drained furl. -/
def State.furlDrained (s : State) : State :=
  iter (fun n s => if (vget s.fly n).furlDue.isSome && !s.laneBusy n then s.furlNow n else s) 16 s

/-- Lanes to be furled whose 500 µs have passed furl (R78). -/
def State.furlExpired (s : State) : State :=
  iter (fun n s => match (vget s.fly n).furlDue with
    | some t => if t ≤ s.clk.dtime then s.furlNow n else s
    | none => s) 16 s

/-- Every lane starts blind when override ends (R336); a lane that is furled stays so unless it is enabled (Table 7.7a, assumption 124). No lane orders its
engine dark before it is back at its active RATE (R37, assumption 135). -/
def State.lanesRestart (s : State) : State :=
  iter (fun n s =>
    if s.laneEn n || decide ((vget s.fly n).st ≠ .furled) then (s.setLane n (fun l => { l with attempt := 0, rejoin := true })).laneBlind n
    else s) 16 s

/-- The SHOW that a lane carries where `sh` is due on all: KEEP in place of DARK until a restarted lane is back at its rate (R37). -/
def Lane.showFor (sh : Show) (l : Lane) : Show := if l.rejoin && decide (sh = .dark) then .keep else sh

/-- The next training attempt of a lane begins: TRAIN PHASE 1 at LIMP, COUNT 15 down to 0 in 16 blocks (Table 7.8 step 1). Under override
training is suspended (R336). Without an acknowledgement the attempt has failed when COUNT 0 has left (R330). -/
def State.laneTrain (n : Nat) (s : State) : State :=
  if s.ens.ovr then s
  else
    s.setLane n (fun l =>
      let l := { l with
        st := .training, phase := 1, attempt := l.attempt + 1, startedAt := s.clk.dtime, rseq := 0, tapStatus := 0, acked := false
        : Lane }.trains (1000 * s.clk.dtime) 1
      let t := l.countEnd s.clk.dtime
      { l with countAt := some t, phaseDue := ceilDiv t 1000 })

/-- A lane's RATE changed (R329, R293): to FULL it trains, to LIMP it starts blind at LIMP. -/
def State.laneRetrain (n : Nat) (s : State) : State :=
  let s := s.setLane n (fun l => { l with attempt := 0 })
  if s.laneRate n then (if (vget s.fly n).up then s.laneTrain n else s.laneBlind n) else s.laneBlind n

/-- A message with a good CRC has arrived. Messages follow one another every 480 ns, and those without a command of their own are good IDLE
ones, so that the third in a row since the last bad one, or since the lane's start, ends 1,440 ns after it: then the backchannel is locked
(R321, assumption 22). -/
def State.backGood (n : Nat) (s : State) : State :=
  s.setLane n (fun l => { l with bclock := l.bclock || decide (l.runFrom + 1440 ≤ s.clk.dtime), badRun := 0 })

/-- COUNT 0 of PHASE 1 has left at `t` ps: FULL, a MARKER, then TRAIN PHASE 2 with the preset taps (Table 7.8 step 2). -/
def State.laneFull (n t : Nat) (s : State) : State :=
  let w := s.act (laneAddr n + 1)
  s.setLane n (fun l => ({ Lane.begin n t l with
    phase := 2, full := true, block := false, phaseDue := l.startedAt + 1100000, acked := false, countAt := none, tapStatus := 0,
    txPre := bits w 5 0, txMain := bits w 13 8, txPost := bits w 21 16 } : Lane).trains t 2)

/-- COUNT 0 of PHASE 3 has left at `t` ps: precoding starts, then TRAIN PHASE 4 (Table 7.8 steps 6 and 7). -/
def State.lanePrecode (n t : Nat) (s : State) : State :=
  (s.setLane n (fun l => ({ l with
    phase := 4, prec := true, precAt := t, countAt := none, phaseDue := l.startedAt + 7000000 } : Lane).trains t 4)).raise0 0x18C n 0

/-- Countdowns of training attempts that have come to COUNT 0 (Table 7.8); none goes on under override (R336). -/
def State.countdowns (s : State) : State :=
  if s.ens.ovr then s
  else
    iter (fun n s =>
      let l := vget s.fly n
      match l.countAt with
      | some t =>
        if decide (l.st = .training ∧ t ≤ 1000 * s.clk.dtime) then
          (if l.phase = 1 && l.acked then s.laneFull n t else if l.phase = 3 then s.lanePrecode n t else s)
        else s
      | none => s) 16 s

/-- IDLE or ACTIVE. -/
def Lane.runs (l : Lane) : Bool := decide (l.st = .idle ∨ l.st = .active)

/-- A lane is fit to carry lines: enabled, IDLE or ACTIVE, up. -/
def State.laneReady (s : State) (n : Nat) : Bool :=
  let l := vget s.fly n
  s.laneEn n && l.up && decide (l.st = .idle ∨ l.st = .active)

end Sys2Proof.Machine
end

