-- ==== Sys2Proof/Machine/Groups.lean ====
section
/-! DEFINITION. Commit groups (R18 to R24, R113 to R116): the checks of Tables 2.12, 4.16, 6.7 and 7.11, validation, and application at a
boundary. -/

namespace Sys2Proof.Machine

/-- The commit group of a word. -/
def wordGroup (a : Nat) : Option Nat := match regInfo a with | some r => r.grp | none => none

/-- A word's value in a view (R114): the words of the named groups as given, those of a group that one of the COMMITs `live` names as
the newest of them validated them, every other word as it is in force. -/
def State.viewIn (s : State) (live : List PendingCommit) (groups : BitVec 8) (snap : List (Nat × Word)) (a : Nat) : Nat :=
  match wordGroup a with
  | none => s.act a
  | some g =>
    if groups.getLsbD g then (wordGet snap a).toNat
    else match (live.filter (fun c => c.groups.getLsbD g)).getLast? with
      | some c => (wordGet c.snap a).toNat
      | none => s.act a

/-- A word's value for validation (R114): staged in a named group, else pending, else active. -/
def State.viewWord (s : State) (groups : BitVec 8) (snap : List (Nat × Word)) (a : Nat) : Nat := s.viewIn s.regs.commits groups snap a

/-- The first number below `n` that fails. -/
def failAt (check n : Nat) (p : Nat → Bool) : Option (Nat × Nat) := (firstBelow p n).map (fun i => (check, i))

/-- A failure without an instance. -/
def failIf (check : Nat) (b : Bool) : Option (Nat × Nat) := if b then some (check, 0xFFFF) else none

def isRgb (f : Nat) : Bool := decide (fmtBase f = 4 ∨ fmtBase f = 5)
def isGrey (f : Nat) : Bool := decide (fmtBase f = 1 ∨ fmtBase f = 2)

/-- A mesh is loaded and all its points are in range (Table 4.12). -/
def meshGood (w : Nat → Nat) (m : Nat) : Bool :=
  bit (w (0x30800 + m)) 0 &&
  (List.range 297).all (fun k =>
    let v := w (0x31000 + 0x200 * m + k)
    let x := signed 16 v
    let y := signed 16 (v / 65536)
    decide (-8192 ≤ x ∧ x ≤ 24575 ∧ -4096 ≤ y ∧ y ≤ 8191))

/-- A surface that an enabled layer may name: COMPLETE and leased (check 0x0002). -/
def Surface.usable (u : Surface) : Bool := decide (u.st = .leased)

/-- The layer of a word view, with unit steps. -/
def viewLayer (w : Nat → Nat) (n : Nat) : LayerCfg := layerCfg w n (0, 0)

/-- Check 0x0002 alone. -/
def State.check0002 (s : State) (w : Nat → Nat) : Option (Nat × Nat) :=
  failAt 0x0002 64 (fun n => (viewLayer w n).en && !(vget s.store.surfs (viewLayer w n).surf).usable)

/-- The LAYERS checks (Table 4.16). -/
def State.checkLayers (s : State) (w : Nat → Nat) : Option (Nat × Nat) :=
  let each (c : Nat) (p : LayerCfg → Surface → Bool) : Option (Nat × Nat) :=
    failAt c 64 (fun n => let l := viewLayer w n; l.en && p l (vget s.store.surfs l.surf))
  (failIf 0x0001 (decide (16 < countBelow (fun n => (viewLayer w n).en) 64))).or <|
  (s.check0002 w).or <|
  (each 0x0003 (fun l u => decide (l.srcw = 0 ∨ l.srch = 0 ∨ u.width < l.srcx + l.srcw ∨ u.height < l.srcy + l.srch))).or <|
  (each 0x0004 (fun l _ => decide (4096 < l.wp))).or <|
  (each 0x0005 (fun l _ => decide (4 * l.dsth < l.srch))).or <|
  (each 0x0006 (fun l _ => decide (8 * l.wp < l.dstw ∨ 8 * l.srch < l.dsth))).or <|
  (each 0x0007 (fun l u => (!l.maten && isRgb u.format) || (l.maten && isGrey u.format))).or <|
  (each 0x0008 (fun l _ => decide (l.dstw = 0 ∨ l.dsth = 0 ∨ 2048 < l.dstx + l.dstw ∨ 512 < l.dsty + l.dsth))).or <|
  (each 0x0009 (fun l _ => l.warp && !meshGood w l.mesh)).or <|
  each 0x000A (fun l _ => decide (4 ≤ l.blend))

/-- The MASK checks (R227, R253). -/
def checkMask (w : Nat → Nat) : Option (Nat × Nat) :=
  (failIf 0x0101 (decide (1000 < bits (w 0x40000) 17 8 ∨ 500 < bits (w 0x40000) 27 18))).or <|
  (failIf 0x0102 (decide (bits (w 0x40000) 6 0 = 0 ∨ 64 < bits (w 0x40000) 6 0))).or <|
  failAt 0x0103 3 (fun k => decide (bits (w (0x40011 + 2 * k)) 15 0 ≠ 0))

/-- The rated power: the accepted burgee's, the sum for a clone pair, 0 before step 7 (R253, R355). -/
def State.rated (s : State) : Nat :=
  if s.eng.engId then burg s.eng.burgee0 24 2 + (if s.eng.pair then burg s.eng.burgee8 24 2 else 0) else 0

def State.checkPower (s : State) (w : Nat → Nat) : Option (Nat × Nat) :=
  (failIf 0x0301 (decide (s.rated < bits (w 0xF0000) 15 0))).or <|
  (failIf 0x0302 (decide (((List.range 16).map (fun i => bits (w (0xF0010 + i)) 10 0)).sum ≠ 1024))).or <|
  failIf 0x0303 (decide (bits (w 0xF0000) 15 0 < bits (w 0xF0001) 15 0))

/-- Check 0x0403 (R64): a rate above 120 Hz needs every enabled lane at FULL. -/
def check0403 (w : Nat → Nat) : Option (Nat × Nat) :=
  if 120 < bits (w 0x50000) 9 0 then failAt 0x0403 16 (fun n => bit (w (laneAddr n)) 0 && !bit (w (laneAddr n)) 1) else none

/-- A burgee that declares 8 segments in one row. -/
def halfBurgee (b : List Byte) : Bool := decide (burg b 5 1 = 8 ∧ burg b 6 1 = 1)

/-- Check 0x0404 (Table 6.7). -/
def State.check0404 (s : State) (w : Nat → Nat) : Option (Nat × Nat) :=
  let t := w 0x50000
  failIf 0x0404 ((bit t 12 && !(s.eng.engId && s.eng.pair && halfBurgee s.eng.burgee0 && halfBurgee s.eng.burgee8)) ||
    (!bit t 12 && s.eng.pair) || (bit t 13 && !bit t 12))

def State.checkTiming (s : State) (w : Nat → Nat) : Option (Nat × Nat) :=
  let r := bits (w 0x50000) 9 0
  let d := bits (w 0x50000) 11 10
  (failIf 0x0401 (decide (r ≠ 120 ∧ r ≠ 240 ∧ r ≠ 480 ∧ r ≠ 960))).or <|
  (failIf 0x0402 (decide (d = 3 ∨ 480 * 2 ^ d < r))).or <|
  (check0403 w).or (s.check0404 w)

/-- The LANES checks (Table 7.11). Before a burgee is accepted no receiver is declared LIMP-only or unmapped (assumption 20). -/
def State.checkLanes (s : State) (w : Nat → Nat) : Option (Nat × Nat) :=
  let limpOnly (n : Nat) : Bool :=
    s.eng.engId && s.mapped n && bit (burg (s.burgeeOf n) 22 2) (if s.eng.pair && decide (8 ≤ n) then n - 8 else n)
  (failAt 0x0501 16 (fun n => bit (w (laneAddr n)) 0 && bit (w (laneAddr n)) 1 && limpOnly n)).or <|
  (failAt 0x0502 16 (fun n =>
    let v := w (laneAddr n + 1)
    let pre := bits v 5 0
    let main := bits v 13 8
    let post := bits v 21 16
    decide (pre + main + post ≠ 63 ∨ 15 < pre ∨ 24 < post ∨ main < 24))).or <|
  failAt 0x0503 16 (fun n => bit (w (laneAddr n)) 0 && s.eng.engId && !s.mapped n)

/-- A throttling channel (R511): channels 0 to 11. -/
def checkThermal (w : Nat → Nat) : Option (Nat × Nat) :=
  (failIf 0x0601 (decide (bits (w 0xC0000) 6 0 < 5 ∨ 100 < bits (w 0xC0000) 6 0))).or <|
  failAt 0x0602 12 (fun c => decide (bits (w (0xC0010 + 4 * c)) 23 16 = 0))

/-- Default graces in 0.1 ms (Table 11.1). -/
def graceMax : Nat → Nat
  | 0 => 20 | 1 => 40 | 2 => 80 | 3 => 40 | 4 => 40 | 5 => 10 | _ => 80

/-- A grace above its limit; the check names no instance, for a class is no layer, lane or segment (R113). -/
def checkFault (w : Nat → Nat) : Option (Nat × Nat) :=
  failIf 0x0701 ((List.range 7).any (fun k =>
    decide (graceMax k < (if k < 4 then bits (w 0xB000C) (8 * k + 7) (8 * k) else bits (w 0xB000D) (8 * (k - 4) + 7) (8 * (k - 4))))))

/-- The checks of the named groups in table order (R113). -/
def State.checkGroups (s : State) (g : BitVec 8) (w : Nat → Nat) : Option (Nat × Nat) :=
  let when (i : Nat) (c : Option (Nat × Nat)) : Option (Nat × Nat) := if g.getLsbD i then c else none
  (when 0 (s.checkLayers w)).or <| (when 1 (checkMask w)).or <|
  (when 2 (failIf 0x0201 (!s.mask.ceilOk))).or <| (when 3 (s.checkPower w)).or <| (when 4 (s.checkTiming w)).or <|
  (when 5 (s.checkLanes w)).or <| (when 6 (checkThermal w)).or (when 7 (checkFault w))

/-- The shadow words of the named groups (R22). -/
def State.snapOf (s : State) (g : BitVec 8) : List (Nat × Word) :=
  s.regs.shd.filter (fun p => match wordGroup p.1 with | some i => g.getLsbD i | none => false)

/-- COMMIT reply data (Table 2.13). -/
def commitData (outcome check index frame : Nat) : List Byte :=
  le 2 outcome ++ le 2 check ++ le 2 index ++ le 2 0 ++ le 6 frame ++ le 2 0

/-- The active words with one group's words replaced by a validated set. -/
def State.loadGroup (s : State) (g : Nat) (snap : List (Nat × Word)) : State :=
  let kept := s.regs.act.filter (fun p => decide (wordGroup p.1 ≠ some g))
  let add := snap.filter (fun p => decide (wordGroup p.1 = some g))
  { s with regs.act := add.foldl (fun l p => wordPut l p.1 p.2) kept }

/-- Steps of the enabled layers of the set in force (R189), computed when the set applies: until then STEPH and STEPV read those of the set
before (assumption 102). -/
def State.newSteps (s : State) : State :=
  { s with bun := { s.bun with layers := iter (fun n v =>
      let l := viewLayer s.act n
      if l.en then vmod v n (fun a => { a with stepH := (layerSteps l).1, stepV := (layerSteps l).2 }) else v) 64 s.bun.layers } }

/-- TSTART of a throttling channel: TLIM − RISEMAX × (GRACE + 2 s), GRACE in 0.1 s, RISEMAX in 0.1 K/s, in 1/16 degree (R517). -/
def State.tstart (s : State) (c : Nat) : Int :=
  signed 16 (s.fld (0xC0010 + 4 * c) 15 0) - ((s.fld (0xC0010 + 4 * c) 23 16 * (s.fld 0xC0000 6 0 + 20) * 16 / 100 : Nat) : Int)

def State.newThresholds (s : State) : State :=
  { s with thm := { s.thm with ch := iter (fun c v => vmod v c (fun x => { x with tstart := s.tstart c })) 12 s.thm.ch } }

/-- Class timers whose new grace has already passed expire at application (R493). -/
def State.markDue (s : State) : State :=
  let due (now grace : Nat) (t : Timer) : Timer :=
    match t.start with
    | some t0 => if !t.expired && decide (grace ≤ now - t0) then { t with due := true } else t
    | none => t
  { s with flt := { s.flt with
      timers := iter (fun k v => vmod v k (due s.clk.dtime (s.grace k))) 7 s.flt.timers
      ensP := due s.clk.now (s.ensGrace clsP) s.flt.ensP
      ensI := due s.clk.now (s.ensGrace clsI) s.flt.ensI } }

/-- Guidon copies an applied THERMAL set and checks its copies by CRC: they are those words (R534, R680). -/
def State.copyThermal (s : State) : State :=
  (({ s with thm := { s.thm with gdnCopy := s.regs.act.filter (fun p => decide (wordGroup p.1 = some grpThermal)) } } : State)).resolveAll 0x107

/-- What applying a group changes besides its register words. LANES and TIMING sets act on running scan-out at the flip that applies
them. -/
def State.groupEffect (g : Nat) (s : State) : State :=
  if g = grpLayers then s.newSteps
  else if g = grpMask then s.resolveAll 0x107
  else if g = grpPower then s.budgetMoved
  else if g = grpThermal then (s.copyThermal).newThresholds.graceDue
  else if g = grpFault then ({ s with ens := { s.ens with grace1 := s.actW 0xB000D } } : State).markDue
  else s

/-- Outcome of each pending COMMIT at a boundary, newest first: none applies, some (check, index) refuses (R23, R115). `later` are the
groups of newer COMMITs, `bad` the groups of newer refused ones with their failure; `again` checks a COMMIT's own groups. -/
def judge (again : PendingCommit → BitVec 8 → Option (Nat × Nat)) :
    List PendingCommit → BitVec 8 → List (BitVec 8 × (Nat × Nat)) → List (PendingCommit × BitVec 8 × Option (Nat × Nat))
  | [], _, _ => []
  | c :: t, later, bad =>
    let own := c.groups &&& ~~~later
    let res := match bad.find? (fun b => decide (b.1 &&& c.groups ≠ 0)) with
      | some b => some b.2
      | none => again c own
    (c, own, res) :: judge again t (later ||| c.groups) (match res with | some f => (c.groups, f) :: bad | none => bad)

/-- Check 0x0002 as the boundary repeats it, on a COMMIT whose LAYERS set would apply. -/
def State.again0002 (s : State) (c : PendingCommit) (own : BitVec 8) : Option (Nat × Nat) :=
  if own.getLsbD 0 then s.check0002 (s.viewIn [] c.groups c.snap) else none

/-- What the boundary decides of every pending COMMIT, oldest first (R115): check 0x0002 stands alone, check 0x0403 sees the lanes as the
COMMITs leave them that check 0x0002 does not refuse. A COMMIT that names LANES itself is judged by its own LANES, also where a later COMMIT has
replaced that set: the spec does not say which the repeated check takes (assumption 101). -/
def State.verdicts (s : State) : List (PendingCommit × BitVec 8 × Option (Nat × Nat)) :=
  let l := s.regs.commits.reverse
  let live := ((judge s.again0002 l 0 []).filter (fun x => x.2.2.isNone)).reverse.map (·.1)
  (judge (fun c own => (s.again0002 c own).or (if own.getLsbD 4 then check0403 (s.viewIn live c.groups c.snap) else none)) l 0 []).reverse

/-- Apply the COMMITs that await a boundary (R115, R116): the words of each group's newest set, the group's effects, then the replies
in admission order. The groups of a refused COMMIT are staged again, for their shadow values are applied nowhere (R24, assumption 101);
HAL_COMMIT_LATE is raised for each refused COMMIT (assumption 101). -/
def State.applyCommits (s : State) : State :=
  let all := s.verdicts
  let s : State := { s with regs := { s.regs with
    commits := []
    staged := all.foldl (fun m x => if x.2.2.isSome then m ||| x.1.groups else m) s.regs.staged } }
  let s := all.foldl (fun s (x : PendingCommit × BitVec 8 × Option (Nat × Nat)) =>
    match x.2.2 with
    | some _ => s
    | none => iter (fun g s => if x.2.1.getLsbD g then (s.loadGroup g x.1.snap).groupEffect g else s) 8 s) s
  all.foldl (fun s (x : PendingCommit × BitVec 8 × Option (Nat × Nat)) =>
    match x.2.2 with
    | some f => (s.answer x.1.id stCommitRefused (commitData 0 f.1 f.2 0)).event 0x044
    | none => s.answer x.1.id stOk (commitData (if x.2.1 = 0 then 1 else 0) 0 0xFFFF s.scan.framecnt)) s

/-- Lanes whose EN or RATE differs between two word views. -/
def enChange (old new : Nat → Nat) (n : Nat) : Bool := bit (old (laneAddr n)) 0 != bit (new (laneAddr n)) 0
def rateChange (old new : Nat → Nat) (n : Nat) : Bool :=
  bit (new (laneAddr n)) 0 && bit (old (laneAddr n)) 0 && (bit (old (laneAddr n)) 1 != bit (new (laneAddr n)) 1)

/-- EN changes of an applied LANES set (R324, R327), lanes in ascending order. -/
def State.lanesEn (old : Nat → Nat) (s : State) : State :=
  iter (fun n s =>
    if enChange old s.act n then
      (if s.laneEn n then (if s.mode.step < 6 then s else (s.setLane n (fun l => { l with attempt := 0, furlDue := none })).laneBlind n)
       else s.laneFurl n)
    else s) 16 s

/-- Application while no scan-out runs (R116): EN changes act, and lanes whose RATE changed train at once once step 8 has been
reached. -/
def State.applyIdle (s : State) : State :=
  let old := s.act
  let s := (s.applyCommits).lanesEn old
  if s.eng.step7 ≠ .done then s
  else iter (fun n s => if rateChange old s.act n then s.laneRetrain n else s) 16 s

end Sys2Proof.Machine
end

