-- ==== Sys2Proof/Machine/Perf.lean ====
section
/-! DEFINITION. The self-timed fabric and the performance policy (chapter 13): VREQ, PCDIV, the matched-delay margin, the canary rings,
FIRC, and the composition slack that the policy acts on (R207, Table 4.18). -/

namespace Sys2Proof.Machine

def State.vmin (s : State) : Nat := s.fld 0x10200 6 0
def State.vmax (s : State) : Nat := s.fld 0x10200 14 8
def State.pcdivMax (s : State) : Nat := s.fld 0x10200 17 16
def State.auto (s : State) : Bool := s.flag 0x10200 18

/-- VMAX as the policy uses it: 0.80 V, code 40, while TJHOT is 1 and VMAX is above it (R557). -/
def State.vmaxEff (s : State) : Nat := if s.thm.tjHot then min s.vmax 40 else s.vmax

/-- Bunting composes, or is about to: scan-out runs and has not been asked to stop, BEAM entry ramps VREQ, or a retraining change is in
progress. -/
def State.composing (s : State) : Bool :=
  (s.scan.run && !s.scan.stopping) || s.scan.settleAt.isSome || (s.scan.retrain.isSome && !s.scan.stopping)

/-- The code that VREQ moves toward (R549, R551, R557, R558): 40 before the first READY, held from a retraining change to the first
flip after its anchor, else the
policy's target limited by TJHOT, within VMIN and VMAX (assumption 21: VMIN prevails over the TJHOT limit). -/
def State.vaim (s : State) : Nat :=
  if !s.mode.readySeen then 40
  else if s.scan.retrain.isSome || s.scan.freezeMute then s.fab.vcode
  else max s.vmin (min (if s.thm.tjHot then min s.fab.vtarget 40 else s.fab.vtarget) s.vmax)

/-- PCDIV takes a value; HAL_PCDIV at each change (chapter 13). -/
def State.setPcdiv (v : Nat) (s : State) : State :=
  if s.scan.pcdiv = v then s else (({ s with scan := { s.scan with pcdiv := v } } : State)).event 0x049

/-- A MODE_SET BEAM has been admitted and waits in the queue. -/
def State.beamQueued (s : State) : Bool := s.mode.queue.any (fun q => decide (q.target = .beam))

/-- The policy's target while Bunting composes nothing: VMIN and PCDIV 0 (R552), VMAX while AUTO is 0 (R554) and from the admission of a
MODE_SET BEAM on (R553). -/
def State.idleTarget (s : State) : State :=
  let s : State := { s with
    fab := { s.fab with
      vtarget := if !s.mode.readySeen then 40 else if s.auto && !s.beamQueued then s.vmin else s.vmax, downWant := false }
    scan := { s.scan with pcdivWant := none } }
  s.setPcdiv 0

/-- The queue has changed: the target follows where Bunting composes nothing (R552, R553). -/
def State.queueTarget (s : State) : State := if s.composing then s else s.idleTarget

/-- VCODE or its target changed while BEAM entry waits: the 50 µs of R553 start again. -/
def State.resettle (s : State) : State :=
  if s.scan.settleAt.isSome then { s with scan := { s.scan with settleAt := some s.clk.dtime } } else s

/-- A change of PCDIV that the policy wants, never above PCDIVMAX (R559). -/
def State.wantPcdiv (v : Nat) (s : State) : State := { s with scan := { s.scan with pcdivWant := some (min v s.pcdivMax) } }

/-- VREQ stands at VMAX: PCDIV − 1 is wanted where row 5 of Table 13.4 asked for it. -/
def State.downDue (s : State) : State :=
  if s.fab.vcode = s.vmaxEff ∧ s.fab.downWant then
    ({ s with fab := { s.fab with downWant := false } } : State).wantPcdiv (s.scan.pcdiv - 1)
  else s

/-- The block in hand no longer counts as spent at VMAX once VREQ does not stand there (Table 13.4, row 2). -/
def State.atMaxStill (s : State) : State :=
  { s with bun := { s.bun with blkAtMax := s.bun.blkAtMax && decide (s.fab.vcode = s.vmaxEff) } }

/-- The target keeps within VMIN and VMAX, and AUTO at 0 holds VMAX and PCDIV 0 (R551, R554). -/
def State.perfTarget (s : State) : State :=
  let s : State := { s with fab := { s.fab with
    vtarget := if s.auto then clamp s.vmin s.vmax s.fab.vtarget else s.vmax, downWant := s.fab.downWant && s.auto } }
  if s.auto then s else { s with scan := { s.scan with pcdivWant := some 0 } }

/-- A lower PCDIVMAX lowers PCDIV at the next permitted flip (R559). -/
def State.perfDivider (s : State) : State :=
  if s.pcdivMax < s.scan.pcdiv then s.wantPcdiv (s.scan.pcdivWant.getD 3)
  else { s with scan := { s.scan with pcdivWant := s.scan.pcdivWant.filter (fun w => decide (w ≤ s.pcdivMax)) } }

/-- A write of PERF.CFG; a change of the code aimed at restarts the 50 µs of R553. `aim` is the code aimed at before the write. -/
def State.perfWritten (aim : Nat) (s : State) : State :=
  if !s.composing then s.idleTarget
  else
    let s := (((s.perfTarget).perfDivider).atMaxStill).downDue
    if s.vaim = aim then s else s.resettle

/-- TJHOT changed (R557): the code aimed at may change with it. -/
def State.setTjHot (v : Bool) (s : State) : State :=
  let old := s.vaim
  let s : State := { s with thm := { s.thm with tjHot := v } }
  let s := s.atMaxStill
  if s.vaim = old then s else s.resettle

/-- The first composition after a ramp, or a SERVICE task's scan-out, is asked for at VMAX (R553). -/
def State.rampUp (s : State) : State :=
  { s with fab := { s.fab with vtarget := s.vmax }, scan := { s.scan with settleAt := some s.clk.dtime } }

/-- Of the codes driven before the present one, those that were driven in the last 100 µs (R608). -/
def Fabric.drivenBy (f : Fabric) (now : Nat) : List (Nat × Nat) := f.driven.filter (fun e => decide (now ≤ e.1 + 100000))

/-- VCORE, in 0.1 mV, lies in the good window: the voltages of the codes driven in the last 100 µs, widened by 60 mV (R547, R608). -/
def State.vcoreGood (s : State) (v : Nat) : Bool :=
  let codes := (s.fab.drivenBy s.clk.dtime).map (·.2)
  decide (6000 + 50 * codes.foldl min s.fab.vcode ≤ v + 600 ∧ v ≤ 6000 + 50 * codes.foldl max s.fab.vcode + 600)

/-- One step of VREQ, at most one code in 50 µs (R550). HAL_VREQ_MAX when VREQ reaches VMAX; PCDIV − 1 is then wanted where row 5 of
Table 13.4 asked for it. -/
def State.vreqStep (s : State) : State :=
  let a := s.vaim
  if !s.pow.logicOn || decide (s.fab.vcode = a) || decide (s.clk.dtime < s.fab.stepAt + 50000) then s
  else
    let v := if s.fab.vcode < a then s.fab.vcode + 1 else s.fab.vcode - 1
    let s : State := { s with fab := { s.fab with
      vcode := v, stepAt := s.clk.dtime, driven := (s.clk.dtime, s.fab.vcode) :: s.fab.drivenBy s.clk.dtime } }
    let s := s.resettle
    let s := (s.atMaxStill).downDue
    if v = s.vmax then s.event 0x04A else s

/-! ### The block rule (Table 13.4) -/

/-- D′ of R556: the deadline span at the divider one step lower, its end where R255 places that pass start. -/
def State.spanLower (s : State) : Nat :=
  let r := s.scan.refresh
  (2 ^ max (s.fld 0x50000 11 10) (s.scan.pcdiv - 1) * 1000000000 + r / 2) / max r 1 - 20000

/-- The slack predicted for row 5, where SPDMAX of the current band exists (R556). -/
def State.predicted (s : State) : Option Int :=
  match vget s.fab.spdMax s.thm.dband with
  | some sp =>
    if sp ≠ 0 then
      let d : Int := s.spanLower
      some (1000 * (d * sp - (s.bun.compTime * s.fab.speed : Nat)) / (d * sp))
    else none
  | none => none

/-- Rows 1 to 5 of Table 13.4, the first that matches. -/
def State.policy (missed blockEnd : Bool) (low : Nat) (s : State) : State :=
  let up := s.fld 0x10201 9 0
  let dn := s.fld 0x10201 25 16
  let vm := s.vmaxEff
  let aim (v : Nat) (s : State) : State := { s with fab := { s.fab with vtarget := v } }
  if !s.auto then s
  else if missed && decide (s.fab.vtarget < vm) then aim vm s
  else if (missed || blockEnd) && s.bun.blkAtMax && (s.bun.blkMissed || decide (low < 150)) && decide (s.scan.pcdiv < s.pcdivMax) then
    s.wantPcdiv (s.scan.pcdiv + 1)
  else if !blockEnd then s
  else if low < up then aim (max s.fab.vtarget (min (s.fab.vtarget + 4) vm)) s
  else if dn < low ∧ s.vmin < s.fab.vtarget then aim (s.fab.vtarget - 1) s
  else
    match s.predicted with
    | some p =>
      if 0 < s.scan.pcdiv ∧ (up : Int) ≤ p then
        let s := aim (max s.fab.vtarget vm) s
        ({ s with fab := { s.fab with downWant := true } } : State).downDue
      else s
    | none => s

/-- A composition's slack enters LAST; at the end of a block the least slack enters MIN and the policy acts (R207, Table 4.18, R554).
A stop, an anchor or a write of SLKWIN does not restart the block (DESIGN CHOICE, assumption 116). -/
def State.enterSlack (v : Nat) (s : State) : State :=
  let b := s.bun
  let low := min b.blkMin v
  let n := b.blkCount + 1
  if 2 ^ s.fld 0x30000 7 4 ≤ n then
    let s : State := { s with bun := { b with slackLast := v, slackMin := low } }
    let s := s.policy false true low
    { s with
      bun := { s.bun with blkMin := 1000, blkCount := 0, blkMissed := false, blkAtMax := decide (s.fab.vcode = s.vmaxEff) }
      fab := { s.fab with speedBlk := s.fab.speed } }
  else { s with bun := { b with slackLast := v, blkMin := low, blkCount := n } }

/-- A composition that misses: slack 0 enters (R207). -/
def State.slackMissed (s : State) : State :=
  (({ s with bun := { s.bun with blkMissed := true } } : State)).enterSlack 0

/-! ### Margin, rings and oscillator -/

/-- Matched-delay margin of a band, in hundredths (Table 12.4, R536). -/
def bandMargin (b : Nat) : Nat :=
  match b with | 0 => 130 | 1 => 115 | 2 => 110 | 3 => 115 | 4 => 125 | _ => 135

def State.wantMargin (s : State) : Nat := if s.flag 0x10203 0 then 135 else bandMargin s.thm.dband

/-- A change of band or of FORCEMAX (R540, R541): an increase acts at once, a decrease once DBAND has stayed 100 ms in the lower-margin band. -/
def State.newMargin (s : State) : State :=
  if s.fab.margin ≤ s.wantMargin ∨ s.fab.bandAt + 100000000 ≤ s.clk.dtime then
    { s with fab := { s.fab with margin := s.wantMargin, marginAt := none } }
  else { s with fab := { s.fab with marginAt := some s.fab.bandAt } }

/-- The 100 ms of R541 have passed. -/
def State.marginDecrease (s : State) : State :=
  match s.fab.marginAt with
  | some t0 => if t0 + 100000000 ≤ s.clk.dtime then { s with fab := { s.fab with margin := s.wantMargin, marginAt := none } } else s
  | none => s

/-- SPEED of ring i for a cycle of `cyc` ps (R545); the spec gives no value for a cycle of 0: a free value. -/
def ringSpeed (i cyc : Nat) (s : State) : Nat × State :=
  if cyc = 0 then (s.fresh.1 % 4096, s.fresh.2) else (min (1000 * Config.cycRef i / cyc) 4095, s)

/-- The measurement of the 24 rings (R545, R546) and row 6 of Table 13.4. -/
def State.canaryMeasure (cycles : Vector Half 24) (s : State) : State :=
  let s := iter (fun i s =>
    let cyc := (cycles.toArray.getD i 0).toNat
    let res := ringSpeed i cyc s
    let v := res.1
    let s := res.2
    { s with fab := { s.fab with canary := vset s.fab.canary i (cyc, v) } }) 24 s
  let least := s.fab.canary.toList.foldl (fun m c => min m c.2) 4095
  let s : State := { s with fab := { s.fab with
    speed := least, canaryAt := s.clk.dtime,
    spdMax := if s.fab.vcode = s.vmaxEff then vset s.fab.spdMax s.thm.dband (some least) else s.fab.spdMax } }
  if s.auto && s.scan.run && !s.scan.stopping && decide (100 * least < 92 * s.fab.speedBlk) then
    { s with fab := { s.fab with vtarget := max s.fab.vtarget s.vmaxEff } }
  else s

/-- FIRC against the crystal, in 0.01 % (R564). -/
def State.fircMeasure (e : Int) (s : State) : State :=
  if s.clk.tbXtal then { s with fab := { s.fab with firc := e, fircOk := true, fircAt := s.clk.dtime } } else s

end Sys2Proof.Machine
end

