-- ==== Sys2Proof/Machine/Checks.lean ====
section
/-! DEFINITION. The check-value units (R596 to R600, Tables 14.5 and 14.8). -/

namespace Sys2Proof.Machine

/-- The code of unit u (Table 14.5): 0x380 + u. -/
def unitCode (u : Nat) : Nat := 0x380 + u

def State.setChk (f : Checks → Checks) (s : State) : State := { s with chk := f s.chk }

/-- The injection armed on unit u falls on the check that it makes now; that of a Fly unit goes into a line packet instead (R600). -/
def State.injects (s : State) (u : Nat) : Bool :=
  decide (16 ≤ u) && (match s.chk.armed with | some a => a.val == u | none => false)

/-- One check by unit u: the expected against the computed value, bit 0 of the computed one inverted when an injection falls on it (R600).
A mismatch is counted, keeps both values and raises the unit's code with DATA the value folded into the seed (R597). -/
def State.unitCheck (u data : Nat) (exp got : Word) (s : State) : Bool × State :=
  let hit := s.injects u
  let got' := if hit then got ^^^ 1 else got
  let x := vget s.chk.units u
  let x := { x with cnt := x.cnt + 1 }
  if exp = got' then
    (true, { s with chk := { units := vset s.chk.units u x, armed := if hit then none else s.chk.armed } })
  else
    let x := { x with mis := if hit then x.mis else satAdd x.mis 1, inj := if hit then satAdd x.inj 1 else x.inj, exp := exp, got := got' }
    (false, (({ s with chk := { units := vset s.chk.units u x, armed := if hit then none else s.chk.armed } } : State)).raise0
      (unitCode u) (if u < 16 then u else 0) (data % 2 ^ 32))

/-- A check by unit u that found no mismatch, of a message known by its content only. -/
def Checks.good (c : Checks) (u : Nat) : Checks := { c with units := vmod c.units u (fun x => { x with cnt := x.cnt + 1 }) }

def State.checked (u : Nat) (s : State) : State := s.setChk (fun c => c.good u)

/-- A read that unit 20 discards without a comparison, for its SEQ (R339): counted and raised as a mismatch at NV address `addr`. -/
def State.seqMismatch (addr : Nat) (s : State) : State :=
  ({ s with chk := { s.chk with units := vmod s.chk.units 20 (fun x => { x with mis := satAdd x.mis 1 }) } } : State).raise0
    (unitCode 20) 0 addr

/-- The check value at the end of a structure at NV address `addr` (R352), checked by unit 20 (Table 14.5). -/
def State.sealCheck (addr : Nat) (b : List Byte) (s : State) : Bool × State :=
  s.unitCheck 20 addr (BitVec.ofNat 32 (leAt b (b.length - 4) 4)) (crc32 (BitVec.ofNat 32 addr) (b.take (b.length - 4)))

end Sys2Proof.Machine
end

