-- ==== Sys2Proof/Machine/Store.lean ====
section
/-! DEFINITION. The frame store (chapter 3): writes, arbitration and error correction, surfaces, leases and the background test. -/

namespace Sys2Proof.Machine

/-- The 4,096 bytes of a region of the background test (R161). -/
def inRegion (r a : Nat) : Bool := a / 4096 == r

def regionCells (m : List Host.Cell) (r : Nat) : List Host.Cell := m.filter (fun p => inRegion r p.1)

/-- A word that a write of `n` bytes at byte `a` reaches. -/
def wordHit (a n w : Nat) : Bool := decide (0 < n ∧ 128 * w < a + n ∧ a < 128 * w + 128)

/-- Bytes written to the store; those of a region under test go to the save buffer too, whence they are restored (R162). A write cancels
the write-back owed to a word that it reaches (R134). -/
def State.storePut (a : Nat) (bs : List Byte) (s : State) : State :=
  let m := memPut s.store.mem a bs
  { s with store := { s.store with
      mem := m, bistSave := if s.store.bistActive then regionCells m s.store.bistRegion else s.store.bistSave
      scrub := s.store.scrub.filter (fun p => !wordHit a bs.length p.1) } }

/-- Who reads, as the list of zeroed groups names it. -/
def readerOf : Requester → Nat
  | .scan => 0 | .flyLine => 1 | .hoist => 3 | .halyard => 4 | .background => 5 | .worker w => 8 + w.val

/-- The store as a reader has been given it: the groups that its reads could not correct are zero (R135). -/
def State.memSeen (s : State) (reader : Nat) : List Host.Cell :=
  (s.store.zeroed.filter (fun p => p.1 == reader)).foldl (fun m p => memPut m (8 * p.2) (List.replicate 8 0)) s.store.mem

/-- A reader is done with what it read of the bytes from `a` on. -/
def State.readOver (reader a n : Nat) (s : State) : State :=
  { s with store := { s.store with
      zeroed := s.store.zeroed.filter (fun p => !(p.1 == reader && decide (a ≤ 8 * p.2 ∧ 8 * p.2 < a + n))) } }

/-- One byte of the store. -/
def State.storeByte (s : State) (a : Nat) : Byte := sparseGet 0 s.store.mem a

/-! ### Surfaces -/

def State.surf (s : State) (n : Nat) : Surface := vget s.store.surfs n
def State.setSurf (s : State) (n : Nat) (f : Surface → Surface) : State :=
  { s with store := { s.store with surfs := vmod s.store.surfs n f } }

/-- First word above the surface area (R125, Table 3.1). -/
def surfaceTop : Nat := 0x2A000

/-- The geometry checks of SURFACE_DEFINE that concern the surface alone (R137). -/
def geometryOk (f base w h stride : Nat) : Bool :=
  fmtValid f && decide (1 ≤ w ∧ w ≤ 8192 ∧ 1 ≤ h ∧ h ≤ 4096) &&
  (if fmtAtc f then decide (stride = 0) else decide (stride % 128 = 0 ∧ w * fmtBytes f ≤ stride)) &&
  decide (footWords f w h stride ≤ 65536 ∧ base + footWords f w h stride ≤ surfaceTop)

/-- A footprint that shares a word with another defined surface (R137). -/
def State.overlaps (s : State) (n base words : Nat) : Bool :=
  (List.range 128).any (fun k =>
    let u := s.surf k
    k != n && decide (u.st ≠ .undefined) && decide (base < u.base + u.words ∧ u.base < base + words))

/-- An enabled layer of a word view names surface n; a disabled descriptor names none, which the spec leaves open (assumption 110). -/
def layersName (w : Nat → Nat) (n : Nat) : Bool :=
  (List.range 64).any (fun k => (viewLayer w k).en && (viewLayer w k).surf == n)

/-- An active layer descriptor names surface n. -/
def State.activeNames (s : State) (n : Nat) : Bool := layersName s.act n

/-- A layer descriptor of a pending LAYERS set names surface n. -/
def State.pendingNames (s : State) (n : Nat) : Bool :=
  s.regs.commits.any (fun c => c.groups.getLsbD grpLayers && layersName (fun a => (wordGet c.snap a).toNat) n)

/-- IN_USE (R139). -/
def State.surfInUse (s : State) (n : Nat) : Bool :=
  decide ((s.surf n).st = .checking ∨ (s.surf n).st = .leased ∨ (s.surf n).st = .releasing) || s.activeNames n || s.pendingNames n

/-! ### Leases -/

/-- The balance of leases (R151). -/
def State.auditLeases (s : State) : State :=
  if (s.store.granted - s.store.released).toNat = s.leases % 65536 then s.resolve 0x085 0 else s.raise0 0x085 0 0

/-- LEASE_TAKE: its checks in order, then CHECKING (R145). -/
def State.leaseTake (id : ReqId) (n : Nat) (crc : Word) (s : State) : State :=
  if 128 ≤ n then s.answer id stBadParam []
  else
    let u := s.surf n
    if u.st = .undefined then s.answer id stBadParam []
    else if 128 ≤ s.leases + s.store.checkQ.length then s.answer id stNoLease []
    else if u.st = .checking ∨ u.st = .leased ∨ u.st = .releasing then s.answer id stAlreadyLeased []
    else if u.st = .incomplete then s.answer id stIncomplete []
    else
      let s := s.setSurf n (fun u => { u with st := .checking, req := some id, crc := crc })
      { s with store := { s.store with checkQ := s.store.checkQ ++ [Fin.ofNat 128 n] } }

/-- A surface leaves CHECKING. -/
def State.endCheck (n : Nat) (st : SurfState) (s : State) : State :=
  let s := s.setSurf n (fun u => { u with st := st, req := none })
  { s with store := { s.store with checkQ := s.store.checkQ.filter (fun k => k.val != n) } }

/-- The content check of the surface at the head of the queue (R146, R147, R599), once no accepted write to it is under way. -/
def State.leaseCheckDone (s : State) : State :=
  match s.store.checkQ with
  | [] => s
  | n :: _ =>
    let u := s.surf n.val
    if (match s.hoist.cur with | some x => x.surf == n.val | none => false) then s
    else
      let base : Word := BitVec.ofNat 32 u.base
      let got := crc32 base (sparseBytes (s.memSeen 4) (128 * u.base) u.bytes)
      let res := s.unitCheck 19 u.base u.crc got
      let ok := res.1
      let s := res.2.readOver 4 (128 * u.base) u.bytes
      if ok then
        let s := s.endCheck n.val .leased
        let s : State := { s with store := { s.store with granted := s.store.granted + 1 } }
        let s := match u.req with | some id => s.answer id stOk (le 1 s.leases) | none => s
        s.auditLeases
      else
        let s := s.endCheck n.val .complete
        let s := s.event 0x086
        match u.req with | some id => s.answer id stCrcMismatch [] | none => s

/-- A RELEASING surface becomes COMPLETE and its reply is placed (R150). -/
def State.completeRelease (n : Nat) (s : State) : State :=
  let u := s.surf n
  let s := s.setSurf n (fun u => { u with st := .complete, req := none, flipN := false })
  let s : State := { s with store := { s.store with released := s.store.released + 1 } }
  let s := match u.req with | some id => s.answer id stOk [] | none => s
  s.auditLeases

/-- Releases while no scan-out runs: complete as soon as no active or pending layer names the surface (R150). -/
def State.releaseIdle (s : State) : State :=
  if s.scan.run then s
  else iter (fun n s =>
    if (s.surf n).st = .releasing ∧ !s.activeNames n ∧ !s.pendingNames n then s.completeRelease n else s) 128 s

/-- Releases at a flip: flip N marks, flip N + 1 completes (R150). Flip N is the first after the request, also where no active layer named
the surface before it: the spec does not say whether an earlier flip counts (assumption 111). -/
def State.releaseFlip (s : State) : State :=
  iter (fun n s =>
    let u := s.surf n
    if u.st = .releasing then
      (if u.flipN then s.completeRelease n
       else if !s.activeNames n then s.setSurf n (fun u => { u with flipN := true })
       else s)
    else s) 128 s

/-- LEASE_RELEASE (R149). -/
def State.leaseRelease (id : ReqId) (n : Nat) (s : State) : State :=
  if decide (128 ≤ n) || decide ((s.surf n).st ≠ .leased) then s.answer id stBadParam []
  else (s.setSurf n (fun u => { u with st := .releasing, req := some id, flipN := false })).releaseIdle

/-! ### Hoist writes -/

/-- Refused under R143: undefined surface, a range outside the footprint, or a lease. -/
def State.writeRefused (s : State) (n offset len : Nat) : Bool :=
  let u := s.surf n
  decide (128 ≤ n) || decide (u.st ≠ .incomplete ∧ u.st ≠ .complete) || decide (u.bytes < offset + len)

/-- The last word of a transfer is written (R141, R142). -/
def State.xferWritten (x : Xfer) (s : State) : State :=
  let u := s.surf x.surf
  let s := s.storePut (128 * u.base + x.offset) x.data
  let e := x.offset + x.data.length
  if u.st = .incomplete ∧ x.offset ≤ u.fill ∧ u.fill < e then
    s.setSurf x.surf (fun u => { u with fill := e, st := if e = u.bytes then .complete else .incomplete })
  else s

/-- An aborted write transfer leaves its surface INCOMPLETE with FILL 0 (R79, R142); a LEASE_TAKE that awaited it replies INCOMPLETE
(R146). How many of its words had landed the spec leaves open: a free value. -/
def State.xferAborted (x : Xfer) (s : State) : State :=
  let u := s.surf x.surf
  let res := s.fresh
  let v := res.1
  let s := res.2
  let s := s.storePut (128 * u.base + x.offset) (x.data.take (v % (x.data.length + 1)))
  let s := match u.st, u.req with
    | .checking, some id => (s.endCheck x.surf .incomplete).answer id stIncomplete []
    | _, _ => s
  s.setSurf x.surf (fun u => { u with st := if u.st = .undefined then .undefined else .incomplete, fill := 0 })

/-! ### Arbitration and error correction (R126 to R135) -/

/-- Requester IDs of Table 3.2. -/
def reqCode : Requester → Nat
  | .scan => 0 | .flyLine => 1 | .worker _ => 2 | .hoist => 3 | .halyard => 4 | .background => 5

/-- The first request of each requester, in the order given (R128). -/
def heads : List StoreReq → List StoreReq
  | [] => []
  | r :: t => r :: (heads t).filter (fun x => x.who ≠ r.who)

/-- The worker requests at or after the pointer come first (R127). -/
def workerPick (p : Nat) (l : List StoreReq) : Option StoreReq :=
  let dist (r : StoreReq) : Nat := match r.who with | .worker w => (w.val + 32 - p) % 32 | _ => 64
  l.foldl (fun best r =>
    if reqCode r.who = 2 then
      match best with
      | some b => if dist r < dist b then some r else best
      | none => some r
    else best) none

def pickReq (c : Nat) (l : List StoreReq) : Option StoreReq := l.find? (fun r => reqCode r.who == c)

/-- A request, or the write-back of a corrected word. -/
inductive Grant where
  | req (r : StoreReq) | scrub (word : Nat)
  deriving DecidableEq, Repr

def whenReq (b : Bool) (r : Option StoreReq) : Option Grant := if b then r.map .req else none

/-- Requester 5 in its order: its write-back where that is the oldest, else its first request (R128). -/
def fifth (scrub : Option Nat) (l : List StoreReq) : Option Grant :=
  match scrub with | some w => some (.scrub w) | none => whenReq true (pickReq 5 l)

/-- The winner of a slot (R126, Table 3.2). -/
def winner (g : Vector Nat 7) (cap pointer : Nat) (scrub : Option Nat) (l : List StoreReq) : Option Grant :=
  let g0 := vget g 0 + vget g 1
  (whenReq (decide (g0 < 8)) (pickReq 0 l)).or <| (whenReq (decide (g0 < 8)) (pickReq 1 l)).or <|
  (whenReq (decide (vget g 2 < min cap 40)) (workerPick pointer l)).or <| (whenReq true (pickReq 3 l)).or <|
  (whenReq (decide (vget g 4 < 8)) (pickReq 4 l)).or <| (fifth scrub l).or <|
  whenReq (decide (40 ≤ vget g 2 ∧ vget g 2 < cap)) (workerPick pointer l)

/-- What is granted beside the winner: of the requests of opposite direction at the same word the one of the highest priority (R131). Those
are the first of each requester and the winner's own next, since R128 keeps the order of each; the 8 grants of scan-out and Fly bind here
too (R129), the other caps of Table 3.2 do not (assumption 108). Between two workers the pointer stands as it stood before the winner's grant
(assumption 107). -/
def partner (g : Vector Nat 7) (cap pointer : Nat) (scrub : Option Nat) (word : Nat) (write : Bool) (l : List StoreReq) : Option Grant :=
  let g0 := vget g 0 + vget g 1
  let same := l.filter (fun x => x.word.toNat == word && x.write != write)
  let back := match scrub with
    | some w => if w = word ∧ !write then some (Grant.scrub w) else none
    | none => whenReq true (pickReq 5 same)
  (whenReq (decide (g0 < 8)) (pickReq 0 same)).or <| (whenReq (decide (g0 < 8)) (pickReq 1 same)).or <|
  (whenReq (decide (vget g 2 < min cap 40)) (workerPick pointer same)).or <| (whenReq true (pickReq 3 same)).or <|
  (whenReq true (pickReq 4 same)).or <| back.or <| whenReq true (workerPick pointer same)

/-- The bytes of a word under a byte mask. -/
def maskBytes (data : BitVec 1024) (mask : BitVec 128) (old : List Byte) : List Byte :=
  (List.range 128).map (fun i => if mask.getLsbD i then data.extractLsb' (8 * i) 8 else old.getD i 0)

/-- A request of the background test inside the region that it tests: it reaches the array, where the others reach the save buffer (R162). -/
def State.inTest (s : State) (r : StoreReq) : Bool :=
  decide (reqCode r.who = 5) && s.store.bistActive && inRegion s.store.bistRegion (128 * r.word.toNat)

/-- What a request reads and writes: the array where it is the test's own, else the store as the others see it (R162). -/
def State.cellsFor (s : State) (r : StoreReq) : List Host.Cell := if s.inTest r then s.store.bistArr else s.store.mem

/-- A granted write (R134). The test's own in its region change the array alone, so that no other requester sees its patterns (R162). -/
def State.grantWrite (r : StoreReq) (s : State) : State :=
  let a := 128 * r.word.toNat
  let bs := maskBytes r.data r.mask (sparseBytes (s.cellsFor r) a 128)
  if s.inTest r then
    { s with store := { s.store with
        bistArr := memPut s.store.bistArr a bs, scrub := s.store.scrub.filter (fun p => p.1 != r.word.toNat) } }
  else s.storePut a bs

/-- A word of the front buffer reads as zero for scan-out: the pass of every pipeline whose source segment holds it is tainted (R275). -/
def State.scanTaint (w : Nat) (s : State) : State :=
  let o := 128 * w % 0x400000
  let g := segmentAt (o % 8192 / 4) (o / 8192)
  let hit (n : Nat) : Bool := s.laneEn n && srcSegment (s.act 0x50000) n == g
  let s : State := { s with scan := { s.scan with segs := iter (fun n v => if hit n then vmod v n (fun x => { x with taintNow := true }) else v) 16 s.scan.segs } }
  iter (fun n s => if hit n then s.raise0 0x14E n 0 else s) 16 s

/-- Requester 5 has read a group as zero: where the word is of the region under test, the save buffer takes the zero, so that the others read
it and the restore writes it (R135, R161, R162). -/
def State.savedZero (who : Requester) (w g : Nat) (s : State) : State :=
  if reqCode who = 5 ∧ s.store.bistActive ∧ inRegion s.store.bistRegion (128 * w) then
    s.storePut (128 * w + 8 * g) (List.replicate 8 0)
  else s

/-- An uncorrectable group of word w (R135). Of two found in one read the operand's first is latched: the spec names no order
(assumption 126). -/
def State.groupLost (who : Requester) (w g : Nat) (s : State) : State :=
  let s : State := { s with store := { s.store with ueCnt := satAdd s.store.ueCnt 1 } }
  let s : State := if s.flag 0x20001 24 then s
    else (({ s with store := { s.store with
      eccAddr := BitVec.ofNat 32 (w + 2 ^ 18 * g + 2 ^ 22 * reqCode who) } } : State)).hwSet 0x20001 0x1000000
  let s : State :=
    if reqCode who = 0 then ({ s with scan := { s.scan with zeros := s.scan.zeros ++ [16 * w + g] } } : State).scanTaint w
    else ({ s with store := { s.store with zeroed := s.store.zeroed ++ [(readerOf who, 16 * w + g)] } } : State).savedZero who w g
  s.raise0 0x081 0 w

/-- A single-bit error in a group of word w, which owes the word a write-back behind `behind` older requests (R133, R134). -/
def State.groupFixed (w behind : Nat) (s : State) : State :=
  let s : State := { s with store := { s.store with
    ceCnt := satAdd s.store.ceCnt 1
    scrub := if s.store.scrub.any (fun p => p.1 == w) then s.store.scrub else s.store.scrub ++ [(w, behind)] } }
  s.event 0x080

/-- A granted read with what its check finds in the groups that are not clean (R133, R135). -/
def State.grantRead (r : StoreReq) (ecc : List (Fin 16 × EccResult)) (behind : Nat) (s : State) : State :=
  let w := r.word.toNat
  let data := sparseBytes (s.cellsFor r) (128 * w) 128
  let lost (g : Nat) : Bool := ecc.any (fun e => e.1.val == g && decide (e.2 = .uncorrectable))
  let l := (List.range 128).map (fun i => if lost (i / 8) then 0 else data.getD i 0)
  let s : State := { s with store := { s.store with
    arb := { s.store.arb with lastRead := BitVec.ofNat 1024 (ofLe l) } } }
  let s := s.readOver (readerOf r.who) (128 * w) 128
  let s := if s.store.eccAddr.toNat % 2 ^ 18 = w && !(List.range 16).any lost then s.resolveAll 0x081 else s
  ecc.foldl (fun s e => if e.2 = .uncorrectable then s.groupLost r.who w e.1.val else s.groupFixed w behind) s

/-- Count a grant in its window, move the workers' pointer (R127), and let the write-backs behind a request of the same requester come
closer. Where both requests of a pair are workers', the pointer ends after the worker of the read, which is run last: the spec names no
order (assumption 107). -/
def State.countGrant (r : StoreReq) (s : State) : State :=
  let a := s.store.arb
  { s with store := { s.store with
      scrub := if reqCode r.who = 5 then s.store.scrub.map (fun p => (p.1, p.2 - 1)) else s.store.scrub
      arb := { a with
        grants := vmod a.grants (reqCode r.who) (· + 1)
        pointer := match r.who with | .worker w => (w.val + 1) % 32 | _ => a.pointer } } }

/-- The write-back of word w: the corrected word as it stands (R134). A group of the word that the read could not correct keeps its stored
bytes: the spec does not say what a write-back puts there (assumption 127). -/
def State.scrubbed (w : Nat) (s : State) : State :=
  { s with store := { s.store with
      scrub := s.store.scrub.filter (fun p => p.1 != w), arb := { s.store.arb with grants := vmod s.store.arb.grants 5 (· + 1) } } }

/-- The slot ends; a window is 64 slots (R126). -/
def State.endSlot (last : Option Nat) (s : State) : State :=
  let a := s.store.arb
  let slot := (a.slot + 1) % 64
  { s with store := { s.store with arb := { a with
      slot := slot, lastGrant := last, grants := if slot = 0 then Vector.replicate 7 0 else a.grants } } }

def Grant.word : Grant → Nat | .req r => r.word.toNat | .scrub w => w
def Grant.write : Grant → Bool | .req r => r.write | .scrub _ => true
def Grant.code : Grant → Nat | .req r => reqCode r.who | .scrub _ => 5
def Grant.isBack : Grant → Bool | .req r => decide (reqCode r.who = 5) | .scrub _ => false
/-- The requests left behind a grant. -/
def Grant.rest (l : List StoreReq) : Grant → List StoreReq | .req r => l.erase r | .scrub _ => l

/-- One grant takes effect. -/
def State.granted (ecc : List (Fin 16 × EccResult)) (behind : Nat) (g : Grant) (s : State) : State :=
  match g with
  | .req r => if r.write then (s.countGrant r).grantWrite r else (s.countGrant r).grantRead r ecc behind
  | .scrub w => s.scrubbed w

/-- Where requester 5's oldest access is the write-back of a word, that word (R128). -/
def State.scrubNext (s : State) (l : List StoreReq) : Option Nat :=
  match s.store.scrub with
  | (w, k) :: _ => if k = 0 ∨ !l.any (fun r => decide (reqCode r.who = 5)) then some w else none
  | [] => none

/-- The write-backs still owed once a grant is made: its own goes, those behind a request of requester 5 come closer (R128). -/
def State.afterGrant (g : Grant) (s : State) : State :=
  { s with store := { s.store with scrub := match g with
      | .scrub w => s.store.scrub.filter (fun p => p.1 != w)
      | .req r => if reqCode r.who = 5 then s.store.scrub.map (fun p => (p.1, p.2 - 1)) else s.store.scrub } }

/-- One arbitration slot (R126 to R135) over the requests pending, each requester's in the order of issue. No requester is admitted before
CLRDONE (R66, R67). -/
def State.storeAccess (reqs : List StoreReq) (ecc : List (Fin 16 × EccResult)) (s : State) : State :=
  if !s.store.clrDone then s
  else
    let a := s.store.arb
    let cap := s.fld 0x20000 5 0
    let scrub := s.scrubNext reqs
    match winner a.grants cap a.pointer scrub (heads reqs) with
    | none => s.endSlot none
    | some w =>
      let grants := vmod a.grants w.code (· + 1)
      let scrub' := (s.afterGrant w).scrubNext (w.rest reqs)
      let o := partner grants cap a.pointer scrub' w.word w.write (heads (w.rest reqs))
      let left := (reqs.filter (fun r => decide (reqCode r.who = 5))).length - b2n w.isBack - (match o with | some p => b2n p.isBack | none => 0)
      let run := State.granted ecc left
      let s := match o with
        | some p => if w.write then run p (run w s) else run w (run p s)
        | none => run w s
      s.endSlot (some w.code)

/-- A request that Table 3.2 does not allow: a write by scan-out or by Fly line assembly, which only read, or a read by Hoist, which only
writes. -/
def wrongAccess (reqs : List StoreReq) : Bool :=
  reqs.any (fun r => (r.write && decide (reqCode r.who ≤ 1)) || (!r.write && decide (reqCode r.who = 3)))

/-! ### Background test (R160 to R165) -/

/-- The test runs: CLRDONE, no BOOT, and no pause in SERVICE. -/
def State.bistRuns (s : State) : Bool :=
  s.store.clrDone && decide (s.mode.cur ≠ .boot ∧ s.mode.cur ≠ .off ∧ s.mode.cur ≠ .sleep) &&
    !(s.flag 0x20003 0 && decide (s.mode.cur = .service))

/-- The next region starts: it is copied into the save buffer, the groups that requester 5 could not read as zero (R135, R161, R163). -/
def State.bistStart (s : State) : State :=
  if s.bistRuns && !s.store.bistActive then
    let r := s.store.bistRegion
    let m := memPut s.store.mem (4096 * r) (sparseBytes (s.memSeen 5) (4096 * r) 4096)
    { s with store := { s.store with
        bistActive := true, bistAt := s.clk.dtime, mem := m, bistSave := regionCells m r, bistArr := regionCells m r
        zeroed := s.store.zeroed.filter (fun p => !(p.1 == 5 && inRegion r (8 * p.2))) } }
  else s

/-- A pass of a region succeeds: its hard fault no longer stands (R164). -/
def State.bistGood (r : Nat) (s : State) : State :=
  let s : State := { s with store := { s.store with bistHard := s.store.bistHard.filter (· != r) } }
  if s.store.bistHard.isEmpty then s.resolveAll 0x084 else s

/-- The region's March test and restore complete (R161, R164). -/
def State.bistDone (mismatch : Option (Fin 32 × Fin 16)) (rerunFails : Bool) (s : State) : State :=
  if !s.store.bistActive then s
  else
    let r := s.store.bistRegion
    let s : State := { s with store := { s.store with
      mem := memPut s.store.mem (4096 * r) (sparseBytes s.store.bistSave (4096 * r) 4096), bistActive := false, bistSave := [], bistArr := [], bistRegion := (r + 1) % 8192,
      scrub := s.store.scrub.filter (fun p => !wordHit (4096 * r) 4096 p.1)
      bistPass := if r = 8191 then satAdd s.store.bistPass 1 else s.store.bistPass } }
    match mismatch with
    | none => s.bistGood r
    | some (w, g) =>
      if rerunFails then
        let s : State := if s.flag 0x20004 23 then s
          else (({ s with store := { s.store with
            bistFail := BitVec.ofNat 32 (32 * r + w.val + 2 ^ 18 * g.val + 2 ^ 22) } } : State)).hwSet 0x20004 0x800000
        let s : State := { s with store := { s.store with
          bistHard := if s.store.bistHard.contains r then s.store.bistHard else s.store.bistHard ++ [r] } }
        s.raise0 0x084 0 0
      else (s.bistGood r).event 0x083

end Sys2Proof.Machine
end

