-- ==== Sys2Proof/Machine/Sending.lean ====
section
/-! DEFINITION. What a lane sends, block by block (R268 to R277, R301 to R317, R334): the codes of a pass, its line packets, and the blocks,
bits and level indices of every slot since the lane's last MARKER. -/

namespace Sys2Proof.Machine

/-! ### The codes of a pass (R268 to R272) -/

/-- Output pixel that pipeline n sends as pixel i of line l under a timing word (Table 6.4). -/
def pixelAt (timing n l i : Nat) : Nat × Nat :=
  let g := srcSegment timing n
  let i := if bit timing 12 && bit timing 13 && decide (8 ≤ n) then 255 - i else i
  (256 * (g % 8) + i, 256 * (g / 8) + l)

/-- Stage-3 codes of a pixel in the front buffer; a group that scan-out received as zero reads 0 (R135). -/
def State.frontCode (s : State) (zeros : List Nat) (p : Nat × Nat) : Nat × Nat :=
  let a := bufBase s.scan.front + p.2 * 8192 + p.1 * 4
  if zeros.contains (a / 8) then (0, 0)
  else (ofLe (sparseBytes s.store.mem a 2), ofLe (sparseBytes s.store.mem (a + 2) 2))

/-- First pixel of line l that an underrun concerns (R272). -/
def underAt (under : List (Nat × Nat)) (l : Nat) : Option Nat :=
  (under.filter (fun u => u.1 == l)).foldl (fun m u => match m with | some k => some (min k u.2) | none => some u.2) none

/-- Stage-3 codes of line l of pipeline n as read, underrun repeats included. -/
def State.lineRead (s : State) (timing n : Nat) (zeros : List Nat) (under : List (Nat × Nat)) (l : Nat) : List (Nat × Nat) :=
  let read (i : Nat) : Nat × Nat := s.frontCode zeros (pixelAt timing n l i)
  match underAt under l with
  | none => (List.range 256).map read
  | some p =>
    let last : Nat × Nat := if p = 0 then (0, 0) else read (p - 1)
    (List.range 256).map (fun i => if i < p then read i else last)

/-- Stages 4 to 6 on one code at an output pixel (Table 5.1). -/
def passStages (f : Nat) (pass coarse : List Zone) (p : Nat × Nat) (v : Nat) : Nat :=
  min (min (v * f / 65536) (zoneCap pass p.1 p.2)) (257 * coarseCell coarse (p.1 / 8) (p.2 / 8))

/-- The codes of line l of the pass in progress after stage 6; a lane whose gain map was lost stays dark (R359, assumption 117). -/
def State.lineSent (s : State) (n l : Nat) : List (Nat × Nat) :=
  let c := s.scan
  let f := vget c.curScale n
  ((List.range 256).zip (s.lineRead c.curClone n c.zeros (vget c.segs n).under l)).map (fun x =>
    let p := pixelAt c.curClone n l x.1
    if s.eng.gainBad.getLsbD n then (0, 0) else
    (passStages f c.curPass c.curCoarse p x.2.1, passStages f c.curPass c.curCoarse p x.2.2))

/-! ### The LIMP base layer (R38, R39) -/

/-- Codes of line l of lane n's segment in a pass of the base layer: the CW emitter, limited by the ceiling map alone, and AM 0 (R39). -/
def State.limpLine (s : State) (n l : Nat) : List (Nat × Nat) :=
  let u := s.surf (s.fld 0x00001 14 8)
  let x0 := 256 * (n % 8)
  let y := 256 * (n / 8) + l
  let m := (s.scan.zeros).foldl (fun m g => memPut m (8 * g) (List.replicate 8 0)) (s.memSeen 1)
  (List.range 256).map (fun i =>
    let a := 128 * u.base + y * u.stride + x0 + i
    (min (expand 8 (sparseGet 0 m a).toNat) (ceilAt m 0 (x0 + i) y), 0))

/-! ### Line packets (R312) -/

/-- The line packet of line l of the pass in progress. -/
def State.packetOf (s : State) (n l : Nat) : List Byte :=
  linePacket n l s.scan.fseq (if s.scan.limp.isSome then s.limpLine n l else s.lineSent n l)

/-- The packet stream of the pass in progress on lane n: 256 packets back to back. -/
def State.passBytes (s : State) (n : Nat) : List Byte := (List.range 256).flatMap (s.packetOf n)

/-- A pass has ended: its packets on each lane are kept as they were sent. -/
def State.keepBytes (s : State) : State :=
  iter (fun n s =>
    if (vget s.fly n).txq.any (fun x => decide (x.kind = .data none)) then
      let b := s.passBytes n
      s.setLane n (fun l => { l with txq := l.txq.map (fun x => if x.kind = .data none then { x with kind := .data (some b) } else x) })
    else s) 16 s

/-! ### Blocks, bits and level indices -/

/-- Payload of block i of an item on lane n: a DATA block carries the next 128 bits of the packet stream (R304, R312). -/
def State.txPayload (s : State) (n : Nat) (k : TxKind) (i : Nat) : List Byte :=
  match k with
  | .fstart fseq sh ofs => fstartPayload fseq sh ofs
  | .data sent => payload16 (((sent.getD (s.passBytes n)).drop (16 * i)).take 16)
  | .furl => payload16 []
  | .ctrl payload => payload

/-- A furled lane sends until its last FURL block has left (R325). -/
def Lane.silent (l : Lane) (j : Nat) : Bool := decide (l.st = .furled) && (l.left j).1.all (fun x => decide (x.left = 0))

/-- Override and KASEL combined by OR (R423). -/
def State.kaHeld (s : State) : Bool := s.ens.ovr || s.gdn.kasel

/-- The block in slot j of lane n, counted from its last MARKER; none in electrical idle. Under override it is KEEPALIVE on every lane,
furled ones too (R334, R434). -/
def State.laneBlock (s : State) (n j : Nat) : Option Block :=
  let l := vget s.fly n
  if s.kaHeld then some { type := .keepalive, payload := keepalivePayload n }
  else if l.silent j then none
  else
    some (match l.slotUse j with
      | .marker => { type := .marker, payload := markerPayload (flyLaneId n) l.mseq }
      | .tx x => { type := x.kind.type, payload := s.txPayload n x.kind x.done }
      | .fill f => { type := f.kind.type, payload := f.kind.payload f.done })

/-- Slots 0 to j − 1 that carry scrambled blocks. -/
def Lane.scrambledBefore (l : Lane) (j : Nat) : Nat := countBelow (fun i => (l.slotUse i).type.scrambled) j

/-- The scrambler of a lane as slot j begins: loaded at the MARKER, 128 steps on for each scrambled block since (R307). -/
def Lane.scrambler (l : Lane) (j : Nat) : BitVec 31 := scramAfter (l.scrambledBefore j) l.lfsr

/-- The 136 bits of slot j as sent; none in electrical idle. -/
def State.laneBits (s : State) (n j : Nat) : List Bool :=
  match s.laneBlock n j with
  | some b => (blockBits b.type b.payload ((vget s.fly n).scrambler j)).1
  | none => []

/-- A lane's rate as it sends: under override LIMP (R334). -/
def State.sendsFull (s : State) (n : Nat) : Bool := (vget s.fly n).full && !s.kaHeld

/-- Precoding applies in slot j (R303): at FULL, from the instant at which it started. -/
def State.precodes (s : State) (n j : Nat) : Bool :=
  let l := vget s.fly n
  s.sendsFull n && l.prec && decide (l.precAt ≤ l.baseAt + j * l.blockPs)

/-- p_(n−1) as slot j begins: 0 at the first symbol after precoding starts (R303). -/
def State.lastLevel (s : State) (n : Nat) : Nat → Nat
  | 0 => (vget s.fly n).prev
  | j + 1 => if s.precodes n j then (levelsOf true true (s.lastLevel n j) (s.laneBits n j)).getLastD 0 else 0

/-- Level indices as the pair carries them: a pair that TEST.TXPOL inverts sends each level negated (R634). That is a property of the pair:
it holds for the override's blocks too (assumption 136). -/
def onPair (inverted : Bool) (l : List Nat) : List Nat := if inverted then l.map (3 - ·) else l

/-- The level indices of slot j on FTX[n]: 68 symbols at FULL, 136 at LIMP (R301 to R303, R634). -/
def State.laneLevels (s : State) (n j : Nat) : List Nat :=
  onPair (vget s.fly n).txInv (levelsOf (s.sendsFull n) (s.precodes n j) (s.lastLevel n j) (s.laneBits n j))

/-- The level indices of blocks that a lane sends one after another in slots that carry nothing else, as (type, payload), the last index
before them and the scrambler given. -/
def State.levelsAfter (s : State) (n : Nat) (prec : Bool) : Nat → BitVec 31 → List Block → List Nat
  | _, _, [] => []
  | prev, r, b :: t =>
    let x := blockBits b.type b.payload r
    let v := levelsOf (s.sendsFull n) prec prev x.1
    v ++ State.levelsAfter s n prec (if prec then v.getLastD 0 else 0) x.2 t

/-- TRAIN PHASE 5 in the next slot of a lane whose attempt fails (R330), where its backchannel is locked and no override holds: the level
indices sent, and the end of the slot (ps). A MARKER that is due takes its slot first (R308, R311). -/
def State.fallback (s : State) (n : Nat) : List Nat × Nat :=
  let l := vget s.fly n
  let now := 1000 * s.clk.dtime
  if !l.bclock || s.ens.ovr then ([], now)
  else
    let j := ceilDiv (now - l.baseAt) l.blockPs
    let b : Block := { type := .train, payload := trainPayload 5 0 l.txPre l.txMain l.txPost l.tapStatus.toNat l.rseq.toNat l.prec }
    let p := s.precodes n j
    if slotMarker j then
      let q := if j = 0 then l.mseq else l.mseq + 1
      let m : Block := { type := .marker, payload := markerPayload (flyLaneId n) q }
      let a := blockBits .marker m.payload 0
      let v := levelsOf (s.sendsFull n) p (s.lastLevel n j) a.1
      (onPair l.txInv (v ++ s.levelsAfter n p (if p then v.getLastD 0 else 0) (scramSeed n q) [b]), l.baseAt + (j + 2) * l.blockPs)
    else (onPair l.txInv (s.levelsAfter n p (s.lastLevel n j) (l.scrambler j) [b]), l.baseAt + (j + 1) * l.blockPs)

/-! ### A cut pass, and the MARKER -/

/-- Line packets not sent by `now` are not sent. -/
def Lane.cutData (now : Nat) (l : Lane) : Lane :=
  if l.txq.any (fun x => decide (x.kind.type = .data)) then
    let q := (l.left (l.slotsBy now)).1
    { l with txq := List.zipWith (fun x y => if x.kind.type = .data then { x with left := y.done - x.done } else x) l.txq q }
  else l

/-- The lanes that carried lines become IDLE. -/
def State.lanesIdle (s : State) : State :=
  { s with fly := iter (fun n v => vmod v n (fun l => if l.st = .active then { l with st := .idle } else l)) 16 s.fly }

/-- The pass in progress is cut short (R267). -/
def State.cutPass (s : State) : State :=
  let s := s.keepBytes
  { s with fly := iter (fun n v => vmod v n (Lane.cutData s.clk.dtime)) 16 s.fly }

/-- The base layer's passes end. -/
def State.limpOff (s : State) : State :=
  if s.scan.limp.isSome then
    let s := s.keepBytes
    (({ s with scan := { s.scan with limp := none } } : State)).lanesIdle
  else s

/-- The fillers still of use from an instant on: those to come, and the newest of the others. -/
def keepFillers (t : Nat) : List Filler → List Filler
  | [] => []
  | f :: r => if f.due ≤ t then [f] else f :: keepFillers t r

/-- A MARKER on lane n: the slots before it are done with; what is left stays due (R308). -/
def State.laneMarker (n : Nat) (s : State) : State :=
  let p := if (vget s.fly n).prec then s.lastLevel n 8192 else 0
  s.setLane n (fun l =>
    let l := l.noteSent 8192
    let q := l.left 8192
    let b := l.baseAt + 8192 * l.blockPs
    { l with
      slots := l.slots + 8192, mseq := l.mseq + 1, lfsr := scramSeed n (l.mseq + 1), baseAt := b, prev := p,
      txq := q.1.filter (fun x => decide (0 < x.left)), fills := keepFillers b q.2, tail := [] })

end Sys2Proof.Machine
end

