-- ==== Sys2Proof/Machine/Safe.lean ====
section
/-! DEFINITION. Stopping scan-out (R266, R267), entering a safe state (R47 to R51, R423 to R436), and escalation (R489 to R493): the
operations that every source of a safe state shares. -/

namespace Sys2Proof.Machine

/-! ### Replies to mode requests -/

/-- The reply of a mode request (Table 2.15; SAFE_REQUEST has MODE and OUTCOME, Table 2.9). MODE is that of the placement; DTIME that of the
completion, or of the placement for a reply that completes nothing: a status other than OK, or ALREADY (R90). -/
def State.modeAnswer (st outcome mode : Nat) (s : State) (r : ModeReq) : State :=
  if r.viaSafe then s.answer r.id st (if st = stOk then le 1 mode ++ le 1 outcome else [])
  else
    s.answerFill r.id st (if st = stOk ∧ outcome ≠ 2 then .mode else .modeTime)
      (le 1 outcome ++ le 1 mode ++ le 2 0 ++ le 8 s.clk.dtime)

/-- Requests that end with one status: the first ones with OUTCOME 0, those merged with them with MERGED (R44, R45). -/
def State.modeAnswers (st : Nat) (first merged : List ModeReq) (s : State) : State :=
  merged.foldl (State.modeAnswer st 1 s.mode.cur.code) (first.foldl (State.modeAnswer st 0 s.mode.cur.code) s)

/-- Every request of the transition in progress and of the queue is answered with one status and forgotten (R47). -/
def State.dropRequests (s : State) (st : Nat) : State :=
  let tr := s.mode.trans
  let q := s.mode.queue
  let s : State := { s with mode := { s.mode with trans := none, queue := none, sleep := .none } }
  let s := match tr with | some t => s.modeAnswers st t.owner.toList t.merged | none => s
  match q with | some q => (s.modeAnswers st [q.owner] q.merged).queueTarget | none => s

/-! ### Long-running commands that a mode change ends (R106) -/

/-- A CAL_RUN ends: before the burn nothing is kept; a row in progress still completes (R594). -/
def State.endCal (s : State) (st : Nat) : State :=
  match s.cal.run with
  | some r =>
    if r.ended then s
    else
      (({ s with cal := { s.cal with run := if r.row.isSome then some { r with ended := true } else none } } : State)).answer r.id st []
  | none => s

/-- Page jobs of host commands end; the record and log writes of the device go on. -/
def State.endJobs (s : State) (st : Nat) : State :=
  let host := s.eng.jobs.filterMap (fun j => match j.use with | .host id => some id | _ => none)
  (host.foldl (fun s id => s.answer id st []) (s.dropJobs Job.isHost)).endKa st

/-- End one optional running command. -/
def State.endOne {α : Type} (o : Option α) (id : α → ReqId) (clear : State → State) (st : Nat) (s : State) : State :=
  match o with
  | some x => (clear s).answer (id x) st []
  | none => s

/-- A lane test stops: INJCNT keeps its count (R344), the lanes send IDLE again, and those with EN 0 furl (R324). -/
def State.dropLaneTest (s : State) : State :=
  match s.eng.laneTest with
  | some (_, lanes, _, _) =>
    iter (fun n s =>
      if lanes.getLsbD n then
        let s := s.setLane n (fun l =>
          { l.filler (1000 * s.clk.dtime) .idle with injcnt := BitVec.ofNat 32 (l.injections s.clk.dtime) })
        if s.laneEn n then s else s.laneFurl n
      else s) 16 { s with eng := { s.eng with laneTest := none } }
  | none => s

/-- End a lane test. -/
def State.endLaneTest (s : State) (st : Nat) : State :=
  match s.eng.laneTest with
  | some (id, _) => s.dropLaneTest.answer id st []
  | none => s

def SwUse.id : SwUse → Option ReqId
  | .safetyTest id => some id
  | _ => none

/-- The switch tests whose use `keep` allows; the one that waits goes first where the one in progress ends. `bad`: a test instruction is
current, and the test that starts now fails (R641). -/
def Ensign.keepTests (keep : SwUse → Bool) (now : Nat) (bad : Bool) (e : Ensign) : Ensign :=
  let b := e.swNext.filter keep
  match e.swTest.filter (fun x => keep x.1) with
  | some x => { e with swTest := some x, swNext := b }
  | none => { e with swTest := b.map (fun u => (u, now)), testBad := bad, swNext := none }

/-- Both switches open; no close is under way. -/
def Ensign.opened (e : Ensign) : Ensign := { e with hsOn := false, lsOn := false, closeAt := none, closeWait := false }

/-- A close of the switches begins: the low side at once, the high side 100 µs later (R438). -/
def Ensign.closing (now : Nat) (e : Ensign) : Ensign := { e with lsOn := true, closeAt := some (now + 100000), closeWait := false }

/-- A switch latent-fault test is asked for: it starts, or waits until the one in progress has ended. -/
def State.startSwTest (u : SwUse) (s : State) : State :=
  { s with ens :=
    if s.ens.swTest.isSome then { s.ens with swNext := some u } else { s.ens with swTest := some (u, s.clk.now), testBad := s.testIns } }

/-- End a switch test that a SAFETY_TEST runs or waits for. -/
def State.endSwTest (s : State) (st : Nat) : State :=
  let id := (s.ens.swTest.bind (fun x => x.1.id)).or (s.ens.swNext.bind SwUse.id)
  let s : State := { s with ens := s.ens.keepTests (fun u => u.id.isNone) s.clk.now s.testIns }
  match id with
  | some id => s.answer id st []
  | none => s

/-- A keep-alive injection ends before its time: its reply, then the override with the restart of the lanes (R106, R336, R462). -/
def State.endInject (s : State) (st : Nat) : State :=
  match s.ens.injectAt with
  | some (id, _) =>
    let s := ({ s with ens := { s.ens with injectAt := none, ovr := s.ens.safe.isSome } } : State).answer id st []
    if s.ens.ovr then s else s.lanesRestart
  | none => s

/-- The running long commands that mode `m` does not permit end with one status (Table 2.9, R106). -/
def State.abortFor (m : Mode) (st : Nat) (s : State) : State :=
  let ready := decide (m = .ready)
  let svc := decide (m = .service)
  let s := if ready || svc then s
    else s.endRead st
  let s := if svc then s
    else
      (((s.endJobs st).endCensus st).endLaneTest st).endInject st
  let s := if ready || svc || decide (m = .beam) then s else s.endCal st
  let s := if ready || decide (m = .limp) then s
    else State.endOne s.mask.ceilRun id (fun s => { s with mask := { s.mask with ceilRun := none } }) st s
  if ready || svc || decide (m = .safeDark) then s
  else
    (State.endOne s.gdn.test (·.1) (fun s => { s with gdn := { s.gdn with test := none } }) st s).endSwTest st

/-! ### COMMIT (R20 to R24, R113 to R116, R290) -/

/-- Validation of the named groups, and application at once where no scan-out runs. Of the named groups, those with something staged
are applied. -/
def State.commitRun (id : ReqId) (mask : Word) (s : State) : State :=
  let g : BitVec 8 := BitVec.ofNat 8 mask.toNat
  let eff := g &&& s.regs.staged
  if eff = 0 then s.answerFill id stOk .frame (commitData 2 0 0xFFFF s.scan.framecnt)
  else
    let snap := s.snapOf eff
    match s.checkGroups g (s.viewWord eff snap) with
    | some (c, i) => s.answer id stCommitRefused (commitData 0 c i 0)
    | none =>
      let p : PendingCommit := { id := id, groups := eff, snap := snap }
      let s : State := { s with regs := { s.regs with commits := s.regs.commits ++ [p], staged := s.regs.staged &&& ~~~eff } }
      if s.scan.run then s else (s.applyIdle).releaseIdle

/-- COMMIT: one that names TIMING or LANES waits from the pass latch of a flip to that flip (R290), unless nothing that it names is staged:
then there is nothing to validate, and its reply is placed at once (R24). -/
def State.commit (id : ReqId) (mask : Word) (s : State) : State :=
  if 256 ≤ mask.toNat then s.answer id stBadParam (commitData 0 0 0xFFFF 0)
  else if s.scan.run && s.scan.flipLatched && (mask.getLsbD grpTiming || mask.getLsbD grpLanes) &&
      decide (BitVec.ofNat 8 mask.toNat &&& s.regs.staged ≠ 0) then
    { s with regs := { s.regs with deferred := s.regs.deferred ++ [(id, mask)] } }
  else s.commitRun id mask

/-- COMMITs put off by R290 are validated after the flip instant, or where scan-out ends before it. -/
def State.commitDeferred (s : State) : State :=
  let l := s.regs.deferred
  l.foldl (fun s c => s.commitRun c.1 c.2) { s with regs := { s.regs with deferred := [] } }

/-! ### Stopping scan-out -/

/-- A source of SCAN.EVT that SCAN.CFG enables as an event (R300). -/
def State.scanEvt (s : State) (m en code : Nat) : State :=
  let s := s.hwSet 0x50009 m
  if s.flag 0x50001 en then s.event code else s

/-- One missed flip is counted and reported (R262, R300). -/
def State.countMissed (s : State) : State :=
  (({ s with scan := { s.scan with missed := s.scan.missed + 1 } } : State)).scanEvt 4 10 0x142

/-- The balance of frames (R263). -/
def State.auditFrames (s : State) : State :=
  let p := b2n s.bun.comp.isSome
  if (s.scan.started + 3 * 2 ^ 32 - s.scan.framecnt % 2 ^ 32 - s.scan.missed % 2 ^ 32 - p) % 2 ^ 32 = 0 then s.resolve 0x149 0
  else s.raise0 0x149 0 0

/-- A composition in progress is abandoned and counted as missed (R266, R267). One whose tiles were all written in time keeps the slack it
was entered with, and no 0 is entered for it: the spec does not say which holds (assumption 134). -/
def State.abandon (s : State) : State :=
  let s := match s.bun.comp with
    | some c =>
      let s := if c.dead || s.bun.done.isSome then s else s.slackMissed
      let s : State := { s with bun := { s.bun with comp := none } }
      (s.countMissed).auditFrames
    | none => s
  { s with bun := { s.bun with done := none } }

/-- Scan-out is over: nothing runs, no frame is shown, pending sets apply (R116, R266). -/
def State.scanOff (s : State) : State :=
  let s : State := { s with scan := { s.scan with
    run := false, stopping := false, retrain := none, frontValid := false, settleAt := none, underNow := false, underPrev := false,
    freezeMute := false, curOn := false, curLines := false, curRead := 0, curLanes := 0, flipLatched := false } }
  (((s.applyIdle).commitDeferred).releaseIdle).idleTarget

/-- Scan-out stops at once (R267, R296): the pass in progress is cut short. -/
def State.cutScan (s : State) : State :=
  let s := s.cutPass
  let s : State := { s with scan := { s.scan with limp := none } }
  if s.scan.run || s.scan.settleAt.isSome || s.scan.retrain.isSome || s.bun.comp.isSome then
    let s := s.abandon
    let s : State := { s with scan := { s.scan with segs := iter (fun n v => vmod v n (fun g => { g with taintNow := false, under := [] })) 16 s.scan.segs } }
    (s.scanOff).lanesIdle
  else (((s.applyIdle).commitDeferred).releaseIdle).lanesIdle

/-- Scan-out is asked to stop (R266): composition ends now, passes at the next pass start; the anchor of a retraining change that has
opened is cancelled. -/
def State.stopScan (s : State) : State :=
  if s.scan.run then
    let s := s.abandon
    if s.scan.retrain.any (·.opened) then s.scanOff else ({ s with scan := { s.scan with stopping := true } } : State).idleTarget
  else if s.scan.settleAt.isSome then s.scanOff
  else s

/-! ### Safe states -/

/-- The HV die's latch of the cause (R436). -/
def State.latchEns (s : State) (src : Nat) : State :=
  let s : State := if s.flag 0xA0006 31 then s
    else (({ s with ens := { s.ens with cause := BitVec.ofNat 32 src } } : State)).hwSet 0xA0006 0x80000000
  s.raiseHv 0x28E 0 0

/-- The latch of SAFE.CAUSE and the event SAFE_ENTRY (R436). -/
def State.latchSafe (s : State) (src cls code : Nat) : State :=
  let w := src + 16 * cls + 256 * code + 0x100000 * srcBlock code
  let s : State := if s.flag 0x90001 31 then s
    else (({ s with gdn := { s.gdn with cause := BitVec.ofNat 32 w } } : State)).hwSet 0x90001 0x80000000
  s.event 0x240

/-- The Ensign holds a safe state: override, and for SAFE-DARK gate disable with both switches open (R425, R435). -/
def State.hold (s : State) (dark : Bool) : State :=
  let fresh := !s.ens.ovr
  let e := if dark then s.ens.opened else s.ens
  let s : State := { s with ens := { e with
    ovr := true, gdis := s.ens.gdis || dark
    safe := if dark then some .safeDark else if s.ens.safe = some .safeDark then some .safeDark else some .safeBeam } }
  if fresh && s.pow.logicOn then s.event 0x18B else s

/-- Send waiting ESCALATE and REQUEST messages (R614). -/
def State.pumpDown (s : State) : State :=
  let s := match s.dl.escOut, s.dl.escQ with
    | none, e :: t =>
      { s with dl := { s.dl with
          escQ := t, escOut := some { body := e, tag := s.dl.escNext, resends := 0, sentAt := s.clk.now }, escNext := s.dl.escNext + 1 } }
    | _, _ => s
  match s.dl.reqOut, s.dl.reqQ with
  | none, r :: t =>
    { s with dl := { s.dl with
        reqQ := t, reqOut := some { body := r, tag := s.dl.reqNext, resends := 0, sentAt := s.clk.now }, reqNext := s.dl.reqNext + 1 } }
  | _, _ => s

/-- Queue a REQUEST to the Ensign (Table 15.3). -/
def State.askEns (s : State) (kind arg : Nat) : State :=
  (({ s with dl := { s.dl with reqQ := s.dl.reqQ ++ [(kind, arg)] } } : State)).pumpDown

/-- Why a safe state is entered: the code of Table 10.5a, the class for an escalated fault, the code of the fault or decision, and
whether the logic die asserts KASEL or GOFF for it. -/
structure SafeWhy where
  src : Nat
  cls : Nat
  code : Nat
  logic : Bool
  deriving DecidableEq, Repr

/-- What a safe state in force or being entered already covers (R48): SAFE-DARK covers both. -/
def State.covered (s : State) (dark : Bool) : Bool :=
  match s.mode.trans with
  | some t => decide (t.target = .safeDark) || (!dark && decide (t.target = .safeBeam)) || (!dark && decide (s.mode.cur = .safeDark))
  | none => decide (s.mode.cur = .safeDark) || (!dark && decide (s.mode.cur = .safeBeam))

/-- KASEL or GOFF, where the logic die drives one for the entry, and what the Ensign holds (R424 to R426, R435). -/
def State.assertLines (s : State) (dark : Bool) (why : SafeWhy) : State :=
  let s : State := if why.logic then
      { s with gdn := { s.gdn with kasel := s.gdn.kasel || !dark, goff := s.gdn.goff || dark } } else s
  s.hold dark

/-- The lines and latches of an entry, whatever the mode. -/
def State.assertSafe (s : State) (dark : Bool) (why : SafeWhy) : State :=
  let s := (s.assertLines dark why).latchEns why.src
  if s.pow.logicOn then s.latchSafe why.src why.cls why.code else s

/-- A decision of Guidon or the Ensign for a safe state that is covered: its lines are asserted; an escalation changes nothing (R492). A release of SAFE-DARK in progress ends with it, and
SAFE-DARK stays in force (R34, R48, assumption 95). -/
def State.coveredLines (s : State) (dark : Bool) (why : SafeWhy) : State :=
  if s.mode.trans.any (fun t => decide (t.target = .ready)) then ((s.dropRequests stPreempted).assertLines dark why).hold true
  else s.assertLines dark why

/-- A training attempt is broken off; the lane carries keep-alive under the override that begins (R334). -/
def Lane.suspend (l : Lane) : Lane :=
  if l.st = .training then { l with st := .idle, phase := 0, acked := false, countAt := none } else l

/-- Enter a safe state by preemption (R47 to R51): what runs is answered PREEMPTED, scan-out stops at once, pending sets apply, and the
transition begins. During bring-up the state is kept for step 6 (R62); a failed switch test of SLEEP entry does not
stop it, and the entry that its fault escalates to only asserts its lines (R76, assumption 103). -/
def State.enterSafe (s : State) (dark : Bool) (why : SafeWhy) (owner : Option ModeReq) : State :=
  let target : Mode := if dark then .safeDark else .safeBeam
  if s.mode.cur = .off ∨ s.mode.cur = .sleep then s
  else if !s.pow.logicOn then s.assertSafe dark why
  else if (s.mode.sleep = .replying ∨ s.mode.sleep = .replied) ∧ why.code = 0x286 then
    owner.toList.foldl (State.modeAnswer stTransferAborted 0 s.mode.cur.code) (s.assertSafe dark why)
  else if s.mode.cur = .boot then
    let s := s.assertSafe dark why
    let old := s.mode.bootSafe
    let m := match old with | some (.safeDark, _) => Mode.safeDark | _ => target
    { s with mode := { s.mode with bootSafe := some (m, (match old with | some (_, l) => l | none => []) ++ owner.toList.map (fun r => (r, target))) } }
  else if s.covered dark then
    match s.mode.trans, owner with
    | some t, some r =>
      if t.target = target then { s with mode := { s.mode with trans := some { t with merged := t.merged ++ [r] } } }
      else s.modeAnswer stOk 2 s.mode.cur.code r
    | none, some r => s.modeAnswer stOk 2 s.mode.cur.code r
    | _, none => if why.src = 1 ∨ why.src = 12 then s else s.coveredLines dark why
  else
    let s := (s.dropRequests stPreempted).assertSafe dark why
    let s := (s.abortFor target stPreempted).cutScan
    let s : State := { s with
      fly := iter (fun n v => vmod v n Lane.suspend) 16 s.fly
      ens := s.ens.keepTests (fun u => u.id.isSome) s.clk.now s.testIns
      mode := { s.mode with trans := some { target := target, since := s.clk.dtime, owner := owner, merged := [] } } }
    if owner.isNone then s.event 0x001 else s

/-! ### Escalation -/

/-- The recorder entry of an escalation (R502, Table 11.4): DATA holds the target mode. -/
def State.escEntry (s : State) (a : Active) (hv : Bool) : State :=
  s.enqueue { s.entry a.code a.inst (classTarget a.cls) with esc := true, hv := hv }

/-- A logic-die class timer expires (R424, R490, R492). -/
def State.escalate (s : State) (cls : Nat) : State :=
  let t : Timer := { vget s.flt.timers cls with expired := true, due := false }
  let s : State := { s with flt := { s.flt with
    timers := vset s.flt.timers cls t, esc := s.flt.esc ||| BitVec.ofNat 8 (2 ^ cls), escs := vmod s.flt.escs cls (· + 1) } }
  match s.flt.active.find? (fun a => a.seen && a.cls == cls) with
  | none => s
  | some a =>
    let dark := decide (cls = clsP)
    let s := s.escEntry a false
    let s := (({ s with dl := { s.dl with escQ := s.dl.escQ ++ [{ code := a.code, cls := cls, block := srcBlock a.code, dark := dark }] } } : State)).pumpDown
    s.enterSafe dark { src := 1, cls := cls, code := a.code, logic := true } none

/-- The Ensign's own timer of class P or I expires (R439, R491). -/
def State.escalateEns (s : State) (power : Bool) : State :=
  let cls := if power then clsP else clsI
  let s : State := if power then { s with flt := { s.flt with ensP := { s.flt.ensP with expired := true, due := false } } }
    else { s with flt := { s.flt with ensI := { s.flt.ensI with expired := true, due := false } } }
  match s.flt.active.find? (fun a => isEns a.code && a.cls == cls) with
  | none => s
  | some a =>
    let s := s.bufferHv { code := a.code, inst := a.inst, data := classTarget cls, act := false, esc := true, pended := true }
    s.enterSafe power { src := 12, cls := 0, code := a.code, logic := false } none

/-- Timers that expire at once do so at the end of the command that started or shortened them (R493). -/
def State.escalateDue (s : State) : State :=
  let s := (List.range 7).foldl (fun s k =>
    let t := vget s.flt.timers k
    if t.due && !t.expired && t.start.isSome then s.escalate k else s) s
  let s := if s.flt.ensP.due && !s.flt.ensP.expired && s.flt.ensP.start.isSome then s.escalateEns true else s
  if s.flt.ensI.due && !s.flt.ensI.expired && s.flt.ensI.start.isSome then s.escalateEns false else s

end Sys2Proof.Machine
end

