-- ==== Sys2Proof/Machine/Engine.lean ====
section
/-! DEFINITION. CTRL operations to the engine and NV pages (R337 to R339, R350, R357), life accounting, the life ring and the service log
(chapter 8). -/

namespace Sys2Proof.Machine

/-- A reply status other than OK where the spec names none: a free value. -/
def failStatus (s : State) : Nat × State := (1 + s.fresh.1 % 25, s.fresh.2)

/-! ### CTRL operations (R337) -/

/-- The lowest of the four CTRL tags that is free on a lane. -/
def Lane.freeTag (l : Lane) : Option (BitVec 2) := ([0, 1, 2, 3] : List (BitVec 2)).find? (fun t => l.ctrl.all (fun c => c.tag != t))

/-- OP of an operation (Table 8.4). -/
def CtrlUse.op (u : CtrlUse) : Nat :=
  match u with
  | .pageLoad => 2 | .pageProg => 3 | .census => 4 | .wave => 5
  | _ => if u.isRead then 1 else if u.isProg then 3 else 2

/-- DATA of an operation: the bytes that an NV_LOAD puts into the page buffer. -/
def State.ctrlBytes (s : State) (n : Nat) (u : CtrlUse) (addr : Nat) : List Byte :=
  match u, (s.eng.jobs.find? (fun j => j.lane == n)).bind (fun j => j.pages.head?) with
  | .pageLoad, some p => (p.data.drop addr).take 8
  | _, _ => []

/-- Send the first waiting operation where a tag is free; one NV_READ at a time, since NVDATA carries no tag. Its block leaves
outside the line region of a pass (R337). -/
def State.ctrlPump1 (n : Nat) (s : State) : State :=
  s.setLane n (fun l =>
    match l.ctrlQ with
    | [] => l
    | (u, a, c) :: t =>
      if u.isRead && l.ctrl.any (fun x => x.use.isRead) then l
      else
        match l.freeTag with
        | none => l
        | some tag =>
          { l.enqueue { due := 1000 * s.clk.dtime, kind := .ctrl (ctrlPayload u.op tag.toNat c a (s.ctrlBytes n u a)), done := 0, left := 1 } with
            ctrlQ := t, ctrl := l.ctrl ++ [{ tag := tag, use := u, addr := a, count := c, due := 1000 * s.clk.dtime, sentAt := none }]
            read := if u.isRead then some { seq := 0, data := [] } else l.read })

def State.ctrlPump (n : Nat) (s : State) : State := iter (fun _ s => s.ctrlPump1 n) 4 s

/-- Ask the engine for an operation. -/
def State.ctrlSend (n : Nat) (u : CtrlUse) (addr count : Nat) (s : State) : State :=
  (s.setLane n (fun l => { l with ctrlQ := l.ctrlQ ++ [(u, addr, count)] })).ctrlPump n

/-- An operation has its answer, or ends without one: its tag is free. -/
def State.ctrlEnd (n : Nat) (c : Ctrl) (s : State) : State :=
  (s.setLane n (fun l => { l with
    ctrl := l.ctrl.filter (fun x => x.tag != c.tag), read := if c.use.isRead then none else l.read })).ctrlPump n

/-! ### Life accounting (R368 to R375) -/

/-- BEAM time in ns up to now. -/
def State.beamTime (s : State) : Nat :=
  s.eng.beamSec * 1000000000 + s.eng.beamNs + (match s.eng.beamFrom with | some t0 => s.clk.dtime - t0 | none => 0)

/-- BEAM time is counted up to now; it goes on in BEAM only (R372). -/
def State.beamSync (s : State) : State :=
  let b := s.beamTime
  { s with eng := { s.eng with
      beamSec := b / 1000000000, beamNs := b % 1000000000, beamFrom := if s.mode.cur = .beam then some s.clk.dtime else none } }

/-- EOL90 and EOL100 of a segment, raised at the crossing (R375). -/
def State.eolCheck (n : Nat) (s : State) : State :=
  let life := burg (s.burgeeOf n) 32 4
  let past (p : Nat) (s : State) : Bool := s.mapped n && decide (p * life ≤ s.stress n)
  let s := if past 90 s && !s.eng.eol90.getLsbD n then
      (({ s with eng := { s.eng with eol90 := s.eng.eol90 ||| BitVec.ofNat 16 (2 ^ n) } } : State)).raise0 0x1C6 n 0 else s
  if past 100 s && !s.eng.eol100.getLsbD n then
    (({ s with eng := { s.eng with eol100 := s.eng.eol100 ||| BitVec.ofNat 16 (2 ^ n) } } : State)).raise0 0x1C7 n 0 else s

/-- The end-of-life events of a READY entry after a wake (R375). -/
def State.eolReady (s : State) : State :=
  iter (fun n s =>
    let s := if s.eng.eol90.getLsbD n then s.raise0 0x1C6 n 0 else s
    if s.eng.eol100.getLsbD n then s.raise0 0x1C7 n 0 else s) 16 s

/-- Stress weight WT[b] of a segment, b the band of its diode. -/
def State.stressWeight (s : State) (n : Nat) : Nat := burg (s.burgeeOf n) (36 + vget s.thm.eband (n / 2)) 1

/-- A term enters the 64-bit accumulator of a segment. -/
def State.addStress (n term : Nat) (s : State) : State :=
  (({ s with eng := { s.eng with acc := vmod s.eng.acc n (fun a => (a + term) % 2 ^ 64) } } : State)).eolCheck n

/-- The term of a pass of `ts` ns that sent `psent` pW (R368). -/
def State.passStress (n ts psent : Nat) (s : State) : State :=
  let b := s.burgeeOf n
  s.addStress n (ts * psent * s.stressWeight n * burg b 5 1 / (16 * burg b 24 2 * 1000000000))

/-- The LIMP base layer is shown (R38). R38 asks for a defined and complete Y8 surface; one whose size is not the 2048 x 512 of Table 1.3
is not shown, and keep-alive stays (DESIGN CHOICE, assumption 113). -/
def State.limpBase (s : State) : Bool :=
  let u := vget s.store.surfs (s.fld 0x00001 14 8)
  s.flag 0x00001 1 && decide (s.mode.cur = .limp) && decide (u.st ≠ .undefined ∧ u.st ≠ .incomplete) &&
    decide (u.format = 1 ∧ u.width = 2048 ∧ u.height = 512) && s.mask.ceilOk

/-- The engine shows keep-alive and no lines are sent: none, or whether the flux is derated (R369). -/
def State.keepShown (s : State) : Option Bool :=
  if s.mode.cur = .limp && !s.limpBase then some false
  else if s.mode.cur = .ready && s.flag 0x00001 0 && !s.scan.curLines then some false
  else if s.mode.cur = .safeBeam then some true
  else none

/-- A segment is dark: its lane has been furled, or its last FSTART said DARK (R326, Table 7.5); under override it shows keep-alive
(R335, R367), and so it does by itself while its lane is down (R365, R366, Table 1.8). -/
def State.dark (s : State) (n : Nat) : Bool :=
  let l := vget s.fly n
  !s.ens.ovr && decide (l.st = .furled ∨ (l.lastShow = .dark ∧ !l.down))

/-- One ms of keep-alive without lines, on the segments that are not dark (R369); a segment whose lane is down shows it at derated flux
(R365, R366). -/
def State.lifeTick (s : State) : State :=
  match s.keepShown with
  | none => s
  | some derated =>
    if s.clk.dtime < s.eng.lifeTickAt + 1000000 then s
    else
      let s : State := { s with eng := { s.eng with lifeTickAt := s.clk.dtime } }
      iter (fun n s =>
        if s.mapped n && !s.dark n then
          let b := s.burgeeOf n
          s.addStress n (1000000 * burg b 43 1 * (if derated || (vget s.fly n).down then burg b 42 1 + 1 else 256) * s.stressWeight n / (256 * 256 * 16))
        else s) 16 s

/-! ### Records (Tables 8.6, 8.7 and 11.7) -/

def nextNum (o : Option Nat) : Nat := match o with | some g => g + 1 | none => 0

/-- A page or header with its CRC appended (R352). -/
def sealPage (addr : Nat) (b : List Byte) : List Byte := b ++ le 4 (crc32 (BitVec.ofNat 32 addr) b).toNat

def lifeAddr (gen : Nat) : Nat := 0x32000 + 256 * (gen % 64)

/-- The life record of generation `gen` (Table 8.6). -/
def State.lifeRecord (s : State) (gen : Nat) : List Byte :=
  sealPage (lifeAddr gen)
    (le 2 0x4C52 ++ le 1 1 ++ le 1 (b2n (s.eng.eol90 != 0) + 2 * b2n (s.eng.eol100 != 0)) ++ le 4 gen ++
      le 8 (s.rtc.count % 2 ^ 40) ++ le 4 (s.beamTime / 1000000000) ++ le 12 0 ++ s.eng.acc.toList.flatMap (le 8) ++ le 92 0)

/-- The counter block (Table 11.7, R509). -/
def State.counterBlock (s : State) : List Byte :=
  let r := s.evt
  le 4 r.raised.toNat ++ le 4 r.store.length ++ le 4 r.rlimit.toNat ++ le 4 r.fulldrop.toNat ++ le 4 r.qovf.toNat ++
  le 2 r.gen.toNat ++ le 2 0 ++ s.flt.acts.toList.flatMap (le 4) ++ s.flt.escs.toList.flatMap (le 2) ++ le 4 s.scan.missed ++
  le 2 s.store.ceCnt.toNat ++ le 1 s.store.ueCnt.toNat ++ le 1 0 ++ le 2 s.store.wrefused.toNat ++ le 2 s.hoist.ue.toNat ++
  s.fly.toList.flatMap (fun l => le 2 l.subcnt.toNat) ++ s.scan.segs.toList.flatMap (fun g => le 1 g.echobad.toNat) ++
  le 1 s.ens.badCnt.toNat ++ le 1 0 ++ le 2 s.ens.testCnt.toNat ++ le 4 (bitsOf (fun b => (vget s.flt.latch b).ovf) 18) ++
  (List.range 18).flatMap (fun b => le 1 (min (s.blockActive b).length 63)) ++ le 34 0

/-- The five pages of a session, pages 1 to 4 and then page 0 (R376). -/
def State.sessionPages (s : State) : List Page :=
  let sess := nextNum s.eng.sess
  let base := 0x36000 + 2048 * (sess % 16)
  let es := s.evt.store.take 64
  let body := es.flatMap Entry.bytes ++ List.replicate (1024 - 16 * es.length) 0
  let hdr := le 2 0x534C ++ le 1 es.length ++ le 1 0 ++ le 4 sess ++ le 8 s.rtc.count ++ le 6 s.scan.framecnt ++ le 2 0 ++
    le 4 ((s.act 0x00003)) ++ le 4 (crc32 (BitVec.ofNat 32 (base + 256)) body).toNat ++ s.counterBlock ++ le 28 0
  (List.range 4).map (fun k => { lane := 0, addr := base + 256 * (k + 1), data := (body.drop (256 * k)).take 256 }) ++
    [{ lane := 0, addr := base, data := sealPage base hdr }]

/-! ### Page jobs (R350, R357, R373) -/

/-- The first element that satisfies `p`, changed or (none) removed by `f`. -/
def modFirst {α : Type} (p : α → Bool) (f : α → Option α) : List α → List α
  | [] => []
  | x :: t => if p x then (f x).toList ++ t else x :: modFirst p f t

def State.modJob (n : Nat) (f : Job → Option Job) (s : State) : State :=
  { s with eng := { s.eng with jobs := modFirst (fun j => j.lane == n) f s.eng.jobs } }

def Job.isLife (j : Job) : Bool := decide (j.use = .life)
def Job.isLog (j : Job) : Bool := decide (j.use = .log)

/-- A life record or a log copy is skipped (R75, R374). -/
def State.lifeSkip (s : State) : State :=
  (if s.mode.sleep = .life then (s.hwSet 0x00003 0x100).event 0x00A else s).event 0x1CA
def State.logSkip (s : State) : State := ((s.hwSet 0x00003 0x200).event 0x00A).event 0x1CB

/-- The job at the front of a lane ends without completing; `st` answers a host command. -/
def State.jobFail (n st : Nat) (s : State) : State :=
  match s.eng.jobs.find? (fun j => j.lane == n) with
  | none => s
  | some j =>
    let s := s.modJob n (fun _ => none)
    match j.use with
    | .host id => s.answer id st []
    | .keepalive _ => s.endKa st
    | .life => s.lifeSkip
    | .log => s.logSkip

/-- The pages of a job are all programmed. -/
def State.jobDone (n : Nat) (s : State) : State :=
  match s.eng.jobs.find? (fun j => j.lane == n) with
  | none => s
  | some j =>
    let s := s.modJob n (fun _ => none)
    match j.use with
    | .host id => s.answer id stOk []
    | .keepalive _ =>
      if s.eng.jobs.any Job.isKa then s
      else match s.eng.kaCheck with
        | some (_, l) => l.foldl (fun s p => s.ctrlSend p.1 .kaRead 0x20000 0x8000) s
        | none => s
    | .life =>
      let g := nextNum s.eng.gen
      let s : State := { s with eng := { s.eng with gen := some g } }
      if g = 6400000 then s.event 0x1C5 else s
    | .log => ({ s with eng := { s.eng with sess := some (nextNum s.eng.sess) } } : State).event 0x2C3

/-- The operation serves nothing any more. -/
def CtrlUse.isDropped : CtrlUse → Bool
  | .dropped _ _ => true | _ => false

/-- While the sag inhibit holds, no page is loaded or programmed: the jobs that wait on a lane end (R75, R591). -/
def State.jobsInhibited (n : Nat) (s : State) : State :=
  if s.cal.inhibit then
    iter (fun _ s => match s.eng.jobs.find? (fun j => j.lane == n) with
      | some j => (match j.use with | .host _ => s.event 0x1CC | .keepalive _ => s.event 0x1CC | _ => s).jobFail n stSupplyInhibit
      | none => s) s.eng.jobs.length s
  else s

/-- Send the next operation of a lane's page job. The inhibit is tested before each, so that none that sets in while a page is loaded lets
NV_PROG start (R589, R591). The engine's page buffer is one
(R356), so the operations of a job that has ended are waited for first. -/
def State.jobStep (n : Nat) (s : State) : State :=
  if (vget s.fly n).busyWith (fun u => u.isJob || u.isDropped) then s
  else
    let s := s.jobsInhibited n
    match s.eng.jobs.find? (fun j => j.lane == n) with
    | none => s
    | some j =>
      match j.pages with
      | [] =>
        let g := nextNum s.eng.gen
        let s : State := { s with eng := { s.eng with markNs := s.beamTime } }
        (s.modJob n (fun j => some { j with pages := [{ lane := 0, addr := lifeAddr g, data := s.lifeRecord g }] })).ctrlSend n .pageLoad 0 8
      | p :: _ =>
        if p.data.length ≠ 256 then s.ctrlSend n .mergeRead (p.addr / 256 * 256) 256
        else if j.loaded < 32 then s.ctrlSend n .pageLoad (8 * j.loaded) 8
        else s.ctrlSend n .pageProg p.addr 0

/-- A life record is due (R372, R373); without an accepted burgee the ring is not known and nothing is written. -/
def State.lifeDue (s : State) : State :=
  if s.eng.engId then
    (({ s with eng := { s.eng with jobs := s.eng.jobs ++ [{ use := .life, pages := [], loaded := 0 }] } } : State)).jobStep 0
  else s.lifeSkip

/-- The session log is due (R376). -/
def State.logDue (s : State) : State :=
  if s.eng.engId then
    (({ s with eng := { s.eng with jobs := s.eng.jobs ++ [{ use := .log, pages := s.sessionPages, loaded := 0 }] } } : State)).jobStep 0
  else s.logSkip

/-- LIFE_RECORD_DUE: 600 s of BEAM time since the last record (R372). -/
def State.lifeRecordDue (s : State) : State :=
  if s.mode.cur = .beam ∧ s.eng.markNs + 600000000000 ≤ s.beamTime then s.lifeDue else s

/-- WAVE for a diode's band to the two segments it serves (R537). -/
def State.sendWave (d : Nat) (s : State) : State :=
  let b := vget s.thm.eband d
  let one (n : Nat) (s : State) : State :=
    if decide ((vget s.fly n).st = .idle ∨ (vget s.fly n).st = .active) && s.mapped n then s.ctrlSend n .wave b 0 else s
  one (2 * d + 1) (one (2 * d) s)

end Sys2Proof.Machine
end

