-- ==== Sys2Proof/Machine/Cal.lean ====
section
/-! DEFINITION. Calibration: the fuse bank, CAL_RUN, the supply-sag inhibit (chapter 14). -/

namespace Sys2Proof.Machine

/-! ### The fuse bank (R576 to R582) -/

inductive RecClass where
  | blank | incomplete | valid | corrupt
  deriving DecidableEq, Repr

/-- CRC of record n over bytes 0 to 27 (R577). -/
def calCrc (n : Nat) (b : List Byte) : Word := crc32 (BitVec.ofNat 32 n) (b.take 28)

/-- How a record classes on reading (R580). -/
def recClass (n : Nat) (b : List Byte) : RecClass :=
  if b.all (fun x => x == 0) then .blank
  else if leAt b 28 4 = 0 then .incomplete
  else if leAt b 28 4 = (calCrc n b).toNat then .valid
  else .corrupt

def State.calRecord (s : State) (n : Nat) : List Byte := vget s.cal.bank n

/-- Records not BLANK (R580). -/
def State.bankCount (s : State) : Nat := countBelow (fun n => decide (recClass n (s.calRecord n) ≠ .blank)) 32

/-- The highest record number of which `p` holds. -/
def State.newestRecord (s : State) (p : RecClass → Bool) : Option Nat :=
  ((List.range 32).filter (fun n => p (recClass n (s.calRecord n)))).getLast?

/-- Power-on from OFF: the newest VALID record comes into force, or factory trim, of which bytes 2 to 7 read 0 (R581, Table 14.7). -/
def State.calPowerOn (s : State) : State :=
  let c := s.cal
  let trim : List Byte := (List.range 32).map (fun k => if 2 ≤ k ∧ k ≤ 7 then 0 else Config.factoryTrim k)
  match s.newestRecord (fun k => decide (k = .valid)) with
  | some n => { s with cal := { c with inForce := s.calRecord n, src := 1, record := n, ramOnly := false, count := s.bankCount } }
  | none => { s with cal := { c with inForce := trim, src := 0, record := 0, ramOnly := false, count := s.bankCount } }

/-- The bank is read at every READY entry (R582). -/
def State.calReady (s : State) : State :=
  let s : State := { s with cal := { s.cal with count := s.bankCount } }
  match s.newestRecord (fun k => decide (k = .valid ∨ k = .corrupt)) with
  | some n => if recClass n (s.calRecord n) = .corrupt then s.raise0 0x346 n 0 else s
  | none => s

/-! ### The supply-sag inhibit (R589 to R591) -/

/-- DATA of CAL_INHIBIT: the conditions that hold. -/
def State.inhibitData (s : State) : Nat := b2n s.cal.inhVbat + 2 * b2n s.cal.inhVio + 4 * b2n s.cal.inhTj

/-- A condition changed: the inhibit sets at once, or the 1 ms of R589 begins; it begins again where TJ is above 108 °C in between. -/
def State.inhibitEval (s : State) : State :=
  if s.cal.inhVbat || s.cal.inhVio || s.cal.inhTj then
    let was := s.cal.inhibit
    let s : State := { s with cal := { s.cal with inhibit := true, clearAt := none } }
    if was then s else s.raise0 0x344 0 s.inhibitData
  else if s.cal.inhibit then
    { s with cal := { s.cal with clearAt := if s.thm.tjValid && decide (108 * 16 < s.thm.tj) then none else s.cal.clearAt.or (some s.clk.now) } }
  else s

/-- The conditions have been clear for 1 ms. -/
def State.inhibitEnd (s : State) : State :=
  match s.cal.clearAt with
  | some t0 => if t0 + 1000000 ≤ s.clk.now then { s with cal := { s.cal with inhibit := false, clearAt := none } } else s
  | none => s

/-- TJ in 1/16 °C as the inhibit takes it: above 110 °C sets, at most 108 °C clears. -/
def State.inhibitTj (tj : Int) (s : State) : State :=
  let v := if 110 * 16 < tj then true else if tj ≤ 108 * 16 then false else s.cal.inhTj
  (({ s with cal := { s.cal with inhTj := v } } : State)).inhibitEval

/-- Logic-die reset release sets the inhibit (R590). -/
def State.inhibitRelease (s : State) : State :=
  let s : State := { s with cal := { s.cal with inhTj := true, inhibit := true, clearAt := none } }
  s.raise0 0x344 0 s.inhibitData

/-! ### CAL_RUN (R565 to R575, R583 to R588) -/

/-- Conversions that a run makes (Table 14.1). -/
def calConvs (items : BitVec 4) : Nat :=
  2 + 10 * b2n (items.getLsbD 0) + 6 * b2n (items.getLsbD 1) + 6 * b2n (items.getLsbD 2) + 3 * b2n (items.getLsbD 3)

/-- CAL_RUN with parameters that R569 accepts. A row that an ended run still burns goes on (R594). -/
def State.calStart (id : ReqId) (items : BitVec 4) (burn : Bool) (s : State) : State :=
  let r : CalRun :=
    { id := id, items := items, burn := burn, convs := 0, shorts := 0, results := [], row := none, record := 0, bytes := [],
      ended := false }
  let left := (s.cal.run.filter (fun r => r.row.isSome)).or s.cal.ending
  (({ s with cal := { s.cal with run := some r, ending := left } } : State)).event 0x340

/-- A byte list with `new` from offset `o`. -/
def putBytes (o : Nat) (new l : List Byte) : List Byte := l.take o ++ new ++ l.drop (o + new.length)

/-- `n` free bytes: the spec states no formula from the conversions to the calibration values. -/
def freeBytes : Nat → State → List Byte × State
  | 0, s => ([], s)
  | n + 1, s =>
    let res := s.fresh
    let v := res.1
    let s := res.2
    let res := freeBytes n s
    let l := res.1
    let s := res.2
    (BitVec.ofNat 8 v :: l, s)

/-- The fields of each item in a record: offset and length (Table 14.3). -/
def itemBytes (i : Nat) : Nat × Nat := match i with | 0 => (8, 6) | 1 => (14, 5) | 2 => (19, 6) | _ => (25, 3)

/-- The complete set of values at application (R575): items not named keep the values in force. -/
def State.calBytes (items : BitVec 4) (s : State) : List Byte × State :=
  let b := putBytes 2 (le 5 s.rtc.count) (putBytes 0 [BitVec.ofNat 8 items.toNat, 0] s.cal.inForce)
  let b := if items.getLsbD 0 then putBytes 7 [BitVec.ofNat 8 (burg s.eng.burgee0 8 1)] b else b
  iter (fun i (p : List Byte × State) =>
    if items.getLsbD i then
      let res := freeBytes (itemBytes i).2 p.2
      let l := res.1
      let s := res.2
      (putBytes (itemBytes i).1 l p.1, s)
    else p) 4 (b, s)

/-- The record with the least SALT whose CRC is not 0 (R578). -/
def saltRecord (n : Nat) (b : List Byte) : List Byte :=
  match firstBelow (fun k => calCrc n (putBytes 1 [BitVec.ofNat 8 k] b) != 0) 256 with
  | some k =>
    let b := putBytes 1 [BitVec.ofNat 8 k] b
    putBytes 28 (le 4 (calCrc n b).toNat) b
  | none => b

/-- A calibration in force is not burned (R586). -/
def State.ramOnly (s : State) : State :=
  (({ s with cal := { s.cal with ramOnly := true, src := 2 } } : State)).event 0x343

/-- The OK reply and CAL_DONE (R585). -/
def State.calReply (id : ReqId) (burned : Option Nat) (s : State) : State :=
  let s := s.answer id stOk (match burned with
    | some n => le 1 1 ++ le 1 n ++ le 1 s.cal.count
    | none => le 1 0 ++ le 1 0xFF ++ le 1 s.cal.count)
  s.event 0x341

/-- The next row starts, unless the command has ended or the inhibit holds: before row 0 nothing has been burned and
COUNT stands, after it the record is INCOMPLETE and counts (R579, R591, R592, R594). -/
def State.calRow (r : CalRun) (k : Nat) (s : State) : State :=
  if r.ended then (({ s with cal := { s.cal with run := none } } : State)).ramOnly
  else if s.cal.inhibit then
    ((({ s with cal := { s.cal with run := none } } : State)).ramOnly).answer r.id stSupplyInhibit []
  else { s with cal := { s.cal with run := some { r with row := some k } } }

/-- Every conversion is complete: the calibration is applied at one instant, and burned where asked (R574, R583, R584). -/
def State.calApply (r : CalRun) (s : State) : State :=
  let res := s.calBytes r.items
  let b := res.1
  let s := res.2
  let forget (lo hi : Nat) (v : Vector ThermCh 14) : Vector ThermCh 14 :=
    iter (fun c v => if lo ≤ c ∧ c < hi then vmod v c (fun x => { x with hist := [] }) else v) 14 v
  let s : State := { s with thm := { s.thm with
    ch := (if r.items.getLsbD 1 then forget 8 12 else id) ((if r.items.getLsbD 0 then forget 0 8 else id) s.thm.ch),
    gdnCh := (if r.items.getLsbD 1 then forget 8 12 else id) ((if r.items.getLsbD 0 then forget 0 8 else id) s.thm.gdnCh) } }
  let s : State := { s with cal := { s.cal with dstale := s.cal.dstale && !r.items.getLsbD 0, src := 2 } }
  if r.burn && decide (s.cal.count < 32) then
    let n := s.cal.count
    let b := saltRecord n b
    (({ s with cal := { s.cal with inForce := b } } : State)).calRow { r with record := n, bytes := b } 0
  else
    let res := freeBytes 4 s
    let c := res.1
    let s := res.2
    let s : State := { s with cal := { s.cal with inForce := putBytes 28 c b, run := none } }
    let s := if r.burn then s.event 0x342 else s
    (s.ramOnly).calReply r.id none

/-- The reference check (R567): CALREF within 1.2500 V ± 2 %, CALRES within 10.00 kΩ ± 2 %. -/
def State.calRefCheck (r : CalRun) (s : State) : State :=
  let v := (r.results.getD 0 0).toNat
  let o := (r.results.getD 1 0).toNat
  let s : State := { s with cal := { s.cal with refV := BitVec.ofNat 16 v, refR := BitVec.ofNat 16 o } }
  let bad := if v < 24500 ∨ 25500 < v then 1 else if o < 19600 ∨ 20400 < o then 2 else 0
  if bad = 0 then s
  else ((({ s with cal := { s.cal with run := none } } : State)).raise0 0x345 0 bad).answer r.id stBadParam []

/-- A calibration conversion completes with a raw result; four short ones are averaged into one (R571). -/
def State.calConv (raw : Nat) (short : Bool) (s : State) : State :=
  match s.cal.run with
  | none => s
  | some r =>
    if r.ended || r.row.isSome then s
    else
      let keep := r.results.take r.convs
      let shorts := r.results.drop r.convs ++ [(raw : Int)]
      if short && decide (shorts.length < 4) then
        { s with cal := { s.cal with run := some { r with results := keep ++ shorts, shorts := shorts.length } } }
      else
        let v : Int := if short then shorts.sum / 4 else raw
        let r := { r with results := keep ++ [v], shorts := 0, convs := r.convs + 1 }
        let s : State := { s with cal := { s.cal with run := some r } }
        let s := if r.convs = 2 then s.calRefCheck r else s
        if s.cal.run.isSome && decide (r.convs = calConvs r.items) then s.calApply r else s

/-- Row k of a run's record is burned; COUNT follows the bank (R579, R580, R587). -/
def State.burnRow (r : CalRun) (k : Nat) (s : State) : State :=
  let was := s.cal.count
  let s : State := { s with cal := { s.cal with
    bank := vmod s.cal.bank r.record (fun b => putBytes (4 * k) ((r.bytes.drop (4 * k)).take 4) b) } }
  let s : State := { s with cal := { s.cal with count := s.bankCount } }
  if was < 32 ∧ s.cal.count = 32 then s.event 0x342 else s

/-- The record of a run is complete: the calibration in force comes from it (R586). -/
def State.burned (r : CalRun) (s : State) : State :=
  { s with cal := { s.cal with ramOnly := false, src := 1, record := r.record } }

/-- FUSE_ROW_DONE: the row of an ended run that a new one has left behind, or that of the run in hand. -/
def State.fuseRow (s : State) : State :=
  match s.cal.ending, s.cal.run with
  | some r, _ =>
    let s := ({ s with cal := { s.cal with ending := none } } : State).burnRow r (r.row.getD 0)
    if r.row.getD 0 < 7 then s.ramOnly else s.burned r
  | none, some r =>
    match r.row with
    | none => s
    | some k =>
      let s := s.burnRow r k
      if k < 7 then s.calRow r (k + 1)
      else
        let s := ({ s with cal := { s.cal with run := none } } : State).burned r
        if r.ended then s else s.calReply r.id (some r.record)
  | none, none => s

/-- At step 7: the diode line terms are those of another engine (R595). -/
def State.calEngine (s : State) : State :=
  { s with cal := { s.cal with dstale := decide (leAt s.cal.inForce 7 1 ≠ burg s.eng.burgee0 8 1) } }

end Sys2Proof.Machine
end

