-- ==== Sys2Proof/Machine/Mask.lean ====
section
/-! DEFINITION. Object lists, latches and emission windows, the dark-zone tables with their diverse comparison, the ceiling map, and the
token latch (chapter 5). -/

namespace Sys2Proof.Machine

/-! ### Object lists (R210 to R215) -/

def parseObject (b : List Byte) : Object :=
  { x0 := signed 16 (leAt b 0 2), x1 := signed 16 (leAt b 2 2), y0 := signed 16 (leAt b 4 2), y1 := signed 16 (leAt b 6 2),
    vx := signed 16 (leAt b 8 2), vy := signed 16 (leAt b 10 2), capofs := signed 32 (leAt b 12 4), cls := leAt b 16 1,
    margin := leAt b 17 1, objid := leAt b 18 1 }

/-- The object entries of a list body, 20 bytes each (Table 5.2). -/
def parseObjects (b : List Byte) (n : Nat) : List Object := (List.range n).map (fun i => parseObject (b.drop (16 + 20 * i)))

/-- The content checks of R212, apart from LISTSEQ. -/
def listWellFormed (b : List Byte) : Bool :=
  let n := leAt b 2 2
  decide (leAt b 0 1 = 1 ∧ n ≤ 256 ∧ b.length = 16 + 20 * n ∧ leAt b 1 1 = 0 ∧ leAt b 4 4 = 0) &&
  (List.range n).all (fun i =>
    let o := parseObject (b.drop (16 + 20 * i))
    decide (o.x0 ≤ o.x1 ∧ o.y0 ≤ o.y1 ∧ o.cls ≤ 4 ∧ leAt b (16 + 20 * i + 19) 1 = 0))

/-- A fragment or list is refused: the partial list goes, REJECTED counts, MASK_LIST_REJECT (R211, R213). -/
def State.listRefused (src : Fin 3) (s : State) : State :=
  (({ s with mask := { s.mask with asm := s.mask.asm.set src none, rejected := satAdd s.mask.rejected 1 } } : State)).event 0x101

/-- The LAST fragment has arrived (R212 to R214). -/
def State.listComplete (src : Fin 3) (a : Assembly) (s : State) : Bool × State :=
  let seqOk := match s.mask.list with | none => true | some l => later 16 a.seq.toNat l.seq.toNat
  if listWellFormed a.data && seqOk then
    let l : ObjList := { seq := a.seq, capbase := leAt a.data 8 8, objs := parseObjects a.data (leAt a.data 2 2), doneAt := s.clk.dtime }
    (true, (({ s with mask := { s.mask with
      asm := s.mask.asm.set src none, list := some l, accepted := s.mask.accepted + 1 } } : State)).event 0x100)
  else (false, s.listRefused src)

/-- One fragment from a source: 0 CSPI, 1 Hoist CMD, 2 Hoist OBJ (R210, R211). The flag says that it was taken. -/
def State.listFragment (src : Fin 3) (seq : Half) (frag last : Nat) (data : List Byte) (s : State) : Bool × State :=
  let isLast := decide (last = 1)
  if 5 < frag ∨ (!isLast ∧ data.length ≠ 1020) ∨ 1020 < data.length then (false, s.listRefused src)
  else
    let next : Option Assembly :=
      if frag = 0 then some { seq := seq, next := 1, data := data }
      else match s.mask.asm[src] with
        | some a => if a.seq = seq ∧ a.next = frag then some { a with next := frag + 1, data := a.data ++ data } else none
        | none => none
    match next with
    | none => (false, s.listRefused src)
    | some a =>
      if isLast then s.listComplete src a
      else (true, { s with mask := { s.mask with asm := s.mask.asm.set src (some a) } })

/-! ### The pass schedule (R255, R256) -/

/-- Start of pass k after an anchor at rate r (R255). -/
def passTime (anchor r k : Nat) : Nat := anchor + (k * 1000000000 + r / 2) / max r 1

def State.passAt (s : State) (k : Nat) : Nat := passTime s.scan.anchor s.scan.refresh k

/-- A word as the pending COMMITs will leave it. -/
def State.pendWord (s : State) (a : Nat) : Nat := s.viewWord 0 [] a

/-- The pending LANES set changes the rate of an enabled lane (R293). -/
def State.retrainPending (s : State) : Bool := (List.range 16).any (fun n => rateChange s.act s.pendWord n)

/-- A change of timing awaits the next flip (R291). -/
def State.changePending (s : State) : Bool :=
  s.pendingGroup grpTiming || s.pendingGroup grpLanes || s.scan.pcdivWant.isSome

/-- Start, period and composition period of the pass that a latch serves, under the timing in force, or under the timing of a
retraining change whose anchor is known (Table 6.5 step 5). -/
def State.latchTiming (s : State) : Nat × Nat × Nat :=
  match s.scan.retrain with
  | some r =>
    (match r.opened, r.doneAt with
     | true, some d =>
       let p := d + 200000
       let rate := s.fld 0x50000 9 0
       (p, passTime 0 rate 1, passTime 0 rate s.divider)
     | _, _ => (s.passAt s.scan.k, s.passAt (s.scan.k + 1) - s.passAt s.scan.k, s.passAt (s.scan.k + s.scan.div) - s.passAt s.scan.k))
  | none => (s.passAt s.scan.k, s.passAt (s.scan.k + 1) - s.passAt s.scan.k, s.passAt (s.scan.k + s.scan.div) - s.passAt s.scan.k)

/-- Period and composition period after the pending changes. -/
def State.pendTiming (s : State) : Nat × Nat :=
  let w := s.pendWord 0x50000
  let rate := bits w 9 0
  let n := 2 ^ max (bits w 11 10) (s.scan.pcdivWant.getD s.scan.pcdiv)
  (passTime 0 rate 1, passTime 0 rate n)

/-- The emission window of the pass table (R216, R291, Table 6.5 step 1). -/
def State.passWindow (s : State) : Nat × Nat :=
  let (p, ts, _) := s.latchTiming
  if s.retrainPending && decide (s.scan.k = s.scan.flipK) && s.scan.retrain.isNone then (p + ts, p + ts + 40000000)
  else if s.changePending then
    let (ts', _) := s.pendTiming
    (p + min ts ts', p + 2 * max ts ts')
  else (p + ts, p + 2 * ts)

/-- The emission window of the composition table (R217, R291). -/
def State.compWindow (s : State) : Nat × Nat :=
  let (p, ts, tc) := s.latchTiming
  if s.changePending then
    let (ts', tc') := s.pendTiming
    (p + min (tc + ts) (tc' + ts'), p + max (2 * tc + ts) (2 * tc' + ts'))
  else (p + tc + ts, p + 2 * tc + ts)

/-! ### Latches (R216, R217, R228 to R231, R681) -/

/-- The configuration of a render with late count `late`. -/
def State.maskCfg (s : State) (late : Nat) : MaskCfg :=
  { pad := (List.range 5).map (fun k => s.act (0x40010 + 2 * k)), cap := (List.range 5).map (fun k => s.fld (0x40011 + 2 * k) 15 0),
    dilh := s.fld 0x40000 17 8, dilv := s.fld 0x40000 27 18, late := late,
    cola := fun c => if s.mask.cola.isEmpty then colaNominal c else s.mask.cola.getD c 0,
    rowa := fun r => if s.mask.rowa.isEmpty then rowaNominal r else s.mask.rowa.getD r 0 }

/-- The list that a render takes: none in SERVICE (R231). -/
def State.renderList (s : State) : Option ObjList := if s.mode.cur = .service then none else s.mask.list

def State.render (s : State) (l : Option ObjList) (late : Nat) (w : Nat × Nat) : List Zone × List Nat :=
  renderZones (s.maskCfg late) l w.1 w.2

/-- MASK_ZONE_DROP for each dropped object, DATA its OBJID (R225): once for a pass render and once for a composition render
(assumption 130). -/
def State.dropZones (ids : List Nat) (s : State) : State := ids.foldl (fun s i => s.raise0 0x109 0 i) s

/-- A latch finds the list late (R228, R231). -/
def State.listLate (s : State) : Bool :=
  if s.mode.cur = .service then false
  else match s.mask.list with
    | none => true
    | some l => decide (s.fld 0x40001 15 0 * 1000 < s.clk.dtime - l.doneAt)

/-- MASK_LATE when L reaches LATEMAX in BEAM (R230). -/
def State.judgeLate (s : State) : State :=
  let m := s.fld 0x40000 6 0
  if s.mode.cur = .beam ∧ m ≤ s.mask.late ∧ (s.mask.late = m ∨ (s.activeOf 0x102).isNone) then s.raise0 0x102 0 0 else s

/-- L at a latch (R229). Whether the latch of a pass is late shows only when its table completes or misses its bound (R228). -/
def State.countLate (s : State) : State :=
  let late := s.listLate
  let l := if late then s.mask.late + 1 else 0
  let s : State := { s with mask := { s.mask with lateWas := s.mask.late, lateNow := late, late := l, latchAt := s.clk.dtime } }
  if late then s.judgeLate else s

/-- A latch that is not late resolves MASK_LATE (R230). -/
def State.onTime (s : State) : State := if s.mask.lateNow then s else s.resolveAll 0x102

/-- An unfinished pass table or coarse mask gives way to the previous one (R218, R228, R236). -/
def State.missTables (s : State) : State :=
  let s := match s.mask.rendPass with
    | some _ =>
      let s : State := { s with mask := { s.mask with rendPass := none } }
      let s : State := s.event 0x106
      if s.mask.lateNow || decide (s.mode.cur = Mode.service) then s
      else (({ s with mask := { s.mask with late := s.mask.lateWas + 1, lateNow := true } } : State)).judgeLate
    | none => s
  match s.mask.rendCoarse with
  | some _ =>
    let s : State := { s with mask := { s.mask with rendCoarse := none, glate := s.mask.glate + 1 } }
    if 2 ≤ s.mask.glate then s.raise0 0x104 0 0 else s
  | none => s

/-- Renders that are not complete although Pk − 40 µs has passed have missed it. -/
def State.lateTables (s : State) : State := if s.mask.tableDue < s.clk.dtime then s.missTables else s

/-- The pass latch (R216, R217): the tables of the coming pass, and at a flip instant's latch the composition table. -/
def State.passLatch (s : State) : State :=
  if !s.scan.run || s.scan.stopping then s
  else
    let s := (s.lateTables).countLate
    let l := s.renderList
    let (z, d) := s.render l s.mask.late s.passWindow
    let flip := decide (s.scan.k = s.scan.flipK) && s.scan.retrain.isNone
    let s : State := { s with mask := { s.mask with
      passList := l, passLate := s.mask.late, passWin := s.passWindow, tableDue := s.latchTiming.1 - 40000, rendPass := some z, rendCoarse := some z, passFresh := false, coarseFresh := false } }
    let s := s.dropZones d
    if flip then
      let (zc, dc) := s.render l s.mask.late s.compWindow
      let s : State := { s with
        mask := { s.mask with rendComp := some zc }
        scan := { s.scan with flipLatched := true, pcdivLatched := s.scan.pcdivWant } }
      s.dropZones dc
    else s

/-- The renderer's latch at an anchor A (R681), for the window [A + 3 Ts, A + 3 Ts + Tc]. -/
def State.anchorLatch (ts tc : Nat) (s : State) : State :=
  let a := s.scan.anchor
  let s := if s.mask.latchAt ≠ 0 ∧ s.clk.dtime - s.mask.latchAt ≤ 110000 then s else s.countLate.onTime
  let (z, d) := s.render s.renderList s.mask.late (a + 3 * ts, a + 3 * ts + tc)
  (({ s with mask := { s.mask with rendComp := some z } } : State)).dropZones d

/-! ### Tables and comparison (R218, R233 to R237) -/

/-- The comparison of the diverse masks (R234, R235). -/
def State.compareMasks (fine coarse : List Zone) (s : State) : State :=
  let n := disagreeing fine coarse (s.fld 0x40002 1 0)
  let s : State := { s with mask := { s.mask with disc := n } }
  if n = 0 then s.resolveAll 0x103 else s.raise0 0x103 0 0

/-- The comparison of a pass, once both renders are complete. Where the pass table missed its bound nothing is compared: the spec names a
skipped comparison only for a late coarse mask (assumption 131). -/
def State.compareFresh (s : State) : State :=
  if s.mask.passFresh && s.mask.coarseFresh then
    (({ s with mask := { s.mask with passFresh := false, coarseFresh := false } } : State)).compareMasks s.mask.passTbl s.mask.coarseTbl
  else s

/-- The pass table or the coarse mask completes; by Pk − 40 µs it serves the pass (R218, R236). -/
def State.passTableDone (s : State) : State :=
  let s := s.lateTables
  match s.mask.rendPass with
  | some z => ((({ s with mask := { s.mask with passTbl := z, rendPass := none, passFresh := true } } : State)).onTime).compareFresh
  | none => s

def State.coarseDone (s : State) : State :=
  let s := s.lateTables
  match s.mask.rendCoarse with
  | some z =>
    ((({ s with mask := { s.mask with coarseTbl := z, rendCoarse := none, coarseFresh := true, glate := 0 } } : State)).resolveAll
      0x104).compareFresh
  | none => s

/-- MASK_TABLE_DEADLINE: Pk − 40 µs has come. -/
def State.tableDeadline (s : State) : State := if s.mask.tableDue ≤ s.clk.dtime then s.missTables else s

/-- The extra comparison at 120 Hz (R237), for the pass in progress and its own window, that of a retraining change's pass k included. These
renders raise no MASK_ZONE_DROP: the spec does not say which renders do (assumption 130). -/
def State.midPass (s : State) : State :=
  if s.scan.run && decide (s.scan.refresh = 120) && decide (0 < s.scan.k) && s.scan.retrain.all (fun r => !r.opened) then
    let z := (s.render s.mask.passList s.mask.passLate s.mask.passWin).1
    s.compareMasks z z
  else s

/-! ### The ceiling map (R239 to R241) -/

def ceilBytes : Nat := 1048576

/-- CRC of the ceiling region (R240). -/
def State.ceilCrcNow (s : State) : Word := crc32 0x2A000#32 (sparseBytes s.store.mem ceilBase ceilBytes)

/-- CEILING_LOAD: the copy, with CEILOK at 0 from its start (R239, R240). -/
def State.ceilingLoad (id : ReqId) (n : Nat) (crc : Word) (s : State) : State :=
  let u := s.surf n
  if 128 ≤ n ∨ u.st ≠ .leased ∨ u.format ≠ 1 ∨ u.width ≠ 2048 ∨ u.height ≠ 512 then s.answer id stBadParam []
  else
    let bytes := (List.range 512).flatMap (fun y => sparseBytes (s.memSeen 4) (128 * u.base + y * u.stride) 2048)
    let s := s.readOver 4 (128 * u.base) u.bytes
    let s := s.storePut ceilBase bytes
    { s with mask := { s.mask with ceilOk := false, ceilLoaded := true, ceilCrc := crc, ceilRun := some id } }

/-- Guidon's check of the copy (R240). -/
def State.ceilingLoadDone (s : State) : State :=
  match s.mask.ceilRun with
  | none => s
  | some id =>
    let ok := decide (s.ceilCrcNow = s.mask.ceilCrc)
    let s : State := { s with mask := { s.mask with ceilRun := none, ceilOk := ok } }
    if ok then (s.event 0x108).answer id stOk [] else s.answer id stCrcMismatch []

/-- Guidon's periodic check (R241); the fault is resolved at a check that finds the region good. In SERVICE before the first CEILING_LOAD
there is no declared CRC to check against, and nothing is checked (assumption 132). -/
def State.ceilingCheck (s : State) : State :=
  if (s.mode.cur = .beam ∨ s.mode.cur = .service) ∧ s.mask.ceilLoaded ∧ s.mask.ceilRun.isNone then
    if s.ceilCrcNow = s.mask.ceilCrc then s.resolveAll 0x105
    else (({ s with mask := { s.mask with ceilOk := false } } : State)).raise0 0x105 0 0
  else s

/-! ### Power tokens (R245 to R249) -/

/-- The effective P_budget (chapter 5, "Power tokens"). -/
def State.effBudget (s : State) : Nat :=
  let b := min (s.fld 0xF0000 15 0) s.thermalBudget
  if s.tok.nf then min b (s.fld 0xF0001 15 0) else b

/-- The picture that the coming pass will scan (R219). -/
def State.comingFrame (s : State) : FrameInfo :=
  if s.scan.k = s.scan.flipK then s.bun.done.getD s.scan.frame else s.scan.frame

/-- A picture will be scanned: a front buffer is valid or becomes so. -/
def State.comingValid (s : State) : Bool :=
  s.scan.frontValid || (decide (s.scan.k = s.scan.flipK) && s.bun.done.isSome)

/-- The demand of lane n in pW (R245, R270); an unmapped segment demands nothing. -/
def State.demandOf (s : State) (f : FrameInfo) (n : Nat) : Nat :=
  if s.mapped n && s.comingValid then
    let g := srcSegment (s.act 0x50000) n
    demandPw s.tok.ecw s.tok.eam (vget f.scw g) (vget f.sam g)
  else 0

/-- The token latch (R219, R246, R247, R249). -/
def State.tokenLatch (s : State) : State :=
  if !s.scan.run || s.scan.stopping then s
  else
    let f := s.comingFrame
    let e := s.effBudget
    let pd := Vector.ofFn (n := 16) (fun i => s.demandOf f i.val)
    let dem := pd.map (demandTok e)
    let base := (List.range 16).map (fun i => s.fld (0xF0010 + i) 10 0)
    let (h, pool) := allocate base dem.toList
    let hold := Vector.ofFn (n := 16) (fun i => h.getD i.val 0)
    let scale := Vector.ofFn (n := 16) (fun i => scaleOf e hold[i] dem[i] pd[i])
    let fresh := decide (s.scan.k = s.scan.flipK) && s.bun.done.isSome
    let pmax := s.fld 0xF0000 15 0
    let s : State := { s with tok := { s.tok with
      effbud := e, limit := if s.tok.nf then min pmax (s.fld 0xF0001 15 0) else pmax, pool := pool, demand := dem, hold := hold, scale := scale, scaled := if fresh then 0 else s.tok.scaled } }
    iter (fun n s =>
      if vget s.tok.scale n < 65536 ∧ !s.tok.scaled.getLsbD n then
        (({ s with tok := { s.tok with scaled := s.tok.scaled ||| BitVec.ofNat 16 (2 ^ n) } } : State)).raise0 0x3C1 n 0
      else s) 16 s

end Sys2Proof.Machine
end

