-- ==== Sys2Proof/Machine/Modes.lean ====
section
/-! DEFINITION. Mode changes (R29 to R51): what a request meets, how a transition starts, what completing it does, and SLEEP entry
(Table 1.10). -/

namespace Sys2Proof.Machine

/-- The mode is a safe state. -/
def Mode.isSafe (m : Mode) : Bool := decide (m = .safeBeam ∨ m = .safeDark)

/-! ### What a request meets -/

/-- An enabled level source is active (R52, R56). -/
def State.wakeLevel (s : State) : Bool :=
  (s.flag 0x00002 0 && s.flag 0x100007 0) || (s.flag 0x00002 1 && !s.pow.wakeN)

/-- Every enabled lane has reached the rate that the committed timing needs (R33, R64). -/
def State.ratesReached (s : State) : Bool :=
  decide (s.fld 0x50000 9 0 ≤ 120) || (List.range 16).all (fun n => !s.laneEn n || (vget s.fly n).full)

/-- Status that refuses a transition from the mode in force (Table 1.2, R30, R33, R35, R56); none where it may start. -/
def State.modeRefusal (s : State) (t : Mode) : Option Nat :=
  match t with
  | .sleep => if s.flag 0x00002 3 && s.wakeLevel then some stWakeActive else none
  | .beam =>
    if decide (s.mode.cur = .ready) && s.clk.tbXtal && s.mask.ceilOk && s.ratesReached then none else some stModeDenied
  | .service => if s.mode.cur = .ready then none else some stModeDenied
  | .ready =>
    if s.mode.cur = .beam ∨ s.mode.cur = .service then none
    else if s.mode.cur.isSafe && s.flt.active.isEmpty && !s.ensHeld && !s.inputDemand then none
    else some stModeDenied
  | .safeBeam => none
  | .safeDark => none
  | _ => some stModeDenied

/-- The mode a MODE_SET TARGET names (Table 2.9): the SYS.MODE.CUR encoding, 7 for SLEEP. TARGET 1 names none: it is always refused
(R30). -/
def targetMode (v : Nat) : Option Mode :=
  match v with
  | 2 => some .ready | 3 => some .beam | 4 => some .service | 5 => some .safeBeam | 6 => some .safeDark | 7 => some .sleep | _ => none

/-! ### Starting -/

/-- SLEEP entry, step 1: the engine is blanked by a frame start with DARK on every lane that runs, and in-flight transfers have 500 µs to
drain (Table 1.10, R77). -/
def State.sleepStart (s : State) : State :=
  let s := s.cutScan
  iter (fun n s => if s.ens.ovr || decide ((vget s.fly n).st = .furled) then s else s.extraFstart n .dark) 16
    { s with mode := { s.mode with sleep := .draining, sleepAt := s.clk.dtime } }

/-- A release is accepted: Guidon drops KASEL and GOFF and asks the Ensign, after the switch test where SAFE-DARK is left (R36, R427,
R438). -/
def State.releaseStart (s : State) : State :=
  let dark := decide (s.mode.cur = .safeDark)
  let s : State := { s with gdn := { s.gdn with kasel := false, goff := false } }
  (s.event 0x245).askEns (if dark then 4 else 3) 0

/-- A permitted transition starts. -/
def State.startTrans (t : Mode) (owner : ModeReq) (merged : List ModeReq) (s : State) : State :=
  let tr : Trans := { target := t, since := s.clk.dtime, owner := some owner, merged := merged }
  let s : State := { s with mode := { s.mode with trans := some tr, tested := false } }
  match t with
  | .beam => (s.rampUp).askEns 4 0
  | .ready => if s.mode.cur.isSafe then s.releaseStart else s.stopScan
  | .sleep => s.sleepStart
  | _ => s

/-- A request without a transition in progress: refused, or started (R29). -/
def State.modeBegin (t : Mode) (owner : ModeReq) (merged : List ModeReq) (s : State) : State :=
  match s.modeRefusal t with
  | some st =>
    let s := s.modeAnswers st [owner] merged
    (if st = stWakeActive then s.event 0x00D else s.event 0x00C).queueTarget
  | none => s.startTrans t owner merged

/-- A request during a transition: queued, merged with the queued request, or replacing it (R42, R43, R45). -/
def State.modeQueue (t : Mode) (owner : ModeReq) (s : State) : State :=
  let put (s : State) : State :=
    ({ s with mode := { s.mode with queue := some { target := t, owner := owner, merged := [] } } } : State).queueTarget
  match s.mode.queue with
  | none => put s
  | some q =>
    if q.target = t then { s with mode := { s.mode with queue := some { q with merged := q.merged ++ [owner] } } }
    else put ((s.modeAnswers stSuperseded [q.owner] q.merged).event 0x00E)

/-- A mode request other than for a safe state (R41 to R45). -/
def State.modeGo (t : Mode) (owner : ModeReq) (s : State) : State :=
  match s.mode.trans with
  | some tr =>
    if tr.target = t then { s with mode := { s.mode with trans := some { tr with merged := tr.merged ++ [owner] } } }
    else s.modeQueue t owner
  | none =>
    if s.busy then s.modeQueue t owner
    else if s.mode.cur = t then s.modeAnswer stOk 2 t.code owner
    else s.modeBegin t owner []

/-- MODE_SET with a valid TARGET: a safe state is entered by preemption, with cause 9 (Table 10.5a). -/
def State.modeSet (t : Mode) (owner : ModeReq) (s : State) : State :=
  if t.isSafe then s.enterSafe (decide (t = .safeDark)) { src := 9, cls := 0, code := 0, logic := true } (some owner)
  else s.modeGo t owner

/-! ### Completing -/

/-- What leaving SERVICE does: the late count starts again, a life record is due, and an open housing counts (R231, R372, R449). -/
def State.leaveService (s : State) : State :=
  let s : State := { s with ens := { s.ens with svcMode := false }, mask := { s.mask with late := 0 } }
  let s := s.lifeDue
  if s.ens.hsgOpen then s.enterSafe true { src := 5, cls := 0, code := 0, logic := false } none else s

/-- What entering READY does the first time after a wake (R454, R463, R375): bring-up is over, the Ensign counts as running. -/
def State.firstReady (s : State) : State :=
  if s.mode.readySeen then s
  else
    let s : State := { s with
      mode := { s.mode with readySeen := true, step := 11 }
      ens := if s.ens.running then s.ens else { s.ens with running := true, pulseA := s.clk.now, pulseB := s.clk.now } }
    s.eolReady

/-- The mode in force becomes `t`, with what each mode changes at its entry. -/
def State.enterMode (t : Mode) (s : State) : State :=
  let was := s.mode.cur
  let s := (if was = .limp then s.limpOff else s).beamSync
  let s : State := { s with mode := { s.mode with cur := t } }
  let s : State := if t = .beam then { s with eng := { s.eng with beamFrom := some s.clk.dtime }, gdn := { s.gdn with winAt := s.clk.dtime, winEnergy := 0, winTime := 0 } } else s
  let s := if t = .limp then s else s.abortFor t stPreempted
  let s := match t with
    | .ready => ((s.firstReady).calReady).idleTarget
    | .service => { s with ens := { s.ens with svcMode := true }, mask := { s.mask with late := 0 } }
    | .limp => s.idleTarget
    | _ => s
  let s := s.event 0x000
  if was = .service ∧ t ≠ .service then s.leaveService else s

/-- The queued request leaves the queue (R46). -/
def State.modeDequeue (s : State) : State :=
  match s.mode.queue with
  | some q =>
    if s.mode.trans.isNone then
      let s : State := { s with mode := { s.mode with queue := none } }
      if s.mode.cur = q.target then
        q.merged.foldl (State.modeAnswer stOk 1 q.target.code) (s.modeAnswer stOk 2 q.target.code q.owner)
      else s.modeBegin q.target q.owner q.merged
    else s
  | none => s

/-- The transition in progress completes: replies, then the queued request (R44, R46). -/
def State.transDone (s : State) : State :=
  match s.mode.trans with
  | none => s
  | some tr =>
    let s : State := { s with mode := { s.mode with trans := none } }
    let s := s.enterMode tr.target
    (s.modeAnswers stOk tr.owner.toList tr.merged).modeDequeue

/-- The transition in progress has nothing left to wait for. BEAM is entered at its first flip (R175). -/
def State.transReady (s : State) (tr : Trans) : Bool :=
  match tr.target with
  | .ready => if s.mode.cur.isSafe then !s.ens.ovr else !s.scan.run && s.scan.settleAt.isNone && s.scan.retrain.isNone
  | .beam => s.scan.frontValid
  | .sleep => false
  | _ => true

/-- MODE_TRANSITION_DONE. -/
def State.modeDone (s : State) : State :=
  match s.mode.trans with
  | some tr => if s.transReady tr then s.transDone else s
  | none => s

/-- The transition in progress fails: its requests are answered with one status (R32, R36), then the queue goes on. -/
def State.transFail (st : Nat) (s : State) : State :=
  match s.mode.trans with
  | none => s
  | some tr =>
    let s : State := { s with mode := { s.mode with trans := none } }
    (s.modeAnswers st tr.owner.toList tr.merged).modeDequeue

/-! ### Commands that a power-down ends (R80, R122) -/

/-- Reply data of a command ended without its result (R90). -/
def State.endData (s : State) (op : Byte) : List Byte :=
  if op = 0x20 then le 1 0 ++ le 1 s.mode.cur.code ++ le 2 0 ++ le 8 s.clk.dtime
  else if op = 0x18 then commitData 0 0 0xFFFF 0
  else []

/-- What the placement of such a reply fills in (R90). -/
def endFill (op : Byte) : Fill := if op = 0x20 then .modeTime else .none

/-- A tag whose command has completed, its reply held back (R95). -/
def PortState.replyHeld (ps : PortState) (tag : Byte) : Bool := ps.held.any (fun r => r.frees && r.tag == tag)

/-- TRANSFER_ABORTED for every command of a port that has not completed, except those named. -/
def State.abortPort (skip : List ReqId) (p : Port) (s : State) : State :=
  let ps := s.port p
  ps.tags.foldl (fun s t =>
    if skip.contains { port := p, tag := t.tag } || ps.replyHeld t.tag then s
    else s.answerFill { port := p, tag := t.tag } stTransferAborted (endFill t.op) (s.endData t.op)) s

/-- What ran for those commands stops: nothing of it answers again. -/
def State.forget (s : State) : State :=
  let check (u : Surface) : Surface := { u with st := if u.st = .checking then .complete else u.st, req := none }
  let s := ((((s.dropRead).dropKa).dropCensus).dropJobs Job.isHost).dropLaneTest
  { s with
    mask := { s.mask with ceilRun := none }
    gdn := { s.gdn with test := none }
    ens := { s.ens.keepTests (fun u => u.id.isNone) s.clk.now s.testIns with
      ovr := if s.ens.injectAt.isSome then s.ens.safe.isSome else s.ens.ovr, injectAt := none }
    thm := { s.thm with measure := none }
    cal := { s.cal with run := match s.cal.run with | some r => (if r.row.isSome then some { r with ended := true } else none) | none => none }
    store := { s.store with surfs := s.store.surfs.map check, checkQ := [] }
    regs := { s.regs with commits := [], deferred := [] }
    dl := { s.dl with regJob := none }
    ports := s.ports.map (fun x => { x with waiting := [] })
    mode := { s.mode with queue := none } }

/-- Every outstanding command but those named is answered TRANSFER_ABORTED and forgotten. -/
def State.abortAll (skip : List ReqId) (s : State) : State :=
  (((s.abortPort skip .cspi).abortPort skip .wspi).abortPort skip .hcmd).forget

/-! ### SLEEP entry (Table 1.10) -/

/-- The life record and the log copy follow one another, then the switch test is asked for (steps 3 to 5). -/
def State.sleepCheck (s : State) : State :=
  let life (s : State) : State :=
    if decide (s.mode.sleep = .life) && !s.eng.jobs.any Job.isLife then
      (({ s with mode := { s.mode with sleep := .log } } : State)).logDue
    else s
  let log (s : State) : State :=
    if decide (s.mode.sleep = .log) && !s.eng.jobs.any Job.isLog then
      (({ s with mode := { s.mode with sleep := .switchTest } } : State)).askEns 4 0
    else s
  log (life s)

/-- Step 3 begins once transfers have drained or been aborted. -/
def State.sleepLife (s : State) : State :=
  (({ s with mode := { s.mode with sleep := .life } } : State)).lifeDue.sleepCheck

/-- Levels that the held pads drive at this instant, kept by the hold cells (R71, Table 16.6): the general-purpose pads as their
registers drive or pull them. The spec does not say what the boot-flash pads drive when they are latched: they keep the idle states of Table 16.6
(assumption 125). -/
def State.latchPads (s : State) : State :=
  if s.pow.padHeld then s
  else
    let g (i : Nat) : Nat :=
      let cfg := s.act (0x10 + i)
      if bit cfg 0 then b2n (bit cfg 1) else if bits cfg 3 2 = 1 then 3 else if bits cfg 3 2 = 2 then 4 else 2
    { s with pow := { s.pow with padHeld := true, padVal := iter (fun i v => vset v i (g i)) 8 s.pow.padVal } }

/-- Steps 5 to 7: every lane furls (R324), both switches open, the pads latched, every other command outstanding answered (R80). -/
def State.sleepReply (s : State) : State :=
  let s := iter (fun n s => if (vget s.fly n).st = .furled then s else s.furlNow n) 16 s
  let s : State := { s with ens := s.ens.opened }
  let s := s.latchPads
  match s.mode.trans with
  | none => s
  | some tr =>
    let s := s.abortAll ((tr.owner.toList ++ tr.merged).map (·.id))
    { s with mode := { s.mode with sleep := .replying } }

/-- The reply of one request for SLEEP (Table 1.10 step 7). -/
def State.sleepPut (out : Nat) (r : ModeReq) (s : State) : State :=
  s.reply r.id.port
    { tag := r.id.tag, status := 0, data := le 1 out ++ le 1 7 ++ le 2 0 ++ le 8 s.clk.dtime, fill := .none, last := true, frees := true }

/-- The replies of the requests for SLEEP, merged ones first, each once its port has room (R95). -/
def State.sleepPlace : Nat → State → State
  | 0, s => s
  | n + 1, s =>
    match s.mode.trans with
    | none => s
    | some tr =>
      match tr.merged, tr.owner with
      | r :: t, _ =>
        if (s.port r.id.port).rbFull r.id.port then s
        else State.sleepPlace n (State.sleepPut 1 r { s with mode := { s.mode with trans := some { tr with merged := t } } })
      | [], some r =>
        if (s.port r.id.port).rbFull r.id.port then s
        else State.sleepPlace n (State.sleepPut 0 r { s with mode := { s.mode with trans := some { tr with owner := none } } })
      | [], none => s

/-- The requests of the transition in progress that have no reply yet. -/
def ModeState.asking (m : ModeState) : List ModeReq :=
  match m.trans with | some t => t.owner.toList ++ t.merged | none => []

/-- The SLEEP reply is the last one placed (R80): it follows every reply that RBFULL has held back. Once it has been placed its 2 ms begin, and
the HV die is told to take over (R81, Table 1.10 step 7). -/
def State.sleepPlaced (s : State) : State :=
  if decide (s.mode.sleep = .replying) && s.ports.all (fun x => x.held.isEmpty && x.carry.isEmpty) then
    let s := State.sleepPlace s.mode.asking.length s
    if s.mode.asking.isEmpty then (({ s with mode := { s.mode with sleep := .replied, sleepAt := s.clk.dtime } } : State)).askEns 5 0 else s
  else s

end Sys2Proof.Machine
end

