-- ==== Sys2Proof/Machine/Bunting.lean ====
section
/-! DEFINITION. Composition (chapter 4): the latch at a composition start, the hand-out of tiles, a tile's pixels, the deadline and hung
workers. -/

namespace Sys2Proof.Machine

/-! ### The latch (R168, R185, R202, R282) -/

/-- Projection layers are left out of a composition that starts now (R202). -/
def State.projOut (s : State) : Bool := s.flag 0x30000 0 || s.tok.nf || s.scan.blank

/-- A layer covers at least one pixel of segment n (R182, R194, R282). -/
def coversSegment (w : Nat → Nat) (l : LayerCfg) (n : Nat) : Bool :=
  let x0 := 256 * (n % 8)
  let y0 := 256 * (n / 8)
  if l.warp then (List.range 256).any (fun y => (List.range 256).any (fun x => covers w l (x0 + x) (y0 + y)))
  else decide (0 < l.dstw ∧ 0 < l.dsth ∧ l.dstx < x0 + 256 ∧ x0 < l.dstx + l.dstw ∧ l.dsty < y0 + 256 ∧ y0 < l.dsty + l.dsth)

/-- REPEATS of a layer at a composition start (R185); `first` marks the first composition after scan-out started or re-anchored. A layer
that is disabled gets 0, where R185 rules on enabled ones alone (DESIGN CHOICE, assumption 115). -/
def State.latchRepeats (first : Bool) (n : Nat) (s : State) : State :=
  let l := viewLayer s.act n
  let seq := BitVec.ofNat 16 (s.act (layerAddr n + 11))
  { s with bun := { s.bun with layers := vmod s.bun.layers n (fun a =>
      if l.en && l.live then
        match (if first then none else a.lastSeq) with
        | some old => { a with lastSeq := some seq, repeats := if later 16 seq.toNat old.toNat then 0 else min (a.repeats + 1) 0xFFFF }
        | none => { a with lastSeq := some seq, repeats := 0 }
      else { a with lastSeq := none, repeats := 0 }) } }

/-- EXCL of a layer at a composition start, with BUN_PROJ_EXCL as it sets (R202). A disabled layer has no part in the
composition and is not marked as left out of it, whatever its PROJ (assumption 133). -/
def State.latchExcl (out : Bool) (n : Nat) (s : State) : State :=
  let l := viewLayer s.act n
  let v := out && l.en && l.proj
  let was := (vget s.bun.layers n).excl
  let s : State := { s with bun := { s.bun with layers := vmod s.bun.layers n (fun a => { a with excl := v }) } }
  if v && !was then s.raise0 0x0C2 n 0 else s

/-- What the composition's picture is watched for (R282, R283). -/
def State.frameInfo (s : State) : FrameInfo :=
  let live := (List.range 64).filter (fun n =>
    let l := viewLayer s.act n
    l.en && l.live && !(vget s.bun.layers n).excl)
  let seg (p : Nat → Bool) (g : Nat) : Bool := live.any (fun n => p n && coversSegment s.act (viewLayer s.act n) g)
  { watch := BitVec.ofNat 16 (bitsOf (seg (fun _ => true)) 16)
    adv := BitVec.ofNat 16 (bitsOf (seg (fun n => decide ((vget s.bun.layers n).repeats = 0))) 16)
    scw := Vector.replicate 16 0, sam := Vector.replicate 16 0 }

/-! ### Hand-out of tiles (R177) -/

/-- The next tile: one taken from a hung worker, else the next in ascending order. -/
def Comp.take (c : Comp) : Option (Nat × Comp) :=
  match c.reissue with
  | t :: r => some (t, { c with reissue := r })
  | [] => if c.next < 256 then some (c.next, { c with next := c.next + 1 }) else none

/-- Every idle worker that is not excluded takes a tile, in ascending order. -/
def Comp.dispatch (excl : BitVec 32) (now : Nat) (c : Comp) : Comp :=
  iter (fun w c =>
    if (vget c.workers w).isNone && !excl.getLsbD w then
      match c.take with
      | some (t, c) => { c with workers := vset c.workers w (some (t, now)) }
      | none => c
    else c) 32 c

/-- A composition starts now, its deadline 20 µs before the flip instant `flip` (R168, R169). -/
def State.startComp (flip : Nat) (first : Bool) (s : State) : State :=
  let s := iter (State.latchRepeats first) 64 s
  let s := iter (State.latchExcl s.projOut) 64 s
  let c : Comp :=
    { start := s.clk.dtime, deadline := flip - 20000
      regs := s.regs.act.filter (fun p => decide (0x30000 ≤ p.1 ∧ p.1 < 0x32000))
      steps := s.bun.layers.map (fun a => (a.stepH, a.stepV)), surfs := s.store.surfs
      excl := (List.range 64).filter (fun n => (vget s.bun.layers n).excl)
      zones := if s.mask.rendComp.isSome then none else some s.mask.compTbl
      vofs := signed 4 (s.fld 0x40003 3 0), mono := decide (burg s.eng.burgee0 7 1 = 1), back := !s.scan.front, next := 0, reissue := []
      workers := Vector.replicate 32 none, tiles := 0, lastWrite := 0, dead := false, info := s.frameInfo }
  { s with
    bun := { s.bun with comp := some (c.dispatch s.bun.excluded s.clk.dtime), done := none }
    scan := { s.scan with started := s.scan.started + 1 } }

/-! ### A tile's pixels (R177 to R201) -/

/-- A word of the latched registers. -/
def Comp.w (c : Comp) (a : Nat) : Nat := (wordGet c.regs a).toNat

/-- The latched layers that are composed, lowest index first, with their surfaces. -/
def Comp.layers (c : Comp) : List (LayerCfg × Surface) :=
  (List.range 64).filterMap (fun n =>
    let l := layerCfg c.w n (vget c.steps n)
    if l.en && !c.excl.contains n then some (l, vget c.surfs l.surf) else none)

/-- The code pair of an output pixel: the layers over black, then the dark-dominant stages. -/
def Comp.pixel (c : Comp) (m : List Host.Cell) (ls : List (LayerCfg × Surface)) (zs : List Zone) (x y : Nat) : Nat × Nat :=
  darkStages m zs c.vofs c.mono x y (ls.foldl (fun acc l => layerOver m c.w l.2 l.1 x y acc) (0, 0))

/-- Row `y` of tile t (Table 3.6, CA16); without layers every code is 0, whatever the later stages hold. -/
def Comp.row (c : Comp) (m : List Host.Cell) (ls : List (LayerCfg × Surface)) (zs : List Zone) (t y : Nat) : List (Nat × Nat) :=
  if ls.isEmpty then List.replicate 64 (0, 0)
  else (List.range 64).map (fun x => c.pixel m ls zs (64 * (t % 32) + x) (64 * (t / 32) + y))

/-- Source pixels that the scaled layer reads at destination (i, j). -/
def scaledReads (l : LayerCfg) (i j : Nat) : List (Nat × Nat) :=
  let px := srcPos i l.stepH
  let py := srcPos j l.stepV
  let taps (f : Nat) (p : Int) (hi : Nat) : List Nat := (filterTaps f (phaseOf p)).map (fun t => limitTo hi (tapOf p + t.1))
  (taps l.vfilt py (l.srch - 1)).flatMap (fun row => (taps l.hfilt px (l.wp - 1)).flatMap (fun col =>
    (List.range (2 ^ l.hdec)).map (fun k => (l.srcx + min (2 ^ l.hdec * col + k) (l.srcw - 1), l.srcy + row))))

/-- Source pixels that a layer reads for output pixel (x, y). -/
def layerReads (w : Nat → Nat) (l : LayerCfg) (x y : Nat) : List (Nat × Nat) :=
  if !covers w l x y then []
  else if l.warp then
    let p := meshPos w l x y
    let two (q : Int) (hi : Nat) : List Nat := (filterTaps 1 (phaseOf q)).map (fun t => limitTo hi (tapOf q + t.1))
    (two p.2 (l.dsth - 1)).flatMap (fun j => (two p.1 (l.dstw - 1)).flatMap (fun i => scaledReads l i j))
  else scaledReads l (x - l.dstx) (y - l.dsty)

/-- The ATC tiles of a layer's surface that output tile t needs and that do not decode (R159). -/
def Comp.badTiles (c : Comp) (m : List Host.Cell) (t : Nat) (l : LayerCfg × Surface) : List Nat :=
  if fmtAtc l.2.format then
    let needs := (List.range 4096).flatMap (fun k =>
      (layerReads c.w l.1 (64 * (t % 32) + k % 64) (64 * (t / 32) + k / 64)).map (fun p => atcIndex l.2 p.1 p.2))
    needs.eraseDups.filter (fun i => (atcTileAt m l.2 i).isNone)
  else []

/-- Worker w writes tile t to the back buffer, from the store as it was given it (R135), add it to its segment's sums, and report source tiles that do not decode (R159, R178, R245). -/
def State.writeTile (c : Comp) (zs : List Zone) (w t : Nat) (s : State) : Comp × State :=
  let m := s.memSeen (8 + w)
  let ls := c.layers
  let g := t / 128 * 8 + t % 32 / 4
  let bad := ls.flatMap (c.badTiles m t)
  let res := iter (fun y (r : (Nat × Nat) × State) =>
    let px := c.row m ls zs t y
    let s := r.2.storePut (bufBase c.back + (64 * (t / 32) + y) * 8192 + 64 * (t % 32) * 4) (px.flatMap (fun p => le 2 p.1 ++ le 2 p.2))
    ((r.1.1 + (px.map (·.1)).sum, r.1.2 + (px.map (·.2)).sum), s)) 64 ((0, 0), s)
  let sums := res.1
  let s := res.2.readOver (8 + w) 0 0x2000000
  let s := bad.foldl (fun s _ => s.event 0x088) s
  let info := { c.info with scw := vmod c.info.scw g (· + sums.1), sam := vmod c.info.sam g (· + sums.2) }
  ({ c with info := info, tiles := c.tiles + 1, lastWrite := s.clk.dtime }, s)

/-! ### Deadline, completion and hung workers -/

/-- The deadline passes with tiles remaining (R171): the composition misses. -/
def State.compMiss (c : Comp) (s : State) : State :=
  (({ s with bun := { s.bun with comp := some { c with dead := true } } } : State)).slackMissed

/-- COMPOSITION_DEADLINE. -/
def State.compDeadline (s : State) : State :=
  match s.bun.comp with
  | some c => if !c.dead && s.bun.done.isNone && decide (c.deadline ≤ s.clk.dtime) then s.compMiss c else s
  | none => s

/-- All 256 tiles are written by the deadline (R170, R207, R208). -/
def State.compDone (c : Comp) (s : State) : State :=
  let v := 1000 * (c.deadline - c.lastWrite) / (c.deadline - c.start)
  let s : State := { s with bun := { s.bun with comp := some c, done := some c.info, compTime := c.lastWrite - c.start } }
  let s := s.enterSlack v
  if v < bits (c.w 0x30000) 17 8 then s.event 0x0C0 else s

/-- TILE_DONE: the worker's tile is written and it takes the next one. No tile is finished before the composition table is complete
(R681); a tile finished after the deadline makes the composition miss (R171). -/
def State.tileDone (w : Nat) (s : State) : State :=
  match s.bun.comp with
  | none => s
  | some c =>
    match vget c.workers w, c.zones with
    | some (t, _), some zs =>
      if c.dead then s
      else if c.deadline < s.clk.dtime then s.compMiss c
      else
        let res := s.writeTile { c with workers := vset c.workers w none } zs w t
        let c := res.1
        let s := res.2
        let s : State := { s with bun := { s.bun with hungTiles := s.bun.hungTiles.filter (· != t) } }
        let s := if s.bun.hungTiles.isEmpty then s.resolveAll 0x0C1 else s
        if c.tiles = 256 then s.compDone c
        else { s with bun := { s.bun with comp := some (c.dispatch s.bun.excluded s.clk.dtime) } }
    | _, _ => s

/-- WORKER_HUNG: a worker that has held a tile for more than 1.0 ms is excluded and its tile handed on (R180). -/
def State.workerHung (w : Nat) (s : State) : State :=
  match s.bun.comp with
  | none => s
  | some c =>
    match vget c.workers w with
    | some (t, t0) =>
      if s.clk.dtime ≤ t0 + 1000000 then s
      else
        let s := s.readOver (8 + w) 0 0x2000000
        let s : State := { s with bun := { s.bun with
          excluded := s.bun.excluded ||| BitVec.ofNat 32 (2 ^ w),
          hungTiles := if s.bun.hungTiles.contains t then s.bun.hungTiles else s.bun.hungTiles ++ [t] } }
        let c := { c with workers := vset c.workers w none, reissue := c.reissue ++ [t] }
        let s : State := { s with bun := { s.bun with comp := some (c.dispatch s.bun.excluded s.clk.dtime) } }
        (s.raise0 0x0C1 0 0).event 0x0C3
    | none => s

/-- The composition table is complete (R681): the next composition's, or the one that the composition in progress waits for. -/
def State.compTableDone (s : State) : State :=
  match s.mask.rendComp with
  | none => s
  | some z =>
    let s : State := { s with mask := { s.mask with compTbl := z, rendComp := none } }
    match s.bun.comp with
    | some c => if c.zones.isNone then { s with bun := { s.bun with comp := some { c with zones := some z } } } else s
    | none => s

/-- TABLE_RENDER_DONE. -/
def State.tableDone (which : RenderTable) (s : State) : State :=
  match which with
  | .pass => s.passTableDone
  | .composition => s.compTableDone
  | .coarse => s.coarseDone

end Sys2Proof.Machine
end

