-- ==== Sys2Proof/Machine/Hoist.lean ====
section
/-! DEFINITION. Hoist (chapter 9): FEC groups, credits, the checks of a received message, data-layer restarts, surface writes, time
exchanges and training. -/

namespace Sys2Proof.Machine

/-! ### Tap requests (R331, Table 7.9), shared with Fly -/

/-- Transmit taps PRE, MAIN, POST. -/
abbrev Taps := Nat × Nat × Nat

def tapsIn (t : Taps) : Bool := decide (t.1 ≤ 15 ∧ t.2.2 ≤ 24 ∧ 24 ≤ t.2.1)

/-- One request on tap k (0 PRE, 1 MAIN, 2 POST): the taps that follow, before the limits are tested. Whole numbers, so that a tap below
0 is seen. -/
def tapMove (k r : Nat) (t : Taps) : Int × Int × Int :=
  let d : Int := if r = 1 then 1 else if r = 2 then -1 else 0
  let (p, m, q) : Int × Int × Int := (t.1, t.2.1, t.2.2)
  match k with
  | 0 => (p + d, m - d, q)
  | 1 => if r = 1 ∧ t.2.2 = 0 then (p - d, m + d, q) else (p, m + d, q - d)
  | _ => (p, m - d, q + d)

/-- One request with its limits: the taps and the 2-bit status (0 NOT_UPDATED, 1 UPDATED, 2 AT_LIMIT). HOLD and the reserved code ask
for nothing. -/
def tapStep (k r : Nat) (t : Taps) : Taps × Nat :=
  if r = 0 ∨ r = 3 then (t, 0)
  else
    let v := tapMove k r t
    if v.1 < 0 ∨ v.2.1 < 0 ∨ v.2.2 < 0 then (t, 2)
    else
      let t' : Taps := (v.1.toNat, v.2.1.toNat, v.2.2.toNat)
      if tapsIn t' then (t', 1) else (t, 2)

/-- A REQ byte: PRE, MAIN, POST in that order, each on the result of the last; EQFIX answers NOT_UPDATED (R331). -/
def tapRequest (eqfix : Bool) (req : Nat) (t : Taps) : Taps × Nat :=
  if eqfix then (t, 0)
  else
    let (t, a) := tapStep 0 (bits req 1 0) t
    let (t, b) := tapStep 1 (bits req 3 2) t
    let (t, c) := tapStep 2 (bits req 5 4) t
    (t, a + 4 * b + 16 * c)

/-! ### Credits (R398 to R403) -/

def State.setCred (c : Nat) (f : Cred → Cred) (s : State) : State := { s with hoist := { s.hoist with cred := vmod s.hoist.cred c f } }

/-- A message's credits move from OCC to FREE. -/
def State.freeCred (c k : Nat) (s : State) : State :=
  let s := s.setCred c (fun x => { x with occ := x.occ - k, free := x.free + k })
  { s with hoist := { s.hoist with
      vidFreed := if c = 0 then s.hoist.vidFreed + k else s.hoist.vidFreed, changedAt := s.hoist.changedAt.or (some s.clk.dtime) } }

/-- FREE becomes advertised. -/
def Cred.advertise (x : Cred) : Cred := { x with adv := x.adv + BitVec.ofNat 16 x.free, free := 0 }

/-- 256 XSTAT messages are retained (R403). -/
def State.xstatFull (s : State) : Bool := decide (256 ≤ (s.hoist.retained.filter (fun m => m.cls == 0x81)).length)

def State.advBytes (s : State) : List Byte := s.hoist.cred.toList.flatMap (fun c => le 2 c.adv.toNat)

/-- CREDIT is sent (R398, R402, R403). -/
def State.sendCredit (s : State) : State :=
  let s := iter (fun c s => if c = 0 ∧ s.xstatFull then s else s.setCred c Cred.advertise) 4 s
  let s : State := { s with hoist := { s.hoist with changedAt := none, vidFreed := 0, creditAt := s.clk.dtime } }
  s.htx 0x80 [] s.advBytes

/-- CREDIT_TIMER: one of the three occasions of R402. -/
def State.creditTimer (s : State) : State :=
  let due := decide (s.fld 0x80000 9 4 ≤ s.hoist.vidFreed) ||
    (match s.hoist.changedAt with | some t0 => decide (t0 + 10000 ≤ s.clk.dtime) | none => false) ||
    decide (s.hoist.creditAt + 100000 ≤ s.clk.dtime)
  if s.hoistUp && due then s.sendCredit else s

/-- The balance of class c (R399). -/
def State.credBalanced (s : State) (c : Nat) : Bool :=
  let x := vget s.hoist.cred c
  decide ((x.adv - x.cons).toNat + x.occ + x.free = hoistCap c)

/-- The audit of R3, R5 and R399, per class: whatever the link does, from the start of the first epoch at bring-up step 6 on (R398). -/
def State.creditAudit (s : State) : State :=
  if s.pow.logicOn && decide (6 ≤ s.mode.step) then iter (fun c s => if s.credBalanced c then s else s.raise0 0x205 c 0) 4 s else s

/-! ### Restarts (R396) -/

/-- The counters at the start of an epoch (R398). -/
def Cred.newEpoch (cap : Nat) (x : Cred) : Cred := { adv := BitVec.ofNat 16 (cap - x.occ), cons := 0, occ := x.occ, free := 0 }

/-- The retained messages of a class, in CSEQ order. -/
def State.retainedOf (s : State) (cls : Byte) : List HtxMsg := s.hoist.retained.filter (fun m => m.cls == cls)

/-- A data-layer restart: a new epoch; what waits on HTX gives way to RESTART and every retained message, in the order of R411. A message
under way ends in its own epoch (R394, R396). -/
def State.restart (s : State) : State :=
  let s : State := { s with hoist := { s.hoist with
    epoch := s.hoist.epoch + 1, restarts := satAdd s.hoist.restarts 1, waitEpoch := true, vidFreed := 0, changedAt := none,
    creditAt := s.clk.dtime, htxWait := [], sent := [] } }
  let s := iter (fun c s => s.setCred c (Cred.newEpoch (hoistCap c))) 4 s
  let again := s.retainedOf 0x81 ++ s.retainedOf 0x83 ++ s.retainedOf 0x82
  let s := s.htx 0x84 [] (s.hoist.inNext.toList.flatMap (fun n => le 2 n.toNat) ++ s.advBytes ++ le 2 0)
  let s : State := if s.hoistUp then
      { s with hoist := { again.foldl (fun h m => h.hand s.clk.dtime m) s.hoist with sent := s.hoist.sent ++ again } }
    else s
  let s := iter (fun c s => if s.credBalanced c then s.resolve 0x205 c else s) 4 s
  s.event 0x203

/-! ### Starts of the link (R388, R391) -/

/-- The HTX taps of HOIST.TXEQ. -/
def State.presetTaps (s : State) (l : HLane) : HLane :=
  let w := s.act 0x80001
  { l with pre := bits w 5 0, main := bits w 13 8, post := bits w 21 16 }

/-- HTX starts at a rate: slot 0 carries a MARKER with MSEQ 0 (R382, R383). -/
def Hoist.start (now : Nat) (full : Bool) (h : Hoist) : Hoist :=
  { h with htxAt := 1000 * now, htxFull := full, htxFree := 0, htxWait := [], htxOut := [], body := (0, false) }

/-- Blind start of both ends at LIMP (R388, R391): the link is down until the host's record arrives. -/
def State.hoistBlind (attempt : Nat) (s : State) : State :=
  { s with hoist := Hoist.start s.clk.dtime false { s.hoist with
      st := .down, phase := 0, attempt := attempt, gaveUp := false, htxPrec := false, hrxPrec := 0, acks := 0, acked := false
      countAt := none, retryDue := none, txInv := s.flag 0x110001 16
      lanes := vset (Vector.replicate 5 HLane.reset) 4 (s.presetTaps HLane.reset) } }

/-! ### FEC groups, block lock and alignment (R381, R383, R385 to R387) -/

/-- HRX runs at FULL: bonded, or in a training attempt after the switch. -/
def State.hrxFull (s : State) : Bool := decide (s.hoist.st = .bonded ∨ (s.hoist.st = .training ∧ 2 ≤ s.hoist.phase))

/-- One received header: its validity enters the record, and lock follows (R305, R306, R381). -/
def HLane.header (l : HLane) (h : Byte) : HLane :=
  let heads := ((headerClass hoistTypes h.toNat).isSome :: l.heads).take 32
  { l with heads := heads, lock := blockLock l.lock heads }

/-- What was heard as the receiver takes it where it inverts its input (R633). -/
def heardFlip (g : GroupHeard) : GroupHeard :=
  { headers := flipBytes g.headers, lens := g.lens.map (~~~ ·), laneId := ~~~g.laneId, mseq := ~~~g.mseq }

/-- The first header of a group. -/
def heardFirst (g : GroupHeard) : Nat := (g.headers.headD 0).toNat

/-- The polarity that HRX[n] finds: inverted at a MARKER whose header reads 0xB4 and whose LANEID is complemented, upright at one that reads
as it is sent, as before otherwise. HRX[0] keeps at FULL what it found at LIMP (R633). -/
def hrxPolarity (n : Nat) (keep was : Bool) (g : GroupHeard) : Bool :=
  if keep then was
  else if (heardFirst g) = 0xB4 ∧ g.laneId = ~~~(BitVec.ofNat 16 (hrxLaneId n)) then true
  else if headerClass hoistTypes (heardFirst g) = some .marker ∧ g.laneId = BitVec.ofNat 16 (hrxLaneId n) then false
  else was

/-- The headers of a group's 30 blocks in order, for block lock (R306). -/
def HLane.group (headers : List Byte) (l : HLane) : HLane := headers.foldl HLane.header { l with groups := l.groups + 1, raw := [] }

/-- The blocks of a group that was corrected: its MARKER, where the first is one, and what is to be classed (R385, R387). -/
def HLane.blocksOf (now : Nat) (g : GroupHeard) (l : HLane) : HLane :=
  let l := { l with raw := g.headers.zip g.lens }
  if headerClass hoistTypes (heardFirst g) = some .marker then { l with mseq := some g.mseq, markAt := now } else l

/-- Each HRX lane's arrival behind the earliest, where markers of equal MSEQ have reached all (R387). -/
def State.align (s : State) : State :=
  let same (n : Nat) : Bool := decide ((vget s.hoist.lanes n).mseq = (vget s.hoist.lanes 0).mseq)
  if (vget s.hoist.lanes 0).mseq.isSome && (List.range 4).all same then
    let first := (List.range 4).foldl (fun t n => min t (vget s.hoist.lanes n).markAt) (vget s.hoist.lanes 0).markAt
    { s with hoist := { s.hoist with lanes := iter (fun n v => vmod v n (fun l => { l with skew := some (l.markAt - first) })) 4 s.hoist.lanes } }
  else s

/-- The lanes were aligned within R387: markers of one MSEQ at most 340 ns apart. -/
def State.skewOk (s : State) : Bool := (List.range 4).all (fun n => (vget s.hoist.lanes n).skew.any (fun d => decide (d ≤ 340)))

/-- The blocks heard in one group are classed in the order of the bonded sequence, once every lane's group has come; at LIMP in the order of
lane 0 (R305, R381, R386). -/
def State.classGroup (s : State) : State :=
  let h := s.hoist
  let k := if s.hrxFull then 4 else 1
  let l0 := vget h.lanes 0
  if (List.range k).all (fun n => !(vget h.lanes n).raw.isEmpty && decide ((vget h.lanes n).groups = l0.groups)) then
    let r := classBlocks h.body ((bondedSlots k (32 * (l0.groups - 1)) 30).map (fun x => ((vget h.lanes x.2).raw.getD (x.1 % 32) (0, 0))))
    { s with hoist := { h with
        body := r.2
        lanes := iter (fun n v => vmod v n (fun l => { l with
          raw := [], blocks := (r.1.zipIdx.filter (fun x => x.2 % k == n)).map (·.1) })) k h.lanes } }
  else s

/-- HOIST_LINKDOWN: a bonded lane loses block lock (R388). -/
def State.hoistDown (n : Nat) (s : State) : State :=
  if s.hoist.st = .bonded then (s.hoistBlind 0).raise0 0x202 n 0 else s

/-- FEC_GROUP: up to 17 byte errors are corrected; more lose the group, of which no block is used, and restart the data layer (R385). Headers
count for block lock as they arrive; a bonded lane that loses it takes the link down (R306, R388). -/
def State.fecGroup (lane errors : Nat) (heard : GroupHeard) (s : State) : State :=
  if !s.pow.logicOn || decide (s.mode.step < 6) || !(s.hrxFull || decide (lane = 0)) then s
  else
    let m : BitVec 4 := BitVec.ofNat 4 (2 ^ lane)
    let inv := hrxPolarity lane (s.hrxFull && decide (lane = 0)) (s.hoist.rxInv.getLsbD lane) heard
    let g := if inv then heardFlip heard else heard
    let was := (vget s.hoist.lanes lane).lock
    let s : State := { s with hoist := { s.hoist with
      rxInv := if inv then s.hoist.rxInv ||| m else s.hoist.rxInv &&& ~~~m
      lanes := vmod s.hoist.lanes lane (HLane.group g.headers) } }
    if was && !(vget s.hoist.lanes lane).lock && decide (s.hoist.st = .bonded) then
      let s := s.hoistDown lane
      if errors ≤ 17 then s else ({ s with hoist := { s.hoist with ue := satAdd s.hoist.ue 1 } } : State).raise0 0x206 lane 0
    else if errors ≤ 17 then
      let s : State := { s with hoist := { s.hoist with
        corr := satAdd s.hoist.corr errors, lanes := vmod s.hoist.lanes lane (HLane.blocksOf s.clk.dtime g) } }
      (if s.hrxFull then s.align else s).classGroup
    else
      let s : State := { s with hoist := { s.hoist with ue := satAdd s.hoist.ue 1, body := (0, false) } }
      (if s.hoistUp then s.restart else s).raise0 0x206 lane 0

/-! ### Receipt (R393, R395, R400) -/

/-- The first 12 bytes of a HEAD (Table 9.6). -/
def headBytes (cls epoch cseq len : Nat) (cf : List Byte) : List Byte :=
  le 1 cls ++ le 1 epoch ++ le 2 len ++ le 2 cseq ++ (cf ++ List.replicate 6 0).take 6

/-- The HCRC and BCRC that a message must carry (R393). -/
def hcrcOf (cls epoch cseq len : Nat) (cf : List Byte) : Word := crc32c (BitVec.ofNat 32 (cls * 65536 + cseq)) (headBytes cls epoch cseq len cf)
def bcrcOf (hcrc : Word) (body : List Byte) : Word := crc32c hcrc body

/-- The five checks of R395 on a message; until one arrives with the new EPOCH after a restart, every other is ignored (R396). Message of class `cls` that costs `cost` credits of its class, 0 for none; the flag says that it is
accepted. RESTARTREQ (class 5) has no sequence, and a message without a body has no BCRC. -/
def State.hoistCheck (h : HoistHead) (cls cost : Nat) (cf body : List Byte) (s : State) : Bool × State :=
  if !s.hoistUp then (false, s)
  else
    let res := s.unitCheck 16 h.cseq.toNat h.hcrc (hcrcOf cls h.epoch.toNat h.cseq.toNat body.length cf)
    let ok := res.1
    let s := res.2
    if !ok && s.hoist.waitEpoch then (false, s)
    else if !ok then (false, (({ s with hoist := { s.hoist with hcrcErr := satAdd s.hoist.hcrcErr 1 } } : State)).restart)
    else if h.epoch ≠ s.hoist.epoch then (false, s)
    else
      let x := vget s.hoist.cred cls
      let overrun := decide (0 < cost) && later 16 (x.cons.toNat + cost) x.adv.toNat
      let s : State := { s with hoist := { s.hoist with waitEpoch := false } }
      if overrun then (false, (s.raise0 0x205 cls 0).restart)
      else
        let take (s : State) : State :=
          if 0 < cost then s.setCred cls (fun x => { x with cons := x.cons + BitVec.ofNat 16 cost, occ := x.occ + cost }) else s
        let give (s : State) : State := if 0 < cost then s.freeCred cls cost else s
        let s := take s
        let next := vget s.hoist.inNext cls
        if cls < 5 ∧ h.cseq ≠ next then
          (if later 16 h.cseq.toNat next.toNat then (false, (give s).restart)
           else (false, (give (({ s with hoist := { s.hoist with dup := satAdd s.hoist.dup 1 } } : State))).event 0x207))
        else
          let res := if body.isEmpty then (true, s) else s.unitCheck 16 h.cseq.toNat h.bcrc (bcrcOf h.hcrc body)
          let ok := res.1
          let s := res.2
          if !ok then (false, (give (({ s with hoist := { s.hoist with bcrcErr := satAdd s.hoist.bcrcErr 1 } } : State))).restart)
          else (true, if cls < 5 then { s with hoist := { s.hoist with inNext := vset s.hoist.inNext cls (next + 1) } } else s)

/-! ### Surface writes (R404 to R406) -/

/-- XSTAT of a transfer. -/
def State.xstat (surf status offset : Nat) (s : State) : State := s.htx 0x81 (le 1 surf ++ le 1 status ++ le 4 offset) []

/-- VID credits of a body (Table 9.7). -/
def vidCost (len : Nat) : Nat := ceilDiv len 512

/-- VID is received. At SLEEP entry and at RESET no new transfer is taken (Table 1.10 step 1, R77). -/
def State.vidMsg (h : HoistHead) (surf : Byte) (offset : Word) (data : List Byte) (s : State) : State :=
  if s.mode.sleep ≠ .none ∨ s.mode.restart.isSome then s
  else
    let res := s.hoistCheck h 0 (vidCost data.length) ([surf, 0] ++ le 4 offset.toNat) data
    let ok := res.1
    let s := res.2
    if ok then { s with hoist := { s.hoist with ingress := s.hoist.ingress ++ [.vid surf offset.toNat data] } } else s

/-- Remove the first entry of the ingress buffer that satisfies `p`. -/
def takeFirst (p : Ingress → Bool) : List Ingress → List Ingress
  | [] => []
  | x :: t => if p x then t else x :: takeFirst p t

def Ingress.isVid : Ingress → Bool | .vid _ _ _ => true | _ => false

/-- The status under which R404 refuses a transfer. -/
def State.vidRefusal (s : State) (surf offset len : Nat) : Option Nat :=
  let u := s.surf surf
  if len < 128 ∨ 4096 < len ∨ len % 128 ≠ 0 ∨ offset % 128 ≠ 0 then some stBadParam
  else if 128 ≤ surf ∨ u.st = .undefined ∨ u.bytes < offset + len then some stBadParam
  else if u.st = .checking ∨ u.st = .leased ∨ u.st = .releasing then some stAlreadyLeased
  else none

/-- VID_STORE_ENTRY: the oldest waiting transfer reaches the store port, once the one before it is written (R144, R404, R405). -/
def State.vidEntry (s : State) : State :=
  if s.hoist.cur.isSome || !s.store.clrDone then s
  else
    match s.hoist.ingress.find? Ingress.isVid with
    | some (.vid surf offset data) =>
      let s : State := { s with hoist := { s.hoist with ingress := takeFirst Ingress.isVid s.hoist.ingress } }
      (match s.vidRefusal surf.toNat offset data.length with
       | some st =>
         let s := s.freeCred 0 (vidCost data.length)
         let s : State := { s with store := { s.store with wrefused := satAdd s.store.wrefused 1 } }
         ((s.raise0 0x082 0 0).raise0 0x204 0 0).xstat surf.toNat st offset
       | none => { s with hoist := { s.hoist with cur := some { surf := surf.toNat, offset := offset, data := data } } })
    | _ => s

/-- VID_WRITE_DONE: the last word of the accepted transfer is written (R141, R401, R406). -/
def State.vidDone (s : State) : State :=
  match s.hoist.cur with
  | none => s
  | some x =>
    let s := s.xferWritten x
    let s : State := { s with hoist := { s.hoist with cur := none } }
    (s.freeCred 0 (vidCost x.data.length)).xstat x.surf stOk x.offset

/-- The transfer in progress is aborted (R78, R79, R140, R406). -/
def State.abortCur (s : State) : State :=
  match s.hoist.cur with
  | none => s
  | some x =>
    let s := s.xferAborted x
    let s : State := { s with hoist := { s.hoist with cur := none } }
    ((s.freeCred 0 (vidCost x.data.length)).event 0x087).xstat x.surf stTransferAborted x.offset

/-- A transfer that has not reached the port is aborted: its surface, if it could have been written, is INCOMPLETE (R78, R79). -/
def State.abortVid (surf : Byte) (offset : Nat) (data : List Byte) (s : State) : State :=
  let s := s.setSurf surf.toNat (fun u => if u.st = .complete ∨ u.st = .incomplete then { u with st := .incomplete, fill := 0 } else u)
  ((s.freeCred 0 (vidCost data.length)).event 0x087).xstat surf.toNat stTransferAborted offset

/-- Transfers of a surface that have not reached the port are aborted, oldest first; all of them without one named. -/
def State.abortWaiting (which : Option Nat) (s : State) : State :=
  let hit (e : Ingress) : Bool := match e with
    | .vid surf _ _ => (match which with | some n => surf.toNat == n | none => true)
    | _ => false
  let l := s.hoist.ingress.filter hit
  let s : State := { s with hoist := { s.hoist with ingress := s.hoist.ingress.filter (fun e => !hit e) } }
  l.foldl (fun s e => match e with
    | .vid surf offset data => s.abortVid surf offset data
    | _ => s) s

/-! ### Other messages -/

/-- Body of a TREPLY (Table 9.7). -/
def State.timeBody (s : State) (t1 : BitVec 64) (token : Word) (t2 t3 : Nat) : List Byte :=
  le 8 t1.toNat ++ le 8 t2 ++ le 8 t3 ++ le 4 token.toNat ++ le 1 (b2n s.clk.tbXtal) ++ le 3 0

/-- T3 of a TREPLY handed over now: the DTIME at which its HEAD leaves HTX (R414). -/
def State.timeLeaves (s : State) : Nat :=
  s.hoist.leaves s.clk.dtime { cls := 0x83, cseq := vget s.hoist.outNext 3, cf := [], body := List.replicate 32 0 }

/-- Send waiting TREPLY messages within TIMEADV, stamped as they leave (R409, R414). -/
def State.sendTimes : Nat → State → State
  | 0, s => s
  | n + 1, s =>
    match s.hoist.timeQ with
    | [] => s
    | (t1, token, t2) :: t =>
      if s.hoistUp && creditLeft s.hoist.timeAdv s.hoist.timeSent then
        State.sendTimes n
          (({ s with hoist := { s.hoist with timeQ := t, timeSent := s.hoist.timeSent + 1 } } : State).htx 0x83 []
            (s.timeBody t1 token t2 s.timeLeaves))
      else s

/-- TIME: stamped on arrival and answered (R414); taken from the buffer at once, since it overtakes VID and CMD (R407). -/
def State.timeMsg (h : HoistHead) (t1 : BitVec 64) (token : Word) (s : State) : State :=
  let t2 := s.clk.dtime
  let res := s.hoistCheck h 3 1 [] (le 8 t1.toNat ++ le 4 token.toNat ++ le 4 0)
  let ok := res.1
  let s := res.2
  if ok then
    let s := s.freeCred 3 1
    (({ s with hoist := { s.hoist with timeQ := s.hoist.timeQ ++ [(t1, token, t2)], timeAt := some s.clk.dtime } } : State)).sendTimes 1
  else s

/-- A body of HCREDIT. -/
def hcreditBody (ack0 ack1 ack2 replyAdv timeAdv : Half) : List Byte :=
  le 2 ack0.toNat ++ le 2 ack1.toNat ++ le 2 ack2.toNat ++ le 2 replyAdv.toNat ++ le 2 timeAdv.toNat ++ le 2 0

/-- HCREDIT: acknowledged messages are dropped, limits move, waiting messages go out in the order of R411 (R408, R409). -/
def State.hcreditMsg (h : HoistHead) (ack0 ack1 ack2 replyAdv timeAdv : Half) (s : State) : State :=
  let res := s.hoistCheck h 4 0 [] (hcreditBody ack0 ack1 ack2 replyAdv timeAdv)
  let ok := res.1
  let s := res.2
  if ok then
    let kept (m : HtxMsg) : Bool :=
      let a := if m.cls = 0x81 then ack0 else if m.cls = 0x82 then ack1 else ack2
      later 16 m.cseq.toNat a.toNat
    let s : State := { s with hoist := { s.hoist with retained := s.hoist.retained.filter kept, replyAdv := replyAdv, timeAdv := timeAdv } }
    (s.sendTimes s.hoist.timeQ.length).sendReplies s.hoist.replyQ.length
  else s

/-- RESTARTREQ (R396). -/
def State.restartMsg (h : HoistHead) (s : State) : State :=
  let res := s.hoistCheck h 5 0 [] []
  let ok := res.1
  let s := res.2
  if ok then s.restart else s

/-- OBJ: one fragment for the Hoist OBJ buffer, taken from the ingress buffer at once (R210, R401, R407). -/
def State.objMsg (h : HoistHead) (seq : Half) (frag last : Byte) (data : List Byte) (s : State) : State :=
  let res := s.hoistCheck h 1 1 [] (le 2 seq.toNat ++ [frag, last] ++ data)
  let ok := res.1
  let s := res.2
  if ok then ((s.freeCred 1 1).listFragment 2 seq frag.toNat last.toNat data).2 else s

/-- CMD: one command packet enters the ingress buffer; it runs once no VID message stands before it (R407). -/
def State.cmdMsg (h : HoistHead) (p : List Byte) (s : State) : State :=
  let res := s.hoistCheck h 2 1 [] p
  let ok := res.1
  let s := res.2
  if ok then { s with hoist := { s.hoist with ingress := s.hoist.ingress ++ [.cmd p] } } else s

/-- HOIST_TIME_STALE: no TIME exchange for 1 s (R416). -/
def State.timeStale (s : State) : State :=
  match s.hoist.timeAt with
  | some t0 => if t0 + 1000000000 ≤ s.clk.dtime then (({ s with hoist := { s.hoist with timeAt := some s.clk.dtime } } : State)).event 0x208 else s
  | none => s

/-! ### Training (R389 to R392, Table 9.5) -/

/-- The host's record allows FULL (R389). -/
def State.hoistCan (s : State) : Bool :=
  s.flag 0x80000 0 && (match s.hoist.caps with | some c => decide (c.version = 1 ∧ c.lanes = 4) && c.rates.getLsbD 1 | none => false)

/-- The data slot of HTX that carries COUNT 0 of a countdown that begins now (Table 9.5). -/
def State.countSlot (s : State) : Nat := max s.hoist.htxFree (s.hoist.dataBy (1000 * s.clk.dtime)) + 15

/-- The end of that slot: COUNT 0 has left. -/
def State.countEnd (s : State) : Nat := ceilDiv (s.hoist.slotAt s.countSlot + hoistPs s.hoist.htxFull) 1000

/-- An attempt begins: the message layer stops, PHASE 1 goes out with COUNT 15 to 0, CFG and TXEQ are read (R390, Table 9.5 step 1). -/
def State.hoistAttempt (s : State) : State :=
  let clear (l : HLane) : HLane := { l with prec := false, ready := false, skew := none, req := 0, rseq := 0 }
  { s with hoist := { s.hoist with
      st := .training, phase := 1, attempt := s.hoist.attempt + 1, trainAt := s.clk.dtime, phaseDue := s.clk.dtime + 100000
      cfgAt := BitVec.ofNat 32 (s.act 0x80000), acked := false, countAt := some s.countEnd, acks := 0, htxPrec := false, hrxPrec := 0
      precReq := false, negHtx := false, negHrx := 0, tapStatus := 0, htxWait := []
      lanes := vmod (s.hoist.lanes.map clear) 4 s.presetTaps } }

/-- The link stays at LIMP for good (R389, R392). -/
def State.hoistGiveUp (s : State) : State := ({ s with hoist := { s.hoist with gaveUp := true } } : State).event 0x201

/-- Training starts, or the link stays at LIMP (R389). -/
def State.hoistStart (s : State) : State :=
  if s.hoist.st = .limp ∧ !s.hoist.gaveUp then
    (if s.hoistCan then ({ s with hoist := { s.hoist with attempt := 0 } } : State).hoistAttempt else s.hoistGiveUp)
  else s

/-- Bring-up step 6: the blind start, and the first epoch (R398). -/
def State.hoistFirst (s : State) : State := iter (fun c s => s.setCred c (Cred.newEpoch (hoistCap c))) 4 (s.hoistBlind 0)

/-- COUNT of a countdown's block in data slot j: 15 down to 0, 0 outside one (Table 9.5). -/
def Hoist.count (j : Nat) (h : Hoist) : Nat :=
  match h.countAt with
  | some t => min 15 ((1000 * t - h.slotAt j) / hoistPs h.htxFull - 1)
  | none => 0

/-- PHASE of the TRAIN blocks of the attempt (Table 9.4): equalisation goes on from block lock to the announcement of precoding. -/
def Hoist.trainPhase (h : Hoist) : Nat :=
  if h.phase = 3 then (if h.countAt.isSome then 3 else 2) else h.phase

/-- The bits of four HRX lanes. -/
def Hoist.laneBits (f : HLane → Bool) (h : Hoist) : Nat := bitsOf (fun n => f (vget h.lanes n)) 4

/-- A TRAIN block of HTX (Table 9.4). -/
def State.htxTrain (s : State) (phase count : Nat) : List Byte :=
  let h := s.hoist
  let l (n : Nat) := vget h.lanes n
  let x := l 4
  payload16 ([BitVec.ofNat 8 (16 * phase + count), h.hrseq, (l 0).req, (l 1).req, (l 2).req, (l 3).req, (l 0).rseq, (l 1).rseq, (l 2).rseq,
    (l 3).rseq] ++ le 1 (h.laneBits (·.lock) + 16 * h.laneBits (·.ready)) ++ le 1 (Config.hrxWantsPrec.toNat + b2m h.htxPrec 4) ++
    le 1 x.pre ++ le 1 x.main ++ le 1 x.post ++ [h.tapStatus])

/-- The device's capability record (Table 9.3): it transmits on one lane, at both rates, precodes on request where it may, and stamps at its
pins (assumption 109). -/
def State.capPayload (s : State) : List Byte :=
  payload16 ([0x60#8, 1, 1, 3, BitVec.ofNat 8 (b2n (s.flag 0x80000 1) + b2m (decide (Config.hrxWantsPrec ≠ 0)) 1), 1, 0, 0] ++
    le 8 Config.uid.toNat)

/-- The attempt fails (R391, R392): PHASE 5 where HTX is still locked, a blind start, and 2 ms for the link to come up before the next
attempt; none after three. -/
def State.hoistFail (s : State) : State :=
  let s := s.event 0x20A
  let k := s.hoist.attempt
  let tail : List Block := if (vget s.hoist.lanes 4).lock then [{ type := .train, payload := s.htxTrain 5 0 }] else []
  let s := s.hoistBlind k
  let s : State := { s with hoist := { s.hoist with htxTail := tail } }
  if k < 3 then { s with hoist := { s.hoist with retryDue := some (s.clk.dtime + 2000000) } } else s.hoistGiveUp

/-- Training is complete: bonded, with a data-layer restart at FULL (Table 9.5 steps 7 and 8). -/
def State.hoistBond (s : State) : State :=
  ((({ s with hoist := { s.hoist with st := .bonded, phase := 0 } } : State)).restart).event 0x200

/-- COUNT 0 of PHASE 1 has left: HTX switches to FULL, and the host starts HRX[0..3] with it (Table 9.5 step 2). -/
def State.hoistFull (t : Nat) (s : State) : State :=
  let fresh (l : HLane) : HLane := { l with lock := false, heads := [], groups := 0, mseq := none, skew := none, raw := [], ready := false }
  { s with hoist := Hoist.start t true { s.hoist with
      phase := 2, countAt := none, phaseDue := s.hoist.trainAt + 1100000, lanes := s.hoist.lanes.map fresh } }

/-- The last step before bonding: PHASE 4 (Table 9.5 step 7). -/
def State.hoistLast (s : State) : State :=
  { s with hoist := { s.hoist with phase := 4, countAt := none, phaseDue := s.hoist.trainAt + 8000000 } }

/-- COUNT 0 of PHASE 3 has left: precoding starts where it was negotiated (R380, Table 9.5 step 6). -/
def State.hoistPrecode (s : State) : State :=
  let h := s.hoist
  ({ s with hoist := { h with
      htxPrec := h.negHtx, hrxPrec := h.negHrx
      lanes := iter (fun n v => vmod v n (fun l => { l with prec := if n = 4 then h.negHtx else h.negHrx.getLsbD n })) 5 h.lanes } } : State).hoistLast

/-- Countdowns of a training attempt that have come to COUNT 0. -/
def State.hoistCount (s : State) : State :=
  match s.hoist.countAt with
  | some t =>
    if s.hoist.st = .training ∧ t ≤ s.clk.dtime then
      (if s.hoist.phase = 1 then (if s.hoist.acked then s.hoistFull t else s) else s.hoistPrecode)
    else s
  | none => s

/-- A new request for the taps of HRX lane n; what the device's equaliser asks for is a free value (R331, R390). -/
def State.hrxAsk (n : Nat) (s : State) : State :=
  let res := s.fresh
  { res.2 with hoist := { res.2.hoist with
      lanes := vmod res.2.hoist.lanes n (fun l => { l with req := BitVec.ofNat 8 (res.1 % 64), rseq := l.rseq + 1 }) } }

/-- A TRAIN block of lane n while the lanes are equalised: an answered request is followed by the next until the lane is ready. -/
def State.hrxAnswer (n : Nat) (rseq : Byte) (s : State) : State :=
  let l := vget s.hoist.lanes n
  if s.hoist.phase = 3 && !l.ready && decide (rseq = l.rseq) then s.hrxAsk n else s

/-- A new request for the HTX taps, carried on lane 0 (R331, R390). -/
def State.htxAnswer (m : HoistTrainMsg) (s : State) : State :=
  if m.hrseq ≠ s.hoist.hrseq then
    let l := vget s.hoist.lanes 4
    let (t, a) := tapRequest (s.hoist.cfgAt.getLsbD 2) m.hreq.toNat (l.pre, l.main, l.post)
    let l := { l with pre := t.1, main := t.2.1, post := t.2.2 }
    { s with hoist := { s.hoist with hrseq := m.hrseq, tapStatus := BitVec.ofNat 8 a, lanes := vset s.hoist.lanes 4 l } }
  else s

/-- Every receiver is ready: precoding is announced for each direction whose receiver has asked for it and whose transmitter has declared
it; HOIST.CFG.PRECODE at 0 suppresses it on HTX (Table 9.5 step 6). -/
def State.hoistReady (s : State) : State :=
  let h := s.hoist
  let tx := h.precReq && h.cfgAt.getLsbD 1
  let rx : BitVec 4 := match h.caps with | some c => (if c.prec.getLsbD 0 then Config.hrxWantsPrec else 0) | none => 0
  if tx || decide (rx ≠ 0) then
    { s with hoist := { h with negHtx := tx, negHrx := rx, countAt := some s.countEnd, htxPrecAt := dataSlot s.countSlot + 1, phaseDue := h.trainAt + 7500000 } }
  else s.hoistLast

/-- What a TRAIN block reports of its lane and of HTX (Table 9.4). -/
def Hoist.report (n : Nat) (m : HoistTrainMsg) (h : Hoist) : Hoist :=
  let fl := m.flags
  let lanes := vmod h.lanes n (fun l => { l with pre := m.pre, main := m.main, post := m.post, ready := m.ready })
  { h with precReq := fl.getLsbD 3, lanes := vmod lanes 4 (fun l => { l with lock := fl.getLsbD 1, ready := fl.getLsbD 2 }) }

/-- HOIST_TRAIN: one host TRAIN block on HRX lane n. -/
def State.hoistTrain (n : Nat) (m : HoistTrainMsg) (s : State) : State :=
  if s.hoist.st ≠ .training then s
  else if m.phase = 5 then s.hoistFail
  else
    let s : State := { s with hoist := s.hoist.report n m }
    let s := if n = 0 then s.htxAnswer m else s
    let s := s.hrxAnswer n m.rseq
    match s.hoist.phase with
    | 1 =>
      if n = 0 && decide (m.phase = 1) && s.hoist.countAt.any (fun t => decide (s.clk.dtime < t)) then
        { s with hoist := { s.hoist with acked := true } }
      else s
    | 2 =>
      if (vget s.hoist.lanes 4).lock && (List.range 4).all (fun k => (vget s.hoist.lanes k).lock) then
        iter State.hrxAsk 4 { s with hoist := { s.hoist with phase := 3, phaseDue := s.hoist.trainAt + 7000000 } }
      else s
    | 3 =>
      if s.hoist.countAt.isNone && (vget s.hoist.lanes 4).ready && (List.range 4).all (fun k => (vget s.hoist.lanes k).ready) then s.hoistReady
      else s
    | _ =>
      let s : State := if m.phase = 4 then { s with hoist := { s.hoist with acks := s.hoist.acks ||| BitVec.ofNat 4 (2 ^ n) } } else s
      if s.hoist.acks = 15 then (if s.skewOk then s.hoistBond else s.hoistFail) else s

/-- HOIST_TRAINING_TIMEOUT: a step misses its bound, PHASE 1 has had no answer at COUNT 0, or the link has not come up 2 ms after a failed
attempt, which counts as a further one (R391, R392; assumption 112). -/
def State.hoistTimeout (s : State) : State :=
  let h := s.hoist
  if h.st = .training then
    (if decide (h.phaseDue ≤ s.clk.dtime) || (decide (h.phase = 1) && !h.acked && h.countAt.any (fun t => decide (t ≤ s.clk.dtime))) then
      s.hoistFail
     else s)
  else if h.st = .down ∧ h.retryDue.any (fun t => decide (t ≤ s.clk.dtime)) then
    ({ s with hoist := { h with attempt := h.attempt + 1 } } : State).hoistFail
  else s

/-- The link is up at LIMP after a failed attempt: the next attempt follows where the record and HOIST.CFG still allow it; otherwise, and
after the third, the link stays, with the restart that ends a training (R389, R391, R392, R396). -/
def State.hoistAgain (s : State) : State :=
  if s.hoist.retryDue.isSome then
    let s : State := { s with hoist := { s.hoist with retryDue := none } }
    if s.hoistCan then s.hoistAttempt else (s.restart).hoistGiveUp
  else s.restart

/-- CAPABILITY_RECORD: the link is up at LIMP; from bring-up step 8 on it trains (R389, Table 9.3). -/
def State.hoistCaps (c : CapRecord) (s : State) : State :=
  if s.hoist.st = .training ∨ s.hoist.st = .bonded ∨ s.mode.step < 6 then s
  else
    let was := decide (s.hoist.st = .down) && decide (s.hoist.attempt ≠ 0)
    let s : State := { s with hoist := { s.hoist with st := .limp, caps := some c } }
    let s := s.event 0x209
    if was then s.hoistAgain else if 8 ≤ s.mode.step then s.hoistStart else s

end Sys2Proof.Machine
end

