-- ==== Sys2Proof/Machine/Scan.lean ====
section
/-! DEFINITION. Scan-out (chapter 6): anchors, flips, passes, signatures and the echo, the freeze detector, and retraining
changes. -/

namespace Sys2Proof.Machine

/-! ### What a pass sends (R268 to R277) -/

/-- No byte of the source segment is other than zero. -/
def State.segmentEmpty (s : State) (g : Nat) : Bool :=
  s.store.mem.all (fun c =>
    let o := c.1 - bufBase s.scan.front
    decide (c.1 < bufBase s.scan.front ∨ 0x400000 ≤ o) || segmentAt (o % 8192 / 4) (o / 8192) != g)

/-- CRC-32C of a pass of zeros under a seed. -/
def crcEmpty (seed : Word) : Word := crcZeroSegment 0x82F63B78#32 (0xFFFFFFFF#32 ^^^ seed)

/-- SIGC of pipeline n over the front buffer (R276). -/
def State.sigc (s : State) (timing n : Nat) (zeros : List Nat) (under : List (Nat × Nat)) : Word :=
  if s.segmentEmpty (srcSegment timing n) then crcEmpty (BitVec.ofNat 32 n)
  else crc32c (BitVec.ofNat 32 n) ((List.range 256).flatMap (fun l => codeBytes (s.lineRead timing n zeros under l)))

/-- SIGE and the sums of the codes sent on lane n in the pass in progress (R248, R277). -/
def State.sentBy (s : State) (n : Nat) : Word × Nat × Nat :=
  let seed := BitVec.ofNat 32 (s.scan.fseq.toNat * 65536 + n)
  if s.segmentEmpty (srcSegment s.scan.curClone n) then (crcEmpty seed, 0, 0)
  else
    let ls := (List.range 256).map (s.lineSent n)
    (crc32c seed (ls.flatMap codeBytes), (ls.map (fun l => (l.map (·.1)).sum)).sum, (ls.map (fun l => (l.map (·.2)).sum)).sum)

/-! ### The end of a pass -/

def State.setSeg (n : Nat) (f : Seg → Seg) (s : State) : State :=
  { s with scan := { s.scan with segs := vmod s.scan.segs n f } }

/-- No pass is compared whose echo deadline falls after F + Ts of a retraining change (R297). -/
def State.echoOff (s : State) (deadline : Nat) : Bool :=
  match s.scan.retrain with
  | some r => decide (r.flipAt + r.ts < deadline)
  | none => false

/-- A pass of a lane is not compared (R280). -/
def State.echoSkip (n : Nat) (s : State) : State :=
  (s.setSeg n (fun g => { g with echoskip := satAdd g.echoskip 1, wait := none })).raise0 0x14D n 0

/-- T0 and ADV of a pipeline after a flip: `same` where the pass is watched and its SIGC is that of the previous frame's first pass (R283). -/
def Seg.frozen (same advanced : Bool) (fliptime : Nat) (g : Seg) : Seg :=
  { g with t0 := if same then g.t0Was else fliptime, adv := same && (g.advWas || advanced) }

/-- Guidon's audit of the token total and of the budget for the pass in progress (R7, R248). -/
def State.tokensOk (s : State) : Bool :=
  decide (s.scan.curPool + s.scan.curHold.toList.sum = 1024 ∧ s.scan.curBud ≤ s.scan.curLimit)

/-- A pass that sent lines on lane n ends: the echo to come (R278, R281), the audit of the power sent (R248), its stress (R368).
The spec does not say when PWR_AUDIT is resolved: here at the next audit that passes, so never while scan-out is stopped (assumption 128). -/
def State.endSent (n p ts : Nat) (sige : Word) (scw sam : Nat) (s : State) : State :=
  let c := s.scan
  let psent := demandPw s.tok.ecw s.tok.eam scw sam
  let deadline := p + ts + 200000
  let s := if (vget c.segs n).wait.isSome then s.echoSkip n else s
  let s := s.setSeg n (fun g => { g with wait := some (c.fseq, sige, deadline), goodAt := g.goodAt.or (some deadline) })
  let s := if s.echoOff deadline then s.echoSkip n else s
  let s := if vget c.curHold n * c.curBud * 1000000000 < psent * 1024 then s.raise0 0x3C0 n 0
    else if n = 0 && !s.tokensOk then s
    else s.resolve 0x3C0 n
  let s : State := { s with gdn := { s.gdn with winEnergy := s.gdn.winEnergy + ts * psent } }
  s.passStress n ts psent

/-- Pipeline n completes the pass in progress: signatures and taint, and the frame's first signature (R283); a lane that is not up, or a
pass without lines, sends nothing of it (R327, R260), so that no echo comes. -/
def State.endLane (n : Nat) (s : State) : State :=
  let c := s.scan
  let p := s.passAt (c.k - 1)
  let ts := s.passAt c.k - p
  let sigc := s.sigc c.curClone n c.zeros (vget c.segs n).under
  let (sige, scw, sam) := s.sentBy n
  let src := srcSegment c.curClone n
  let first := decide (p = c.fliptime)
  let s := s.setSeg n (fun g =>
    let g := { g with sigc := sigc, sige := sige, taint := g.taintNow, taintNow := false, under := [] }
    if first then
      { g.frozen (decide (g.firstSigc = some sigc) && c.frame.watch.getLsbD src) (c.frame.adv.getLsbD src) c.fliptime with
        firstSigc := some sigc }
    else g)
  if c.curLanes.getLsbD n then s.endSent n p ts sige scw sam else s.echoSkip n

/-- The pass in progress completes at the next pass start: every enabled pipeline has read it and formed its signatures, whether it sent
lines or not (R269, R271, R276, R277); one without lines is not compared (R280). Guidon audits the tokens of every pass since the first
allocation (R248). -/
def State.endPass (s : State) : State :=
  if !s.scan.curOn then s
  else
    let s := s.keepBytes
    let s := if s.tokensOk then s.resolve 0x3C0 0
      else if s.scan.curPool + s.scan.curHold.toList.sum = 0 then s
      else s.raise0 0x3C0 0 0
    let s := iter (fun n s => if s.scan.curRead.getLsbD n && s.laneEn n then s.endLane n else s) 16 s
    let s : State := if s.scan.curLines then
        { s with gdn := { s.gdn with winTime := s.gdn.winTime + (s.passAt s.scan.k - s.passAt (s.scan.k - 1)) } }
      else s
    { s with scan := { s.scan with curOn := false, curLines := false, curRead := 0, curLanes := 0, zeros := [] } }

/-! ### Anchors (R175, R256, R257, R553, R681) -/

/-- Scan-out runs from anchor A = now under the timing in force. -/
def State.anchorAt (a : Nat) (s : State) : State :=
  { s with scan := { s.scan with
      run := true, retrain := none, settleAt := none, stopping := false, anchor := a, k := 0, phK := 0, div := s.divider,
      refresh := s.fld 0x50000 9 0, flipK := 2, flipLatched := false, pcdivLatched := none
      segs := s.scan.segs.map (fun g => { g with goodAt := none }) } }

/-- The first composition after an anchor starts at it (R175, R681). -/
def State.anchorComp (s : State) : State :=
  let a := s.scan.anchor
  (s.anchorLatch (s.passAt 1 - a) (s.passAt s.scan.div - a)).startComp (s.passAt 2) true

/-- A block that begins at the anchor counts as spent at VMAX from there (Table 13.4, row 2). -/
def State.blockStart (s : State) : State :=
  if s.bun.blkCount = 0 then { s with bun := { s.bun with blkAtMax := decide (s.fab.vcode = s.vmaxEff) } } else s

/-- Scan-out is anchored now, and the first composition starts (R175). -/
def State.scanStart (s : State) : State :=
  let s := s.anchorAt s.clk.dtime
  let s : State := { s with scan := { s.scan with
    hadLines := false, segs := s.scan.segs.map (fun g => { g with wait := none, firstSigc := none }) } }
  let s : State := { s with mask := { s.mask with passList := none, passWin := (s.passAt 1, s.passAt 2) } }
  (s.blockStart).anchorComp

/-- SCAN_ANCHOR: VCODE has been at its target for 50 µs (R553), in BEAM entry once the switch test has passed, or in SERVICE (R175). No
command of the table starts a service task: the first SCAN_ANCHOR in SERVICE stands for the task's start, which sets the target to VMAX
(assumption 51). -/
def State.scanAnchor (s : State) : State :=
  let held (t0 : Nat) : Bool := decide (s.fab.vcode = s.vaim ∧ t0 + 50000 ≤ s.clk.dtime)
  match s.mode.trans, s.scan.settleAt with
  | some tr, some t0 => if tr.target = .beam && s.mode.tested && held t0 then s.scanStart else s
  | none, some t0 => if s.mode.cur = .service && held t0 then s.scanStart else s
  | none, none => if s.mode.cur = .service && !s.scan.run then s.rampUp else s
  | some _, none => s

/-! ### Flips (R258 to R263, R283) -/

/-- The freeze detector at a flip: the new picture, as an undisturbed first pass will read it, against the previous frame's first pass
(R283); the end of that pass settles it (`endLane`). A pipeline that is not enabled is not watched; at the first flip after a retraining
every T0 is set (R297). -/
def State.freezeFlip (s : State) : State :=
  let t := s.act 0x50000
  let f := s.scan.fliptime
  let s := iter (fun n s =>
    let src := srcSegment t n
    let sig := if s.laneEn n then s.sigc t n [] [] else 0
    let watch := s.laneEn n && s.scan.frame.watch.getLsbD src
    s.setSeg n (fun g =>
      let g := if s.scan.freezeMute then { g with t0Was := f, advWas := false } else { g with t0Was := g.t0, advWas := g.adv }
      { g.frozen (decide (g.firstSigc = some sig) && watch) (s.scan.frame.adv.getLsbD src) f with sigF := sig })) 16 s
  { s with scan := { s.scan with freezeMute := false } }

/-- A pending COMMIT whose set of group g will apply now. -/
def State.applying (s : State) (g : Nat) : Bool :=
  s.verdicts.any (fun x => x.2.2.isNone && x.2.1.getLsbD g)

/-- The next flip instant, N passes on, N in force at this one (R256). -/
def State.nextFlip (s : State) : State :=
  { s with scan := { s.scan with phK := s.scan.flipK, div := s.divider, flipK := s.scan.flipK + s.divider, flipLatched := false } }

/-- After a flip instant: the next composition starts (R167, R171), and what waited for the instant goes on. -/
def State.afterFlip (first : Bool) (s : State) : State :=
  let s := if s.scan.retrain.isSome then s else s.startComp (s.passAt s.scan.flipK) first
  (s.creditAudit).commitDeferred

/-- The buffers change places at flip instant f: the picture composed with `info` is shown and counted (R262, R264). -/
def State.flipSwap (info : FrameInfo) (f : Nat) (s : State) : State :=
  let back := match s.bun.comp with | some c => c.back | none => !s.scan.front
  let s : State := { s with
    scan := { s.scan with front := back, frontValid := true, framecnt := (s.scan.framecnt + 1) % 2 ^ 48, fliptime := f, frame := info }
    bun := { s.bun with comp := none, done := none } }
  (s.scanEvt 2 9 0x141).auditFrames

/-- Pending sets are applied (R116); `old` are the register words before. -/
def State.flipSets (old : Nat → Nat) (s : State) : State :=
  let layers := s.applying grpLayers
  let s := (s.applyCommits).lanesEn old
  if layers then s.event 0x0C4 else s

/-- The PCDIV change that the last latch passed; one that PCDIVMAX has come to forbid since then is dropped (R290, R291, R560). -/
def State.pcdivNext (s : State) : Option Nat := s.scan.pcdivLatched.filter (fun v => decide (v ≤ max s.pcdivMax s.scan.pcdiv))

/-- It takes effect. -/
def State.flipPcdiv (s : State) : State :=
  let next := s.pcdivNext
  let s : State := { s with scan := { s.scan with
    pcdivWant := if s.scan.pcdivWant = s.scan.pcdivLatched then none else s.scan.pcdivWant, pcdivLatched := none } }
  match next with
  | some v => s.setPcdiv v
  | none => s

/-- The schedule after the flip: a retraining change opens (R293), a change without retraining anchors at f, or the next flip follows. -/
def State.flipPace (retrain restart : Bool) (f ts : Nat) (s : State) : State :=
  if retrain then
    (let s := s.nextFlip
     { s with scan := { s.scan with retrain := some { flipAt := f, ts := ts, opened := false, doneAt := none, failed := false } } })
  else if restart then
    (let s := s.anchorAt f
     (({ s with scan := { s.scan with flipK := s.divider } } : State)).event 0x14C)
  else s.nextFlip

/-- BEAM is entered at its first flip (R175). -/
def State.flipBeam (s : State) : State :=
  match s.mode.trans with
  | some tr => if tr.target = .beam then s.transDone else s
  | none => s

/-- A flip takes place at the scheduled instant f (R258, R261, R293, R257). -/
def State.flipTaken (info : FrameInfo) (f : Nat) (s : State) : State :=
  let old := s.act
  let ts := s.passAt (s.scan.flipK + 1) - f
  let a := s.flipSwap info f
  let timing := a.applying grpTiming
  let b := a.flipSets old
  let restart := timing || b.pcdivNext.any (fun v => v != b.scan.pcdiv)
  let c := b.flipPcdiv
  let retrain := (List.range 16).any (fun n => rateChange old c.act n)
  ((((((c.flipPace retrain restart f ts).freezeFlip).releaseFlip).auditLeases).afterFlip restart).flipBeam)

/-- A flip is missed (R171, R259, R262): the composition is abandoned, nothing applies. -/
def State.flipMissed (s : State) : State :=
  let s := match s.bun.comp with
    | some c => if c.dead then s else s.slackMissed
    | none => s
  let s : State := { s with bun := { s.bun with comp := none, done := none } }
  let s := (s.countMissed).auditFrames
  let s := s.policy true false 1000
  let s : State := { s with scan := { s.scan with pcdivLatched := none } }
  (s.nextFlip).afterFlip false

/-- The flip instant due now, if there is one. -/
def State.flipDue (s : State) : Bool :=
  s.scan.run && !s.scan.stopping && s.scan.retrain.isNone && decide (s.passAt s.scan.flipK ≤ s.clk.dtime)

/-- FLIP_INSTANT (R256). -/
def State.flipInstant (s : State) : State :=
  if s.flipDue then
    let f := s.passAt s.scan.flipK
    let s := s.endPass
    match s.bun.done with
    | some info => s.flipTaken info f
    | none => s.flipMissed
  else s

/-! ### Passes (R255, R260, R265, R317) -/

/-- The SHOW of a frame start without lines (R31, R38, R317). -/
def State.quietShow (s : State) : Show :=
  if s.mode.cur = .limp then .keep
  else if s.flag 0x00001 0 || (s.eng.pathBusy && decide (s.mode.cur = .ready)) then .keep else .dark

/-- Table 7.3, R323: a new pass begins in every lane's window of substitutions, of which 255 are kept; FLY_SUBST is resolved at the
first pass whose window is within SUBMAX. -/
def State.pushWindow (s : State) : State :=
  iter (fun n s =>
    let s := s.setLane n (fun l => { l with window := (0, 0) :: l.window.take 254 })
    if s.winSum n ≤ s.fld 0x60000 5 0 then s.resolve 0x182 n else s) 16 s

/-- The pass that starts at p: FSEQ advances, and its frame start goes out on every lane that can carry it (R265, R315); `lines` sends the
line packets of the pass on them, 16,464 DATA blocks from p on (R312). -/
def State.frameStart (p : Nat) (show_ : Show) (lines : Bool) (s : State) : State :=
  let s : State := { s with scan := { s.scan with fseq := s.scan.fseq + 1 } }
  let s := iter (fun n s =>
    if s.laneReady n then
      s.setLane n (fun l =>
        let l := l.sendFstart p s.scan.fseq (l.showFor show_)
        if lines then { l.enqueue { due := 1000 * p, kind := .data none, done := 0, left := 16464 } with st := .active } else l)
    else s) 16 s
  (s.pushWindow).scanEvt 1 8 0x140

/-- The freeze detector at a pass start (R284, R285): a watched pipeline whose T0 lies LIMIT or more in the past raises; what was raised
is resolved where the pass is not watched or T0 has been renewed. From F + Ts of a retraining change to the first flip after its anchor
nothing is raised (R297). -/
def State.freezePass (p : Nat) (lines : Bool) (s : State) : State :=
  let limit := s.fld 0x50001 6 0 * 1000000
  let t := s.act 0x50000
  let mute := s.scan.freezeMute || s.scan.retrain.any (·.opened)
  iter (fun n s =>
    let g := vget s.scan.segs n
    let watch := lines && s.laneEn n && s.scan.frame.watch.getLsbD (srcSegment t n)
    let moved := !watch || decide (g.stuckAt ≠ some g.t0)
    let s := s.setSeg n (fun g => { g with watch := watch, age := (p - g.t0) / 1000000, stuckAt := if moved then none else g.stuckAt })
    let s := if moved then (s.resolve 0x147 n).resolve 0x148 n else s
    if watch && !mute && decide (limit ≤ p - g.t0) then
      let s : State := { s with scan := { s.scan with blank := true } }
      (s.setSeg n (fun g => { g with stuckAt := some g.t0 })).raise0 (if g.adv then 0x147 else 0x148) n 0
    else s) 16 s

/-- The underruns of the pass that ends decide whether SCAN_UNDERRUN still holds. -/
def State.passUnder (s : State) : State :=
  let s : State := { s with scan := { s.scan with underPrev := s.scan.underNow, underNow := false } }
  if s.scan.underPrev then s else s.resolveAll 0x144

/-- What the pass is sent with is taken. -/
def State.passTake (lines : Bool) (s : State) : State :=
  let en := BitVec.ofNat 16 (bitsOf (fun n => s.laneEn n) 16)
  let up := BitVec.ofNat 16 (bitsOf (fun n => s.laneReady n) 16)
  { s with scan := { s.scan with
      curOn := true, curLines := lines, curRead := en, curLanes := if lines then up else 0, hadLines := lines, curPass := s.mask.passTbl,
      curCoarse := s.mask.coarseTbl, curScale := s.tok.scale, curHold := s.tok.hold, curBud := s.tok.effbud, curLimit := s.tok.limit,
      curPool := s.tok.pool, curClone := s.act 0x50000, zeros := [], passPh := s.scan.k - s.scan.phK, k := s.scan.k + 1 } }

/-- An armed injection into a line CRC goes out with the pass (R600). -/
def State.passInject (s : State) : State :=
  match s.chk.armed with
  | some a =>
    if a.val < 16 ∧ s.scan.curLanes.getLsbD a.val then
      (({ s with chk := { s.chk with armed := none } } : State)).setLane a.val (fun l => { l with crcOut := true })
    else s
  | none => s

/-- A pass starts on running scan-out; it carries lines where a picture is there. -/
def State.passBegin (s : State) : State :=
  let p := s.passAt s.scan.k
  let lines := s.scan.frontValid
  let a := (s.lateTables).passUnder
  let b := a.frameStart p (if lines && a.scan.hadLines then .next else a.quietShow) lines
  ((b.passTake lines).freezePass p lines).passInject

/-- Every enabled lane whose rate differs from its active RATE trains or starts blind (R293, R329). -/
def State.retrainLanes (s : State) : State :=
  iter (fun n s => if s.laneEn n && (s.laneRate n != (vget s.fly n).full) then s.laneRetrain n else s) 16 s

/-- A retraining change fails (R295). -/
def State.retrainFail (r : Retrain) (s : State) : State :=
  if r.failed then s
  else (({ s with scan := { s.scan with retrain := some { r with failed := true } } } : State)).raise0 0x14A 0 0

/-- After a change of a lane: the retraining fails at once where a lane was left at LIMP and the timing needs more, and completes when
every enabled lane is at its rate. -/
def State.retrainCheck (s : State) : State :=
  match s.scan.retrain with
  | some r =>
    if !r.opened || r.failed || r.doneAt.isSome then s
    else
      let short := decide (120 < s.fld 0x50000 9 0) && (List.range 16).any (fun n => s.laneEn n && !s.laneRate n)
      if short || decide (r.flipAt + r.ts + 30000000 < s.clk.dtime) then s.retrainFail r
      else if (List.range 16).all (fun n => !s.laneEn n || (s.laneReady n && (s.laneRate n == (vget s.fly n).full))) then
        { s with scan := { s.scan with retrain := some { r with doneAt := some s.clk.dtime } } }
      else s
  | none => s

/-- Step 3 of a retraining change: pass k + 1 starts with NEXT and without lines, then the lanes train (R293, R274, R300). The next NEXT
keeps the pass-k picture on (R293, R317). Where every lane is at its rate already, training is complete (R295). -/
def State.openRetrain (r : Retrain) (s : State) : State :=
  let p := s.passAt s.scan.k
  let s := (s.passUnder).frameStart p .next false
  let s : State := { s with scan := { s.scan with retrain := some { r with opened := true } } }
  let had := s.scan.hadLines
  let s := ((s.passTake false).freezePass p false).lanesIdle
  let s : State := { s with scan := { s.scan with hadLines := had } }
  (s.retrainLanes).retrainCheck

/-- The pass start after a stop: DARK or KEEP goes out, no lines follow, scan-out is over (R260, R266, R317); lanes of a retraining change
that had not opened go on to their new rate. That pass start is one, for PASSPH, WATCH and AGE (R284, R300). -/
def State.stopNow (s : State) : State :=
  let p := s.passAt s.scan.k
  let s := s.endPass
  let s := (((s.frameStart p s.quietShow false).passTake false).freezePass p false).lanesIdle
  (if s.scan.retrain.isSome then s.retrainLanes else s).scanOff

/-- PASS_START. A flip due at this instant comes first. -/
def State.passStart (s : State) : State :=
  if !s.scan.run || decide (s.clk.dtime < s.passAt s.scan.k) then s
  else
    match s.scan.retrain with
    | some r =>
      if r.opened then s
      else if s.scan.stopping then s.stopNow
      else if r.flipAt < s.passAt s.scan.k then (s.endPass).openRetrain r
      else (s.endPass).passBegin
    | none =>
      if s.scan.stopping then s.stopNow
      else if s.scan.k = s.scan.flipK then
        let s := s.flipInstant
        if s.scan.run then s.passBegin else s
      else (s.endPass).passBegin

/-- READ_UNDERRUN (R272 to R274), in any pass in progress: each is read (R269). -/
def State.underrun (n line pixel : Nat) (s : State) : State :=
  if s.scan.run && s.scan.curOn && s.scan.curRead.getLsbD n then
    let s := s.setSeg n (fun g => { g with undercnt := satAdd g.undercnt 1, taintNow := true, under := g.under ++ [(line, pixel)] })
    let s : State := { s with scan := { s.scan with underNow := true } }
    let s := s.raise0 0x143 n 0
    if s.scan.underPrev then s.raise0 0x144 0 0 else s
  else s

/-! ### A lane that comes up (R328) -/

/-- FULL is wanted, the lane is up, and training is due: once bring-up step 7 is over, or again after a failed attempt (R329, R330). -/
def State.trainDue (s : State) (n : Nat) : Bool :=
  s.laneEn n && s.laneRate n && decide (s.eng.step7 = .done) && !(vget s.fly n).full

/-- A lane is IDLE or ACTIVE at its active RATE: FLY_LOCK is resolved (R333). -/
def State.lockBack (n : Nat) (s : State) : State :=
  let l := vget s.fly n
  if l.up && l.runs && (s.laneRate n == l.full) then (s.setLane n (fun l => { l with rejoin := false })).resolve 0x183 n else s

/-- The engine reports lock on a lane that has started blind: it is up (R328), and trains where FULL is due. -/
def State.laneUp (n : Nat) (s : State) : State :=
  let s := s.setLane n (fun l => { l with up := true, down := false })
  let s := if s.trainDue n && decide ((vget s.fly n).attempt < 3) then s.laneTrain n else s.lockBack n
  s.retrainCheck

/-- A good message on lane n, checked by unit n (R596). Where it brings the backchannel lock that a lane with a STATUS of LOCK = 1 waited for, the lane is up
(R328). -/
def State.backHeard (n : Nat) (s : State) : State :=
  let s := (s.backGood n).checked n
  let l := vget s.fly n
  if !s.ens.ovr && l.runs && !l.up && l.bclock && l.block then s.laneUp n else s

/-! ### The engine echo (R278 to R281, R323) -/

/-- FLY_SUBST where the count of lane n moved and its window now exceeds SUBMAX (R323). -/
def State.judgeSubst (n : Nat) (s : State) : State :=
  if s.fld 0x60000 5 0 < s.winSum n then s.raise0 0x182 n 0 else s

/-- The window entry of the pass with sequence `fseq` changed by `f`. -/
def State.markWindow (n : Nat) (fseq : Half) (f : Nat × Nat → Nat × Nat) (s : State) : State :=
  let i := (s.scan.fseq - fseq).toNat
  s.setLane n (fun l => { l with window := match l.window[i]? with | some p => l.window.set i (f p) | none => l.window })

/-- ECHO_MESSAGE (R278, R279). -/
def State.echoMsg (n : Nat) (fseq : Half) (nsub : Nat) (crc : Word) (s : State) : State :=
  if (vget s.fly n).st = .furled ∨ !s.pow.logicOn then s
  else
  let s := (s.backHeard n).setSeg n (fun g => { g with echo := crc })
  let s := s.markWindow n fseq (fun p => (p.1, nsub))
  let s := if nsub = 0 then s else s.judgeSubst n
  match (vget s.scan.segs n).wait with
  | some (f, sige, deadline) =>
    if f = fseq ∧ nsub = 0 ∧ s.clk.dtime ≤ deadline then
      let res := s.unitCheck n fseq.toNat crc sige
      let ok := res.1
      let s := res.2
      let s := s.setSeg n (fun g => { g with wait := none })
      if ok then ((s.setSeg n (fun g => { g with goodAt := some s.clk.dtime })).resolve 0x145 n).resolve 0x146 n
      else (s.setSeg n (fun g => { g with echobad := satAdd g.echobad 1 })).raise0 0x145 n 0
    else s
  | none => s

/-- ECHO_DEADLINE: passes still not compared are skipped (R280). -/
def State.echoDeadline (s : State) : State :=
  iter (fun n s =>
    match (vget s.scan.segs n).wait with
    | some (_, _, d) => if d ≤ s.clk.dtime then s.echoSkip n else s
    | none => s) 16 s

/-- ECHO_LOST_TIMEOUT (R281). During a retraining change nothing is raised, as Table 6.6 implies and no rule says (assumption 129). -/
def State.echoLost (n : Nat) (s : State) : State :=
  let ts := s.passAt (s.scan.k + 1) - s.passAt s.scan.k
  match (vget s.scan.segs n).goodAt with
  | some t0 =>
    if s.scan.run && s.scan.retrain.isNone && s.laneEn n && decide (t0 + max 12000000 (2 * ts + 1000000) < s.clk.dtime) then s.raise0 0x146 n 0
    else s
  | none => s

/-! ### Retraining changes (Table 6.5, R295) -/

/-- RETRAIN_TIMEOUT. -/
def State.retrainTimeout (s : State) : State :=
  match s.scan.retrain with
  | some r => if r.doneAt.isNone && decide (r.flipAt + r.ts + 30000000 ≤ s.clk.dtime) then s.retrainFail r else s
  | none => s

/-- RETRAIN_ANCHOR: 200 µs after training completed (Table 6.5 step 5). -/
def State.retrainAnchor (s : State) : State :=
  match s.scan.retrain with
  | some r =>
    match r.doneAt with
    | some d =>
      if s.scan.run && !r.failed && decide (d + 200000 ≤ s.clk.dtime) then
        let s := (s.endPass).anchorAt (d + 200000)
        let s : State := { s with scan := { s.scan with freezeMute := true } }
        let s := (s.resolveAll 0x14A).event 0x14B
        s.anchorComp
      else s
    | none => s
  | none => s

/-! ### The LIMP base layer (R38, R39) -/

/-- The pass of the base layer that starts at p, for `ts` ns: a frame start, its lines, and the stress of what it sends (R39, R317, R368).
The first carries KEEP, since no lines were sent before it. -/
def State.limpStart (p ts : Nat) (first : Bool) (s : State) : State :=
  let s := ((s.keepBytes).readOver 1 0 0x2000000).frameStart p (if first then .keep else .next) true
  let s : State := { s with scan := { s.scan with zeros := [] } }
  iter (fun n s =>
    if s.mapped n && s.laneReady n then
      let sum := ((List.range 256).map (fun l => ((s.limpLine n l).map (·.1)).sum)).sum
      s.passStress n ts (demandPw s.tok.ecw s.tok.eam sum 0)
    else s) 16 s

/-- LIMP_BASE_LAYER_PASS: a pass start of the base layer, at 60 Hz from the first one (R39, R255). -/
def State.limpPass (s : State) : State :=
  if s.limpBase && !s.ens.ovr then
    let (a, k) := s.scan.limp.getD (s.clk.dtime, 0)
    let p := passTime a 60 k
    if s.clk.dtime < p then s
    else
      (({ s with scan := { s.scan with limp := some (a, k + 1) } } : State)).limpStart p (passTime a 60 (k + 1) - p) s.scan.limp.isNone
  else s.limpOff

end Sys2Proof.Machine
end

