-- ==== Sys2Proof/Machine/Fly.lean ====
section
/-! DEFINITION. Fly (chapter 7): markers and frame starts, the backchannel's messages, training, the recovery of a lost lane, channel
measurement and the lane test. -/

namespace Sys2Proof.Machine

/-! ### Lanes that run -/

/-- The lane's transmitter and backchannel receiver are on, and the Ensign does not drive it (R334). -/
def State.laneOn (s : State) (n : Nat) : Bool := decide ((vget s.fly n).st ≠ .furled) && !s.ens.ovr && s.pow.logicOn

/-- MARKER (R308): the next multiple of 8,192 block slots, on a furled lane too while FURL blocks are left (R311). -/
def State.marker (n : Nat) (s : State) : State :=
  let l := vget s.fly n
  let on := s.laneOn n || (s.pow.logicOn && !s.ens.ovr && !l.silent 8192)
  if on && decide (l.baseAt + 8192 * l.blockPs ≤ 1000 * s.clk.dtime) then s.laneMarker n else s

/-- FSTART_FILL (R318): HOLD while passes of a picture or of the base layer are scanned out. -/
def State.fstartFill (n : Nat) (s : State) : State :=
  let l := vget s.fly n
  if s.laneOn n && l.runs && decide (l.fstartAt + 1000000 ≤ s.clk.dtime) then
    s.extraFstart n (if s.scan.run || s.scan.limp.isSome then .hold else if s.mode.sleep ≠ .none then .dark else l.showFor s.quietShow)
  else s

/-! ### Training (R328 to R333) -/

/-- The bound in ns within which a blind start must be up: 1.5 ms between attempts (R330), else 20 ms (R328). -/
def Lane.upBound (l : Lane) : Nat := if 1 ≤ l.attempt ∧ l.attempt ≤ 3 then 1500000 else 20000000

/-- LANE_UP_TIMEOUT (R328). -/
def State.laneUpTimeout (n : Nat) (s : State) : State :=
  let l := vget s.fly n
  if s.laneOn n && l.runs && !l.up && !l.down && decide (l.startedAt + l.upBound ≤ s.clk.dtime) then
    ((s.setLane n (fun l => { l with down := true })).raise0 0x187 n 0).retrainCheck
  else s

/-- An attempt fails (R330, R332): FALLBACK goes out, then back to LIMP by a blind start; after the third the active RATE becomes LIMP. -/
def State.trainFail (n : Nat) (s : State) : State :=
  let last := s.fallback n
  let s := s.setLane n (fun l => { l with trainfail := satAdd l.trainfail 1 })
  let s := s.raise0 0x188 n 0
  let s := (s.laneBlind n).setLane n (fun l => { l with
    tail := last.1, baseAt := last.2, fills := [{ due := last.2, kind := .idle, done := 0 }] })
  if (vget s.fly n).attempt < 3 then s
  else (((s.hwClr (laneAddr n) 2).raise0 0x181 n 0).resolve 0x183 n).retrainCheck

/-- FLY_TRAINING_TIMEOUT: the step in progress misses its bound; suspended under override (R336). -/
def State.trainTimeout (n : Nat) (s : State) : State :=
  let l := vget s.fly n
  if s.laneOn n && decide (l.st = .training ∧ l.phaseDue ≤ s.clk.dtime) then s.trainFail n else s

/-- The largest L up to `top` with 10^(2L − 1) AHI^400 ≤ ALO^400: 200 log10(ALO ÷ AHI) rounded to an integer, in whole numbers. -/
def lossOf (ahi alo top : Nat) : Nat :=
  (List.range (top + 1)).foldl (fun m k => if 0 < k ∧ 10 ^ (2 * k - 1) * ahi ^ 400 ≤ alo ^ 400 then max m k else m) 0

/-- The channel loss (R342), 0 where ALO lies so little below AHI that the formula rounds to 0; a free value where it gives none or a number
that the field cannot hold. -/
def State.setLoss (n ahi alo : Nat) (s : State) : State :=
  if 0 < ahi ∧ ahi ^ 400 ≤ 10 * alo ^ 400 then s.setLane n (fun l => { l with loss := lossOf ahi alo 963 })
  else
    let res := s.fresh
    let v := res.1
    let s := res.2
    s.setLane n (fun l => { l with loss := v % 1024 })

/-- Step 7 of an attempt: FULL in force, the loss recorded, the lane IDLE (Table 7.8, R342). -/
def State.trained (n ahi alo : Nat) (s : State) : State :=
  let s := s.setLoss n ahi alo
  let s := s.setLane n (fun l => { l.filler (1000 * s.clk.dtime) .idle with
    st := .idle, phase := 0, full := true, up := true, down := false, fstartAt := s.clk.dtime })
  ((s.raise0 0x180 n 0).lockBack n).retrainCheck

/-- One request for taps with a new RSEQ (R331, Table 7.8 step 4). -/
def State.laneTaps (n : Nat) (m : TrainMsg) (s : State) : State :=
  let l := vget s.fly n
  if m.rseq = l.rseq then s
  else
    let (t, st) := tapRequest (s.flag (laneAddr n) 3) m.req.toNat (l.txPre, l.txMain, l.txPost)
    s.setLane n (fun l => ({ l with
      rseq := m.rseq, tapStatus := BitVec.ofNat 8 st, txPre := t.1, txMain := t.2.1, txPost := t.2.2 } : Lane).trains (1000 * s.clk.dtime) l.phase)

/-- TRAIN_MESSAGE (Table 7.8). Steps 3 and 5 both run under PHASE 2; PHASE 1 and PHASE 3 end with their countdown (`countdowns`). An
acknowledgement of PHASE 1 counts before the block with COUNT 0 begins (R330). -/
def State.trainMsg (n : Nat) (m : TrainMsg) (s : State) : State :=
  if !s.laneOn n then s
  else
    let s := s.backHeard n
    let l := vget s.fly n
    if l.st ≠ .training then s
    else
      let fl := m.flags.toNat
      let due (t : Nat) : Nat := l.startedAt + t
      match l.phase with
      | 1 =>
        if m.phase = 1 ∧ l.countAt.any (fun t => decide (1000 * s.clk.dtime + l.blockPs < t)) then
          s.setLane n (fun l => { l with acked := true, rseq := m.rseq })
        else s
      | 2 =>
        let s := s.laneTaps n m
        if bit fl 0 then
          let s := s.setLane n (fun l => { l with block := true, phaseDue := if l.block then l.phaseDue else due 6100000 })
          if bit fl 1 then
            let now := s.clk.dtime
            if bit fl 2 && s.flag (laneAddr n) 2 then
              s.setLane n (fun l =>
                let l := ({ l with phase := 3, phaseDue := due 6500000 } : Lane).trains (1000 * now) 3
                { l with countAt := some (l.countEnd now) })
            else s.setLane n (fun l => ({ l with phase := 4, phaseDue := due 7000000 } : Lane).trains (1000 * now) 4)
          else s
        else s
      | 4 => if m.phase = 4 then s.trained n m.ahi.toNat m.alo.toNat else s
      | _ => s

/-- A lane in use is lost (R333). -/
def State.laneLost (n : Nat) (s : State) : State :=
  let s := s.raise0 0x183 n 0
  (s.setLane n (fun l => { l with attempt := 0 })).laneBlind n

/-! ### Backchannel messages -/

/-- What an FBK receiver finds of its polarity in a frame as it arrives: inverted where SYNC reads 0x4A and the CRC is good after inversion,
upright where the frame is good as it is; re-detected at LIMP, kept at FULL (R633). -/
def Lane.polarity (n : Nat) (frame : List Byte) (l : Lane) : Bool :=
  if l.full then l.rxInv
  else if leAt frame 0 1 = 0x4A ∧ backCrcOk n (flipBytes frame) then true
  else if backCrcOk n frame then false
  else l.rxInv

/-- STATUS_MESSAGE (R309, R310, R328, R333); `inverted` says that the frame arrived with every bit inverted. -/
def State.statusMsg (n : Nat) (flags mslip : Nat) (inverted : Bool) (s : State) : State :=
  if (vget s.fly n).st = .furled ∨ !s.pow.logicOn then s
  else
    let s := (s.backGood n).checked n
    let l := vget s.fly n
    let frame := backFrame n 7 (le 1 flags ++ le 1 mslip)
    let s := s.setLane n (fun l => { l with
      block := bit flags 0, kaShown := bit flags 3, mis := bit flags 1
      rxInv := l.polarity n (if inverted then flipBytes frame else frame) })
    let s := if bit flags 1 then (if l.mis then s else s.raise0 0x184 n 0) else s.resolve 0x184 n
    let seen := l.mslipSeen.toNat
    let slips := if seen ≤ mslip then mslip - seen else mslip
    let s := s.setLane n (fun l => { l with mslip := satAdd l.mslip slips, mslipSeen := BitVec.ofNat 8 mslip })
    let s := if 0 < slips then s.raise0 0x185 n 0 else s
    if s.ens.ovr || !l.runs then s
    else if bit flags 0 then (if l.up || !l.bclock then s else s.laneUp n)
    else if l.up then s.laneLost n
    else s

/-- A bad message (R321, R330, R333); the one before it was bad too where it came less than two messages ago. -/
def State.backBad (n : Nat) (s : State) : State :=
  let t := s.clk.dtime
  let s := s.setLane n (fun l => { l with
    bcrc := satAdd l.bcrc 1, badRun := if t < l.runFrom + 960 then l.badRun + 1 else 1, runFrom := t })
  let s := s.raise0 0x186 n 0
  let l := vget s.fly n
  if l.bclock && decide (4 ≤ l.badRun) then
    let s := s.setLane n (fun l => { l with bclock := false })
    if s.ens.ovr then s
    else if l.st = .training then (if l.full then s.trainFail n else s)
    else if l.up then s.laneLost n
    else s
  else s

/-- BACKCHANNEL_DISCARD: a 12-byte frame as it arrives on lane n, inverted by the receiver where its input is (R633). One that passes the
checks of R320 is no bad message; one of a reserved type is counted and discarded, and its CRC is good for the lock (R321, Table 7.6). A CRC that fails is a mismatch of unit n (R596, R597),
whose DATA is the lane, the value folded into its seed. -/
def State.backDiscard (n : Nat) (frame : List Byte) (s : State) : State :=
  if (vget s.fly n).st = .furled ∨ !s.pow.logicOn then s
  else
    let inv := (vget s.fly n).polarity n frame
    let f := if inv then flipBytes frame else frame
    let s := s.setLane n (fun l => { l with rxInv := inv })
    if (backParse n f).isSome then s.backHeard n
    else if backCrcOk n f then ((s.setLane n (fun l => { l with bcrc := satAdd l.bcrc 1 })).raise0 0x186 n 0).backHeard n
    else
      let s := if f.length = 12 ∧ leAt f 0 1 = 0xB5 then
          (s.unitCheck n n (BitVec.ofNat 32 (leAt f 10 2)) (BitVec.ofNat 32 (backCrc n (leAt f 1 1) ((f.drop 2).take 8)).toNat)).2
        else s
      s.backBad n

/-- SUBST_MESSAGE (R323, R600): the engine's CRC check of a line packet failed for CAUSE 1. -/
def State.substMsg (n : Nat) (fseq : Half) (cause : Nat) (line : Nat) (s : State) : State :=
  if (vget s.fly n).st = .furled ∨ !s.pow.logicOn then s
  else
    let s := s.backHeard n
    let s := s.setLane n (fun l => { l with subcnt := satAdd l.subcnt 1 })
    let s := s.markWindow n fseq (fun p => (p.1 + 1, p.2))
    let s :=
      if cause = 1 then
        let hit := (vget s.fly n).crcOut
        let res := s.fresh
        let e := res.1
        let s := res.2
        let res := s.fresh
        let g := res.1
        let s := res.2
        let x := vget s.chk.units n
        let x : CrcUnit := { x with
          cnt := x.cnt + 1, mis := if hit then x.mis else satAdd x.mis 1, inj := if hit then satAdd x.inj 1 else x.inj
          exp := BitVec.ofNat 32 (e % 65536), got := BitVec.ofNat 32 (g % 65536) }
        let s : State := { s with chk := { s.chk with units := vset s.chk.units n x } }
        (s.setLane n (fun l => { l with crcOut := false })).raise0 (unitCode n) n (fseq.toNat * 256 + line)
      else s
    s.judgeSubst n

/-- MARKACK (R340), tA − tM at 10 ps resolution. -/
def State.markack (n : Nat) (resid : Int) (elapsed : Nat) (s : State) : State :=
  if (vget s.fly n).st = .furled ∨ !s.pow.logicOn then s
  else
    let rt : Int := ((elapsed / 10 * 10 : Nat) : Int) - 1000000 - resid - Config.tdev n
    (s.backHeard n).setLane n (fun l => { l with rts := (rt :: l.rts).take 16 })

/-! ### Lane test (R343 to R345) -/

/-- A register's start for a PRBS pattern, not all zeros: a free value. -/
def State.prbsSeed (pattern : Nat) (s : State) : Nat × State := (1 + s.fresh.1 % (2 ^ (prbsTaps pattern).1 - 1), s.fresh.2)

/-- LANE_TEST: DARK, then PRBS blocks on every named lane (R343); which of them are inverted is `Config.injectPick` of a free value
(R344). -/
def State.laneTestRun (id : ReqId) (mask : BitVec 16) (pattern inject ms : Nat) (s : State) : State :=
  if 2 < pattern ∨ ms < 1 ∨ 10000 < ms ∨ (List.range 16).any (fun n => mask.getLsbD n && !(vget s.fly n).up) then s.answer id stBadParam []
  else
    let s := iter (fun n s =>
      if mask.getLsbD n then
        let seed := s.prbsSeed pattern
        let pick := seed.2.fresh
        (pick.2.extraFstart n .dark).setLane n (fun l =>
          { l.filler (1000 * s.clk.dtime) (.prbs pattern seed.1 pick.1 inject) with injcnt := 0, prbs := none })
      else s) 16 s
    { s with eng := { s.eng with laneTest := some (id, mask, s.clk.dtime + ms * 1000000, false) } }

/-- The reply of a lane test: the engine's count of each lane, 0xFFFF_FFFF for a lane without one (R345). -/
def State.laneTestReply (s : State) : State :=
  match s.eng.laneTest with
  | some (id, mask, _, _) =>
    let data := (List.range 16).flatMap (fun n =>
      le 4 (match mask.getLsbD n, (vget s.fly n).prbs with | true, some w => w.toNat | _, _ => 0xFFFFFFFF))
    (s.dropLaneTest.answer id stOk data).event 0x440
  | none => s

/-- The duration has passed and every named lane has reported. -/
def State.laneTestCheck (s : State) : State :=
  match s.eng.laneTest with
  | some (_, mask, _, true) => if (List.range 16).all (fun n => !mask.getLsbD n || (vget s.fly n).prbs.isSome) then s.laneTestReply else s
  | _ => s

/-- LANE_TEST_END. -/
def State.laneTestEnd (s : State) : State :=
  match s.eng.laneTest with
  | some (id, mask, due, false) =>
    if due ≤ s.clk.dtime then
      let s := iter (fun n s => if mask.getLsbD n then s.setLane n (fun l =>
        l.filler (1000 * due) .idle) else s) 16 s
      (({ s with eng := { s.eng with laneTest := some (id, mask, due, true) } } : State)).laneTestCheck
    else s
  | _ => s

/-- PRBSCNT (R345): the count of a lane under test. -/
def State.prbsMsg (n : Nat) (errors : Word) (s : State) : State :=
  if (vget s.fly n).st = .furled ∨ !s.pow.logicOn then s
  else
    let s := s.backHeard n
    match s.eng.laneTest with
    | some (_, mask, _, _) =>
      if mask.getLsbD n then (s.setLane n (fun l => { l with prbs := some errors })).laneTestCheck else s
    | none => s

/-- PRBSCNT_TIMEOUT: 1 ms after the end, lanes without a PRBSCNT report none. -/
def State.prbsTimeout (s : State) : State :=
  match s.eng.laneTest with
  | some (_, _, due, true) => if due + 1000000 ≤ s.clk.dtime then s.laneTestReply else s
  | _ => s

end Sys2Proof.Machine
end

