-- ==== Sys2Proof/Machine/Record.lean ====
section
/-! DEFINITION. The event recorder (R498 to R508) and the acknowledgement of faults (R118 to R121, R482 to R487, R680). -/

namespace Sys2Proof.Machine

/-- Tokens of a code's bucket; a code without an entry has all 4 (R501). -/
def Recorder.tokens (r : Recorder) (code : Nat) : Nat :=
  match r.buckets.find? (fun b => b.code == code) with | some b => b.tokens | none => 4

/-- Take one token: the refill timer starts when the bucket falls below 4 (R501). -/
def Recorder.take (r : Recorder) (code now : Nat) : Recorder :=
  match r.buckets.find? (fun b => b.code == code) with
  | some _ => { r with buckets := r.buckets.map (fun b => if b.code = code then { b with tokens := b.tokens - 1 } else b) }
  | none => { r with buckets := r.buckets ++ [{ code := code, tokens := 3, since := now }] }

/-- Passes the bucket without a token (R502). -/
def Entry.free (e : Entry) : Bool := e.act || e.ack || e.esc

/-- Write one entry into the store; entry 4,094 is followed by EVT_FULL in entry 4,095 (R503, R505). -/
def State.store1 (s : State) (e : Entry) : State :=
  let s : State := { s with evt := { s.evt with store := s.evt.store ++ [e] } }
  if s.evt.store.length = 4095 then
    let s := s.setPend 0x2C0 0
    { s with evt := { s.evt with store := s.evt.store ++ [s.entry 0x2C0 0 0], full := true, raised := s.evt.raised + 1 } }
  else s

/-- The balance of the recorder (R506). -/
def Recorder.balanced (r : Recorder) : Bool :=
  decide (r.raised = BitVec.ofNat 32 r.store.length + r.rlimit + r.fulldrop + r.qovf + BitVec.ofNat 32 r.queue.length)

/-- The oldest entry leaves the queue (R500 to R503), then the balance is checked (R506). -/
def State.queueExit (s : State) : State :=
  match s.evt.queue with
  | [] => s
  | e :: t =>
    let s : State := { s with evt := { s.evt with queue := t, tied := min s.evt.tied t.length } }
    let s : State :=
      if s.evt.full then { s with evt := { s.evt with fulldrop := s.evt.fulldrop + 1 } }
      else if !e.free && decide (s.evt.tokens e.code = 0) then
        { s with evt := { s.evt with
            rlimit := s.evt.rlimit + 1, limcode := e.code,
            lost := if s.evt.lost.contains e.code then s.evt.lost else s.evt.lost ++ [e.code] } }
      else
        let r := if e.free then s.evt else s.evt.take e.code s.clk.dtime
        let e := { e with lost := r.lost.contains e.code }
        ({ s with evt := { r with lost := r.lost.filter (· != e.code) } } : State).store1 e
    if s.evt.balanced then s.resolve 0x2C1 0 else s.raise0 0x2C1 0 0

/-- The refill period in ns (Table 11.6). -/
def State.refillNs (s : State) : Nat := s.fld 0xB0000 7 0 * 1000000

/-- A code's refill timer has run: one token more; the timer starts again or, at 4, stops (R501). -/
def State.refill (s : State) (code : Nat) : State :=
  match s.evt.buckets.find? (fun b => b.code == code) with
  | none => s
  | some b =>
    if s.refillNs ≤ s.clk.dtime - b.since then
      (if b.tokens + 1 = 4 then { s with evt := { s.evt with buckets := s.evt.buckets.filter (fun x => x.code != code) } }
       else { s with evt := { s.evt with buckets := s.evt.buckets.map (fun x =>
         if x.code = code then { x with tokens := x.tokens + 1, since := s.clk.dtime } else x) } })
    else s

/-- A write of REFILL restarts the timer of every bucket below 4 tokens (R501). -/
def State.refillWrite (s : State) (v : Nat) : State :=
  let w := s.act 0xB0000
  let s := s.setAct 0xB0000 (BitVec.ofNat 32 (w / 256 * 256 + max 1 (v % 256)))
  { s with evt := { s.evt with buckets := s.evt.buckets.map (fun b => { b with since := s.clk.dtime }) } }

/-- EVT_RESET (R504, R505). -/
def State.evtReset (s : State) : State :=
  let e := s.entry 0x2C2 0 0
  let s : State := { s with evt := { s.evt with
    store := [], cursor := 0, full := false, raised := 1 + BitVec.ofNat 32 s.evt.queue.length, rlimit := 0, fulldrop := 0, qovf := 0,
    buckets := [], lost := [], gen := s.evt.gen + 1 } }
  (s.setPend 0x2C2 0).store1 e

/-- EVT_READ: the next entries from CURSOR (R508). -/
def State.evtRead (s : State) (count : Nat) : List Byte × State :=
  let n := min count (s.evt.store.length - s.evt.cursor)
  (((s.evt.store.drop s.evt.cursor).take n).flatMap Entry.bytes, { s with evt := { s.evt with cursor := s.evt.cursor + n } })

/-! ### Acknowledgement -/

/-- Faults that a comparison, a pass or a flip resolves: absent while scan-out does not run (R485, R680). -/
def displayFault (code : Nat) : Bool := [0x103, 0x144, 0x145, 0x146, 0x147, 0x148, 0x149, 0x182, 0x183].contains code

/-- Faults of one-time occurrences that are resolved at once (R680): a firmware exception, a stall that has ended, a fuse CRC error. -/
def momentFault (code : Nat) : Bool := [0x046, 0x047, 0x346].contains code

/-- An overcurrent trip counts as resolved while both switches are open and the current is below 20 mA (R440). -/
def State.ocResolved (s : State) : Bool := !s.ens.hsOn && !s.ens.lsOn && decide (s.ens.imeas.toNat < 20)

/-- A switch monitor's condition of Table 10.5 is absent: no current flows through open switches, and the leakage condition needs open
switches and more than 20 mA. -/
def State.monitorClear (s : State) (code : Nat) : Bool :=
  if code = 0x284 then s.ens.hsOn || s.ens.lsOn || decide (s.ens.imeas.toNat ≤ 20)
  else decide (code = 0x282 ∨ code = 0x283 ∨ code = 0x285) && !s.ens.hsOn && !s.ens.lsOn

/-- The condition of an active fault is no longer present (R118, R484). -/
def State.resolved (s : State) (a : Active) : Bool :=
  a.conds.isEmpty || (displayFault a.code && !s.scan.run) || momentFault a.code ||
    (decide (a.code = 0x280 ∨ a.code = 0x281) && s.ocResolved) || s.monitorClear a.code

/-- Remaining active fault of a block with the lowest index (R486). -/
def lowestActive : List Active → Option Active
  | [] => none
  | a :: t => match lowestActive t with
    | some b => if srcIdx a.code ≤ srcIdx b.code then some a else some b
    | none => some a

/-- End the activation of a block's latched fault and refill its latch (R118, R486). -/
def State.ackFault (s : State) (a : Active) : State :=
  let b := srcBlock a.code
  let s : State := { s with flt := { s.flt with active := s.flt.active.filter (fun x => x.code != a.code) } }
  let rest := s.blockActive b
  let l : Latch := match lowestActive rest with
    | some r => { valid := true, idx := srcIdx r.code, cls := r.cls, inst := r.inst % 256, ovf := decide (1 < rest.length) }
    | none => Latch.reset
  let s : State := { s with flt := { s.flt with latch := vset s.flt.latch b l } }
  let s := s.stopTimers a.cls
  let s : State := if a.code = 0x280 ∨ a.code = 0x281 then
      { s with ens := { s.ens with ocTrip := (s.activeOf 0x280).isSome || (s.activeOf 0x281).isSome } } else s
  if s.flt.active.any (fun x => x.cls == clsS) then s else { s with scan := { s.scan with blank := false } }

/-- The recorder entry of an acknowledgement: DATA is the DTIME of the ack (Table 11.4). -/
def State.ackEntry (s : State) (a : Active) : State :=
  s.enqueue { s.entry a.code a.inst s.clk.dtime with ack := true, hv := isEns a.code }

/-- GRACE_TIMER_EXPIRY (R490): a class timer has run for its grace. -/
def State.graceOver (cls : Nat) (s : State) : State :=
  let t := vget s.flt.timers cls
  match t.start with
  | some t0 => if !t.expired && decide (s.grace cls ≤ s.clk.dtime - t0) then s.escalate cls else s
  | none => s

/-- ENSIGN_GRACE_EXPIRY (R491): the Ensign's timer of class P or I has run for its grace. -/
def State.ensGraceOver (power : Bool) (s : State) : State :=
  let t := if power then s.flt.ensP else s.flt.ensI
  match t.start with
  | some t0 => if !t.expired && decide (s.ensGrace (if power then clsP else clsI) ≤ s.clk.now - t0) then s.escalateEns power else s
  | none => s

/-- Timers whose grace has passed at this instant, those of the Ensign among them, expire before an ack (R121). -/
def State.expireFirst (s : State) : State :=
  (((List.range 7).foldl (fun s k => s.graceOver k) s).ensGraceOver true).ensGraceOver false

/-- The fault as it stood before the raises of this instant (R487). -/
def Active.before (now : Nat) (a : Active) : Active :=
  { a with conds := a.conds.filter (fun i => !a.again.any (fun g => g.at_ == now && g.fresh && g.inst == i)) }

/-- The last entry of the queue that is a plain raise of a code is taken back. -/
def Recorder.unraise (r : Recorder) (code : Nat) : Recorder :=
  let back := r.queue.reverse
  match back.findIdx? (fun e => e.code == code && !e.act && !e.ack && !e.esc) with
  | some i => if i < r.tied then { r with queue := (back.eraseIdx i).reverse, raised := r.raised - 1, tied := r.tied - 1 } else r
  | none => r

/-- The newest EVENT of a code that waits on the HV die is an activation. -/
def DieLink.activate (d : DieLink) (code : Nat) : DieLink :=
  let back := d.evBuf.reverse
  match back.findIdx? (fun e => e.code == code && !e.act && !e.esc) with
  | some i => { d with evBuf := (back.modify i (fun e => { e with act := true })).reverse }
  | none => { d with evOut := d.evOut.map (fun o => if o.body.code = code ∧ !o.body.esc then { o with body := { o.body with act := true } } else o) }

/-- A raise that reached the block at the instant of the ack comes after it (R487): where it is the first, it is a new activation. -/
def State.raiseAfter (code cls : Nat) (s : State) (g : Again) : State :=
  let res := s.present code cls g.inst g.data (!isEns code)
  let s := res.1
  if isEns code then
    (if res.2 then ({ s.startEnsTimer cls with dl := s.dl.activate code } : State) else s)
  else
    let s : State := { s with evt := s.evt.unraise code }
    let e : Entry := { s.entry code g.inst g.data with hv := decide (code = 0x3C6 ∨ code = 0x3C7) }
    if res.2 then ((s.startTimer cls).countAct cls).enqueue { e with act := true } else s.enqueue e

/-- FAULT_ACK on an admitted request: status and reply data (Table 2.16). At one instant the ack comes before a raise of its source (R487). -/
def State.faultAck (s : State) (b code : Nat) : State × Nat × List Byte :=
  if 0x11 < b then (s, stBadParam, [])
  else
    let s := s.expireFirst
    let l := vget s.flt.latch b
    match s.activeOf code with
    | none => (s, stStaleAck, [])
    | some a =>
      if !l.valid || srcBlock code != b || l.idx != srcIdx code || decide (a.born = s.clk.now) then (s, stStaleAck, [])
      else if !s.resolved (a.before s.clk.now) then (s, stNotResolved, [])
      else
        let later := a.again.filter (fun g => g.at_ == s.clk.now)
        (later.foldl (State.raiseAfter a.code a.cls) ((s.ackFault a).ackEntry a), stOk,
          le 1 a.cls ++ le 1 (b2n l.ovf) ++ le 2 0 ++ le 8 s.clk.dtime)

end Sys2Proof.Machine
end

