-- ==== Sys2Proof/Machine/RegWrite.lean ====
section
/-! DEFINITION. Writing register words: the checks of R110, the limits that tables put on stored values, commit classes (R17 to R19),
write-one-to-clear bits, and the writes that start something (REL, PATHCTL, CRC.INJ, the RTC, CURSOR, REFILL, PERF.CFG). -/

namespace Sys2Proof.Machine

/-- Field `lo`, `width` of `v` replaced by `f` of it. -/
def remap (v lo width : Nat) (f : Nat → Nat) : Nat :=
  let x := v / 2 ^ lo % 2 ^ width
  v - x * 2 ^ lo + f x % 2 ^ width * 2 ^ lo

/-- Equaliser taps within R331: PRE at most 15, POST at most 24, MAIN at least 24, sum 63. -/
def tapsOk (pre main post : Nat) : Bool := decide (pre ≤ 15 ∧ post ≤ 24 ∧ 24 ≤ main ∧ pre + main + post = 63)

/-- The value that a write of `v` stores in a word, where the word's table limits it; `old` is the value it replaces. -/
def regFix (a v old : Nat) : Nat :=
  if 0x10 ≤ a ∧ a < 0x18 then remap v 2 2 (fun x => if x = 3 then 0 else x)
  else if a = 0x10200 then
    let v := remap v 16 2 (fun x => min x 2)
    let v := remap v 0 7 (clamp 30 70)
    remap v 8 7 (fun x => max (min x 70) (v % 128))
  else if a = 0x10201 then
    let v := remap v 0 10 (fun x => max x 150)
    remap v 16 10 (fun x => min 1000 (max x (v % 1024 + 100)))
  else if a = 0x20000 then remap v 0 6 (clamp 16 56)
  else if a = 0x30000 then remap v 8 10 (fun x => min x 1000)
  else if 0x30400 ≤ a ∧ a < 0x30800 ∧ a % 16 = 0 then remap (remap v 9 2 (fun x => min x 2)) 11 2 (fun x => min x 2)
  else if a = 0x40001 then remap v 0 16 (clamp 500 50000)
  else if a = 0x50001 then remap v 0 7 (clamp 8 80)
  else if a = 0x60000 then remap (remap v 8 8 (fun x => max x 8)) 16 13 (clamp 1000 8000)
  else if a = 0x80000 then remap v 4 6 (fun x => max x 1)
  else if a = 0x80001 then (if tapsOk (bits v 5 0) (bits v 13 8) (bits v 21 16) then v else old)
  else if a = 0xA0000 then remap (remap v 8 8 (clamp 40 200)) 16 8 (clamp 20 250)
  else if a = 0xA0001 then remap (remap v 0 8 (clamp 20 120)) 8 8 (clamp 5 40)
  else if a = 0xB0000 then remap v 0 8 (fun x => max x 1)
  else if a = 0xC0000 then remap (remap v 8 6 (fun x => max x 1)) 16 8 (clamp 20 200)
  else if a = 0xC0002 then remap v 16 2 (fun x => max x 1)
  else if a = 0xE0000 then remap v 0 5 (fun x => min x 20)
  else v

/-- A word holds an H field of a running block (R19, R463). -/
def State.regBusy (s : State) (a : Nat) : Bool :=
  match regInfo a with
  | some r => r.halt && s.ens.running
  | none => false

/-- The check of R110 on one word: none when it may be accessed. -/
def State.regCheck (s : State) (p : Port) (write : Bool) (a : Nat) : Option Nat :=
  match regInfo a with
  | none => some stBadAddr
  | some _ =>
    if write && decide (p = .wspi) then some stPortDenied
    else if write && s.regBusy a then some stBusy
    else none

/-- The RTC alarm flag sets, with RTC_ALARM (R53, R675). -/
def State.setAlarm (s : State) : State :=
  let was := s.flag 0x100007 0
  let s := s.hwSet 0x100007 1
  if was then s else s.raiseHv 0x400 0 0

/-- The comparison of R675 at a write. -/
def State.compareAlarm (s : State) : State :=
  if s.flag 0x100006 0 && decide (s.rtc.count = s.rtc.alarm.toNat) then s.setAlarm else s

/-- ALARMH: both staged halves become active (R674). -/
def State.alarmhWrite (v : Word) (s : State) : State :=
  let s := s.setAct 0x100003 (v &&& 0xFF)
  let s : State := { s with rtc := { s.rtc with alarm := BitVec.ofNat 40 (s.act 0x100003 * 2 ^ 32 + s.act 0x100002) } }
  s.compareAlarm

/-- One second more (R675). -/
def State.rtcCount (s : State) : State :=
  ({ s with rtc := { s.rtc with count := (s.rtc.count + 1) % 2 ^ 40, since := s.clk.now } } : State).compareAlarm

/-- An increment of the count may fall now: a second has passed since the last, within the 5 % by which R433 allows the oscillator to be fast. -/
def State.rtcDue (s : State) : Bool := s.pow.vbat && decide (s.rtc.since + 950000000 ≤ s.clk.now)

/-- An increment that falls at this instant and waits behind the command in hand is applied first (R676). -/
def State.rtcFirst (s : State) : State := if s.pending.contains (.rtcTick s.clk.now) && s.rtcDue then s.rtcCount else s

/-- LOAD (R675, R676). -/
def State.rtcLoad (s : State) : State :=
  let s := s.rtcFirst
  let v := s.act 0x100005 * 2 ^ 32 + s.act 0x100004
  let c := s.rtc.count
  if v < c then s.hwSet 0x100007 8
  else
    let s : State := { s with rtc := { s.rtc with count := v, since := s.clk.now } }
    let s := if s.flag 0x100006 0 && decide (c < s.rtc.alarm.toNat ∧ s.rtc.alarm.toNat ≤ v) then s.setAlarm else s
    s.raiseHv 0x402 0 ((v - c) % 2 ^ 32)

/-- CTRL: ALEN, then LOAD (Table 18.5). -/
def State.rtcCtrl (v : Nat) (s : State) : State :=
  let was := s.flag 0x100006 0
  let s := s.setAct 0x100006 (BitVec.ofNat 32 (v % 2))
  let s := if !was then s.compareAlarm else s
  if bit v 1 then s.rtcLoad else s

/-- REL: every held pad takes its logic-die value (R72, R74). -/
def State.rel (s : State) : State :=
  if s.pow.padHeld then (({ s with pow := { s.pow with padHeld := false } } : State)).event 0x008 else s

/-- START of the path measurement (R377); refused outside READY. A frame start with DARK goes out, and KEEP follows while the run lasts. The
current step is known at the PATHCTL_START row and at its end. -/
def State.pathStart (s : State) : State :=
  if s.mode.cur = .ready ∧ s.mode.trans.isNone ∧ !s.eng.pathBusy then
    iter (fun n s => if (vget s.fly n).st = .idle then s.extraFstart n .dark else s) 16
      { s with eng := { s.eng with pathBusy := true, pathRefused := false } }
  else { s with eng := { s.eng with pathRefused := true, pathValid := false } }

/-- ARM of an injection, in SERVICE only; elsewhere a write of ARM = 1 is ignored whole (R600). -/
def State.crcArm (s : State) : State :=
  if h : s.mode.cur = .service ∧ s.fld 0xE0000 4 0 < 21 then
    { s with chk := { s.chk with armed := some ⟨s.fld 0xE0000 4 0, h.2⟩ } }
  else s

/-- A write of CURSOR above COUNT stores COUNT (R507). -/
def State.cursorWrite (v : Nat) (s : State) : State :=
  { s with evt := { s.evt with cursor := min (v % 8192) s.evt.store.length } }

/-- A write of the live and write-one-to-clear bits of a plain word; a bit that hardware has set at this instant is not cleared (R14). -/
def State.writeLive (a : Nat) (v : Word) (r : RegInfo) (s : State) : State :=
  let old := s.actW a
  let kept := old &&& ~~~(BitVec.ofNat 32 r.rw) &&& ~~~(v &&& BitVec.ofNat 32 r.w1c &&& ~~~(hotBits s.regs.hot a))
  s.setAct a (kept ||| BitVec.ofNat 32 (regFix a (v.toNat &&& r.rw) (old.toNat &&& r.rw)))

/-- A write of the F fields of a plain word goes to the shadow and stages its group (R18, R108). -/
def State.writeShadow (a g : Nat) (v : Word) (r : RegInfo) (s : State) : State :=
  let old := s.shdW a
  let s := s.setShd a (BitVec.ofNat 32 (regFix a (v.toNat &&& r.rw) (old.toNat &&& r.rw)))
  { s with regs := { s.regs with staged := s.regs.staged ||| BitVec.ofNat 8 (2 ^ g) } }

/-- A write of one mapped word at its plain address, with what the write starts. -/
def State.writePlain (a : Nat) (v : Word) (s : State) : State :=
  match regInfo a with
  | none => s
  | some r =>
    match r.grp with
    | some g => s.writeShadow a g v r
    | none =>
      if a = 0x100003 then s.alarmhWrite v
      else if a = 0x100006 then s.rtcCtrl v.toNat
      else if a = 0xB0002 then s.cursorWrite v.toNat
      else if a = 0xE0000 ∧ bit v.toNat 8 ∧ s.mode.cur ≠ .service then s
      else
        let aim := s.vaim
        let s := s.writeLive a v r
        if a = 0x00005 then (if bit v.toNat 0 then s.rel else s)
        else if a = 0x70008 then (if bit v.toNat 0 then s.pathStart else s)
        else if a = 0xE0000 then (if bit v.toNat 8 then s.crcArm else s)
        else if a = 0xB0000 then s.refillWrite (v.toNat % 256)
        else if a = 0x10200 then s.perfWritten aim
        else if a = 0x10203 then s.newMargin
        else s

/-- A write at either view (R108, R667). -/
def State.writeWord (a : Nat) (v : Word) (s : State) : State := s.writePlain (addrPlain a) v

/-- One word written by a command or a host message, after the check of R110; a word that fails it is left as it is. -/
def State.regWrite (p : Port) (a : Nat) (v : Word) (s : State) : State :=
  match s.regCheck p true a with
  | some _ => s
  | none => s.writeWord a v

/-- The word lies on the HV die (R669, R670). -/
def regHv (a : Nat) : Bool := match regInfo a with | some r => r.hv | none => false

end Sys2Proof.Machine
end

