-- ==== Sys2Proof/Machine/Light.lean ====
section
/-! DEFINITION. The light engine (chapter 8): bring-up step 7, the answers to CTRL operations, and the commands that read, write and
measure the engine. -/

namespace Sys2Proof.Machine

/-! ### Burgee and optics table (R351 to R355) -/

/-- The conditions of R353 on the fields of a burgee. -/
def burgeeGood (b : List Byte) : Bool :=
  let emit := burg b 7 1
  decide (burg b 0 4 = 0x45475242 ∧ burg b 4 1 = 1) &&
    decide ((burg b 5 1 = 16 ∧ burg b 6 1 = 2) ∨ (burg b 5 1 = 8 ∧ burg b 6 1 = 1)) && decide (emit = 1 ∨ emit = 2) &&
    decide (countBelow (bit (burg b 20 2)) 16 = burg b 5 1) &&
    decide (burg b 24 2 ≠ 0 ∧ burg b 28 2 ≠ 0 ∧ burg b 32 4 ≠ 0 ∧ (emit = 2 → burg b 30 2 ≠ 0) ∧ burg b 45 1 = 6)

/-- The s16 values of a byte string. -/
def s16s : Nat → List Byte → List Int
  | 0, _ => []
  | n + 1, b => signed 16 (leAt b 0 2) :: s16s n (b.drop 2)

def increasing : List Int → Bool
  | a :: b :: t => decide (a < b) && increasing (b :: t)
  | _ => true

def opticsCola (b : List Byte) : List Int := s16s 2049 b
def opticsRowa (b : List Byte) : List Int := s16s 513 (b.drop 4098)
def opticsGood (b : List Byte) : Bool := increasing (opticsCola b) && increasing (opticsRowa b).reverse

/-- Lane 8's engine makes a clone pair with lane 0's (R354). -/
def pairGood (b0 b8 : List Byte) : Bool :=
  halfBurgee b8 && decide (burg b0 7 1 = burg b8 7 1 ∧ burg b0 28 4 = burg b8 28 4 ∧ burg b0 44 1 = burg b8 44 1)

def State.setEng (f : Engine → Engine) (s : State) : State := { s with eng := f s.eng }

/-- A lane cannot be read at step 7: down, or furled by an applied LANES set. -/
def State.laneDead (s : State) (n : Nat) : Bool := (vget s.fly n).down || decide ((vget s.fly n).st = .furled)

/-- The engine stays unread: step 7 has failed, the device stays at step 6 (Table 1.8). -/
def State.step7Fail (code : Nat) (s : State) : State := (s.setEng (fun e => { e with step7 := .failed })).event code

/-- An operation of bring-up, counted from its first try. -/
def State.step7Read (st : Step7) (n : Nat) (u : CtrlUse) (addr count : Nat) (s : State) : State :=
  (s.setEng (fun e => { e with step7 := st, tries := 0 })).ctrlSend n u addr count

/-- The lanes without a segment furl, and lose EN in both copies (R324). -/
def State.unmap (map : BitVec 16) (s : State) : State :=
  iter (fun n s =>
    if map.getLsbD n then s
    else
      let a := laneAddr n
      let s := s.hwClr a 1
      (s.setShd a (s.shdW a &&& ~~~1#32)).laneFurl n) 16 s

/-- What R355 sets from the accepted burgee or burgees; then the life ring is read (R371). -/
def State.acceptEngine (pair : Bool) (s : State) : State :=
  let b0 := s.eng.burgee0
  let b8 := s.eng.burgee8
  let map0 := if halfBurgee b0 then burg b0 20 1 else burg b0 20 2
  let map : BitVec 16 := BitVec.ofNat 16 (map0 + (if pair then 256 * burg b8 20 1 else 0))
  let pmax : Word := BitVec.ofNat 32 ((burg b0 24 2 + (if pair then burg b8 24 2 else 0)) % 65536)
  let s := s.setEng (fun e => { e with engId := true, pair := pair, laneMap := map, burgee8 := if pair then e.burgee8 else [] })
  let s := (s.setAct 0xF0000 (s.actW 0xF0000 &&& 0xFFFF0000#32 ||| pmax)).setShd 0xF0000 (s.shdW 0xF0000 &&& 0xFFFF0000#32 ||| pmax)
  let s : State := { s with tok := { s.tok with ecw := burg b0 28 2, eam := burg b0 30 2 } }
  (((s.budgetMoved).unmap map).calEngine).step7Read .ring 0 .ring 0x32000 0x4000

/-- The engine on lane 0 is accepted; a half engine may have a twin on lane 8, read once its lane is up (R354). -/
def State.firstEngine (s : State) : State :=
  if halfBurgee s.eng.burgee0 then s.setEng (fun e => { e with step7 := .burgee8, burgee8 := [] }) else s.acceptEngine false

/-- A try to read lane n's burgee or optics table fails (Table 1.8, R354). -/
def State.burgeeFail (n : Nat) (u : CtrlUse) (addr count : Nat) (s : State) : State :=
  let s := s.setEng (fun e => { e with tries := e.tries + 1 })
  if s.eng.tries < 3 then s.ctrlSend n u addr count
  else if n = 0 then s.step7Fail 0x1C1
  else s.acceptEngine false

/-- Lane n's burgee or optics table breaks a condition of R353 other than its CRC. -/
def State.burgeeBad (n : Nat) (s : State) : State := if n = 0 then s.step7Fail 0x1C0 else (s.event 0x1C0).acceptEngine false

/-- Lane n's burgee has been read. -/
def State.burgeeRead (n : Nat) (b : List Byte) (s : State) : State :=
  let res := s.sealCheck 0x30000 b
  let s := res.2
  if !res.1 then s.burgeeFail n .burgee 0x30000 256
  else if !burgeeGood b then s.burgeeBad n
  else
    let s := s.setEng (fun e => if n = 0 then { e with burgee0 := b } else { e with burgee8 := b })
    if burg b 44 1 = 1 then s.step7Read .optics n .optics 0x30100 5128
    else if n = 0 then (({ s with mask := { s.mask with cola := [], rowa := [] } } : State)).firstEngine
    else s.acceptEngine (pairGood s.eng.burgee0 b)

/-- Lane n's optics table has been read. -/
def State.opticsRead (n : Nat) (b : List Byte) (s : State) : State :=
  let res := s.sealCheck 0x30100 b
  let s := res.2
  if !res.1 then s.burgeeFail n .optics 0x30100 5128
  else if !opticsGood b then s.burgeeBad n
  else if n = 0 then (({ s with mask := { s.mask with cola := opticsCola b, rowa := opticsRowa b } } : State)).firstEngine
  else s.acceptEngine (pairGood s.eng.burgee0 s.eng.burgee8)

/-! ### Ring and log (R371, R376) -/

/-- The entry of greatest number, the first of equal ones. -/
def newest (l : List (Nat × Nat)) : Option (Nat × Nat) :=
  l.foldl (fun m x => match m with | some y => if y.1 < x.1 then some x else some y | none => some x) none

/-- The entries of a region that `check` accepts, with their numbers, checked one after another. -/
def State.entriesOf (check : Nat → State → Option Nat × State) (n : Nat) (s : State) : List (Nat × Nat) × State :=
  (List.range n).foldl (fun p k =>
    let res := check k p.2
    (match res.1 with | some g => p.1 ++ [(g, k)] | none => p.1, res.2)) ([], s)

/-- GEN of slot k of a ring image, where its MAGIC and VERSION are right and unit 20 finds its CRC so. -/
def State.ringGen (ring : List Byte) (k : Nat) (s : State) : Option Nat × State :=
  let b := (ring.drop (256 * k)).take 256
  if leAt b 0 2 = 0x4C52 ∧ leAt b 2 1 = 1 then
    let res := s.sealCheck (0x32000 + 256 * k) b
    (if res.1 then some (leAt b 4 4) else none, res.2)
  else (none, s)

/-- SESS of session k of a log image, where its MAGIC is right and unit 20 finds both its CRCs so. -/
def State.logSess (log : List Byte) (k : Nat) (s : State) : Option Nat × State :=
  let b := (log.drop (2048 * k)).take 256
  let body := (log.drop (2048 * k + 256)).take 1024
  let base := 0x36000 + 2048 * k
  if leAt b 0 2 = 0x534C then
    let head := s.sealCheck base b
    if head.1 then
      let res := head.2.unitCheck 20 (base + 256) (BitVec.ofNat 32 (leAt b 28 4)) (crc32 (BitVec.ofNat 32 (base + 256)) body)
      (if res.1 then some (leAt b 4 4) else none, res.2)
    else (none, head.2)
  else (none, s)

/-- EOL bits as the loaded accumulators give them, without the events of a crossing (R375). -/
def State.eolLoad (s : State) : State :=
  let past (p n : Nat) : Bool := s.mapped n && decide (p * burg (s.burgeeOf n) 32 4 ≤ s.stress n)
  s.setEng (fun e => { e with eol90 := BitVec.ofNat 16 (bitsOf (past 90) 16), eol100 := BitVec.ofNat 16 (bitsOf (past 100) 16) })

/-- The ring has been read, or could not be read in three tries. -/
def State.ringRead (ring : List Byte) (s : State) : State :=
  let found := State.entriesOf (State.ringGen ring) 64 s
  let s := found.2
  let s := match newest found.1 with
    | some (g, k) =>
      let b := (ring.drop (256 * k)).take 256
      s.setEng (fun e => { e with
        gen := some g, slot := k, beamSec := leAt b 16 4, beamNs := 0,
        acc := iter (fun i v => vset v i (leAt b (32 + 8 * i) 8)) 16 e.acc })
    | none => (s.setEng (fun e => { e with gen := none, slot := 0, acc := Vector.replicate 16 0, beamSec := 0, beamNs := 0 })).event 0x1C4
  let s := s.eolLoad
  (s.setEng (fun e => { e with markNs := s.beamTime })).step7Read .log 0 .log 0x36000 0x8000

/-- The log has been read; the gain maps follow. -/
def State.logRead (log : List Byte) (s : State) : State :=
  let found := State.entriesOf (State.logSess log) 16 s
  let sess := (newest found.1).map (·.1)
  found.2.setEng (fun e => { e with sess := sess, step7 := .gain, gainDone := 0, gainBad := 0, gainTries := Vector.replicate 16 0 })

/-! ### Gain maps (R243, R358, R359) -/

/-- Byte address in the gain region of line l of lane n's segment. -/
def gainLine (n l : Nat) : Nat := gainBase + 2 * ((256 * (n / 8) + l) * 2048 + 256 * (n % 8))

/-- Lines of a segment's gain map from line l on. -/
def State.gainPut (n : Nat) : Nat → Nat → List Byte → State → State
  | 0, _, _, s => s
  | k + 1, l, b, s => State.gainPut n k (l + 1) (b.drop 512) (s.storePut (gainLine n l) (b.take 512))

/-- R358: the gain region of a clone pair, from the maps of its two engines in rows 0–255 and 256–511. -/
def clonePair (m : List Host.Cell) : List Byte :=
  (List.range 256).flatMap (fun r => (List.range 2048).flatMap (fun c => [0, 1].map (fun e =>
    BitVec.ofNat 8 (min (gainAt m e c r) (min (gainAt m e c (256 + r)) (gainAt m e (2047 - c) (256 + r)))))))

/-- Every mapped segment has its gain map or has failed: step 7 is over. -/
def State.gainCheck (s : State) : State :=
  if s.eng.step7 = .gain ∧ s.eng.gainDone &&& s.eng.laneMap = s.eng.laneMap then
    let s := if s.eng.pair then s.storePut gainBase (clonePair (s.memSeen 4) ++ List.replicate 1048576 0) else s
    s.setEng (fun e => { e with step7 := .done, gainOk := decide (e.gainBad = 0) })
  else s

def State.gainMark (n : Nat) (s : State) : State :=
  (s.setEng (fun e => { e with gainDone := e.gainDone ||| BitVec.ofNat 16 (2 ^ n) })).gainCheck

/-- A segment keeps gain 0 (R359). -/
def State.gainLost (n : Nat) (s : State) : State :=
  let s := s.gainPut n 256 0 (List.replicate 131072 0)
  let s := s.setEng (fun e => { e with gainBad := e.gainBad ||| BitVec.ofNat 16 (2 ^ n) })
  (s.raise0 0x1C2 n 0).gainMark n

/-- A quarter of lane n's gain map has been read from `addr`. -/
def State.gainRead (n addr : Nat) (b : List Byte) (s : State) : State :=
  let s := s.gainPut n 64 (addr / 512) b
  if addr + 0x8000 < 0x20000 then s.ctrlSend n .gain (addr + 0x8000) 0x8000 else s.gainMark n

def State.gainFail (n addr : Nat) (s : State) : State :=
  let s := s.setEng (fun e => { e with gainTries := vmod e.gainTries n (· + 1) })
  if vget s.eng.gainTries n < 3 then s.ctrlSend n .gain addr 0x8000 else s.gainLost n

/-- Step 7 goes on as lanes come up (Table 1.6, R354, R359); not while the Ensign drives the lanes. -/
def State.step7Check (s : State) : State :=
  if s.ens.ovr || decide (s.mode.step < 6) || decide (s.mode.sleep ≠ .none) then s
  else
    match s.eng.step7 with
    | .wait =>
      if s.laneDead 0 then s.step7Fail 0x1C1
      else if (vget s.fly 0).up then s.step7Read .burgee 0 .burgee 0x30000 256
      else s
    | .burgee8 =>
      if (vget s.fly 8).busyWith (fun u => decide (u = .burgee)) then s
      else if s.laneDead 8 then s.acceptEngine false
      else if (vget s.fly 8).up then s.step7Read .burgee8 8 .burgee 0x30000 256
      else s
    | .gain =>
      iter (fun n s =>
        if !s.mapped n || s.eng.gainDone.getLsbD n || (vget s.fly n).busyWith (fun u => decide (u = .gain)) then s
        else if s.laneDead n then s.gainLost n
        else if (vget s.fly n).up then s.ctrlSend n .gain 0 0x8000
        else s) 16 s
    | _ => s

/-- A read of bring-up is discarded, refused or unanswered. Under override it is asked for again later and is no failed try. -/
def State.step7Lost (n : Nat) (c : Ctrl) (s : State) : State :=
  if s.ens.ovr || decide (s.mode.sleep ≠ .none) then s.setEng (fun e => { e with step7 := .wait, tries := 0 })
  else
    match c.use with
    | .burgee => s.burgeeFail n .burgee c.addr c.count
    | .optics => s.burgeeFail n .optics c.addr c.count
    | .gain => if s.eng.step7 = .gain then s.gainFail n c.addr else s
    | u =>
      let s := s.setEng (fun e => { e with tries := e.tries + 1 })
      if s.eng.tries < 3 then s.ctrlSend n u c.addr c.count
      else if u = .ring then s.ringRead []
      else s.logRead []

/-! ### Answers (R337 to R339) -/

/-- The partial page at the front of lane n's job is completed by the bytes read (R350). -/
def State.merged (n : Nat) (b : List Byte) (s : State) : State :=
  (s.modJob n (fun j => match j.pages with
    | p :: t => some { j with pages := { p with addr := p.addr / 256 * 256, data := putBytes (p.addr % 256) p.data b } :: t }
    | [] => some j)).jobStep n

/-- The keep-alive pattern of lane n has been read back (R364). -/
def State.kaBack (n : Nat) (b : List Byte) (s : State) : State :=
  match s.eng.kaCheck with
  | some (id, l) =>
    if l.any (fun p => p.1 == n && p.2 != b) then (s.raise0 0x1C3 n 0).endKa stCrcMismatch
    else
      let l := l.filter (fun p => p.1 != n)
      if l.isEmpty then (({ s with eng := { s.eng with kaCheck := none } } : State)).answer id stOk []
      else { s with eng := { s.eng with kaCheck := some (id, l) } }
  | none => s

/-- The host's NV read ends. -/
def State.hostReadEnd (n st : Nat) (b : List Byte) (s : State) : State :=
  match s.eng.nvRead with
  | some (id, k) => if k = n then (({ s with eng := { s.eng with nvRead := none } } : State)).answer id st b else s
  | none => s

/-- A census result arrives, or does not; at the last one the command is answered (R356). -/
def State.censusGot (n : Nat) (r : Half × Half) (s : State) : State :=
  match s.eng.census with
  | some (id, mask, v, wait) =>
    let v := vset v n r
    let wait := wait &&& ~~~(BitVec.ofNat 16 (2 ^ n))
    if wait = 0 then
      ((({ s with eng := { s.eng with census := none } } : State)).answer id stOk
        (v.toList.flatMap (fun x => le 2 x.1.toNat ++ le 2 x.2.toNat))).event 0x1CD
    else { s with eng := { s.eng with census := some (id, mask, v, wait) } }
  | none => s

/-- The jobs of a lane go on with the first that can (R373). -/
def State.jobsGo (n : Nat) (s : State) : State := iter (fun _ s => s.jobStep n) 4 s

/-- An operation ends without its result; `st` answers a host command that waits for it. -/
def State.ctrlLost (n : Nat) (c : Ctrl) (st : Nat) (s : State) : State :=
  match c.use with
  | .hostRead => s.hostReadEnd n st []
  | .census => s.endCensus st
  | .wave => s
  | .dropped _ _ => s.jobsGo n
  | .mergeRead => (s.jobFail n st).jobsGo n
  | .pageLoad => (s.jobFail n st).jobsGo n
  | .pageProg => (s.jobFail n st).jobsGo n
  | .kaRead => s.endKa st
  | _ => s.step7Lost n c

/-- The engine's backchannel is heard on lane n. -/
def State.backOn (s : State) (n : Nat) : Bool := decide ((vget s.fly n).st ≠ .furled) && s.pow.logicOn

/-- NVDATA (R338, R339). -/
def State.nvData (n : Nat) (seq : Byte) (data : List Byte) (s : State) : State :=
  if !s.backOn n then s
  else
    let s := s.backHeard n
    match (vget s.fly n).read with
    | none => s
    | some r =>
      if seq = r.seq then s.setLane n (fun l => { l with read := some { seq := r.seq + 1, data := r.data ++ (data ++ List.replicate 7 0).take 7 } })
      else
        let addr := (((vget s.fly n).ctrl.find? (fun c => c.use.isRead)).map (·.addr)).getD 0
        (s.setLane n (fun l => { l with read := none })).seqMismatch addr

/-- A read has its bytes. -/
def State.readDone (n : Nat) (c : Ctrl) (b : List Byte) (s : State) : State :=
  match c.use with
  | .burgee => s.burgeeRead n b
  | .optics => s.opticsRead n b
  | .ring => s.ringRead b
  | .log => s.logRead b
  | .gain => if s.eng.step7 = .gain then s.gainRead n c.addr b else s
  | .hostRead => s.hostReadEnd n stOk b
  | .mergeRead => s.merged n b
  | .kaRead => s.kaBack n b
  | .dropped _ _ => s.jobsGo n
  | _ => s

/-- NVEND (R338, R339): the CRC over the bytes read accepts or discards the read. -/
def State.nvEnd (n : Nat) (tag status : Nat) (crc : Word) (s : State) : State :=
  if !s.backOn n then s
  else
    let s := s.backHeard n
    let l := vget s.fly n
    match l.ctrl.find? (fun c => c.tag.toNat == tag && c.use.isRead) with
    | none => s
    | some c =>
      let got := l.read
      let s := s.ctrlEnd n c
      if c.use.isDropped then s.jobsGo n
      else match got with
      | none => let res := failStatus s; res.2.ctrlLost n c res.1
      | some r =>
        let b := r.data.take c.count
        if status ≠ 0 then let res := failStatus s; res.2.ctrlLost n c res.1
        else
          let res := s.unitCheck 20 c.addr crc (crc32 (BitVec.ofNat 32 c.addr) b)
          let ok := res.1
          let s := res.2
          if ok && decide (b.length = c.count) then s.readDone n c b
          else let res := failStatus s; res.2.ctrlLost n c res.1

/-- CTRLACK of an operation other than a read. -/
def State.ctrlAck (n : Nat) (tag status : Nat) (data : BitVec 48) (s : State) : State :=
  if !s.backOn n then s
  else
    let s := s.backHeard n
    match (vget s.fly n).ctrl.find? (fun c => c.tag.toNat == tag && !c.use.isRead) with
    | none => s
    | some c =>
      let s := s.ctrlEnd n c
      if c.use.isDropped then s.jobsGo n
      else if status ≠ 0 then let res := failStatus s; res.2.ctrlLost n c res.1
      else
        match c.use with
        | .pageLoad => (s.modJob n (fun j => some { j with loaded := j.loaded + 1 })).jobStep n
        | .pageProg =>
          (match s.eng.jobs.find? (fun j => j.lane == n) with
           | some j =>
             if j.pages.length ≤ 1 then (s.jobDone n).jobsGo n
             else (s.modJob n (fun j => some { j with pages := j.pages.drop 1, loaded := 0 })).jobStep n
           | none => s)
        | .census => s.censusGot n (data.extractLsb' 0 16, data.extractLsb' 16 16)
        | _ => s

/-- CTRL_TIMEOUT: an operation unanswered 10 ms after its block has left (R339); one that has not left does not run out. -/
def State.ctrlTimeout (n : Nat) (tag : BitVec 2) (s : State) : State :=
  match (vget s.fly n).ctrl.find? (fun c => c.tag == tag) with
  | some c =>
    let l := vget s.fly n
    if (l.leftAt (l.slotsBy s.clk.dtime) c).any (fun t => decide (t + 10000000 ≤ s.clk.dtime)) then (((s.ctrlEnd n c).raise0 0x189 n 0)).ctrlLost n c stTimeout else s
  | none => s

/-! ### Commands (R348 to R350, R355, R361 to R364, R370) -/

/-- Lane n carries the first receiver of its engine (chapter 8, "Engine shapes"). -/
def State.firstReceiver (s : State) (n : Nat) : Bool := decide (n = 0) || (s.eng.pair && decide (n = 8))

/-- ENGINE_INFO; with no burgee accepted there is nothing stored to return. -/
def State.engineInfo (id : ReqId) (s : State) : State :=
  if s.eng.engId then s.answer id stOk (s.eng.burgee0 ++ s.eng.burgee8) else s.answer id stTimeout []

/-- ENGINE_NV_READ (R348). -/
def State.nvReadRun (id : ReqId) (seg count addr : Nat) (s : State) : State :=
  if 16 ≤ seg ∨ !s.mapped seg ∨ count < 1 ∨ 1024 < count ∨ 0x40000 < addr + count ∨ (!s.firstReceiver seg ∧ 0x30000 < addr + count) then
    s.answer id stBadParam []
  else (({ s with eng := { s.eng with nvRead := some (id, seg) } } : State)).ctrlSend seg .hostRead addr count

/-- The pages that a write of bytes from `addr` touches, each with the bytes it takes. -/
def pagesOf (lane : Nat) : Nat → Nat → List Byte → List Page
  | 0, _, _ => []
  | n + 1, addr, b =>
    if b.isEmpty then []
    else
      let k := 256 - addr % 256
      { lane := lane, addr := addr, data := b.take k } :: pagesOf lane n (addr + k) (b.drop k)

/-- ENGINE_NV_WRITE (R349, R350). -/
def State.nvWriteRun (id : ReqId) (seg addr : Nat) (data : List Byte) (s : State) : State :=
  let top := addr + data.length
  let user := s.firstReceiver seg && decide (0x3E000 ≤ addr ∧ top ≤ 0x40000)
  if 16 ≤ seg ∨ !s.mapped seg ∨ data.length < 1 ∨ 1012 < data.length ∨ (0x20000 < top ∧ !user) then s.answer id stBadParam []
  else
    let j : Job := { use := .host id, pages := pagesOf seg 6 addr data, loaded := 0 }
    (({ s with eng := { s.eng with jobs := s.eng.jobs ++ [j] } } : State)).jobStep seg

/-- Byte of a Y8 surface. -/
def State.y8 (s : State) (u : Surface) (x y : Nat) : Nat := (s.storeByte (128 * u.base + y * u.stride + x)).toNat

/-- The engine pixels of segment n as the surface gives them: level of pixel x in line l (R361). -/
def State.kaLevel (s : State) (u : Surface) (n x l : Nat) : Nat := s.y8 u (256 * (n % 8) + x) (256 * (n / 8) + l)

/-- The packed pattern of a segment (chapter 8, "The keep-alive pattern"). -/
def State.kaPattern (s : State) (u : Surface) (n : Nat) : List Byte :=
  (List.range 256).flatMap (fun l => (List.range 128).map (fun k =>
    BitVec.ofNat 8 (s.kaLevel u n (2 * k) l + 16 * s.kaLevel u n (2 * k + 1) l)))

/-- R361: the surface fits the engine fitted. -/
def State.kaSurface (s : State) (u : Surface) : Bool :=
  let rows := if halfBurgee s.eng.burgee0 && !s.eng.pair then 256 else 512
  s.eng.engId && s.mask.ceilOk && decide (u.st = .leased ∧ u.format = 1 ∧ u.width = 2048 ∧ u.height = rows) &&
    (List.range rows).all (fun y => (List.range 2048).all (fun x => decide (s.y8 u x y ≤ 15)))

/-- R362: no pixel of a segment is above its ceiling cap at full flux. -/
def State.kaUnder (s : State) (u : Surface) (n : Nat) : Bool :=
  let t := s.act 0x50000
  (List.range 256).all (fun l => (List.range 256).all (fun x =>
    let p := pixelAt t n l x
    decide (4369 * s.kaLevel u n x l ≤ ceilAt s.store.mem 0 p.1 p.2)))

/-- KEEPALIVE_WRITE (R361 to R364). -/
def State.kaRun (id : ReqId) (seg surf : Nat) (crc : Word) (s : State) : State :=
  let lanes := if seg = 0xFF then (List.range 16).filter s.mapped else if seg < 16 ∧ s.mapped seg then [seg] else []
  let u := s.surf surf
  if lanes.isEmpty ∨ 128 ≤ surf ∨ !s.kaSurface u ∨ !lanes.all (s.kaUnder u) then s.answer id stBadParam []
  else
    let pats := lanes.map (fun n => (n, s.kaPattern u n))
    let res := s.unitCheck 20 0x20000 crc (crc32 0x20000#32 (pats.flatMap (·.2)))
    let s := res.2
    if !res.1 then s.answer id stCrcMismatch []
    else
      let job (p : Nat × List Byte) : Job := { use := .keepalive id, pages := pagesOf p.1 128 0x20000 p.2, loaded := 0 }
      let s := s.setEng (fun e => { e with kaCheck := some (id, pats), jobs := e.jobs ++ pats.map job })
      lanes.foldl (fun s n => s.jobStep n) s

/-- PIXEL_CENSUS: the mapped lanes named run CENSUS; unmapped ones named read 0xFFFF. The spec gives no value for a lane not named. -/
def State.censusRun (id : ReqId) (mask : BitVec 16) (s : State) : State :=
  let wait := mask &&& s.eng.laneMap
  let res := iter (fun n (p : Vector (Half × Half) 16 × State) =>
    if mask.getLsbD n then p
    else
      let res := p.2.fresh
      let a := res.1
      let s := res.2
      let res := s.fresh
      let b := res.1
      let s := res.2
      (vset p.1 n (BitVec.ofNat 16 a, BitVec.ofNat 16 b), s)) 16 (Vector.replicate 16 (0xFFFF#16, 0xFFFF#16), s)
  let v := res.1
  let s := res.2
  if wait = 0 then (s.answer id stOk (v.toList.flatMap (fun x => le 2 x.1.toNat ++ le 2 x.2.toNat))).event 0x1CD
  else
    let s : State := { s with eng := { s.eng with census := some (id, mask, v, wait) } }
    iter (fun n s => if wait.getLsbD n then s.ctrlSend n .census 0 0 else s) 16 s

/-- The reply of LIFE_READ (R370). -/
def State.lifeData (s : State) : List Byte :=
  (List.range 16).flatMap (fun n => le 4 (s.stress n)) ++ le 4 (if s.eng.engId then burg s.eng.burgee0 32 4 else 0)

/-! ### Supply-path measurement (R377, R378) -/

/-- PATHCTL_START: the write of START with the current step that the engine's keep-alive draws. -/
def State.pathctl (deltaMa : Nat) (s : State) : State :=
  let s := s.pathStart
  if deltaMa < 50 ∧ s.eng.pathBusy then s.setEng (fun e => { e with pathBusy := false, pathRefused := true, pathValid := false }) else s

/-- PATH_MEASURE_DONE. RMEAS is ΔV ÷ ΔI rounded down; a quotient beyond 16 bits leaves RMEAS a free value. -/
def State.pathDone (deltaUv deltaMa : Nat) (s : State) : State :=
  if !s.eng.pathBusy then s
  else if deltaMa < 50 ∨ s.mode.cur ≠ .ready then
    s.setEng (fun e => { e with pathBusy := false, pathRefused := true, pathValid := false })
  else
    let r := deltaUv / deltaMa
    let res := if r < 65536 then (r, s) else s.fresh
    let v := res.1
    let s := res.2
    let s := s.setEng (fun e => { e with pathBusy := false, pathValid := true, rmeas := v % 65536 })
    if s.fld 0x70008 31 16 < r then s.event 0x1C8 else s

end Sys2Proof.Machine
end

