-- ==== Sys2Proof/Machine/Ensign.lean ====
section
/-! DEFINITION. The two channels (chapter 10): heartbeats and status, the oscillator check, the safety inputs, the engine-supply
switches and their latent-fault test, power plausibility and the safety tests. -/

namespace Sys2Proof.Machine

def State.setEns (f : Ensign → Ensign) (s : State) : State := { s with ens := f s.ens }
def State.setGdn (f : Guidon → Guidon) (s : State) : State := { s with gdn := f s.gdn }
def State.setDl (f : DieLink → DieLink) (s : State) : State := { s with dl := f s.dl }

/-- The Ensign watches its inputs and the switches: the HV die is on and not in SLEEP (Table 0.3). -/
def State.ensOn (s : State) : Bool := s.pow.vbat && decide (s.mode.cur ≠ .off ∧ s.mode.cur ≠ .sleep)

/-- An entry of the Ensign's own: SAFE-BEAM or SAFE-DARK with its cause and the code of the decision. -/
def State.ensEnter (dark : Bool) (src code : Nat) (s : State) : State :=
  s.enterSafe dark { src := src, cls := 0, code := code, logic := false } none

/-! ### Frames of the die link (R613) -/

/-- A frame goes down: it takes the sender's next SEQ, and its SEQ is the last received from then on (assumption 137). -/
def State.passDown (s : State) : State := s.setDl (fun d => { d with seqDown := d.seqDown + 1, rxDown := d.seqDown + 1 })
def State.passUp (s : State) : State := s.setDl (fun d => { d with seqUp := d.seqUp + 1, rxUp := d.seqUp + 1 })

/-- What each discard counts and raises. -/
def State.discardDown (s : State) : State :=
  ((s.setDl (fun d => { d with downErr := satAdd d.downErr 1 })).raiseHv 0x00B 0 0).raiseHv 0x246 0 0
def State.discardUp (s : State) : State :=
  ((s.setGdn (fun g => { g with dlerr := satAdd g.dlerr 1 })).event 0x00B).event 0x246

/-- A frame arrives: it is taken where its SEQ is the last received plus one, and else discarded. -/
def State.landDown (f : State → State) (s : State) : State :=
  if s.dl.seqDown = s.dl.rxDown then f s.passDown else s.passDown.discardDown
def State.landUp (f : State → State) (s : State) : State :=
  if s.dl.seqUp = s.dl.rxUp then f s.passUp else s.passUp.discardUp

/-- A close of both switches, at bring-up and where SAFE-DARK has been left (R61, R438): three good heartbeats, no demand, the oscillator
check passed or given up (R433). -/
def State.tryClose (s : State) : State :=
  let place := s.ens.closeWait || decide (s.mode.cur = .boot ∨ s.mode.cur = .limp ∨ s.mode.cur = .safeBeam)
  let ok := place && decide (3 ≤ s.ens.goodRun) && !s.gdn.goff && !s.inputDemand && (s.ens.oscPassed || s.ens.oscSkip) && !s.ens.gdis &&
    !s.ens.ocTrip && (s.activeOf 0x286).isNone
  if !s.ens.hsOn && !s.ens.lsOn && ok then s.setEns (Ensign.closing s.clk.now) else s

/-- The high side follows the low side (R438). -/
def State.closeDue (s : State) : State :=
  match s.ens.closeAt with
  | some t => if t ≤ s.clk.now then s.setEns (fun e => { e with hsOn := true, closeAt := none }) else s
  | none => s

/-! ### Heartbeat (R429 to R432) -/

/-- HEARTBEAT_SEND: Guidon's timer; in a heartbeat-window test the marked one goes out 0.60 ms after the previous one. Guidon's
self-test has run and passed (R680). -/
def State.heartbeatSend (s : State) : State :=
  if !s.pow.logicOn || !s.gdn.hbRun then s
  else
    let test := s.gdn.test.isSome && decide (s.clk.now < s.gdn.hbAt + 1000000)
    if s.clk.now < s.gdn.hbAt + (if s.gdn.test.isSome then 600000 else 1000000) then s
    else
      let seq := s.gdn.hbSeq + 1
      let s := s.setGdn (fun g => { g with hbSeq := seq, hbAt := if test then g.hbAt else s.clk.now })
      let s : State := { s with dl := { s.dl with beatOut := some (seq, Config.answer s.gdn.chal, test) } }
      s.resolve 0x247 0

/-- A bad heartbeat or window (R431), and the trip of R432. -/
def State.heartBad (s : State) : State :=
  let s := s.setEns (fun e => { e with badCnt := satAdd e.badCnt 1, wins := (true :: e.wins).take 16, badRun := e.badRun + 1, goodRun := 0 })
  let s := s.raiseHv 0x28A 0 0
  if (2 ≤ s.ens.badRun ∨ 3 ≤ (s.ens.wins.filter id).length) ∧ s.ens.safe.isNone then
    (s.raiseHv 0x28B 0 0).ensEnter false 3 0x28B
  else s

/-- A good heartbeat. -/
def State.heartGood (s : State) : State :=
  (s.setEns (fun e => { e with wins := (false :: e.wins).take 16, badRun := 0, goodRun := min 3 (e.goodRun + 1) })).tryClose

/-- The reply of SAFETY_TEST, with SAFE_SELFTEST where a test of the diagnostics failed, or its resolution (R461, R680). -/
def State.testReply (id : ReqId) (test result detail : Nat) (s : State) : State :=
  let s := if test = 1 then s else if result = 0 then s.resolve 0x243 0 else s.raise0 0x243 0 0
  (s.answer id stOk (le 1 result ++ le 3 0 ++ le 4 detail)).event 0x249

/-- HEARTBEAT: received by the Ensign and judged (R430, R431). A test heartbeat is classed without being counted (Table 10.12). -/
def State.heartbeat (seq answer : Byte) (test linkOk : Bool) (s : State) : State :=
  if !s.ensOn || !s.pow.logicOn then s
  else
    let d := s.clk.now - s.ens.winAt
    let whole := linkOk && s.dl.seqDown == s.dl.rxDown
    let s := (s.setDl (fun d => { d with beatOut := none })).passDown
    let s := if whole then s else s.discardDown
    if test then
      let s := s.setEns (fun e => { e with hbSeq := some seq })
      match s.gdn.test with
      | some (id, k) => (s.setGdn (fun g => { g with test := none })).testReply id k (if d < 750000 ∨ 1250000 < d then 0 else 1) (d / 1000)
      | none => s
    else
      let first := s.ens.hbSeq.isNone
      let inWindow := first || decide (750000 ≤ d ∧ d ≤ 1250000)
      let inSeq := match s.ens.hbSeq with | some k => seq == k + 1 | none => true
      let good := inWindow && inSeq && whole && decide (answer = Config.answer s.gdn.chal)
      let s := s.setEns (fun e => { e with hbSeq := some seq, winAt := s.clk.now })
      if good then s.heartGood else s.heartBad

/-- HEARTBEAT_WINDOW_CLOSE: a window closes empty (R431). -/
def State.windowClose (s : State) : State :=
  if s.ensOn && s.pow.logicOn && s.ens.hbSeq.isSome && decide (s.ens.winAt + 1250000 ≤ s.clk.now) then
    (s.setEns (fun e => { e with winAt := e.winAt + 1250000 })).heartBad
  else s

/-! ### Status (R426, R617) -/

/-- What a STATUS reports now. -/
def State.statusNow (s : State) (urgent : Bool) : StatusMsg :=
  { chal := s.ens.chal, inst := BitVec.ofNat 9 s.inFlags
    sw := BitVec.ofNat 4 (b2n s.ens.hsOn + b2m s.ens.lsOn 1 + b2m s.ens.ovr 2 + b2m s.ens.gdis 3)
    held := s.ensHeld, mode := match s.ens.safe with | some .safeDark => 2 | some _ => 1 | none => 0, urgent := urgent }

/-- A STATUS leaves, with a new challenge. The Ensign chooses it: a free value. -/
def State.statusLeave (urgent : Bool) (s : State) : State :=
  let res := s.fresh
  let v := res.1
  let s := res.2
  let s := s.setEns (fun e => { e with chal := BitVec.ofNat 4 v })
  let m := s.statusNow urgent
  (s.setEns (fun e => { e with told := m })).setDl (fun d => { d with statusOut := some m })

/-- ENSIGN_STATUS_SEND: every 100 µs. -/
def State.statusSend (s : State) : State :=
  if s.ensOn && decide (s.ens.statusAt + 100000 ≤ s.clk.now) then
    (s.setEns (fun e => { e with statusAt := s.clk.now })).statusLeave false
  else s

/-- Recognised inputs, the switches or the safe state have changed since the newest STATUS. -/
def State.statusStale (s : State) : Bool :=
  let m := s.statusNow false
  decide (m.inst ≠ s.ens.told.inst ∨ m.sw ≠ s.ens.told.sw ∨ m.mode ≠ s.ens.told.mode)

/-- A change leaves the HV die in the next free slot (R617). -/
def State.statusChange (s : State) : State :=
  if s.ensOn && s.pow.logicOn && s.statusStale then s.statusLeave true else s

/-- Guidon takes a STATUS: a change of the cap request is an event and acts from the next token latch. -/
def State.statusTake (m : StatusMsg) (s : State) : State :=
  let cap := m.inst.getLsbD 5
  let moved := s.gdn.capSeen != cap
  let s := s.setGdn (fun g => { g with
    chal := m.chal, ensOk := true, ensAt := s.clk.now, capSeen := cap, heldSeen := m.held, ensMode := m.mode, swSeen := m.sw })
  let s : State := { s with tok := { s.tok with nf := cap } }
  if moved then s.raise0 0x3C2 0 (b2n cap) else s

/-- ENSIGN_STATUS: the STATUS on its way, or one sent at this instant. -/
def State.ensStatus (s : State) : State :=
  if !s.pow.logicOn then s
  else
    let m := s.dl.statusOut.getD (s.statusNow false)
    (s.setDl (fun d => { d with statusOut := none })).landUp (State.statusTake m)

/-- Any other upstream frame: a STATUS that reports a change goes ahead of it (R617). -/
def State.takeUp (f : State → State) (s : State) : State :=
  (if s.dl.statusOut.any (·.urgent) then s.ensStatus else s).landUp f

/-- ENSIGN_SILENT: KASEL is asserted whatever safe state is in force (R426). -/
def State.ensSilent (s : State) : State :=
  if s.pow.logicOn && s.gdn.hbRun && decide (s.gdn.ensAt + 1000000 ≤ s.clk.now) then
    let s := (s.setGdn (fun g => { g with ensOk := false, ensAt := s.clk.now, kasel := true })).event 0x244
    s.enterSafe false { src := 11, cls := 0, code := 0x244, logic := true } none
  else s

/-- MEAS (Table 15.3): engine current and VLED. -/
def State.meas (ma mv : Half) (s : State) : State :=
  if !s.pow.vbat then s
  else
    let s := s.setEns (fun e => { e with imeas := ma, vled := mv })
    let s : State := { s with pow := { s.pow with meas1 := BitVec.ofNat 32 (s.pow.meas1.toNat % 65536 + 65536 * mv.toNat) } }
    if s.pow.logicOn then s.takeUp (State.setGdn (fun g => { g with imeas := ma, vled := mv })) else s

/-! ### Oscillator (R433, R678) -/

/-- The oscillator fails or is given up: once the comparison has passed, or the wait for it is over, SAFE-BEAM follows. -/
def State.oscFail (s : State) : State :=
  if s.ens.oscBad && (s.ens.oscPassed || s.ens.oscSkip) then s
  else ((s.setEns (fun e => { e with oscBad := true })).raiseHv 0x28C 0 0).ensEnter false 10 0x28C

/-- OSC_CHECK: the deviation between the two oscillators in permille. Until the comparison has passed once, one that fails raises nothing and
withholds release (R433, R437). -/
def State.oscCheck (dev : Nat) (s : State) : State :=
  if !s.ensOn || !s.rtc.oscOk then s
  else if dev ≤ 50 then (s.setEns (fun e => { e with oscPassed := true, oscBad := false })).tryClose
  else if s.ens.oscPassed then s.oscFail
  else s.setEns (fun e => { e with oscBad := true })

/-- The oscillator is given up: SAFE-BEAM, and the switches close without it (R433). -/
def State.oscLost (s : State) : State := ((s.oscFail).setEns (fun e => { e with oscSkip := true })).tryClose

/-- OSC_START_TIMEOUT: OSCOK not set 1.5 s after power-on from OFF. -/
def State.oscTimeout (s : State) : State :=
  if s.ensOn && !s.rtc.oscOk && decide (s.ens.powerOnAt + 1500000000 ≤ s.clk.now) then s.oscLost else s

/-- RTC_OSC_OK. -/
def State.rtcOscOk (s : State) : State :=
  if s.ensOn && !s.rtc.oscOk then { s with rtc := { s.rtc with oscOk := true } } else s

/-- RTC_OSC_STOP: no cycle for 250 µs, outside SLEEP. -/
def State.rtcOscStop (s : State) : State :=
  if s.ensOn && s.rtc.oscOk then
    let s : State := { s with rtc := { s.rtc with oscOk := false } }
    ((s.hwSet 0x100007 4).raiseHv 0x401 0 0).oscLost
  else s

/-! ### Safety inputs (R444 to R459) -/

/-- The Ensign recognises a change of an input's state. -/
def State.inputSeen (s : State) : State := s.raiseHv 0x28D 0 0

def inputBit : SafetyInput → Nat
  | .darkA => 0 | .darkB => 1 | .hsgA => 2 | .hsgB => 3 | .svcA => 4 | .svcB => 5 | .nfA => 6 | .nfB => 7

/-- The filter of an input in ns (Table 10.7). -/
def inputFilter (k : Nat) : Nat := if k < 2 then 1000000 else if k < 6 then 5000000 else 600000

/-- The level of an input that counts, and since when: a low of less than 50 µs is invisible (R653), one of at most 0.6 ms on a near-field channel
a test pulse (R453). -/
def Ensign.seen (e : Ensign) (now k : Nat) : Bool × Nat :=
  if e.raw.getLsbD k then (true, vget e.rawAt k)
  else if now < vget e.rawAt k + 50000 ∨ (6 ≤ k ∧ now ≤ vget e.rawAt k + 600000) then (true, vget e.rawPrev k)
  else (false, vget e.rawAt k)

/-- A channel lacks its test pulse, while they are checked (R454). -/
def State.pulseGone (s : State) : Bool := s.ens.running && s.flag 0xA0000 0 && (s.ens.noPulseA || s.ens.noPulseB)

/-- The condition of Table 10.7 on the two levels of a pair. -/
def discrepant (pair : InputPair) (level : Nat → Bool) : Bool :=
  match pair with
  | .dark => level 0 == level 1
  | .hsg => level 2 != level 3
  | .nf => level 6 != level 7

/-- Start or end a discrepancy; its end resolves the fault (R444). -/
def State.setDisc (pair : InputPair) (on : Bool) (at_ : Nat) (s : State) : State :=
  let upd (o : Option Nat) : Option Nat := if on then o.or (some at_) else none
  let code := match pair with | .dark => 0x287 | .hsg => 0x288 | .nf => 0x289
  let s := s.setEns (fun e => match pair with
    | .dark => { e with discDark := upd e.discDark }
    | .hsg => { e with discHsg := upd e.discHsg }
    | .nf => { e with discNf := upd e.discNf })
  if on then s else s.resolve code 0

/-- A pair's discrepancy from its filtered levels, counted from `t0` (Tables 10.7 and 10.8a). -/
def State.pairDisc (pair : InputPair) (t0 : Nat) (s : State) : State :=
  s.setDisc pair (discrepant pair s.ens.filt.getLsbD || (decide (pair = .nf) && s.pulseGone)) t0

/-- What follows from a filtered level that has changed. Service enable: once both inputs have been low, arming is no longer refused and the
sequence starts anew (R450). -/
def State.filtered (k t0 : Nat) (s : State) : State :=
  if k < 2 then s.pairDisc .dark t0
  else if k < 4 then s.pairDisc .hsg t0
  else if k < 6 then
    (if s.ens.filt.getLsbD 4 || s.ens.filt.getLsbD 5 then s else s.setEns (fun e => { e with svcLock := false, svcFirst := none }))
  else s.pairDisc .nf t0

/-- An input has kept a new level for its filter time. -/
def State.inputDue (k : Nat) (s : State) : State :=
  let l := s.ens.seen s.clk.now k
  if l.1 == s.ens.filt.getLsbD k || decide (s.clk.now < l.2 + inputFilter k) then s
  else
    let m : BitVec 8 := BitVec.ofNat 8 (2 ^ k)
    (s.setEns (fun e => { e with filt := if l.1 then e.filt ||| m else e.filt &&& ~~~m })).filtered k l.2

/-- Every input as its filter shows it at this instant. -/
def State.inputsDue (s : State) : State := if s.ensOn then iter State.inputDue 8 s else s

/-- DARK_DEMAND: both channels have been at demand for 1 ms (Table 10.8a). -/
def State.darkDemand (s : State) : State :=
  if s.ensOn && s.ens.filt.getLsbD 0 && !s.ens.filt.getLsbD 1 then
    ((s.setEns (fun e => { e with darkReq := true })).inputSeen).ensEnter true 4 0x28D
  else s

/-- DARK_DEMAND_END: both channels have been idle for 1 ms (R445). -/
def State.darkEnd (s : State) : State :=
  if s.ensOn && s.ens.darkReq && !s.ens.filt.getLsbD 0 && s.ens.filt.getLsbD 1 then
    ((s.setEns (fun e => { e with darkReq := false })).inputSeen).tryClose
  else s

/-- HOUSING_OPEN: either contact has read high for 5 ms (R446, R447, R449). -/
def State.housingOpen (s : State) : State :=
  if !s.ensOn || s.ens.hsgOpen || !(s.ens.filt.getLsbD 2 || s.ens.filt.getLsbD 3) then s
  else
    let s := (s.setEns (fun e => { e with hsgOpen := true })).inputSeen
    if s.ens.svcMode && s.ens.svcArm then s else s.ensEnter true 5 0x28D

/-- HOUSING_CLOSED: both contacts have read low for 5 ms (R446). -/
def State.housingClosed (s : State) : State :=
  if s.ensOn && s.ens.hsgOpen && !(s.ens.filt.getLsbD 2 || s.ens.filt.getLsbD 3) then
    ((s.setEns (fun e => { e with hsgOpen := false })).inputSeen).tryClose
  else s

/-- SERVICE_ENABLE_ARM (R450): the second input went high within 500 ms of the first, or arming locks. -/
def State.svcArm (s : State) : State :=
  if !s.ensOn || !(s.ens.filt.getLsbD 4 && s.ens.filt.getLsbD 5) || s.ens.svcArm || s.ens.svcLock then s
  else
    match s.ens.svcFirst with
    | some t0 =>
      if max (vget s.ens.rawAt 4) (vget s.ens.rawAt 5) ≤ t0 + 500000000 then (s.setEns (fun e => { e with svcArm := true, svcFirst := none })).inputSeen
      else (s.setEns (fun e => { e with svcLock := true, svcFirst := none })).raiseHv 0x28F 0 0
    | none => s

/-- SERVICE_ENABLE_DISARM: either input has been low for 5 ms (R449, R451). -/
def State.svcDisarm (s : State) : State :=
  if s.ensOn && s.ens.svcArm && !(s.ens.filt.getLsbD 4 && s.ens.filt.getLsbD 5) then
    let s := (s.setEns (fun e => { e with svcArm := false })).inputSeen
    if s.ens.hsgOpen && s.ens.svcMode then s.ensEnter true 5 0x28D else s
  else s

/-- NEAR_FIELD_INTERRUPTION: a channel is still low after 0.6 ms (R453, Table 10.8b). -/
def State.nearField (ch : Channel) (s : State) : State :=
  let k := match ch with | .a => 6 | .b => 7
  if s.ensOn && !s.ens.nfInt && !s.ens.raw.getLsbD k && decide (vget s.ens.rawAt k + 600000 ≤ s.clk.now) then
    (s.setEns (fun e => { e with nfInt := true })).inputSeen
  else s

/-- A near-field channel has been high for NFREL, its test pulses apart (Table 10.8b). -/
def State.nearFree (s : State) (k : Nat) : Bool :=
  let l := s.ens.seen s.clk.now k
  l.1 && decide (l.2 + s.fld 0xA0000 23 16 * 1000000 ≤ s.clk.now)

/-- NEAR_FIELD_RELEASE. -/
def State.nearRelease (s : State) : State :=
  if s.ensOn && s.ens.nfInt && s.nearFree 6 && s.nearFree 7 then (s.setEns (fun e => { e with nfInt := false })).inputSeen else s

/-- NF_TEST_PULSE_TIMEOUT (R454): the pair is discrepant from the instant NFTPMAX passed. -/
def State.pulseTimeout (ch : Channel) (s : State) : State :=
  let due := (match ch with | .a => s.ens.pulseA | .b => s.ens.pulseB) + s.fld 0xA0000 15 8 * 1000000
  if s.ensOn && s.ens.running && s.flag 0xA0000 0 && decide (due ≤ s.clk.now) then
    (match ch with
     | .a => s.setEns (fun e => { e with noPulseA := true })
     | .b => s.setEns (fun e => { e with noPulseB := true })).setDisc .nf true due
  else s

/-- A near-field channel has shown a test pulse; the discrepancy for want of it ends (R454). -/
def State.pulseSeen (k : Nat) (s : State) : State :=
  (s.setEns (fun e =>
    if k = 6 then { e with pulseA := s.clk.now, noPulseA := false } else { e with pulseB := s.clk.now, noPulseB := false })).pairDisc .nf s.clk.now

/-- A service input goes high: the first of the two starts the sequence, once both have been low for 5 ms (R450). -/
def State.svcRise (k : Nat) (s : State) : State :=
  if s.ens.filt.getLsbD 4 || s.ens.filt.getLsbD 5 || s.ens.raw.getLsbD (9 - k) then s
  else s.setEns (fun e => { e with svcFirst := some s.clk.now })

/-- An input goes high: after a low too short to count it is high since before (R453, R653). -/
def State.inputRise (k : Nat) (s : State) : State :=
  let d := s.clk.now - vget s.ens.rawAt k
  let short := decide (d < 50000 ∨ (6 ≤ k ∧ d ≤ 600000))
  let s := s.setEns (fun e => { e with
    raw := e.raw ||| BitVec.ofNat 8 (2 ^ k), rawAt := vset e.rawAt k (if short then vget e.rawPrev k else s.clk.now) })
  if 6 ≤ k ∧ short ∧ 50000 ≤ d then s.pulseSeen k
  else if (k = 4 ∨ k = 5) ∧ !short then s.svcRise k
  else s

/-- SAFETY_INPUT_CHANGE: one input takes a level. In SLEEP nothing is made of it (R651). -/
def State.inputChange (i : SafetyInput) (level : Bool) (s : State) : State :=
  let k := inputBit i
  let m : BitVec 8 := BitVec.ofNat 8 (2 ^ k)
  if !s.pow.vbat || s.ens.raw.getLsbD k == level then s
  else if !s.ensOn then s.setEns (fun e => { e with raw := if level then e.raw ||| m else e.raw &&& ~~~m })
  else if level then s.inputRise k
  else s.setEns (fun e => { e with
    raw := e.raw &&& ~~~m, rawPrev := vset e.rawPrev k (vget e.rawAt k), rawAt := vset e.rawAt k s.clk.now })

/-- INPUT_DISCREPANCY: a discrepancy outlasts its limit (Table 10.7), and the second channel has not followed by now (Table 10.8a). -/
def State.discrepancy (pair : InputPair) (s : State) : State :=
  let r : Option Nat × Nat × Nat := match pair with
    | .dark => (s.ens.discDark, 50, 0x287) | .hsg => (s.ens.discHsg, 500, 0x288) | .nf => (s.ens.discNf, 100, 0x289)
  let still := discrepant pair (fun k => (s.ens.seen s.clk.now k).1) || (decide (pair = .nf) && s.pulseGone)
  match r.1 with
  | some t0 => if s.ensOn && still && decide (t0 + r.2.1 * 1000000 ≤ s.clk.now) then s.raiseHv r.2.2 0 0 else s
  | none => s

/-! ### Switches (R438 to R443) -/

/-- ENGINE_OVERCURRENT (Table 10.5): both switches open, a trip is latched, SAFE-DARK with cause 6. -/
def State.overcurrent (fast : Bool) (s : State) : State :=
  if !s.ensOn then s
  else
    let code := if fast then 0x280 else 0x281
    let s := s.setEns (fun e => { e.opened with ocTrip := true })
    (s.raiseHv code 0 0).ensEnter true 6 code

def monitorCode : SwitchMonitor → Nat
  | .gate => 0x282 | .vds => 0x283 | .leak => 0x284 | .imis => 0x285

/-- A monitor's condition of Table 10.5 can hold on the switches as they are commanded; below 4.5 V of VBAT the gate monitor has only that of
a switch commanded on (R620). -/
def State.monitorApplies (s : State) (m : SwitchMonitor) : Bool :=
  let on := s.ens.hsOn || s.ens.lsOn
  match m with
  | .gate => on || !(s.pow.vbatCrank && decide (s.pow.meas0.toNat % 65536 < 4500))
  | .vds => on
  | .leak => !on
  | .imis => true

/-- SWITCH_MONITOR_FAULT. -/
def State.monitorFault (m : SwitchMonitor) (s : State) : State :=
  if s.ensOn && s.monitorApplies m then s.raiseHv (monitorCode m) 0 0 else s

/-- RESULT of the latent-fault test from what it measured (Table 10.6, R441, R442); one that
started under a test instruction, or ends under one, fails (R641). -/
def State.testResult (s : State) (m : SwitchMeas) : Nat :=
  if s.ens.testBad || s.testIns || s.ens.hsOn != s.ens.lsOn then 3
  else if s.ens.hsOn && decide (m.startMa < 50) then 3
  else if 20 ≤ m.highMa ∨ (s.ens.hsOn ∧ 200 ≤ m.highVdsMv) then 1
  else if 20 ≤ m.lowMa ∨ (s.ens.hsOn ∧ 200 ≤ m.lowVdsMv) then 2
  else 0

/-- A failed test at BEAM entry: its requests answer SWITCH_FAULT, SAFE-DARK follows (R32, R443). -/
def State.beamTestFail (s : State) : State :=
  match s.mode.trans with
  | some tr =>
    let s : State := { s with mode := { s.mode with trans := none } }
    (s.modeAnswers stSwitchFault tr.owner.toList tr.merged).ensEnter true 7 0x286
  | none => s.ensEnter true 7 0x286

/-- SWITCH_TEST_DONE: the result serves what asked for the test (R443), and the test that waits begins. Closed switches are not tested while
an NV_PROG is outstanding (R357). -/
def State.switchTestDone (m : SwitchMeas) (s : State) : State :=
  match s.ens.swTest with
  | none => s
  | some (use, _) =>
    if (s.ens.hsOn || s.ens.lsOn) && s.progOut then s
    else
      let r := s.testResult m
      let s := s.setEns (fun e => { e with
        swTest := e.swNext.map (fun u => (u, s.clk.now)), testBad := s.testIns, swNext := none, testRes := r, testCnt := satAdd e.testCnt (b2n (r != 3)) })
      let s := if r = 0 then s.resolve 0x286 0 else (s.setEns Ensign.opened).raiseHv 0x286 0 r
      match use with
      | .beamEntry => if r = 0 then { s with mode := { s.mode with tested := true } } else s.beamTestFail
      | .sleepEntry => s.sleepReply
      | .darkExit => if r = 0 then s.askEns 3 0 else s.transFail stSwitchFault
      | .safetyTest id => s.testReply id 1 r (m.highMa % 65536 + 65536 * (m.lowMa % 65536))

/-- What a switch test asked for by the logic die serves, from what the device is doing. -/
def State.testUse (s : State) : Option SwUse :=
  if s.mode.sleep = .switchTest then some .sleepEntry
  else
    match s.mode.trans with
    | some tr =>
      if tr.target = .beam then some .beamEntry
      else if tr.target = .ready ∧ s.mode.cur = .safeDark then some .darkExit
      else none
    | none => none

/-- The release that Guidon asks for, unless the Ensign withholds it or Guidon holds a line again (R423, R437, R438); without a release in
progress it asks for nothing. Where SAFE-DARK is left both switches close, once R61 and R433 allow it. -/
def State.release (s : State) : State :=
  if !(s.mode.cur.isSafe && s.mode.trans.any (fun t => decide (t.target = .ready))) then s
  else if s.ensHeld || s.gdn.kasel || s.gdn.goff then s.transFail stModeDenied
  else
    let dark := decide (s.mode.cur = .safeDark)
    let s := s.setEns (fun e => { e with ovr := false, gdis := false, safe := none, closeWait := e.closeWait || dark })
    (s.tryClose).lanesRestart

/-! ### Guidon's checks -/

/-- POWER_PLAUSIBILITY (R460): the measured power against that of the passes completed in the window, in mW. -/
def State.plausible (s : State) : State :=
  if s.mode.cur = .beam ∧ s.gdn.winAt + 4000000 ≤ s.clk.dtime then
    let uv := s.pow.vledUv || (match s.pow.vledUvLeft with | some t0 => decide (s.clk.now < t0 + 100000000) | none => false)
    let meas := s.gdn.vled.toNat * s.gdn.imeas.toNat / 1000
    let exp := if s.gdn.winTime = 0 then s.gdn.expect else s.gdn.winEnergy / s.gdn.winTime / 1000000000
    let s := s.setGdn (fun g => { g with winAt := g.winAt + 4000000, winEnergy := 0, winTime := 0, expect := exp, measPow := meas })
    if uv then s
    else
      let s := if 3 * exp + 4000 < 2 * meas then s.raise0 0x241 0 0 else s.resolve 0x241 0
      if 2000 < exp ∧ 2 * meas + 2000 < exp then s.raise0 0x242 0 0 else s.resolve 0x242 0
  else s

/-- GDN_ROM_CHECK (R680). -/
def State.romCheck (ok : Bool) (s : State) : State :=
  if !s.pow.logicOn then s else if ok then s.resolve 0x248 0 else s.raise0 0x248 0 0

/-- KASEL_PAIR_MISMATCH: the pair reads as asserted, while logic-die reset is released (R425, R610). -/
def State.pairMismatch (goff : Bool) (s : State) : State :=
  if s.pow.logicOn && s.ensOn then s.ensEnter goff 2 0 else s

/-! ### SAFETY_TEST (Table 10.12) -/

/-- SAFETY_TEST in a mode that permits it. -/
def State.safetyTest (id : ReqId) (test : Nat) (s : State) : State :=
  match test with
  | 1 => s.startSwTest (.safetyTest id)
  | 2 => s.setGdn (fun g => { g with test := some (id, 2) })
  | 3 =>
    let res := s.fresh
    let v := res.1
    let s := res.2
    s.testReply id 3 0 (1 + v % 0xFFFF)
  | 4 =>
    if s.mode.cur ≠ .service then s.answer id stModeDenied []
    else
      let s := (s.setEns (fun e => { e with ovr := true, injectAt := some (id, s.clk.now) })).event 0x18B
      { s with fly := s.fly.map (fun l => { l.suspend with kaShown := false }) }
  | _ => s.answer id stBadParam []

/-- SAFETY_TEST_OVERRIDE_END (R462). -/
def State.injectEnd (s : State) : State :=
  match s.ens.injectAt with
  | some (id, t0) =>
    if t0 + 8000000 ≤ s.clk.now then
      let s := s.setEns (fun e => { e with injectAt := none, ovr := e.safe.isSome })
      let shown := bitsOf (fun n => (vget s.fly n).kaShown) 16
      let all := (List.range 16).all (fun n => !s.mapped n || (vget s.fly n).kaShown)
      let s := s.testReply id 4 (if all then 0 else 1) shown
      if s.ens.ovr then s else s.lanesRestart
    else s
  | none => s

end Sys2Proof.Machine
end

