-- ==== Sys2Proof/Machine/Thermal.lean ====
section
/-! DEFINITION. Temperature sensing and throttling (chapter 12): the converter and its requesters, broken sensors, levels, the junction
rule, Guidon's override, and the temperature bands. Temperatures are in 1/16 °C. -/

namespace Sys2Proof.Machine

def State.setThm (f : Thermal → Thermal) (s : State) : State := { s with thm := f s.thm }
def State.setCh (c : Nat) (f : ThermCh → ThermCh) (s : State) : State := s.setThm (fun h => { h with ch := vmod h.ch c f })

/-- The machine as Guidon's own copies of the THERMAL words describe it (R534). -/
def State.guidonView (s : State) : State := { s with regs := { s.regs with act := s.thm.gdnCopy } }

/-! ### The converter (R513 to R516, R571, R572) -/

/-- Conversion time of a channel in ns (Table 12.1). -/
def convTime (c : Nat) : Nat := if c < 8 then 1200000 else if c < 12 then 250000 else 100000

/-- The next pending channel above `last`, wrapping to 0 (R514). -/
def nextChannel (pend : BitVec 14) (last : Nat) : Option Nat :=
  ((List.range 14).map (fun k => (last + 1 + k) % 14)).find? (fun c => pend.getLsbD c)

/-- A short-form conversion may start: inside the blanking window, with 250 µs of it left (R572). -/
def State.blankWindow (s : State) : Bool :=
  let full := (List.range 16).all (fun n => !s.laneEn n || (vget s.fly n).full)
  let p := s.passAt (s.scan.k - 1) + (if full then 699848 else 5598780)
  decide (p ≤ s.clk.dtime ∧ s.clk.dtime + 260000 ≤ s.passAt s.scan.k)

/-- A signed byte of the calibration in force. -/
def State.calByte (s : State) (o : Nat) : Int := signed 8 (leAt s.cal.inForce o 1)

/-- The terms of the calibration in force for a channel, the line resistance 0 while another engine's is stored (R512, R595, Table 14.3). The
measurements of the converter are those under Ottor's factory trim (assumption 46). -/
def State.calTerms (s : State) (c : Nat) : Option CalTerms :=
  if s.cal.src = 0 then none
  else if c < 8 then
    some { ofs := s.calByte 8, gain := s.calByte 9
           line := if s.cal.dstale then 0 else (leAt s.cal.inForce (10 + c / 2) 1 / 16 ^ (c % 2) % 16 : Nat) }
  else if c < 12 then some { ofs := s.calByte 14, gain := s.calByte (15 + (c - 8)), line := 0 }
  else none

/-- The next conversion starts where one is due: a pending temperature channel first, else one of calibration (R514, R515). -/
def State.convStart (s : State) : State :=
  let h := s.thm
  if h.conv.isSome || !s.pow.logicOn then s
  else
    match nextChannel (h.pendHost ||| h.pendPol ||| h.pendGdn) h.lastCh with
    | some c =>
      s.setThm (fun h => { h with
        lastCh := c, conv := some { ch := c, startAt := s.clk.now, dur := convTime c, host := h.pendHost.getLsbD c,
                                    policy := h.pendPol.getLsbD c, gdn := h.pendGdn.getLsbD c, terms := s.calTerms c } })
    | none =>
      match s.cal.run with
      | some r =>
        let short := decide (s.mode.cur = .beam) && s.scan.run
        if r.ended || r.row.isSome || (short && !s.blankWindow) then s
        else
          s.setThm (fun h => { h with conv := some { ch := 14, startAt := s.clk.now, dur := if short then 250000 else 1200000,
                                                     host := false, policy := false, gdn := false, terms := none } })
      | none => s

/-! ### Bands (R535 to R537) -/

/-- Rising and falling edges of band k, 1 to 5, in °C (Table 12.4). -/
def bandRise (k : Nat) : Int := match k with | 1 => -10 | 2 => 25 | 3 => 60 | 4 => 90 | _ => 115
def bandFall (k : Nat) : Int := bandRise k - 3

/-- The highest band whose rising edge a value reaches. -/
def bandUp (t : Int) : Nat := ((List.range 6).filter (fun k => k == 0 || decide (16 * bandRise k ≤ t))).foldl max 0

/-- Down while the value is below the falling edge of the band reached. -/
def bandDown (t : Int) : Nat → Nat
  | 0 => 0
  | k + 1 => if t < 16 * bandFall (k + 1) then bandDown t k else k + 1

/-- The band after a conversion; band 6 stands for none yet. -/
def newBand (b : Nat) (t : Int) : Nat :=
  let b := if b = 6 then 0 else b
  if b < bandUp t then bandUp t else bandDown t b

/-- DBAND from TJ: the margin follows (R535, R540). -/
def State.setDband (s : State) : State :=
  let b := newBand s.thm.dband s.thm.tj
  if b = s.thm.dband then s
  else (({ s.setThm (fun h => { h with dband := b }) with fab := { s.fab with bandAt := s.clk.dtime } } : State).newMargin).raise0 0x305 0 0

/-- EBAND of diode d from its value: WAVE to its two segments, and a first WAVE once the engine is known (R537). -/
def State.setEband (d : Nat) (s : State) : State :=
  let b := newBand (vget s.thm.eband d) (vget s.thm.ch d).temp
  let moved := decide (b ≠ vget s.thm.eband d)
  let s := s.setThm (fun h => { h with eband := vset h.eband d b })
  let s := if moved then s.raise0 0x305 d 0 else s
  if s.eng.engId && (moved || !s.thm.waveSent.getLsbD d) then
    (s.setThm (fun h => { h with waveSent := h.waveSent ||| BitVec.ofNat 8 (2 ^ d) })).sendWave d
  else s

/-- The first WAVE of a diode converted before the engine was known (R537). -/
def State.firstWaves (s : State) : State :=
  iter (fun d s => if (vget s.thm.ch d).convAt.isSome then s.setEband d else s) 8 s

/-! ### Levels (R520 to R525) -/

/-- Level of a value between its thresholds (R520). -/
def levelOf (tstart tlim t : Int) : Nat :=
  if t < tstart then 0
  else if tlim ≤ t then 7
  else min 7 ((8 * (t - tstart)) / (tlim - tstart) + 1).toNat

def State.tlim (s : State) (c : Nat) : Int := signed 16 (s.fld (0xC0010 + 4 * c) 15 0)
/-- RISEMAX in 0.1 K/s, GRACE in 0.1 s. -/
def State.riseMax (s : State) (c : Nat) : Nat := s.fld (0xC0010 + 4 * c) 23 16
def State.graceTenths (s : State) : Nat := s.fld 0xC0000 6 0

/-- TGT from the channels, the junction rule and the cross-check (R520, R532, R533); REQ follows at once (R521). -/
def State.retarget (s : State) : State :=
  let tgt := max ((List.range 12).foldl (fun m c => max m (vget s.thm.ch c).lvl) 0) (max s.thm.tjLvl (if s.thm.xcheck = 0 then 0 else 4))
  let was := s.thm.req
  let s := s.setThm (fun h => { h with
    tgt := tgt, req := tgt,
    levelAt := iter (fun l v => vmod v l (fun o => if l ≤ tgt then o.or (some s.clk.dtime) else none)) 8 h.levelAt })
  let s := if was < tgt then s.raise0 0x300 0 tgt else s
  s.graceDue

/-- After TGT or ENF changed: how long TGT has stayed below ENF (R523), and how long ENF lags Guidon's target (R534). -/
def State.relaxMark (s : State) : State :=
  let s := s.setThm (fun h => { h with
    belowAt := if h.tgt < h.enf then h.belowAt.or (some s.clk.dtime) else none,
    gdnLagAt := if h.enf + 1 < h.gdnTgt then h.gdnLagAt.or (some s.clk.dtime) else none })
  if s.thm.gdnLagAt.isNone ∧ s.thm.xcheck.getLsbD 14 then
    (s.setThm (fun h => { h with xcheck := h.xcheck &&& 0x3FFF })).resolve 0x306 14
  else s

/-- ENF_GRACE_EXPIRY (R522). -/
def State.enfDue (s : State) : State := (s.graceDue).relaxMark

/-- ENF_RELAX (R523, R530). -/
def State.enfRelax (s : State) : State :=
  match s.thm.belowAt with
  | some t0 =>
    if max t0 s.thm.enfAt + s.fld 0xC0000 13 8 * 1000000000 ≤ s.clk.dtime ∧ s.thm.floor.getD 0 < s.thm.enf then
      let s := s.setThm (fun h => { h with enf := h.enf - 1, enfAt := s.clk.dtime })
      let s := if s.thm.enf = 0 then s.resolve 0x301 0 else s
      ((s.event 0x308).budgetMoved).relaxMark
    else s
  | none => s

/-! ### Junction (R531 to R534) -/

/-- TJ from the driver-board channel, with the sag inhibit, the bands and the 135 °C rule. -/
def State.setTj (s : State) : State :=
  let tj := (vget s.thm.ch 10).temp + 16 * (s.fld 0xC0001 7 0 : Int)
  let hot := decide (135 * 16 ≤ tj)
  let was := s.thm.tjHot
  let s := s.setThm (fun h => { h with
    tj := tj, tjValid := true, tjLvl := if hot then (if was then h.tjLvl else 4) else 0,
    tjAt := if hot then h.tjAt.or (some s.clk.dtime) else none })
  let s := if hot != was then s.setTjHot hot else s
  let s := if hot && !was then (s.raise0 0x304 0 0).riseEnf 4 else s
  let s := if tj < 130 * 16 then s.resolve 0x304 0 else s
  (s.setDband).inhibitTj tj

/-- TJ_SECOND (R532). -/
def State.tjSecond (s : State) : State :=
  match s.thm.tjAt with
  | some t0 =>
    if t0 + 1000000000 ≤ s.clk.dtime ∧ s.thm.tjHot then
      let s := s.setThm (fun h => { h with tjAt := some (t0 + 1000000000), tjLvl := min 7 (h.tjLvl + 1) })
      ((s.retarget).riseEnf s.thm.tjLvl).relaxMark
    else s
  | none => s

/-- R533: an on-die channel against TJ, at a conversion that serves Guidon. -/
def State.xcheck (c : Nat) (s : State) : State :=
  if !s.thm.tjValid then s
  else
    let d := (vget s.thm.ch c).temp - s.thm.tj
    let m : BitVec 15 := BitVec.ofNat 15 (2 ^ c)
    if 16 * s.fld 0xC0001 15 8 < d.natAbs then
      (s.setThm (fun h => { h with xcheck := h.xcheck ||| m })).raise0 0x306 c 0
    else (s.setThm (fun h => { h with xcheck := h.xcheck &&& ~~~m })).resolve 0x306 c

/-- GUIDON_THERMAL_OVERRIDE (R534). -/
def State.gdnForce (s : State) : State :=
  match s.thm.gdnLagAt with
  | some t0 =>
    if t0 + s.guidonView.enfGrace + 1000000000 ≤ s.clk.dtime then
      let s := (s.setThm (fun h => { h with xcheck := h.xcheck ||| 0x4000 })).raise0 0x306 14 0
      (s.riseEnf s.thm.gdnTgt).relaxMark
    else s
  | none => s

/-! ### A conversion's result (R516, R518, R519, R527 to R530) -/

/-- The latest values of a channel's good neighbours (R527), in the device's or in Guidon's view. -/
def State.goodNeighbours (s : State) (v : Vector ThermCh 14) (c : Nat) : List Int :=
  let adj := s.fld (0xC0011 + 4 * c) 13 0
  (List.range 14).filterMap (fun k =>
    let x := vget v k
    if bit adj k && k != c && !x.broken && x.convAt.isSome then some x.temp else none)

/-- STATE of a conversion from its raw measurement: forward voltage in mV for a diode (Table 17.6), resistance in Ω for a thermistor
(R655). -/
def convState (c raw : Nat) : Nat :=
  if c < 8 then (if 1000 < raw then 2 else if raw < 150 then 3 else 0)
  else if c < 12 then (if 400000 < raw then 2 else if raw < 200 then 3 else 0)
  else 0

/-- RATE of a channel in 0.01 K/s against the newest earlier conversion at least 1.0 s older, and whether it exceeds RISEMAX (R518). -/
def State.rateOf (s : State) (c : Nat) (x : ThermCh) (t : Int) : Option (Int × Bool) :=
  match x.hist.find? (fun p => decide (p.1 + 1000000000 ≤ s.clk.dtime)) with
  | some (t0, v0) =>
    let dt : Int := (s.clk.dtime - t0 : Nat)
    some (clampInt (-32768) 32767 ((t - v0) * 100000000000 / (16 * dt)), decide ((s.riseMax c : Int) * 16 * dt < (t - v0) * 10000000000))
  | none => none

/-- Conversions worth keeping: up to the first that is 1.0 s old. -/
def histKeep (now : Nat) : List (Nat × Int) → List (Nat × Int)
  | [] => []
  | p :: t => if p.1 + 1000000000 ≤ now then [p] else p :: histKeep now t

/-- A channel's rate of rise after a conversion with STATE `st`; one that failed forms no rate (R518, R519). -/
def State.withRate (s : State) (c st : Nat) (t : Int) (x : ThermCh) : ThermCh :=
  if st ≠ 0 then { x with rateRun := 0 }
  else
    let y := { x with hist := (s.clk.dtime, t) :: histKeep s.clk.dtime x.hist }
    match s.rateOf c x t with
    | none => { y with rateRun := 0 }
    | some (rate, true) => { y with rate := rate, rateRun := y.rateRun + 1, rateHot := y.rateHot || decide (1 ≤ y.rateRun) }
    | some (rate, false) => { y with rate := rate, rateRun := 0, rateHot := false }

/-- A channel's agreement with its neighbours after a conversion, and whether it is broken (R527 to R529). An on-die channel is compared with no
neighbour (R527): one conversion that fails breaks it, XCNT that do not make it good (R516, assumption 138). -/
def State.withAgreement (s : State) (v : Vector ThermCh 14) (c st : Nat) (t : Int) (x : ThermCh) : ThermCh :=
  let tol := 16 * (if c < 8 then s.fld 0xC0002 7 0 else s.fld 0xC0002 15 8)
  let n := s.fld 0xC0002 17 16
  let y :=
    if st ≠ 0 then { x with agree := 0 }
    else if 12 ≤ c then { x with agree := x.agree + 1 }
    else match median (s.goodNeighbours v c) with
      | none => { x with agree := 0, disagree := 0 }
      | some m => if tol < (t - m).natAbs then { x with disagree := x.disagree + 1, agree := 0 } else { x with disagree := 0, agree := x.agree + 1 }
  if !y.broken && (st != 0 || decide (n ≤ y.disagree)) then { y with broken := true, agree := 0 }
  else if y.broken && st == 0 && decide (n ≤ y.agree) then { y with broken := false, disagree := 0 }
  else y

/-- The value in use, the conversion's or the substitute of R529, and its level, of the predicted value while the rate is exceeded (R519, R520).
A broken on-die channel without a good neighbour keeps its last value (assumption 138). -/
def State.valued (s : State) (v : Vector ThermCh 14) (c : Nat) (t : Int) (x : ThermCh) : ThermCh :=
  let temp := if x.broken then
      (match maxInt? (s.goodNeighbours v c) with | some m => m + 128 | none => if c < 12 then s.tlim c else x.temp)
    else t
  let ahead := if x.rateHot then x.rate * ((s.graceTenths : Int) + 20) * 16 / 1000 else 0
  { x with
    temp := temp, state := b2n x.broken
    lvl := if c < 12 then levelOf (s.tstart c) (s.tlim c) (temp + ahead) else 0 }

def State.withValue (s : State) (v : Vector ThermCh 14) (c : Nat) (t : Int) (x : ThermCh) : ThermCh :=
  { s.valued v c t x with convAt := some s.clk.now, tstart := if c < 12 then s.tstart c else 0 }

/-- A channel after a conversion, in one view of the channels (R517 to R520, R527 to R529). -/
def State.sensed (s : State) (v : Vector ThermCh 14) (c st : Nat) (t : Int) : ThermCh :=
  s.withValue v c t (s.withRate c st t (s.withAgreement v c st t (vget v c)))

/-- All channels after a conversion of one: the substitutes of broken channels follow their neighbours' latest values (R529). -/
def State.sensedAll (s : State) (v : Vector ThermCh 14) (c st : Nat) (t : Int) : Vector ThermCh 14 :=
  iter (fun k v => if k ≠ c ∧ (vget v k).broken then vset v k (s.valued v k 0 (vget v k)) else v) 14 (vset v c (s.sensed v c st t))

/-- THM_OPEN, THM_SHORT and THM_BROKEN at a declaration, FLOOR with the first and until the last broken channel is good (R528 to R530). -/
def State.brokenChange (c st : Nat) (was : ThermCh) (s : State) : State :=
  let none' := (List.range 14).all (fun k => k == c || !(vget s.thm.ch k).broken)
  if !was.broken && (vget s.thm.ch c).broken then
    let s := if st = 2 then s.raise0 0x309 c 0 else if st = 3 then s.raise0 0x30A c 0 else s
    (s.setThm (fun h => { h with floor := if none' then some h.enf else h.floor })).raise0 0x302 c 0
  else if was.broken && !(vget s.thm.ch c).broken && none' then (s.setThm (fun h => { h with floor := none })).resolveAll 0x302
  else s

/-- THM_RATE at the second conversion in a row above RISEMAX, resolved at the first that is not (R519). -/
def State.rateChange (c st : Nat) (s : State) : State :=
  let x := vget s.thm.ch c
  if st ≠ 0 then s
  else if x.rateHot && decide (2 ≤ x.rateRun) then s.raise0 0x303 c 0
  else if !x.rateHot then s.resolve 0x303 c
  else s

/-- A channel's conversion is evaluated; at TLIM ENF is 7 at once (R522). -/
def State.evalChannel (c st : Nat) (t : Int) (s : State) : State :=
  let was := vget s.thm.ch c
  let t10 := (vget s.thm.ch 10).temp
  let s := s.setThm (fun h => { h with ch := s.sensedAll h.ch c st t })
  let s := ((s.brokenChange c st was).rateChange c st).retarget
  let top := (List.range 12).any (fun k => (vget s.thm.ch k).convAt.isSome && decide (s.tlim k ≤ (vget s.thm.ch k).temp))
  let s := if top then s.riseEnf 7 else s
  let s := if c = 10 ∨ (vget s.thm.ch 10).temp ≠ t10 then (s.setTj).retarget else s
  if c < 8 then s.setEband c else s

/-- Guidon's view of a conversion that served it, and its target level: that of its channels and of the junction rule (R534). -/
def State.gdnSense (c st : Nat) (t : Int) (s : State) : State :=
  s.setThm (fun h =>
    let v := s.guidonView.sensedAll h.gdnCh c st t
    { h with
      gdnCh := v
      gdnTgt := max ((List.range 12).foldl (fun m k => max m (vget v k).lvl) 0) (max h.tjLvl (if h.xcheck = 0 then 0 else 4)) })

/-- THERMAL_MEASURE answers once each named channel has been converted. -/
def State.measureGot (c : Nat) (s : State) : State :=
  match s.thm.measure with
  | some (id, mask, l) =>
    if mask.getLsbD c && l.all (fun p => p.1 != c) then
      let x := vget s.thm.ch c
      let l := l ++ [(c, x.temp, x.state)]
      if (List.range 14).all (fun k => !mask.getLsbD k || l.any (fun p => p.1 == k)) then
        let data := (List.range 14).flatMap (fun k => match l.find? (fun p => p.1 == k) with
          | some p => le 2 (unsigned 16 p.2.1) ++ le 2 p.2.2
          | none => [])
        (s.setThm (fun h => { h with measure := none })).answer id stOk data
      else s.setThm (fun h => { h with measure := some (id, mask, l) })
    else s
  | none => s

/-- A conversion of a temperature channel is over: who it served, and what it says. -/
def State.convEnd (v : Conv) (st : Nat) (t : Int) (s : State) : State :=
  let c := v.ch
  let m : BitVec 14 := ~~~(BitVec.ofNat 14 (2 ^ c))
  let s := s.setThm (fun h => { h with
    conv := none, nHost := h.nHost + BitVec.ofNat 8 (b2n v.host), nPol := h.nPol + BitVec.ofNat 8 (b2n v.policy),
    nGdn := h.nGdn + BitVec.ofNat 8 (b2n v.gdn), pendHost := if v.host then h.pendHost &&& m else h.pendHost,
    pendPol := if v.policy then h.pendPol &&& m else h.pendPol, pendGdn := if v.gdn then h.pendGdn &&& m else h.pendGdn })
  let s := s.evalChannel c st t
  let s := if v.gdn && decide (12 ≤ c) then (s.xcheck c).retarget else s
  let s := if v.gdn then s.gdnSense c st t else s
  let s := s.relaxMark
  if v.host then s.measureGot c else s

/-- Ideality factor of the diode on channel c, times 10,000: that of the burgee that serves the channel, 1.0080 before step 7 has accepted one
(R511, Table 8.3). A clone pair's group-1 engine numbers its diodes 0 to 3 from channel 4 on. -/
def State.ideality (s : State) (c : Nat) : Nat :=
  if s.eng.engId then leAt (s.burgeeOf (2 * c)) (48 + 2 * (if s.eng.pair then c % 4 else c)) 2 else 10080

/-- A diode's temperature in 1/16 °C from that which its measurement stands for under an ideality factor of 1: the absolute temperature
divided by the factor, to the nearest step (R511; assumption 46). -/
def diodeTemp (f : Nat) (x : Int) : Int :=
  if f = 0 then Config.diodeOpen x
  else (20000 * (10 * x + 43704) - 2 * 43704 * (f : Int) + 10 * (f : Int)) / (20 * (f : Int))

/-- The first n binary places of the logarithm to the base 2 of a number from 1 to 2, which `m` gives in 48 binary places. -/
def log2Places : Nat → Nat → Nat
  | 0, _ => 0
  | n + 1, m => if m * m / 2 ^ 48 < 2 ^ 49 then log2Places n (m * m / 2 ^ 48) else 2 ^ n + log2Places n (m * m / 2 ^ 49)

/-- Logarithm to the base 2 of a number above 0, in 32 binary places. -/
def log2Of (v : Nat) : Nat := 2 ^ 32 * Nat.log2 v + log2Places 32 (2 ^ 48 * v / 2 ^ Nat.log2 v)

/-- A thermistor's temperature in 1/16 °C from its resistance in Ω (R512): the formula with a logarithm of 32 binary places, to the nearest step
(assumption 46). -/
def ntcTemp (raw r25 beta : Nat) : Int :=
  let ln : Int := ((log2Of raw : Int) - log2Of r25) * 6931471805599453 / 10 ^ 16
  let d : Int := 100 * beta * 2 ^ 32 + 29815 * ln
  if raw = 0 ∨ r25 = 0 ∨ beta = 0 ∨ d ≤ 0 then Config.ntcOpen raw r25 beta
  else (320 * 29815 * (beta : Int) * 2 ^ 32 - 2 * 43704 * d + 10 * d) / (20 * d)

/-- Temperature of a channel from its conversion, with the terms of the calibration: a diode's is scaled (R511), a thermistor's is that of its
resistance (R512). -/
def State.scaledTemp (s : State) (v : Conv) (raw : Nat) (x : Int) : Int :=
  let c := v.ch
  if c < 8 then
    diodeTemp (s.ideality c) (match v.terms with | some k => Config.diodeTrim x k.ofs k.gain k.line | none => x)
  else if c < 12 then
    ntcTemp (match v.terms with | some k => Config.ntcTrim raw k.ofs k.gain | none => raw)
      (s.fld (0xC0050 + (c - 8)) 15 0) (s.fld (0xC0050 + (c - 8)) 31 16)
  else x

/-- CONVERSION_DONE (R514). -/
def State.convDone (raw : Nat) (temp : Int) (s : State) : State :=
  match s.thm.conv with
  | none => s
  | some v =>
    if v.ch = 14 then
      let s := s.setThm (fun h => { h with conv := none, nCal := h.nCal + 1 })
      (s.calConv raw (decide (v.dur = 250000))).convStart
    else (s.convEnd v (convState v.ch raw) (s.scaledTemp v raw temp)).convStart

/-- CONVERSION_TIMEOUT: twice the conversion time has passed (R516). -/
def State.convTimeout (s : State) : State :=
  match s.thm.conv with
  | none => s
  | some v =>
    if v.startAt + 2 * v.dur ≤ s.clk.now then
      let s := s.raise0 0x307 v.ch 0
      if v.ch = 14 then (s.setThm (fun h => { h with conv := none })).convStart
      else (s.convEnd v 2 (vget s.thm.ch v.ch).temp).convStart
    else s

/-- THERMAL_MEASURE in a mode that permits it. -/
def State.thermalMeasure (id : ReqId) (mask : Nat) (s : State) : State :=
  if mask = 0 then s.answer id stOk []
  else if 0x4000 ≤ mask then s.answer id stBadParam []
  else
    (s.setThm (fun h => { h with
      pendHost := h.pendHost ||| BitVec.ofNat 14 mask, measure := some (id, BitVec.ofNat 14 mask, []) })).convStart

/-- THERMAL_POLICY_TICK (R513). -/
def State.policyTick (guidon : Bool) (s : State) : State :=
  let m := s.mode.cur
  if m = .off ∨ m = .sleep ∨ m = .boot ∨ !s.pow.logicOn then s
  else if guidon then (s.setThm (fun h => { h with pendGdn := 0x3FFF, gdnAt := s.clk.dtime })).convStart
  else
    let period := if m = .beam then s.fld 0xC0000 23 16 * 1000000 else 100000000
    if m = .safeDark ∨ s.clk.dtime < s.thm.policyAt + period then s
    else (s.setThm (fun h => { h with pendPol := 0xFFF, policyAt := s.clk.dtime })).convStart

end Sys2Proof.Machine
end

