-- ==== Sys2Proof/Machine/Power.lean ====
section
/-! DEFINITION. Supplies, wake, the logic-die reset, brownout and the end of SLEEP entry (chapters 1 and 15), and the RTC's tick. -/

namespace Sys2Proof.Machine

def State.setPow (f : Power → Power) (s : State) : State := { s with pow := f s.pow }

/-! ### Logic-die reset (R65, R66, R89, R488, Table 18.2) -/

/-- The Ensign through a logic-die reset: its held state, switches, inputs and tests of the past stay; what the logic die asked of it
ends, and an override that only keep-alive injection caused. -/
def Ensign.afterReset (e : Ensign) : Ensign :=
  { e with hbSeq := none, swTest := none, swNext := none, injectAt := none, ovr := if e.injectAt.isSome then e.safe.isSome else e.ovr, svcMode := false }

/-- The HV die's end of the die link through a logic-die reset. Both ends count SEQ and TAG afresh downstream. -/
def DieLink.afterReset (d : DieLink) : DieLink :=
  { DieLink.reset with
    seqUp := d.seqUp, rxUp := d.seqUp, evOut := d.evOut, dropOut := d.dropOut, evNext := d.evNext, dropNext := d.dropNext,
    evBuf := d.evBuf.map (fun e => { e with pended := e.pended && isEns e.code }), lostNow := d.lostNow, downErr := d.downErr, resend := d.resend, hvLost := d.hvLost }

/-- Calibration through a logic-die reset: what is retained stays, and a fuse row under way completes (R594, Table 18.2). -/
def Cal.afterReset (c : Cal) : Cal :=
  { c with
    count := 0, refV := 0, refR := 0, dstale := false, inhTj := true, inhibit := true, clearAt := none
    run := match c.run with | some r => (if r.row.isSome then some { r with ended := true } else none) | none => none }

/-- The ENS block's faults through a logic-die reset (R488): active and latched; those that the logic die has learnt of it counts again when its
reset is released (R489, assumption 55). -/
def Faults.afterReset (f : Faults) : Faults :=
  { Faults.reset with
    latch := vset Faults.reset.latch 10 (vget f.latch 10)
    active := f.active.filter (fun a => isEns a.code)
    ensP := f.ensP, ensI := f.ensI }

/-- What a port keeps through a logic-die reset: the halves latched for it of words that keep theirs (R669, R679, Tables 14.7 and 18.2). -/
def PortState.afterReset (x : PortState) : PortState := { PortState.reset with rtcHi := x.rtcHi, lastHi := x.lastHi }

/-- The machine with the logic die in reset: every register of its domain at its reset value, the HV die as it was. -/
def State.logicReset (s : State) : State :=
  { State.reset with
    pending := s.pending, free := s.free
    clk := { Clock.reset with now := s.clk.now, dtime := s.clk.dtime, dmark := s.clk.dmark, timeHigh := s.clk.timeHigh }
    mode := { ModeState.reset with cur := .boot }
    pow := { s.pow with logicOn := false }
    rtc := s.rtc
    regs := { RegFile.reset with act := keepHv s.regs.act }
    ports := s.ports.map PortState.afterReset
    ens := s.ens.afterReset
    flt := s.flt.afterReset
    cal := s.cal.afterReset
    dl := s.dl.afterReset
    jtag := { s.jtag with ir := Jtag.reset.ir } }

/-! ### RESET (R65, R77, R122, R123) -/

/-- Replies that RBFULL held at a RESET become packets of the session they belong to (R123). Their FLAGS are those of the restart: the
spec does not say whether they are, or those of the placement that follows it (assumption 106). -/
def State.packHeld (s : State) : List Reply → Word → List (List Byte) × Word
  | [], q => ([], q)
  | r :: t, q =>
    let (l, q') := s.packHeld t (q + 1)
    (packet 0xC5 r.status r.tag (s.replyFlags r.last) q (s.filled r) :: l, q')

/-- What a restart by RESET keeps of an SPI port (R89, R123). -/
def State.keptPort (s : State) (p : Port) : PortState :=
  let ps := s.port p
  let (l, q) := s.packHeld ps.held ps.repSeq
  { ps.afterReset with reqSeq := ps.reqSeq, repSeq := q, buf := ps.buf, carry := ps.carry ++ l }


/-- Transfers are in flight: a write into the store, or operations of a lane (R77). -/
def State.inFlight (s : State) : Bool :=
  s.hoist.cur.isSome || s.hoist.ingress.any Ingress.isVid || (List.range 16).any s.laneBusy

/-- The requests that a transition, the queue and bring-up keep have been answered by a RESET. -/
def ModeState.unowned (m : ModeState) : ModeState :=
  { m with
    trans := match m.trans with
      | some t => if t.target = .sleep then none else some { t with owner := none, merged := [] }
      | none => none
    queue := none, sleep := .none, bootSafe := m.bootSafe.map (fun b => (b.1, [])) }

/-- The replies of a RESET: TRANSFER_ABORTED for every command outstanding, then its own, with LAST (R122). -/
def State.resetReply (r : Restart) (s : State) : State :=
  let s := ((s.abortCur).abortWaiting none).abortAll [r.id]
  let s := s.reply r.id.port { tag := r.id.tag, status := 0, data := [], fill := .none, last := true, frees := true }
  { s with mode := { s.mode.unowned with restart := some { r with replied := some s.clk.dtime } } }

/-- A RESET whose transfers have drained places its replies (R77, R122). -/
def State.resetDrained (s : State) : State :=
  match s.mode.restart with
  | some r => if r.replied.isNone && !s.inFlight then s.resetReply r else s
  | none => s

/-- A RESET whose transfers have not drained after 500 µs places its replies (R78). -/
def State.resetTimeout (s : State) : State :=
  match s.mode.restart with
  | some r => if r.replied.isNone && decide (r.since + 500000 ≤ s.clk.dtime) then s.resetReply r else s
  | none => s

/-- SERVICE has been left, if it was in force, by a restart of the logic die: an open housing counts from then on (R449). -/
def State.serviceOver (was : Bool) (s : State) : State := if was && s.ens.hsgOpen then s.ensEnter true 5 0x28D else s

/-- The logic die restarts at step 3, 100 µs after the RESET reply: HTX transmits that long after the last block of what it has to send
(R412, Table 1.2). -/
def State.restartDue (s : State) : State :=
  match s.mode.restart with
  | some { replied := some t, .. } =>
    if decide (t + 100000 ≤ s.clk.dtime) && (!s.hoistUp || s.hoist.quiet s.clk.dtime) then
      let r := s.logicReset
      (({ r with ports := (r.ports.set 0 (s.keptPort .cspi)).set 1 (s.keptPort .wspi) } : State).setPow (fun p => { p with viaReset := true })).serviceOver s.ens.svcMode
    else s
  | _ => s

/-! ### Reset release -/

/-- A class of which the logic die counts a fault at its reset release, one of the ENS block that RESET left active: its timer runs from there
(R488, R489). -/
def State.resumeTimer (s : State) (cls : Nat) : State :=
  if s.classCount cls = 0 then s
  else
    let t : Timer := { start := some s.clk.dtime, expired := false, due := decide (s.grace cls = 0) }
    { s with flt := { s.flt with timers := vset s.flt.timers cls t } }

/-- LOGIC_RESET_RELEASE: DTIME starts under R59, the straps are sampled or recalled (R636), the store clear, Guidon and the crystal start;
the HV die is told the high half of DTIME before the first TIMEMARK (Table 15.3). -/
def State.resetRelease (straps : BitVec 4) (s : State) : State :=
  if !s.pow.railsGood || s.pow.logicOn || decide (s.mode.cur ≠ .boot) || decide (s.clk.now < s.pow.railsAt + 200000) then s
  else
    let start := max (s.rtc.count * 1000000000) (s.clk.dmark + 3000000)
    let s := s.setPow (fun p => { p with
      logicOn := true, retried := false, ignoreRtc := p.ignoreRtc && s.flag 0x100007 0,
      straps := if p.strapsKept then p.straps else straps, strapsKept := true, viaReset := false, brown := false,
      rails4 := 15 })
    let s : State := { s with
      clk := { s.clk with dtime := start, part := 0, tbXtal := false, xtalOk := false, highSent := none, markWord := none, markAt := start }
      gdn := { s.gdn with hbRun := true, hbAt := s.clk.now, ensAt := s.clk.now }
      dl := { s.dl with
        highOut := some { body := start / 2 ^ 52, tag := s.dl.highNext, resends := 0, sentAt := s.clk.now }
        highNext := s.dl.highNext + 1 } }
    let s := s.setAct 0x110003 (if s.pow.straps.getLsbD 2 then 1 else 0)
    ((List.range 7).foldl State.resumeTimer s).inhibitRelease

/-- SYS_RESET and the RESETCMD cause bit of a restart by RESET (R65, Table 1.5b). -/
def State.noteReset (was : Bool) (s : State) : State := if was then (s.hwSet 0x00003 0x10).event 0x009 else s

/-- LOGIC_RESET_RELEASE with the note of a RESET; replies kept across it go out as space allows (R123). -/
def State.releaseRow (straps : BitVec 4) (s : State) : State :=
  let was := s.pow.viaReset
  let on := s.pow.logicOn
  let s := s.resetRelease straps
  if !on && s.pow.logicOn then
    let s := s.noteReset was
    State.placeHeld (s.port .wspi).carry.length .wspi (State.placeHeld (s.port .cspi).carry.length .cspi s)
  else s

/-! ### Wake (R52 to R57, Table 1.8) -/

/-- Wake sources pending, as WAKECAUSE bits: RTC, WAKE_N, Hoist. A level source of an abandoned wake is ignored until it has gone
inactive. -/
def State.wakeBits (s : State) : Nat :=
  b2n (s.flag 0x00002 0 && s.flag 0x100007 0 && !s.pow.ignoreRtc) + b2m (s.flag 0x00002 1 && !s.pow.wakeN && !s.pow.ignoreWakeN) 1 +
    b2m (s.flag 0x00002 2 && s.pow.hrxEdge) 2

/-- The Ensign evaluates its inputs again from the wake on (R651); a demand still recognised from before SLEEP is held at once, so that the
switches stay open and step 6 enters SAFE-DARK (R62, R459). -/
def State.inputsWake (s : State) : State :=
  let at_ := Vector.replicate 8 s.clk.now
  let s := s.setEns (fun e => { e with rawAt := at_, rawPrev := at_ })
  if s.inputDemand then s.ensEnter true (if s.ens.darkReq then 4 else 5) 0x28D else s

/-- Bring-up begins where SLEEP is complete and a source is pending: causes add up, PMIC_EN is asserted (Table 1.6 steps 1 and 2). -/
def State.wakeCheck (s : State) : State :=
  if s.pow.vbat && decide (s.mode.cur = .sleep ∧ s.mode.sleep = .none) && decide (s.wakeBits ≠ 0) then
    let s := (s.hwSet 0x00003 s.wakeBits).bufferHv { code := 0x002, inst := 0, data := 0, act := false, esc := false, pended := false }
    let s := s.setPow (fun p => { p with hrxEdge := false, pmicEn := true, pmicAt := s.clk.now, railsGood := false, retried := false, retryDue := none })
    ({ s with mode := { ModeState.reset with cur := .boot } } : State).inputsWake
  else s

/-- WAKE_N_LOW and WAKE_N_HIGH: the pin's level. -/
def State.wakeLow (s : State) : State := (s.setPow (fun p => { p with wakeN := false })).wakeCheck
def State.wakeHigh (s : State) : State := s.setPow (fun p => { p with wakeN := true, ignoreWakeN := false })

/-- HRX0_EDGE (R54): latched from the release of PMIC_EN until the next wake while HOIST_EN is 1, but for the last 91.6 µs before SLEEP is
complete. -/
def State.hrxEdge (s : State) : State :=
  let blind := decide (s.mode.sleep = .released) && decide (s.pow.pmicAt + 20000000 - 91600 ≤ s.clk.now)
  if s.pow.vbat && s.flag 0x00002 2 && decide (s.mode.cur = .sleep) && !blind then (s.setPow (fun p => { p with hrxEdge := true })).wakeCheck
  else s

/-- RTC_TICK: one second more, as the oscillator gives it, counted as running or not (R675, R678, chapter 18 "RTC and wake"). -/
def State.rtcTick (s : State) : State := if s.rtcDue then s.rtcCount.wakeCheck else s

/-! ### Power-on, rails and their failure (R602, R605, R607, Table 1.8) -/

/-- VBAT_POWER_ON: from OFF to SLEEP with the HV die's registers at their reset values, and at once further where a level source is active
(R602, R638, R679, R581). -/
def State.powerOn (s : State) : State :=
  if s.pow.vbat then s
  else
    let s := s.setPow (fun p => { Power.reset with vbat := true, wakeN := p.wakeN })
    let s : State := { s with
      mode := { ModeState.reset with cur := .sleep }, rtc := { Rtc.reset with since := s.clk.now }
      ens := { s.ens with powerOnAt := s.clk.now }, ports := s.ports.map (fun x => { x with rtcHi := 0, lastHi := 0 }) }
    (s.calPowerOn).wakeCheck

/-- VBAT_OFF: everything but the fuse bank is lost. -/
def State.powerOff (s : State) : State :=
  if s.pow.vbat then
    { State.reset with
      pending := s.pending, free := s.free, clk := { Clock.reset with now := s.clk.now }
      pow := { Power.reset with wakeN := s.pow.wakeN }, cal := { Cal.reset with bank := s.cal.bank } }
  else s

/-- RAILS_GOOD: the 0.2 ms of R605 begin, after a break afresh. -/
def State.railsUp (s : State) : State :=
  if s.pow.pmicEn && !s.pow.logicOn && decide (s.mode.cur = .boot) then
    s.setPow (fun p => { p with railsGood := true, railsAt := s.clk.now, rails4 := 15 })
  else s

/-- PMIC_EN is released: the rails fall, and SLEEP is complete 20 ms later (R604, R605). -/
def State.pmicOff (s : State) : State :=
  let s := s.setPow (fun p => { p with pmicEn := false, pmicAt := s.clk.now, railsGood := false, rails4 := 0, retried := false, retryDue := none, viaReset := false })
  { s with mode := { ModeState.reset with cur := .sleep, sleep := .released } }

/-- RAILS_TIMEOUT: a first failure is tried again once after 100 ms; after a second the device returns to SLEEP and ignores the level
sources that are active (Table 1.8 row 2). -/
def State.railsLate (s : State) : State :=
  if s.pow.pmicEn && !s.pow.railsGood && !s.pow.logicOn && decide (s.mode.cur = .boot ∧ s.pow.pmicAt + 20000000 ≤ s.clk.now) then
    let s := (s.hwSet 0x00003 0x20).bufferHv { code := 0x007, inst := 0, data := 0, act := false, esc := false, pended := false }
    if s.pow.retried then
      (s.setPow (fun p => { p with ignoreRtc := s.flag 0x100007 0, ignoreWakeN := !p.wakeN })).pmicOff
    else s.setPow (fun p => { p with pmicEn := false, pmicAt := s.clk.now, retried := true, retryDue := some (s.clk.now + 100000000) })
  else s

/-- PMIC_RETRY. -/
def State.pmicRetry (s : State) : State :=
  match s.pow.retryDue with
  | some t0 =>
    if t0 ≤ s.clk.now then s.setPow (fun p => { p with pmicEn := true, pmicAt := s.clk.now, retryDue := none }) else s
  | none => s

def railBit : Rail → Nat
  | .vcore => 0 | .vio18 => 1 | .vlane => 2 | .vlaneh => 3

/-- BROWNOUT (R607): logic-die reset, SAFE-BEAM with cause 3 unless SAFE-DARK is in force, the switches left as they are. Before
the release it is the break of R605. -/
def State.brownOut (rail : Rail) (s : State) : State :=
  let low (p : Power) : Power := { p with railsGood := false, rails4 := p.rails4 &&& ~~~(BitVec.ofNat 4 (2 ^ railBit rail)) }
  if !s.pow.logicOn then s.setPow low
  else
    let svc := s.ens.svcMode
    let s := (s.logicReset).hwSet 0xF0100 0x800
    let s := s.setPow (fun p => { low p with pmicAt := s.clk.now, retried := false, brown := true })
    if s.ens.safe = some .safeDark then s.hold true
    else if svc && s.ens.hsgOpen then s.serviceOver true
    else s.assertSafe false { src := 3, cls := 0, code := 0, logic := false }

/-! ### Supplies above brownout (R608, R619, Table 15.4) -/

/-- VCORE_WINDOW: VCORE in 0.1 mV as PWR.SUP.MEAS1 shows it, outside the window for 20 µs or inside it for 1 ms (R608). -/
def State.vcoreWindow (vcore : Half) (s : State) : State :=
  if !s.pow.logicOn then s
  else
    let good := s.vcoreGood vcore.toNat
    let s : State := { s with
      pow := { s.pow with meas1 := BitVec.ofNat 32 (s.pow.meas1.toNat / 65536 * 65536 + vcore.toNat) }, fab := { s.fab with vcoreBad := !good } }
    if good then s.resolveAll 0x3C7 else s.raiseHv 0x3C7 0 0

/-- The inhibit follows a changed sag condition while the logic die runs; at its release it is set in any case (R589, R590). -/
def State.sagChanged (s : State) : State := if s.pow.logicOn then s.inhibitEval else s

/-- The monitored value of a condition's supply, in mV (Table 15.10). -/
def State.supplyValue (c : SupplyCond) (level : Nat) (s : State) : State :=
  let lo (w : Word) : Word := BitVec.ofNat 32 (w.toNat / 65536 * 65536 + level % 65536)
  let hi (w : Word) : Word := BitVec.ofNat 32 (w.toNat % 65536 + 65536 * (level % 65536))
  match c with
  | .vbatHigh => s.setPow (fun p => { p with meas0 := lo p.meas0 })
  | .vbatSag => s.setPow (fun p => { p with meas0 := lo p.meas0 })
  | .vbatCrank => s.setPow (fun p => { p with meas0 := lo p.meas0 })
  | .vio18Sag => s.setPow (fun p => { p with meas0 := hi p.meas0 })
  | .vledUnder => s.setPow (fun p => { p with meas1 := hi p.meas1 })
  | .vledOver => s.setPow (fun p => { p with meas1 := hi p.meas1 })

/-- A monitored value, in mV, is past the threshold at which a condition of Table 15.4 is entered, or left. -/
def supplyPast : SupplyCond → Bool → Nat → Bool
  | .vbatHigh, true, v => decide (20000 < v)
  | .vbatHigh, false, v => decide (v < 19000)
  | .vbatSag, true, v => decide (v < 9000)
  | .vbatSag, false, v => decide (9200 ≤ v)
  | .vbatCrank, true, v => decide (v < 6000)
  | .vbatCrank, false, v => decide (6500 ≤ v)
  | .vio18Sag, true, v => decide (v < 1710)
  | .vio18Sag, false, v => decide (1730 ≤ v)
  | .vledUnder, true, v => decide (v < 7500)
  | .vledUnder, false, v => decide (8000 ≤ v)
  | .vledOver, true, v => decide (52000 < v)
  | .vledOver, false, v => decide (v < 50000)

/-- SUPPLY_THRESHOLD: a condition of Table 15.4 is entered or left, where the level is past its threshold (R619); else it only shows. -/
def State.supply (c : SupplyCond) (enters : Bool) (level : Nat) (s : State) : State :=
  if !s.pow.vbat then s
  else
    let s := s.supplyValue c level
    if !supplyPast c enters level then s
    else
    match c with
    | .vbatHigh =>
      if s.pow.vbatHigh == enters then s
      else
        let s := s.setPow (fun p => { p with vbatHigh := enters })
        if enters then s.raiseHv 0x3C9 0 0 else s
    | .vbatSag =>
      if s.pow.vbatSag == enters then s
      else
        let s := s.setPow (fun p => { p with vbatSag := enters })
        let s : State := { s with cal := { s.cal with inhVbat := enters } }
        (if enters then s.raiseHv 0x3C3 0 0 else s).sagChanged
    | .vbatCrank =>
      if s.pow.vbatCrank == enters then s
      else
        let s := s.setPow (fun p => { p with vbatCrank := enters })
        if enters then s.raiseHv 0x3C8 0 0 else s
    | .vio18Sag =>
      if s.pow.vioSag == enters then s
      else
        let s := s.setPow (fun p => { p with vioSag := enters })
        let s : State := { s with cal := { s.cal with inhVio := enters } }
        (if enters then s.raiseHv 0x3C4 0 0 else s).sagChanged
    | .vledUnder =>
      if s.pow.vledUv == enters then s
      else
        let s := s.setPow (fun p => { p with vledUv := enters, vledUvLeft := if enters then none else some s.clk.now })
        if enters then s.raiseHv 0x3C5 0 0 else s
    | .vledOver =>
      if s.pow.vledOv == enters then s
      else
        let s := s.setPow (fun p => { p with vledOv := enters })
        if enters then s.raiseHv 0x3C6 0 0 else s.resolveAll 0x3C6

/-! ### The end of SLEEP entry (Table 1.10) -/

/-- DRAIN_TIMEOUT: transfers that have not drained 500 µs after SLEEP entry, the furling of a lane or RESET began are aborted, and what
waits for them goes on (R77 to R80): of SLEEP entry the life record, the commands outstanding but its own request answered. -/
def State.drainTimeout (s : State) : State :=
  let s := (s.furlExpired).resetTimeout
  if decide (s.mode.sleep = .draining) && decide (s.mode.sleepAt + 500000 ≤ s.clk.dtime) then
    let ids := match s.mode.trans with | some tr => (tr.owner.toList ++ tr.merged).map (·.id) | none => []
    (((s.abortCur).abortWaiting none).abortAll ids).sleepLife
  else s

/-- SLEEP_PMIC_RELEASE: 2 ms after the SLEEP reply, and 100 µs after the last block that HTX had to send (R412), the logic die is reset and
PMIC_EN released (R81, R605). -/
def State.sleepPower (s : State) : State :=
  if decide (s.mode.sleep = .replied) && decide (s.mode.sleepAt + 2000000 ≤ s.clk.dtime) && (!s.hoistUp || s.hoist.quiet s.clk.dtime) then (s.logicReset).pmicOff else s

/-- The Ensign in SLEEP: it holds nothing, its heartbeat and oscillator record start again at the wake (R61), and the H fields of its
block are free (R463). The registers of its block keep their values (R669), WINBAD among them. -/
def Ensign.asleep (e : Ensign) : Ensign :=
  { e with
    ovr := false, gdis := false, hsOn := false, lsOn := false, closeAt := none, closeWait := false, safe := none, badRun := 0, goodRun := 0, hbSeq := none,
    oscPassed := false, oscBad := false, oscSkip := false, noPulseA := false, noPulseB := false, swTest := none, testBad := false, swNext := none, injectAt := none, running := false, svcMode := false }

/-- SLEEP_COMPLETE: 20 ms after the release the level sources are sampled, and an edge latched by then wakes the device (R54, R56). -/
def State.sleepDone (s : State) : State :=
  if decide (s.mode.cur = .sleep ∧ s.mode.sleep = .released) && decide (s.pow.pmicAt + 20000000 ≤ s.clk.now) then
    (({ s with mode := { s.mode with sleep := .none }, ens := s.ens.asleep } : State).pairDisc .nf s.clk.now).wakeCheck
  else s

end Sys2Proof.Machine
end

