-- ==== Sys2Proof/Machine/Boot.lean ====
section
/-! DEFINITION. Bring-up from the store clear to READY (R58 to R70, R83 to R86, Tables 1.6, 1.8, 1.11 and 1.12) and the timebase. -/

namespace Sys2Proof.Machine

/-! ### The patch image (Tables 1.11 and 1.12) -/

/-- The records of a configuration section: the word of the last PAD record, 0 without one; none where the section breaks R86. -/
def padRecord : Nat → Word → List Byte → Option Word
  | 0, _, _ => none
  | n + 1, pad, ty :: len :: t =>
    if ty = 0 then (if len = 0 then some pad else none)
    else if t.length < len.toNat then none
    else if ty = 1 then (if len = 4 then padRecord n (BitVec.ofNat 32 (leAt t 0 4)) (t.drop 4) else none)
    else padRecord n pad (t.drop len.toNat)
  | _ + 1, _, _ => none

/-- The conditions of R84 for the firmware section: VERSION, the lengths of R83, FWSIG over header bytes 0 to 15 and the section. -/
def firmwareGood (image : List Byte) : Bool :=
  let fw := leAt image 8 4
  let cfg := leAt image 12 4
  decide (leAt image 4 1 = 1 ∧ fw % 4 = 0 ∧ 4 ≤ fw ∧ cfg ≤ 4096 ∧ fw + cfg ≤ 261632 ∧ 512 + fw ≤ image.length) &&
    signedBy Config.romKey (image.take 16 ++ (image.drop 512).take fw) image 16

/-- The integrator's key (Table 1.11). -/
def integratorKey (image : List Byte) : Nat × Nat := (ofBe ((image.drop 80).take 32), ofBe ((image.drop 112).take 32))

/-- The configuration section, where its two signatures verify (R85): KEYSIG over header bytes 80 to 143, CFGSIG under the certified key
over header bytes 0 to 15 and the section. -/
def configSection (image : List Byte) : Option (List Byte) :=
  let cfg := leAt image 12 4
  let sec := (image.drop (512 + leAt image 8 4)).take cfg
  if decide (sec.length = cfg) && signedBy Config.romKey ((image.drop 80).take 64) image 144 &&
      signedBy (integratorKey image) (image.take 16 ++ sec) image 208 then some sec
  else none

/-- What Halyard makes of the boot flash (R84, R85): PATCH, the DATA of SYS_PATCH_BAD if it is raised, and the PAD word. -/
def patchOutcome (strap0 : Bool) (image : List Byte) : Nat × Option Nat × Option Word :=
  if !strap0 then (0, none, none)
  else if leAt image 0 4 ≠ 0x5052594C then (0, some 0, none)
  else if !firmwareGood image then (2, some 1, none)
  else if leAt image 12 4 = 0 then (1, none, none)
  else
    match (configSection image).bind (fun sec => padRecord (sec.length + 1) 0 sec) with
    | some pad => (1, none, some pad)
    | none => (3, some 2, none)

/-! ### Steps 4 to 6 -/

/-- STORE_CLEAR_DONE (R66, R67). -/
def State.storeCleared (s : State) : State :=
  if s.pow.logicOn && !s.store.clrDone then
    ({ s with store := { s.store with clrDone := true }, mode := { s.mode with step := max s.mode.step 4 } } : State).event 0x089
  else s

/-- Step 6: every lane and Hoist start blind; LIMP, or the safe state that an input demands, that the Ensign holds, or that was asked for
during bring-up (R62, R117). A safe state that the Ensign held before latches the cause it was entered with. -/
def State.stepSix (s : State) : State :=
  let dark := s.inputDemand || decide (s.ens.safe = some .safeDark) ||
    (match s.mode.bootSafe with | some (m, _) => decide (m = .safeDark) | none => false)
  let beam := s.ens.safe.isSome || s.mode.bootSafe.isSome
  let asked := match s.mode.bootSafe with | some (_, l) => l | none => []
  let s := iter (fun n s => s.laneBlind n) 16 s
  let s := s.hoistFirst
  let s : State := { s with mode := { s.mode with step := 6, bootSafe := none } }
  if !dark && !beam then s.enterMode .limp
  else
    let target : Mode := if dark then .safeDark else .safeBeam
    let s := if s.ens.safe = some target then s
      else s.assertSafe dark { src := if s.ens.darkReq then 4 else 5, cls := 0, code := 0x28D, logic := false }
    let s := if s.flag 0x90001 31 then s else s.latchSafe (s.ens.cause.toNat % 16) 0 0
    let s := s.enterMode target
    let s := if asked.isEmpty then s.event 0x001 else s
    asked.foldl (fun s r => s.modeAnswer stOk (if r.2 = target then 0 else 2) target.code r.1) s

/-- PATCH_CHECK_DONE: step 5, then step 6 (R84 to R86, R634). -/
def State.patchDone (image : List Byte) (s : State) : State :=
  if !s.pow.logicOn || !s.store.clrDone || decide (s.mode.cur ≠ .boot) then s
  else
    let (patch, bad, pad) := patchOutcome (s.pow.straps.getLsbD 0) image
    let ver : Half := if patch = 1 ∨ patch = 3 then BitVec.ofNat 16 (leAt image 6 2) else 0
    let s : State := { s with mode := { s.mode with patch := patch, patchVer := ver, step := 5 } }
    let s := if patch = 1 ∨ patch = 3 then s.event 0x04C else s
    let s := match bad with | some d => s.raise0 0x006 0 d | none => s
    let s := match pad with | some w => s.setAct 0x110001 (w &&& 0x1FFFF#32) | none => s
    s.stepSix

/-! ### Steps 7 to 11 -/

/-- Lanes that training is due on begin it while nothing is scanned out and no lane is under test (R329). -/
def State.trainLanes (s : State) : State :=
  if s.ens.ovr || s.scan.run || s.scan.retrain.isSome || decide (s.mode.cur ≠ .limp ∧ s.mode.cur ≠ .ready) then s
  else
    iter (fun n s =>
      let l := vget s.fly n
      if s.trainDue n && l.up && l.runs && decide (l.attempt < 3) then s.laneTrain n else s) 16 s

/-- Step 8 is over: no lane trains or is still to be trained; a lane that is down stays as it is (Table 1.8). -/
def State.lanesOver (s : State) : Bool :=
  (List.range 16).all (fun n =>
    let l := vget s.fly n
    decide (l.st ≠ .training) && !(s.trainDue n && !l.down && decide (l.st ≠ .furled) && decide (l.attempt < 3)))

/-- Step 9 begins: Hoist trains, or stays at LIMP where the host's record does not allow FULL or has not come (R389). -/
def State.hoistStep (s : State) : State :=
  if s.hoist.st = .down then (({ s with hoist := { s.hoist with gaveUp := true } } : State)).event 0x201 else s.hoistStart

def State.setStep (k : Nat) (s : State) : State := { s with mode := { s.mode with step := k } }

/-- A capability record that came before step 9 is acted on. -/
def State.hoistLate (s : State) : State :=
  if 8 ≤ s.mode.step ∧ s.hoist.st = .limp ∧ !s.hoist.gaveUp then s.hoistStart else s

/-- The ladder goes on as far as it can: step 7 as lanes come up, 8 when the engine is known, 9 when the lanes are trained, 10 when DTIME
runs from the crystal, then READY out of LIMP (Table 1.6, R58, R63). -/
def State.bringUp (s : State) : State :=
  if !s.pow.logicOn || decide (s.mode.step < 6) || decide (s.mode.sleep ≠ .none) then s
  else
    let s := s.step7Check
    if s.eng.step7 ≠ .done then s
    else
      let s := if s.thm.waveSent = 0xFF then s else s.firstWaves
      let s := s.trainLanes
      let s := if s.mode.step = 6 then s.setStep 7 else s
      let s := if s.mode.step = 7 ∧ s.lanesOver ∧ !s.ens.ovr then (s.setStep 8).hoistStep else s.hoistLate
      let s := if s.mode.step = 8 ∧ (s.hoist.st = .bonded ∨ s.hoist.gaveUp) then
          (if s.clk.tbXtal then s.setStep 9 else (s.setStep 9).event 0x003) else s
      let s := if s.mode.step = 9 ∧ s.clk.tbXtal then s.setStep 10 else s
      if s.mode.step = 10 ∧ s.mode.cur = .limp ∧ s.mode.trans.isNone then s.enterMode .ready else s

/-! ### Timebase (R68 to R70) -/

/-- TIMEBASE_SELECT. The forward step is at most 10 ns; which it is, is a free value. On the crystal already there is no step. -/
def State.timebase (id : ReqId) (source : Nat) (s : State) : State :=
  if source ≠ 1 then s.answer id stBadParam []
  else if !s.clk.xtalOk then s.answer id stXtalNotReady []
  else if s.clk.tbXtal then s.answer id stOk (le 2 0)
  else
    let res := s.fresh
    let v := res.1
    let s := res.2
    let k := v % 11
    let s : State := { s with
      clk := { s.clk with tbXtal := true, dtime := s.clk.dtime + k, part := 0 }, fab := { s.fab with fircOk := false } }
    (s.event 0x004).answer id stOk (le 2 k)

/-- XTAL_GOOD. -/
def State.xtalGood (s : State) : State :=
  if s.pow.logicOn then (({ s with clk := { s.clk with xtalOk := true } } : State)).resolve 0x005 0 else s

/-- XTAL_LOSS (R69, R70). -/
def State.xtalLoss (s : State) : State :=
  if !s.pow.logicOn then s
  else
    let was := s.clk.tbXtal
    let s : State := { s with clk := { s.clk with xtalOk := false, tbXtal := false } }
    if was then s.event 0x005 else s

end Sys2Proof.Machine
end

