-- ==== Sys2Proof/Machine/Link.lean ====
section
/-! DEFINITION. The die link (R611 to R618), register access to the HV die (R670, R671), and the events of the test port and of
Halyard's firmware. -/

namespace Sys2Proof.Machine

/-! ### Register access (R108 to R112, R615, R670, R671) -/

/-- The value a REG_MODIFY writes: W1C bits outside MASK are not written (R112). -/
def modValue (a : Nat) (old mask value : Word) : Word :=
  let w1c : Word := match regInfo a with | some r => BitVec.ofNat 32 r.w1c | none => 0
  ((old &&& ~~~mask) ||| (value &&& mask)) &&& ~~~(w1c &&& ~~~mask)

/-- The reply of a register command that has done its words. -/
def RegJob.data (j : RegJob) : List Byte :=
  if j.op = 1 then le 2 0xFFFF ++ le 2 0 else j.acc.flatMap (fun w => le 4 w.toNat)

/-- REGADDR leaves for one word, with REGDATA if it is a write. -/
def State.jobSend (a : Nat) (write : Option Word) (s : State) : State :=
  s.setDl (fun d => { d with
    regOut := some { body := { offset := addrOff a, block := addrBlock a, write := write }, tag := d.regNext, resends := 0, sentAt := s.clk.now }
    regNext := d.regNext + 1 })

/-- The read part or the write part of a REG_MODIFY comes next; a REG_READ always reads. -/
def RegJob.reads (j : RegJob) : Bool := decide (j.op = 0) || (decide (j.op = 2) && j.acc.isEmpty)

/-- One word of the logic die is done: read, written or modified. -/
def State.jobWord (j : RegJob) (a : Nat) (v : Word) (t : List (Nat × Word)) (s : State) : State :=
  let p := j.id.port
  let put (j' : RegJob) (s : State) : State := s.setDl (fun d => { d with regJob := some j' })
  if j.op = 0 then put { j with todo := t, acc := j.acc ++ [s.readWord p a] } (s.readEffect p a)
  else if j.op = 1 then put { j with todo := t } (s.writeWord a v)
  else
    let old := s.readWord p a
    put { j with todo := t, acc := [old] } ((s.readEffectIn p a j.mask.toNat).writeWord a (modValue a old j.mask j.value))

/-- A register command goes on: words in ascending order, those of the HV die over the die link, then its reply (R111, R670). -/
def State.jobGo : Nat → State → State
  | 0, s => s
  | n + 1, s =>
    match s.dl.regJob with
    | none => s
    | some j =>
      match j.todo with
      | [] => (s.setDl (fun d => { d with regJob := none })).answer j.id stOk j.data
      | (a, v) :: t =>
        if regHv a then
          if s.dl.regOut.isSome then s
          else if j.reads then s.jobSend a none
          else if j.op = 1 then s.jobSend a (some v)
          else s.jobSend a (some (modValue a (j.acc.headD 0) j.mask j.value))
        else State.jobGo n (s.jobWord j a v t)

/-- The HV die takes a REGADDR: it serves its own words, and answers any other with 0 (R614, R615). -/
def State.regTake (o : Out RegAcc) (s : State) : State :=
  if s.dl.regTag = some o.tag then
    (if s.dl.regWait.isSome then s else s.setDl (fun d => { d with resp := some d.lastResp }))
  else
    let s := s.setDl (fun d => { d with regTag := some o.tag })
    let a := o.body.block * 65536 + o.body.offset
    if !regHv a then s.setDl (fun d => { d with resp := some 0, lastResp := 0, downErr := satAdd d.downErr 1 })
    else
      match o.body.write with
      | some _ => s.setDl (fun d => { d with regWait := some o.body })
      | none =>
        let p := match s.dl.regJob with | some j => j.id.port | none => Port.cspi
        let m := match s.dl.regJob with | some j => (if j.op = 2 then j.mask.toNat else 0xFFFFFFFF) | none => 0
        let v := s.readWord p a
        (s.readEffectIn p a m).setDl (fun d => { d with resp := some v, lastResp := v })

/-- REGADDR. -/
def State.regAddr (s : State) : State :=
  match s.dl.regOut with
  | none => s
  | some o => s.landDown (State.regTake o)

/-- The HV die takes the data of a write. -/
def State.dataTake (r : RegAcc) (s : State) : State :=
  let s := s.setDl (fun d => { d with regWait := none, resp := some 0, lastResp := 0 })
  match r.write with
  | some v => s.writeWord (r.block * 65536 + r.offset) v
  | none => s

/-- REGDATA: the data of a write that the HV die has taken. -/
def State.regData (s : State) : State :=
  match s.dl.regWait with
  | none => s
  | some r => s.landDown (State.dataTake r)

/-- The logic die takes the answer, and the command goes on. -/
def State.respTake (v : Word) (s : State) : State :=
  let s := s.setDl (fun d => { d with regOut := none })
  match s.dl.regJob with
  | none => s
  | some j =>
    let j' : RegJob :=
      if j.op = 0 then { j with acc := j.acc ++ [v], todo := j.todo.tail }
      else if j.op = 2 && j.acc.isEmpty then { j with acc := [v] }
      else { j with todo := j.todo.tail }
    (s.setDl (fun d => { d with regJob := some j' })).jobGo (j'.todo.length + 1)

/-- REGRESP. -/
def State.regResp (s : State) : State :=
  match s.dl.resp, s.dl.regOut with
  | some v, some _ => (s.setDl (fun d => { d with resp := none })).takeUp (State.respTake v)
  | _, _ => s

/-! ### Messages down -/

/-- ESCALATE: the Ensign holds what the report names, as the KASEL or GOFF pair has it do (R425). -/
def State.escalateMsg (s : State) : State :=
  match s.dl.escOut with
  | none => s
  | some o =>
    s.landDown (fun s =>
      if s.dl.escTag = some o.tag then s
      else (s.setDl (fun d => { d with escTag := some o.tag })).hold o.body.dark)

/-- What a REQUEST asks of the Ensign (Table 15.3). -/
def State.serve (kind : Nat) (s : State) : State :=
  match kind with
  | 1 => s.ensEnter false 2 0
  | 2 => s.ensEnter true 2 0
  | 3 => s.release
  | 4 => match s.testUse with
    | some u => s.startSwTest u
    | none => s
  | 5 => s.setEns (fun e => { e with running := false })
  | _ => s

/-- REQUEST. -/
def State.requestMsg (s : State) : State :=
  match s.dl.reqOut with
  | none => s
  | some o =>
    s.landDown (fun s =>
      if s.dl.reqTag = some o.tag then s
      else (s.setDl (fun d => { d with reqTag := some o.tag })).serve o.body.1)

/-- TIMEMARK_SEND (R60): no TIMEMARK while a TIMEHIGH is unacknowledged, and a TIMEHIGH first where bits [63:52] have changed. -/
def State.markSend (s : State) : State :=
  if !s.pow.logicOn || s.dl.highOut.isSome then s
  else if s.clk.highSent = some (s.clk.dtime / 2 ^ 52) then
    { s with clk := { s.clk with markWord := some (BitVec.ofNat 32 (s.clk.dtime / 2 ^ 20)), markAt := s.clk.dtime } }
  else
    s.setDl (fun d => { d with
      highOut := some { body := s.clk.dtime / 2 ^ 52, tag := d.highNext, resends := 0, sentAt := s.clk.now }
      highNext := d.highNext + 1 })

/-- TIMEMARK: DMARK from the newest pair; it is never lowered (R60). -/
def State.markTake (s : State) : State :=
  match s.clk.markWord with
  | none => s
  | some w =>
    ({ s with clk := { s.clk with markWord := none } } : State).landDown
      (fun s => { s with clk := { s.clk with dmark := max s.clk.dmark (s.clk.timeHigh * 2 ^ 52 + w.toNat * 2 ^ 20) } })

/-- TIMEHIGH. -/
def State.highTake (s : State) : State :=
  match s.dl.highOut with
  | none => s
  | some o =>
    s.landDown (fun s =>
      if s.dl.highTag = some o.tag then s
      else ({ s with clk := { s.clk with timeHigh := o.body } } : State).setDl (fun d => { d with highTag := some o.tag }))

/-! ### Messages up -/

/-- An ENS-block event reaches the logic die: its fault counts from now on (R488, R489), and its entry carries HV (R498). -/
def State.ensArrive (e : HvEvent) (s : State) : State :=
  let entry : Entry := { s.entry e.code e.inst e.data with hv := true, act := e.act, esc := e.esc }
  match e.act, s.activeOf e.code with
  | true, some a =>
    let s : State := { s with flt := { s.flt with active := s.flt.active.map (fun x => if x.code = e.code then { x with seen := true } else x) } }
    ((s.startTimer a.cls).countAct a.cls).enqueue entry
  | true, none => (s.countAct (entryClass e.code)).enqueue entry
  | false, _ => s.enqueue entry

/-- An event of another block's HV-die source is raised at its arrival (R498). -/
def State.hvArrive (e : HvEvent) (s : State) : State :=
  let s := if e.pended then s else s.setPend e.code e.inst
  let entry : Entry := { s.entry e.code e.inst e.data with hv := true }
  match faultClass e.code with
  | none => s.enqueue entry
  | some cls =>
    let res := s.present e.code cls e.inst e.data true
    let s := res.1
    let s := if res.2 then ((s.startTimer cls).countAct cls).enqueue { entry with act := true } else s.enqueue entry
    if (e.code = 0x3C6 ∧ !s.pow.vledOv) ∨ (e.code = 0x3C7 ∧ !s.fab.vcoreBad) then s.resolveAll e.code else s

/-- EVENT (R618). -/
def State.eventMsg (s : State) : State :=
  match s.dl.evOut with
  | none => s
  | some o =>
    if !s.pow.logicOn then s
    else
      s.takeUp (fun s =>
        if s.dl.evTag = some o.tag then s
        else
          let s := s.setDl (fun d => { d with evTag := some o.tag })
          if isEns o.body.code then s.ensArrive o.body else s.hvArrive o.body)

/-- DROPS: COUNT is added to RAISED and QOVF (R618). -/
def State.dropsMsg (s : State) : State :=
  match s.dl.dropOut with
  | none => s
  | some o =>
    if !s.pow.logicOn then s
    else
      s.takeUp (fun s =>
        if s.dl.dropTag = some o.tag then s
        else
          let n : Word := BitVec.ofNat 32 (o.body % 65536)
          let s := s.setDl (fun d => { d with dropTag := some o.tag })
          { s with evt := { s.evt with raised := s.evt.raised + n, qovf := s.evt.qovf + n } })

/-! ### Acknowledgement, resending, discarding -/

/-- The message of a type is outstanding with this TAG, and its receiver has accepted it. -/
def acked {α : Type} (o : Option (Out α)) (got : Option (BitVec 4)) (tag : BitVec 4) : Bool :=
  match o with
  | some m => m.tag == tag && got == some tag
  | none => false

/-- ACK (R614). REGADDR is answered by REGRESP instead. -/
def State.ackMsg (msg : Reliable) (tag : BitVec 4) (s : State) : State :=
  let d := s.dl
  match msg with
  | .escalate =>
    if acked d.escOut d.escTag tag then s.takeUp (fun s => (s.setDl (fun d => { d with escOut := none })).pumpDown) else s
  | .request =>
    if acked d.reqOut d.reqTag tag then s.takeUp (fun s => (s.setDl (fun d => { d with reqOut := none })).pumpDown) else s
  | .regaddr => s
  | .timehigh =>
    if acked d.highOut d.highTag tag then
      s.takeUp (fun s =>
        ({ s with clk := { s.clk with highSent := d.highOut.map (·.body) } } : State).setDl (fun d => { d with highOut := none }))
    else s
  | .event => if acked d.evOut d.evTag tag then s.landDown (fun s => (s.setDl (fun d => { d with evOut := none })).pumpUp) else s
  | .drops => if acked d.dropOut d.dropTag tag then s.landDown (fun s => (s.setDl (fun d => { d with dropOut := none })).pumpUp) else s

/-- The logic die abandons a message (R616). -/
def State.lossDown (s : State) : State :=
  (s.setGdn (fun g => { g with dlerr := satAdd g.dlerr 1 })).event 0x246

/-- What a resend timer finds: nothing to do, a resend, or a message to abandon (R616). -/
def resendDue {α : Type} (o : Option (Out α)) (now : Nat) : Option Bool :=
  match o with
  | some m => if m.sentAt + 10000 ≤ now then some (decide (m.resends < 8)) else none
  | none => none

/-- The message as it goes out again. -/
def Out.again {α : Type} (now : Nat) (m : Out α) : Out α := { m with resends := m.resends + 1, sentAt := now }

/-- DIE_LINK_RESEND (R616, R671). -/
def State.resend (msg : Reliable) (s : State) : State :=
  if !s.pow.logicOn then s
  else
    let now := s.clk.now
    match msg with
    | .escalate => match resendDue s.dl.escOut now with
      | none => s
      | some true => s.setDl (fun d => { d with escOut := d.escOut.map (Out.again now) })
      | some false => ((s.setDl (fun d => { d with escOut := none })).lossDown).pumpDown
    | .request => match resendDue s.dl.reqOut now with
      | none => s
      | some true => s.setDl (fun d => { d with reqOut := d.reqOut.map (Out.again now) })
      | some false => ((s.setDl (fun d => { d with reqOut := none })).lossDown).pumpDown
    | .regaddr => match resendDue s.dl.regOut now with
      | none => s
      | some true => s.setDl (fun d => { d with regOut := d.regOut.map (Out.again now) })
      | some false =>
        let s := (s.setDl (fun d => { d with regOut := none, regWait := none, resp := none })).lossDown
        match s.dl.regJob with
        | some j => (s.setDl (fun d => { d with regJob := none })).answer j.id stTimeout []
        | none => s
    | .timehigh => match resendDue s.dl.highOut now with
      | none => s
      | some true => s.setDl (fun d => { d with highOut := d.highOut.map (Out.again now) })
      | some false => (s.setDl (fun d => { d with highOut := none })).lossDown
    | .event => match resendDue s.dl.evOut now with
      | none => s
      | some true => s.setDl (fun d => { d with evOut := d.evOut.map (Out.again now), resend := satAdd d.resend 1 })
      | some false => ((s.setDl (fun d => { d with evOut := none })).heartBad).pumpUp
    | .drops => match resendDue s.dl.dropOut now with
      | none => s
      | some true => s.setDl (fun d => { d with dropOut := d.dropOut.map (Out.again now), resend := satAdd d.resend 1 })
      | some false => ((s.setDl (fun d => { d with dropOut := none })).heartBad).pumpUp

/-- DIE_LINK_FRAME_DISCARD: a frame whose CRC fails, with the SEQ that it shows (R613). -/
def State.frameDiscard (dir : LinkDir) (seq : BitVec 4) (s : State) : State :=
  if !s.pow.logicOn then s
  else
    match dir with
    | .down => (s.setDl (fun d => { d with seqDown := d.seqDown + 1, rxDown := seq })).discardDown
    | .up => (s.setDl (fun d => { d with seqUp := d.seqUp + 1, rxUp := seq })).discardUp

/-! ### The test port and Halyard's firmware -/

/-- JTAG_UPDATE_IR (R640, R642, R643). -/
def State.updateIr (code : BitVec 5) (s : State) : State :=
  if !s.pow.logicOn then s
  else
    let s : State := { s with jtag := { s.jtag with ir := code } }
    if testCode code.toNat then s.raise0 0x441 0 (code.toNat + 256 * b2n (s.irNow != code.toNat)) else s

/-- TMODE_HIGH (R644). -/
def State.tmodeHigh (s : State) : State :=
  if s.pow.logicOn then (({ s with jtag := { s.jtag with tmode := true } } : State)).event 0x442 else s

/-- HAL_FW_STALL and HAL_FW_TRAP (R680): Halyard runs from step 5. -/
def State.fwFault (code : Nat) (s : State) : State := if s.pow.logicOn then s.event code else s

end Sys2Proof.Machine
end

