-- ==== Sys2Proof/Machine/Commands.lean ====
section
/-! DEFINITION. Command packets (chapter 2): the opcode table, parsing, and what each command does when it starts. -/

namespace Sys2Proof.Machine

/-! ### Table 2.9 -/

def cmdOp : Cmd → Nat
  | .nop => 0x00 | .identify => 0x01 | .status => 0x02 | .portStatus _ => 0x03 | .regRead _ _ => 0x10 | .regWrite _ _ => 0x11
  | .regModify _ _ _ => 0x12 | .commit _ => 0x18 | .modeSet _ => 0x20 | .timebaseSelect _ => 0x21 | .safeRequest _ _ => 0x24
  | .surfaceDefine _ _ _ _ _ _ => 0x30 | .surfaceDelete _ => 0x31 | .leaseTake _ _ => 0x32 | .leaseRelease _ => 0x33
  | .objlist _ _ _ _ => 0x34 | .ceilingLoad _ _ => 0x35 | .frameStatus => 0x40 | .dtimeRead => 0x42 | .engineInfo => 0x48
  | .engineNvRead _ _ _ => 0x49 | .engineNvWrite _ _ _ => 0x4A | .keepaliveWrite _ _ _ => 0x4B | .pixelCensus _ => 0x4C
  | .lifeRead => 0x4D | .thermalMeasure _ => 0x50 | .calRun _ _ => 0x58 | .calRead _ => 0x59 | .evtRead _ => 0x60
  | .faultAck _ _ => 0x61 | .evtReset => 0x62 | .laneTest _ _ _ _ => 0x70 | .safetyTest _ => 0x78 | .reset _ => 0x7F

/-- The opcodes of Table 2.9. -/
def opKnown (op : Nat) : Bool :=
  [0x00, 0x01, 0x02, 0x03, 0x10, 0x11, 0x12, 0x18, 0x20, 0x21, 0x24, 0x30, 0x31, 0x32, 0x33, 0x34, 0x35, 0x40, 0x42, 0x48, 0x49,
   0x4A, 0x4B, 0x4C, 0x4D, 0x50, 0x58, 0x59, 0x60, 0x61, 0x62, 0x70, 0x78, 0x7F].contains op

/-- Opcodes marked "imm."; all others are long-running (R103). -/
def opImm (op : Nat) : Bool :=
  [0x00, 0x01, 0x02, 0x03, 0x10, 0x11, 0x12, 0x30, 0x31, 0x34, 0x40, 0x42, 0x4D, 0x59, 0x60, 0x61, 0x62].contains op

/-- Long-running opcodes that R105 does not refuse. -/
def opExempt (op : Nat) : Bool := [0x18, 0x20, 0x24, 0x32, 0x33].contains op

/-- Opcodes open to WSPI. -/
def opWspi (op : Nat) : Bool :=
  [0x00, 0x01, 0x02, 0x03, 0x10, 0x24, 0x40, 0x42, 0x48, 0x4D, 0x50, 0x59, 0x78].contains op

/-- The opcode is permitted on the port. -/
def opPort (op : Nat) (p : Port) : Bool :=
  match p with
  | .cspi => true
  | .wspi => opWspi op
  | .hcmd => op != 0x7F

/-- Opcodes permitted in BOOT too ("All"). -/
def opAll (op : Nat) : Bool := [0x00, 0x01, 0x02, 0x03, 0x10, 0x24, 0x42, 0x7F].contains op

/-- The command is permitted in the mode in force. -/
def cmdModeOk (c : Cmd) (m : Mode) : Bool :=
  match c with
  | .objlist _ _ _ _ => decide (m = .ready ∨ m = .beam)
  | .ceilingLoad _ _ => decide (m = .limp ∨ m = .ready)
  | .engineNvRead _ _ _ => decide (m = .ready ∨ m = .service)
  | .engineNvWrite _ _ _ => decide (m = .service)
  | .keepaliveWrite _ _ _ => decide (m = .service)
  | .pixelCensus _ => decide (m = .service)
  | .laneTest _ _ _ _ => decide (m = .service)
  | .calRun _ _ => decide (m = .ready ∨ m = .beam ∨ m = .service)
  | .safetyTest t => if t = 4 then decide (m = .service) else decide (m = .ready ∨ m = .service ∨ m = .safeDark)
  | c => opAll (cmdOp c) || decide (m ≠ .boot)

/-! ### Parsing -/

def byteAt (b : List Byte) (i : Nat) : Byte := BitVec.ofNat 8 (leAt b i 1)
def halfAt (b : List Byte) (i : Nat) : Half := BitVec.ofNat 16 (leAt b i 2)
def wordAt (b : List Byte) (i : Nat) : Word := BitVec.ofNat 32 (leAt b i 4)

def wordsOf : Nat → List Byte → List Word
  | 0, _ => []
  | n + 1, b => wordAt b 0 :: wordsOf n (b.drop 4)

/-- The command that an opcode and its parameter bytes ask for; none where LEN is wrong (Table 2.7 row 4). Reserved bytes are
ignored. -/
def parseCmd (op : Nat) (b : List Byte) : Option Cmd :=
  let n := b.length
  let only (k : Nat) (c : Cmd) : Option Cmd := if n = k then some c else none
  match op with
  | 0x00 => only 0 .nop
  | 0x01 => only 0 .identify
  | 0x02 => only 0 .status
  | 0x03 => only 1 (.portStatus (byteAt b 0))
  | 0x10 => only 6 (.regRead (wordAt b 0) (halfAt b 4))
  | 0x11 => if 8 ≤ n ∧ n = 8 + 4 * leAt b 4 2 then some (.regWrite (wordAt b 0) (wordsOf (leAt b 4 2) (b.drop 8))) else none
  | 0x12 => only 12 (.regModify (wordAt b 0) (wordAt b 4) (wordAt b 8))
  | 0x18 => only 4 (.commit (wordAt b 0))
  | 0x20 => only 1 (.modeSet (byteAt b 0))
  | 0x21 => only 1 (.timebaseSelect (byteAt b 0))
  | 0x24 => only 4 (.safeRequest (byteAt b 0) (halfAt b 2))
  | 0x30 => only 16 (.surfaceDefine (byteAt b 0) (byteAt b 1) (wordAt b 4) (halfAt b 8) (halfAt b 10) (wordAt b 12))
  | 0x31 => only 1 (.surfaceDelete (byteAt b 0))
  | 0x32 => only 8 (.leaseTake (byteAt b 0) (wordAt b 4))
  | 0x33 => only 1 (.leaseRelease (byteAt b 0))
  | 0x34 => if 4 ≤ n then some (.objlist (halfAt b 0) (byteAt b 2) (byteAt b 3) (b.drop 4)) else none
  | 0x35 => only 8 (.ceilingLoad (byteAt b 0) (wordAt b 4))
  | 0x40 => only 0 .frameStatus
  | 0x42 => only 0 .dtimeRead
  | 0x48 => only 0 .engineInfo
  | 0x49 => only 8 (.engineNvRead (byteAt b 0) (halfAt b 2) (wordAt b 4))
  | 0x4A => if 8 ≤ n ∧ n = 8 + leAt b 2 2 then some (.engineNvWrite (byteAt b 0) (wordAt b 4) (b.drop 8)) else none
  | 0x4B => only 12 (.keepaliveWrite (byteAt b 0) (byteAt b 4) (wordAt b 8))
  | 0x4C => only 2 (.pixelCensus (halfAt b 0))
  | 0x4D => only 0 .lifeRead
  | 0x50 => only 2 (.thermalMeasure (halfAt b 0))
  | 0x58 => only 2 (.calRun (byteAt b 0) (byteAt b 1))
  | 0x59 => only 1 (.calRead (byteAt b 0))
  | 0x60 => only 1 (.evtRead (byteAt b 0))
  | 0x61 => only 4 (.faultAck (byteAt b 0) (halfAt b 2))
  | 0x62 => only 0 .evtReset
  | 0x70 => only 6 (.laneTest (halfAt b 0) (byteAt b 2) (byteAt b 3) (halfAt b 4))
  | 0x78 => only 1 (.safetyTest (byteAt b 0))
  | 0x7F => only 2 (.reset (halfAt b 0))
  | _ => none

/-- The parameter bytes that Table 2.9 gives a command, every reserved byte 0. -/
def cmdParams : Cmd → List Byte
  | .nop => [] | .identify => [] | .status => [] | .frameStatus => [] | .dtimeRead => [] | .engineInfo => [] | .lifeRead => []
  | .evtReset => []
  | .portStatus k => [k]
  | .regRead a n => le 4 a.toNat ++ le 2 n.toNat
  | .regWrite a v => le 4 a.toNat ++ le 2 v.length ++ le 2 0 ++ v.flatMap (fun w => le 4 w.toNat)
  | .regModify a m v => le 4 a.toNat ++ le 4 m.toNat ++ le 4 v.toNat
  | .commit g => le 4 g.toNat
  | .modeSet t => [t]
  | .timebaseSelect k => [k]
  | .safeRequest t r => [t, 0] ++ le 2 r.toNat
  | .surfaceDefine n f b w h st => [n, f] ++ le 2 0 ++ le 4 b.toNat ++ le 2 w.toNat ++ le 2 h.toNat ++ le 4 st.toNat
  | .surfaceDelete n => [n]
  | .leaseTake n crc => [n] ++ le 3 0 ++ le 4 crc.toNat
  | .leaseRelease n => [n]
  | .objlist q f l d => le 2 q.toNat ++ [f, l] ++ d
  | .ceilingLoad n crc => [n] ++ le 3 0 ++ le 4 crc.toNat
  | .engineNvRead g n a => [g, 0] ++ le 2 n.toNat ++ le 4 a.toNat
  | .engineNvWrite g a d => [g, 0] ++ le 2 d.length ++ le 4 a.toNat ++ d
  | .keepaliveWrite g u crc => [g] ++ le 3 0 ++ [u] ++ le 3 0 ++ le 4 crc.toNat
  | .pixelCensus m => le 2 m.toNat
  | .thermalMeasure m => le 2 m.toNat
  | .calRun m b => [m, b]
  | .calRead r => [r]
  | .evtRead n => [n]
  | .faultAck b code => [b, 0] ++ le 2 code.toNat
  | .laneTest m pat inj d => le 2 m.toNat ++ [pat, inj] ++ le 2 d.toNat
  | .safetyTest t => [t]
  | .reset k => le 2 k.toNat

/-- The command packet of a command under a request sequence (Table 2.1). -/
def commandPacket (seq : Word) (tag flags : Byte) (c : Cmd) : List Byte :=
  packet 0x5C (BitVec.ofNat 8 (cmdOp c)) tag flags seq (cmdParams c)

/-- The parameters of a command fit a packet: LEN at most 1,024 (R87). -/
def cmdFits : Cmd → Bool
  | .regWrite _ v => decide (v.length ≤ 254)
  | .objlist _ _ _ d => decide (d.length ≤ 1020)
  | .engineNvWrite _ _ d => decide (d.length ≤ 1016)
  | _ => true

/-! ### Status and identity -/

def identifyData (s : State) : List Byte :=
  le 2 0x2048 ++ [Config.rev] ++ le 2 Config.romVer.toNat ++ le 2 s.mode.patchVer.toNat ++ le 1 0 ++ le 8 Config.uid.toNat

def PortState.free (ps : PortState) : Nat := 32 - ps.tags.length

def statusData (p : Port) (s : State) : List Byte :=
  le 4 (s.readWord p 0).toNat ++ le 4 (s.readWord p 4).toNat ++ le 1 s.actClasses ++ le 1 0 ++ le 1 (s.port p).free ++ le 1 0 ++
    le 6 s.scan.framecnt ++ le 2 0

def portStatusData (k : Nat) (s : State) : List Byte :=
  let ps := s.ports.toArray.getD k PortState.reset
  le 4 ps.accept.toNat ++ le 4 ps.replied.toNat ++ le 4 ps.discard.toNat ++ le 4 ps.reqSeq.toNat ++ le 4 ps.repSeq.toNat ++ le 1 ps.free ++ le 3 0

/-- FRAME_STATUS; both rates read 0 while RUN is 0 (chapter 6), and give the REFRESH of the active timing set, at the division in force
(R300). -/
def frameData (s : State) : List Byte :=
  let r := if s.scan.run then s.fld 0x50000 9 0 else 0
  le 6 s.scan.framecnt ++ le 2 0 ++ le 8 s.scan.fliptime ++ le 4 s.scan.missed ++ le 2 r ++ le 2 (r / max s.scan.div 1)

/-! ### Register commands (R108 to R112) -/

/-- The first word that fails R110, with its offset. -/
def State.regRefusal (s : State) (p : Port) (write : Bool) (a : Nat) : Nat → Option (Nat × Nat)
  | 0 => none
  | n + 1 =>
    match s.regRefusal p write a n with
    | some x => some x
    | none => (s.regCheck p write (a + n)).map (fun st => (st, n))

/-- Every word is checked; then they are done in ascending order. -/
def State.regRun (id : ReqId) (op : Nat) (words : List (Nat × Word)) (mask value : Word) (s : State) : State :=
  match s.regRefusal id.port (op != 0) ((words.headD (0, 0)).1) words.length with
  | some (st, i) => s.answer id st (le 2 i ++ le 2 0)
  | none =>
    let j : RegJob := { id := id, op := op, todo := words, acc := [], mask := mask, value := value }
    (s.setDl (fun d => { d with regJob := some j })).jobGo (words.length + 1)

/-- Consecutive word addresses with the value each takes. -/
def wordRun (a : Nat) (vs : List Word) : List (Nat × Word) := vs.zipIdx.map (fun x => (a + x.2, x.1))

/-! ### Surfaces (R137 to R141) -/

/-- The definition of a surface ends: the accepted transfer bound to it is aborted (R140). -/
def State.dropDef (n : Nat) (s : State) : State :=
  match s.hoist.cur with
  | some x => if x.surf = n then s.abortCur else s
  | none => s

def State.surfaceDefine (id : ReqId) (n f base w h stride : Nat) (s : State) : State :=
  if 128 ≤ n ∨ !geometryOk f base w h stride ∨ s.overlaps n base (footWords f w h stride) then s.answer id stBadParam []
  else if s.surfInUse n then s.answer id stInUse []
  else
    let u : Surface := { Surface.reset with st := .incomplete, format := f, base := base, width := w, height := h, stride := stride }
    ((s.dropDef n).setSurf n (fun _ => u)).answer id stOk []

def State.surfaceDelete (id : ReqId) (n : Nat) (s : State) : State :=
  if decide (128 ≤ n) || decide ((s.surf n).st = .undefined) then s.answer id stBadParam []
  else if s.surfInUse n then s.answer id stInUse []
  else ((s.dropDef n).setSurf n (fun _ => Surface.reset)).answer id stOk []

/-! ### Mode commands and RESET -/

/-- A safe state asked for by a command (R117, Table 10.5a). -/
def State.safeRequest (id : ReqId) (target reason : Nat) (s : State) : State :=
  if target ≠ 5 ∧ target ≠ 6 then s.answer id stBadParam []
  else
    let src := if id.port = .wspi then 8 else 9
    (s.raise0 0x045 0 reason).enterSafe (decide (target = 6)) { src := src, cls := 0, code := 0, logic := true }
      (some { id := id, viaSafe := true })

/-- MODE_SET: TARGET 1 is refused with MODE_DENIED whatever the mode (R30); a TARGET that names no mode, with BAD_PARAM. -/
def State.modeCmd (id : ReqId) (target : Nat) (s : State) : State :=
  let r : ModeReq := { id := id, viaSafe := false }
  match targetMode target with
  | some m => s.modeSet m r
  | none =>
    if target = 1 then (s.modeAnswer stModeDenied 0 s.mode.cur.code r).event 0x00C
    else s.modeAnswer stBadParam 0 s.mode.cur.code r

/-- RESET (R65, R122): no request is accepted any more, transfers in flight have 500 µs to drain (R77), then the replies are placed and the
logic die restarts. -/
def State.resetRun (id : ReqId) (key : Nat) (s : State) : State :=
  if key ≠ 0xA55A then s.answer id stBadParam []
  else { s with mode := { s.mode with restart := some { id := id, since := s.clk.dtime, replied := none } } }

/-! ### What each command does when it starts -/

/-- OK with data. -/
def State.ok (id : ReqId) (data : List Byte) (s : State) : State := s.answer id stOk data

/-- BAD_PARAM unless the condition holds. -/
def State.need (id : ReqId) (c : Bool) (f : State → State) (s : State) : State := if c then f s else s.answer id stBadParam []

/-- One command, in a mode that permits it. -/
def State.run (id : ReqId) (c : Cmd) (s : State) : State :=
  match c with
  | .nop => s.ok id []
  | .identify => s.ok id (identifyData s)
  | .status => s.ok id (statusData id.port s)
  | .portStatus k => s.need id (decide (k.toNat < 3)) (fun s => s.ok id (portStatusData k.toNat s))
  | .regRead a n =>
    s.need id (decide (1 ≤ n.toNat ∧ n.toNat ≤ 256)) (State.regRun id 0 (wordRun a.toNat (List.replicate n.toNat 0)) 0 0)
  | .regWrite a v => s.need id (decide (1 ≤ v.length ∧ v.length ≤ 254)) (State.regRun id 1 (wordRun a.toNat v) 0 0)
  | .regModify a m v => s.regRun id 2 [(a.toNat, 0)] m v
  | .commit g => s.commit id g
  | .modeSet t => s.modeCmd id t.toNat
  | .timebaseSelect k => s.timebase id k.toNat
  | .safeRequest t r => s.safeRequest id t.toNat r.toNat
  | .surfaceDefine n f b w h st => s.surfaceDefine id n.toNat f.toNat b.toNat w.toNat h.toNat st.toNat
  | .surfaceDelete n => s.surfaceDelete id n.toNat
  | .leaseTake n crc => s.leaseTake id n.toNat crc
  | .leaseRelease n => s.leaseRelease id n.toNat
  | .objlist q f l d =>
    let r := s.listFragment (if id.port = .cspi then 0 else 1) q f.toNat l.toNat d
    r.2.answer id (if r.1 then stOk else stBadParam) []
  | .ceilingLoad n crc => s.ceilingLoad id n.toNat crc
  | .frameStatus => s.ok id (frameData s)
  | .dtimeRead => s.ok id (le 8 s.clk.dtime ++ le 1 (b2n s.clk.tbXtal) ++ le 3 0)
  | .engineInfo => s.engineInfo id
  | .engineNvRead g n a => s.nvReadRun id g.toNat n.toNat a.toNat
  | .engineNvWrite g a d => s.nvWriteRun id g.toNat a.toNat d
  | .keepaliveWrite g u crc => s.kaRun id g.toNat u.toNat crc
  | .pixelCensus m => s.censusRun id m
  | .lifeRead => s.ok id s.lifeData
  | .thermalMeasure m => s.thermalMeasure id m.toNat
  | .calRun m b =>
    s.need id (decide (m ≠ 0 ∧ m.toNat < 16 ∧ b.toNat ≤ 1)) (State.calStart id (BitVec.ofNat 4 m.toNat) (decide (b = 1)))
  | .calRead r => s.need id (decide (r.toNat < 32)) (fun s => s.ok id (s.calRecord r.toNat))
  | .evtRead n => s.need id (decide (1 ≤ n.toNat ∧ n.toNat ≤ 63)) (fun s =>
      let r := s.evtRead n.toNat
      r.2.ok id r.1)
  | .faultAck b code =>
    let r := s.faultAck b.toNat code.toNat
    r.1.answer id r.2.1 r.2.2
  | .evtReset => (s.evtReset).ok id []
  | .laneTest m pat inj d => s.laneTestRun id m pat.toNat inj.toNat d.toNat
  | .safetyTest t => s.safetyTest id t.toNat
  | .reset k => s.resetRun id k.toNat

end Sys2Proof.Machine
end

