-- ==== Sys2Proof/Machine/Ports.lean ====
section
/-! DEFINITION. The command ports (chapter 2): framing, admission, the order of execution, the SPI transactions; and what the end of every
command of the table settles. -/

namespace Sys2Proof.Machine

/-! ### Acceptance and admission (R9, R87 to R105, Table 2.7) -/

/-- The port answers: WSPI from step 3, CSPI from step 5, Hoist CMD from step 6 (chapter 2). -/
def State.portOpen (s : State) (p : Port) : Bool :=
  s.pow.logicOn && (match p with
    | .wspi => true
    | .cspi => decide (5 ≤ s.mode.step)
    | .hcmd => decide (6 ≤ s.mode.step) && s.hoistUp)

/-- Requests are not accepted: RBFULL (R95), the SLEEP reply has been completed (R80), or a RESET is under way (R122). -/
def State.portShut (s : State) (p : Port) : Bool :=
  (s.port p).rbFull p || decide (s.mode.sleep = .replying ∨ s.mode.sleep = .replied ∨ s.mode.sleep = .released) || s.mode.restart.isSome

/-- A refusal at admission: answered at once, without a tag (R100). -/
def State.refuse (p : Port) (op tag : Byte) (st : Nat) (s : State) : State :=
  s.reply p { tag := tag, status := BitVec.ofNat 8 st, data := s.endData op, fill := endFill op, last := false, frees := false }

/-- The status that Table 2.7 gives an accepted request; none where it is admitted. -/
def State.admission (p : Port) (op tag flags : Byte) (c : Option Cmd) (s : State) : Option Nat :=
  let ps := s.port p
  if 32 ≤ ps.tags.length then some stTagsExhausted
  else if ps.tags.any (·.tag == tag) then some stTagInUse
  else if !opKnown op.toNat then some stBadOpcode
  else
    match c with
    | none => some stBadLen
    | some c =>
      if flags &&& 0xFE#8 ≠ 0 then some stBadParam
      else if !opPort op.toNat p then some stPortDenied
      else if !cmdModeOk c s.mode.cur then some stModeDenied
      else none

/-! ### The order of execution (R102 to R106) -/

/-- Another command of the opcode is running on some port (R105). -/
def State.running (s : State) (op : Byte) (id : ReqId) : Bool :=
  [Port.cspi, .wspi, .hcmd].any (fun p =>
    let ps := s.port p
    ps.tags.any (fun t =>
      t.op == op && !ps.waiting.any (·.tag == t.tag) && !ps.replyHeld t.tag && (id != { port := p, tag := t.tag })))

def isReg : Cmd → Bool
  | .regRead _ _ => true | .regWrite _ _ => true | .regModify _ _ _ => true | _ => false

/-- RBFULL holds the reply of an immediate command of the port (R95, R102). -/
def PortState.immHeld (ps : PortState) : Bool :=
  ps.held.any (fun r => r.frees && ps.tags.any (fun t => t.tag == r.tag && opImm t.op.toNat))

/-- The oldest waiting command of a port may start: the immediate command before it has completed and its reply has been placed (R102), no
register command is under way elsewhere for a register command (R111), no RESET is under way, and for FENCE every earlier one has
replied. -/
def State.mayStart (s : State) (p : Port) (a : Admitted) : Bool :=
  let ps := s.port p
  (match s.dl.regJob with | some j => decide (j.id.port ≠ p) && !isReg a.cmd | none => true) && s.mode.restart.isNone && !ps.immHeld &&
    (!a.fence || decide (ps.tags.length = ps.waiting.length))

/-- A command starts: PREEMPTED where a mode change has left its modes (R106), BUSY under R105. -/
def State.startCmd (p : Port) (a : Admitted) (s : State) : State :=
  let id : ReqId := { port := p, tag := a.tag }
  let op := cmdOp a.cmd
  if !cmdModeOk a.cmd s.mode.cur then
    s.answerFill id stPreempted (endFill (BitVec.ofNat 8 op)) (s.endData (BitVec.ofNat 8 op))
  else if !opImm op && !opExempt op && s.running (BitVec.ofNat 8 op) id then s.answer id stBusy []
  else s.run id a.cmd

/-- The command that starts next on a port, if one may. -/
def State.nextOn (p : Port) (s : State) : Option State :=
  match (s.port p).waiting with
  | [] => none
  | a :: t => if s.mayStart p a then some ((s.setPort p { s.port p with waiting := t }).startCmd p a) else none

/-! ### Requests -/

/-- The check-value unit of a port's packets: 17 for CSPI, 18 for WSPI (R596). Commands in Hoist messages have unit 16. -/
def portUnit : Port → Option Nat
  | .cspi => some 17 | .wspi => some 18 | .hcmd => none

/-- The port's unit has found a request's CRC right. -/
def Checks.request (c : Checks) (p : Port) : Checks := match portUnit p with | some u => c.good u | none => c

/-- An injection is armed on the unit of the port: it takes the next request (R600). -/
def State.portArmed (s : State) (p : Port) : Bool := (portUnit p).any s.injects

/-- A request whose CRC does not match, or in which an injection makes it so, is discarded (R9, R87, R597, R600). DATA is the port sequence. -/
def State.packetBad (p : Port) (exp got : Word) (s : State) : State :=
  (match portUnit p with
    | some u => (s.unitCheck u (s.port p).reqSeq.toNat exp got).2
    | none => s).discard p

/-- A request is accepted: the request sequence and ACCEPT advance (R89); the port's unit has checked it (R596). -/
def State.counted (p : Port) (s : State) : State :=
  let s := s.setChk (fun c => c.request p)
  s.setPort p { s.port p with reqSeq := (s.port p).reqSeq + 1, accept := (s.port p).accept + 1 }

/-- An admitted command holds its tag and waits for its turn (R101, R102). -/
def State.admitOn (p : Port) (op tag flags : Byte) (c : Cmd) (s : State) : State :=
  s.setPort p { s.port p with
    tags := (s.port p).tags ++ [{ tag := tag, op := op }]
    waiting := (s.port p).waiting ++ [{ tag := tag, fence := flags.getLsbD 0, cmd := c }] }

/-- An accepted request is refused, or admitted and started at once where it may. -/
def State.accept (p : Port) (op tag flags : Byte) (c : Option Cmd) (s : State) : State :=
  let s := s.counted p
  match s.admission p op tag flags c, c with
  | none, some c =>
    let s := s.admitOn p op tag flags c
    (s.nextOn p).getD s
  | none, none => s
  | some st, _ =>
    let s := if st = stTagsExhausted ∨ st = stTagInUse then s.raise0 0x04B (portIdx p).val 0 else s
    s.refuse p op tag st

/-- The bytes of one packet, as a transport delivers them (R9, R87, R88, R95). -/
def State.request (p : Port) (pkt : List Byte) (s : State) : State :=
  let n := leAt pkt 4 2
  let body := pkt.take (6 + n)
  if decide (pkt.length ≠ 10 + n ∨ 1024 < n) || s.portShut p then s.discard p
  else if leAt pkt 0 1 ≠ 0x5C then s.discard p
  else
    let got := crc32c (s.port p).reqSeq body
    if s.portArmed p || decide (wordAt pkt (6 + n) ≠ got) then s.packetBad p (wordAt pkt (6 + n)) got
    else s.accept p (byteAt pkt 1) (byteAt pkt 2) (byteAt pkt 3) (parseCmd (leAt pkt 1 1) (body.drop 6))

/-- A well-framed command packet arrives. -/
def State.command (p : Port) (tag flags : Byte) (c : Cmd) (s : State) : State :=
  if !s.portOpen p then s
  else if s.portShut p || !cmdFits c then s.discard p
  else if s.portArmed p then
    let pkt := commandPacket (s.port p).reqSeq tag flags c
    let crc := wordAt pkt (pkt.length - 4)
    s.packetBad p crc crc
  else s.accept p (BitVec.ofNat 8 (cmdOp c)) tag flags (some c)

/-! ### Commands in Hoist messages, and the order of all ports -/

/-- The oldest CMD message in the ingress buffer, where no VID message stands before it (R407). -/
def nextCmd : List Ingress → Option (List Byte)
  | [] => none
  | .cmd b :: _ => some b
  | .vid _ _ _ :: _ => none
  | _ :: t => nextCmd t

def Ingress.isCmd : Ingress → Bool | .cmd _ => true | _ => false

/-- A CMD message leaves the ingress buffer, and its packet arrives on the port. -/
def State.nextHoist (s : State) : Option State :=
  match nextCmd s.hoist.ingress with
  | some b =>
    some ((({ s with hoist := { s.hoist with ingress := takeFirst Ingress.isCmd s.hoist.ingress } } : State)).freeCred 2 1 |>.request .hcmd b)
  | none => none

/-- WSPI goes first, then Hoist CMD, then CSPI (R104). -/
def State.nextCommand (s : State) : Option State :=
  (s.nextOn .wspi).orElse fun _ => (s.nextOn .hcmd).orElse fun _ => (s.nextHoist).orElse fun _ => s.nextOn .cspi

/-! ### The end of every command of the table -/

/-- Messages on HTX up to the present instant. -/
def State.htxRun (s : State) : State := { s with hoist := s.hoist.upTo s.clk.dtime }

/-- What time alone has brought about by the instant of a command: the filters of the safety inputs show their levels, the high side follows, messages have left on HTX, countdowns of training
end, a RESET restarts the logic die. -/
def State.ripe (s : State) : State := (((((s.inputsDue).closeDue).htxRun).countdowns).hoistCount).restartDue

/-- The machine at the instant of a command. -/
def State.advance (t : Nat) (s : State) : State := (s.tick t).ripe

/-- What follows at once from a changed state: expiries of a grace of 0, lanes that have drained, the replies of RESET, the SLEEP reply once
placed, bring-up, SLEEP entry, the converter. -/
def State.settle (s : State) : State :=
  let s := s.escalateDue
  let s := if s.pow.ignoreRtc && !s.flag 0x100007 0 then s.setPow (fun p => { p with ignoreRtc := false }) else s
  ((((((s.furlDrained).resetDrained).sleepPlaced).bringUp).sleepCheck).convStart).statusChange

def State.pump : Nat → State → State
  | 0, s => s
  | n + 1, s =>
    match s.nextCommand with
    | some s' => State.pump n s'.settle
    | none => s

/-- Everything that a command of the table makes happen at its instant has happened. -/
def State.finish (s : State) : State :=
  let s := s.settle
  s.pump ((s.port .cspi).waiting.length + (s.port .wspi).waiting.length + (s.port .hcmd).waiting.length + 2 * s.hoist.ingress.length)

/-- A command of the table at its instant: its own effect, then everything that follows from it at once. -/
def occur (t : Nat) (f : State → State) (s : State) : Host.Outcome State Fault Refusal := .next (f (s.advance t)).finish

/-! ### SPI transactions (Table 2.4) -/

/-- MISO carries what a transaction read. -/
def State.drive (p : Port) (l : List Byte) (s : State) : State := s.setPort p { s.port p with miso := l }

/-- Whole packets back to back; one that is cut short or declares a LEN above 1,024 ends the transaction as one failure (R92). -/
def State.putGo (p : Port) : Nat → List Byte → State → State
  | 0, _, s => s
  | n + 1, b, s =>
    if b.isEmpty then s
    else
      let k := 10 + leAt b 4 2
      if b.length < 6 ∨ 1034 < k ∨ b.length < k then s.discard p
      else State.putGo p n (b.drop k) ((s.request p (b.take k)).finish)

/-- PUT. -/
def State.put (p : SpiPort) (bytes : List Byte) (s : State) : State :=
  let q := spiPort p
  if s.portOpen q then State.putGo q bytes.length bytes (s.drive q []) else s

/-- Reply bytes in placement order, 0x00 once none remain (R93); held replies follow as space frees (R95). -/
def State.getGo (p : Port) : Nat → State → List Byte × State
  | 0, s => ([], s)
  | n + 1, s =>
    let ps := s.port p
    match ps.buf with
    | [] =>
      let r := State.getGo p n s
      (0 :: r.1, r.2)
    | b :: t =>
      let s := State.placeHeld (ps.carry.length + ps.held.length) p (s.setPort p { ps with buf := t })
      let r := State.getGo p n s
      (b :: r.1, r.2)

/-- GET of n bytes. -/
def State.get (p : SpiPort) (n : Nat) (s : State) : State :=
  let q := spiPort p
  if s.portOpen q then
    let r := State.getGo q n s
    r.2.drive q r.1
  else s

/-- STAT. -/
def State.stat (p : SpiPort) (s : State) : State :=
  let q := spiPort p
  if s.portOpen q then
    let ps := s.port q
    s.drive q (le 2 ps.buf.length ++ le 1 ps.free ++ le 1 (b2n (ps.rbFull q) + b2m (s.flag (0x10000 + 4 * (portIdx q).val) 9) 1) ++
      le 2 ps.reqSeq.toNat ++ le 2 ps.discard.toNat)
  else s

/-- RESYNC (R94): a transaction whose first byte is none of PUT, GET and STAT. The guard byte behind 0x04 restarts the sequences; anything
else is counted as a framing failure. -/
def State.resync (p : SpiPort) (bytes : List Byte) (s : State) : State :=
  let q := spiPort p
  if !s.portOpen q then s
  else
    let s := s.drive q []
    if bytes.take 2 = [0x04#8, 0xC3#8] then
      let s := s.setPort q { s.port q with reqSeq := 0, repSeq := 0 }
      (s.hwSet (0x10000 + 4 * (portIdx q).val) 0x200).raise0 0x042 (portIdx q).val 0
    else s.discard q

end Sys2Proof.Machine
end

