-- ==== Sys2Proof/Machine/ChannelRows.lean ====
section
/-! DEFINITION. The meanings of escalation, the two channels, the safety inputs and the switches (chapters 10 and 11). -/

namespace Sys2Proof.Machine

/-- GRACE_TIMER_EXPIRY (R490). -/
def execGraceTimerExpiry (t : Nat) (cls : Fin 7) (s : State) : Host.Outcome State Fault Refusal :=
  occur t (State.graceOver cls.val) s

/-- ENSIGN_GRACE_EXPIRY (R491). -/
def execEnsignGraceExpiry (t : Nat) (power : Bool) (s : State) : Host.Outcome State Fault Refusal :=
  occur t (State.ensGraceOver power) s

/-- HEARTBEAT_SEND (R429). -/
def execHeartbeatSend (t : Nat) (s : State) : Host.Outcome State Fault Refusal :=
  occur t State.heartbeatSend s

/-- HEARTBEAT (R431). -/
def execHeartbeat (t : Nat) (seq answer : Byte) (test : Bool) (linkOk : Bool) (s : State) : Host.Outcome State Fault Refusal :=
  occur t (State.heartbeat seq answer test linkOk) s

/-- HEARTBEAT_WINDOW_CLOSE (R432). -/
def execHeartbeatWindowClose (t : Nat) (s : State) : Host.Outcome State Fault Refusal :=
  occur t State.windowClose s

/-- ENSIGN_STATUS_SEND (R617). -/
def execEnsignStatusSend (t : Nat) (s : State) : Host.Outcome State Fault Refusal :=
  occur t State.statusSend s

/-- ENSIGN_STATUS (R617). -/
def execEnsignStatus (t : Nat) (s : State) : Host.Outcome State Fault Refusal :=
  occur t State.ensStatus s

/-- ENSIGN_SILENT (R426). -/
def execEnsignSilent (t : Nat) (s : State) : Host.Outcome State Fault Refusal :=
  occur t State.ensSilent s

/-- POWER_PLAUSIBILITY (R460). -/
def execPowerPlausibility (t : Nat) (s : State) : Host.Outcome State Fault Refusal :=
  occur t State.plausible s

/-- OSC_CHECK (R433). -/
def execOscCheck (t : Nat) (deviationPermille : Nat) (s : State) : Host.Outcome State Fault Refusal :=
  occur t (State.oscCheck deviationPermille) s

/-- OSC_START_TIMEOUT (R433). -/
def execOscStartTimeout (t : Nat) (s : State) : Host.Outcome State Fault Refusal :=
  occur t State.oscTimeout s

/-- RTC_OSC_OK (R678). -/
def execRtcOscOk (t : Nat) (s : State) : Host.Outcome State Fault Refusal :=
  occur t State.rtcOscOk s

/-- RTC_OSC_STOP (R678). -/
def execRtcOscStop (t : Nat) (s : State) : Host.Outcome State Fault Refusal :=
  occur t State.rtcOscStop s

/-- DARK_DEMAND (R456). -/
def execDarkDemand (t : Nat) (s : State) : Host.Outcome State Fault Refusal :=
  occur t State.darkDemand s

/-- DARK_DEMAND_END (R445). -/
def execDarkDemandEnd (t : Nat) (s : State) : Host.Outcome State Fault Refusal :=
  occur t State.darkEnd s

/-- HOUSING_OPEN (R447). -/
def execHousingOpen (t : Nat) (s : State) : Host.Outcome State Fault Refusal :=
  occur t State.housingOpen s

/-- HOUSING_CLOSED (R446). -/
def execHousingClosed (t : Nat) (s : State) : Host.Outcome State Fault Refusal :=
  occur t State.housingClosed s

/-- SERVICE_ENABLE_ARM (R450). -/
def execServiceEnableArm (t : Nat) (s : State) : Host.Outcome State Fault Refusal :=
  occur t State.svcArm s

/-- SERVICE_ENABLE_DISARM (R451). -/
def execServiceEnableDisarm (t : Nat) (s : State) : Host.Outcome State Fault Refusal :=
  occur t State.svcDisarm s

/-- NEAR_FIELD_INTERRUPTION (R453). -/
def execNearFieldInterruption (t : Nat) (ch : Channel) (s : State) : Host.Outcome State Fault Refusal :=
  occur t (State.nearField ch) s

/-- NEAR_FIELD_RELEASE (R455). -/
def execNearFieldRelease (t : Nat) (s : State) : Host.Outcome State Fault Refusal :=
  occur t State.nearRelease s

/-- NF_TEST_PULSE_TIMEOUT (R454). -/
def execNfTestPulseTimeout (t : Nat) (ch : Channel) (s : State) : Host.Outcome State Fault Refusal :=
  occur t (State.pulseTimeout ch) s

/-- INPUT_DISCREPANCY (R444). -/
def execInputDiscrepancy (t : Nat) (pair : InputPair) (s : State) : Host.Outcome State Fault Refusal :=
  occur t (State.discrepancy pair) s

/-- SAFETY_INPUT_CHANGE (R444). -/
def execSafetyInputChange (t : Nat) (input : SafetyInput) (level : Bool) (s : State) : Host.Outcome State Fault Refusal :=
  occur t (State.inputChange input level) s

/-- ENGINE_OVERCURRENT (R440). -/
def execEngineOvercurrent (t : Nat) (fast : Bool) (s : State) : Host.Outcome State Fault Refusal :=
  occur t (State.overcurrent fast) s

/-- SWITCH_MONITOR_FAULT (R428). -/
def execSwitchMonitorFault (t : Nat) (monitor : SwitchMonitor) (s : State) : Host.Outcome State Fault Refusal :=
  occur t (State.monitorFault monitor) s

/-- SWITCH_TEST_DONE (R443). -/
def execSwitchTestDone (t : Nat) (m : SwitchMeas) (s : State) : Host.Outcome State Fault Refusal :=
  occur t (State.switchTestDone m) s

/-- SAFETY_TEST_OVERRIDE_END (R462). -/
def execSafetyTestOverrideEnd (t : Nat) (s : State) : Host.Outcome State Fault Refusal :=
  occur t State.injectEnd s

/-- GDN_ROM_CHECK (R680). -/
def execGdnRomCheck (t : Nat) (ok : Bool) (s : State) : Host.Outcome State Fault Refusal :=
  occur t (State.romCheck ok) s

/-- KASEL_PAIR_MISMATCH (R610). -/
def execKaselPairMismatch (t : Nat) (goff : Bool) (s : State) : Host.Outcome State Fault Refusal :=
  occur t (State.pairMismatch goff) s

end Sys2Proof.Machine
end

