-- ==== Sys2Proof/Machine/CommandRows.lean ====
section
/-! DEFINITION. The meanings of the command packets of Table 2.9, each well framed on its port. -/

namespace Sys2Proof.Machine

/-- NOP (R107). -/
def execNop (t : Nat) (p : Port) (tag flags : Byte) (s : State) : Host.Outcome State Fault Refusal :=
  occur t (State.command p tag flags .nop) s

/-- IDENTIFY (R107). -/
def execIdentify (t : Nat) (p : Port) (tag flags : Byte) (s : State) : Host.Outcome State Fault Refusal :=
  occur t (State.command p tag flags .identify) s

/-- STATUS (R107). -/
def execStatus (t : Nat) (p : Port) (tag flags : Byte) (s : State) : Host.Outcome State Fault Refusal :=
  occur t (State.command p tag flags .status) s

/-- FRAME_STATUS (R261). -/
def execFrameStatus (t : Nat) (p : Port) (tag flags : Byte) (s : State) : Host.Outcome State Fault Refusal :=
  occur t (State.command p tag flags .frameStatus) s

/-- DTIME_READ (R107). -/
def execDtimeRead (t : Nat) (p : Port) (tag flags : Byte) (s : State) : Host.Outcome State Fault Refusal :=
  occur t (State.command p tag flags .dtimeRead) s

/-- ENGINE_INFO (R355). -/
def execEngineInfo (t : Nat) (p : Port) (tag flags : Byte) (s : State) : Host.Outcome State Fault Refusal :=
  occur t (State.command p tag flags .engineInfo) s

/-- LIFE_READ (R370). -/
def execLifeRead (t : Nat) (p : Port) (tag flags : Byte) (s : State) : Host.Outcome State Fault Refusal :=
  occur t (State.command p tag flags .lifeRead) s

/-- EVT_RESET (R504). -/
def execEvtReset (t : Nat) (p : Port) (tag flags : Byte) (s : State) : Host.Outcome State Fault Refusal :=
  occur t (State.command p tag flags .evtReset) s

/-- PORT_STATUS (R99). -/
def execPortStatus (t : Nat) (p : Port) (tag flags : Byte) (port : Byte) (s : State) : Host.Outcome State Fault Refusal :=
  occur t (State.command p tag flags (.portStatus port)) s

/-- REG_READ (R110). -/
def execRegRead (t : Nat) (p : Port) (tag flags : Byte) (addr : Word) (count : Half) (s : State) : Host.Outcome State Fault Refusal :=
  occur t (State.command p tag flags (.regRead addr count)) s

/-- REG_WRITE (R111). -/
def execRegWrite (t : Nat) (p : Port) (tag flags : Byte) (addr : Word) (values : List Word) (s : State) : Host.Outcome State Fault Refusal :=
  occur t (State.command p tag flags (.regWrite addr values)) s

/-- REG_MODIFY (R112). -/
def execRegModify (t : Nat) (p : Port) (tag flags : Byte) (addr mask value : Word) (s : State) : Host.Outcome State Fault Refusal :=
  occur t (State.command p tag flags (.regModify addr mask value)) s

/-- COMMIT (R114). -/
def execCommit (t : Nat) (p : Port) (tag flags : Byte) (groups : Word) (s : State) : Host.Outcome State Fault Refusal :=
  occur t (State.command p tag flags (.commit groups)) s

/-- MODE_SET (R41). -/
def execModeSet (t : Nat) (p : Port) (tag flags : Byte) (target : Byte) (s : State) : Host.Outcome State Fault Refusal :=
  occur t (State.command p tag flags (.modeSet target)) s

/-- TIMEBASE_SELECT (R68). -/
def execTimebaseSelect (t : Nat) (p : Port) (tag flags : Byte) (source : Byte) (s : State) : Host.Outcome State Fault Refusal :=
  occur t (State.command p tag flags (.timebaseSelect source)) s

/-- SAFE_REQUEST (R117). -/
def execSafeRequest (t : Nat) (p : Port) (tag flags : Byte) (target : Byte) (reason : Half) (s : State) : Host.Outcome State Fault Refusal :=
  occur t (State.command p tag flags (.safeRequest target reason)) s

/-- SURFACE_DEFINE (R137). -/
def execSurfaceDefine (t : Nat) (p : Port) (tag flags : Byte) (surf format : Byte) (base : Word) (width height : Half) (stride : Word) (s : State) : Host.Outcome State Fault Refusal :=
  occur t (State.command p tag flags (.surfaceDefine surf format base width height stride)) s

/-- SURFACE_DELETE (R139). -/
def execSurfaceDelete (t : Nat) (p : Port) (tag flags : Byte) (surf : Byte) (s : State) : Host.Outcome State Fault Refusal :=
  occur t (State.command p tag flags (.surfaceDelete surf)) s

/-- LEASE_TAKE (R145). -/
def execLeaseTake (t : Nat) (p : Port) (tag flags : Byte) (surf : Byte) (crc : Word) (s : State) : Host.Outcome State Fault Refusal :=
  occur t (State.command p tag flags (.leaseTake surf crc)) s

/-- LEASE_RELEASE (R149). -/
def execLeaseRelease (t : Nat) (p : Port) (tag flags : Byte) (surf : Byte) (s : State) : Host.Outcome State Fault Refusal :=
  occur t (State.command p tag flags (.leaseRelease surf)) s

/-- OBJLIST (R211). -/
def execObjlist (t : Nat) (p : Port) (tag flags : Byte) (listseq : Half) (frag last : Byte) (data : List Byte) (s : State) : Host.Outcome State Fault Refusal :=
  occur t (State.command p tag flags (.objlist listseq frag last data)) s

/-- CEILING_LOAD (R239). -/
def execCeilingLoad (t : Nat) (p : Port) (tag flags : Byte) (surf : Byte) (crc : Word) (s : State) : Host.Outcome State Fault Refusal :=
  occur t (State.command p tag flags (.ceilingLoad surf crc)) s

/-- ENGINE_NV_READ (R348). -/
def execEngineNvRead (t : Nat) (p : Port) (tag flags : Byte) (seg : Byte) (count : Half) (addr : Word) (s : State) : Host.Outcome State Fault Refusal :=
  occur t (State.command p tag flags (.engineNvRead seg count addr)) s

/-- ENGINE_NV_WRITE (R350). -/
def execEngineNvWrite (t : Nat) (p : Port) (tag flags : Byte) (seg : Byte) (addr : Word) (data : List Byte) (s : State) : Host.Outcome State Fault Refusal :=
  occur t (State.command p tag flags (.engineNvWrite seg addr data)) s

/-- KEEPALIVE_WRITE (R361). -/
def execKeepaliveWrite (t : Nat) (p : Port) (tag flags : Byte) (seg surf : Byte) (crc : Word) (s : State) : Host.Outcome State Fault Refusal :=
  occur t (State.command p tag flags (.keepaliveWrite seg surf crc)) s

/-- PIXEL_CENSUS (R356). -/
def execPixelCensus (t : Nat) (p : Port) (tag flags : Byte) (segmask : Half) (s : State) : Host.Outcome State Fault Refusal :=
  occur t (State.command p tag flags (.pixelCensus segmask)) s

/-- THERMAL_MEASURE (R516). -/
def execThermalMeasure (t : Nat) (p : Port) (tag flags : Byte) (chanmask : Half) (s : State) : Host.Outcome State Fault Refusal :=
  occur t (State.command p tag flags (.thermalMeasure chanmask)) s

/-- CAL_RUN (R568). -/
def execCalRun (t : Nat) (p : Port) (tag flags : Byte) (itemmask burn : Byte) (s : State) : Host.Outcome State Fault Refusal :=
  occur t (State.command p tag flags (.calRun itemmask burn)) s

/-- CAL_READ (R577). -/
def execCalRead (t : Nat) (p : Port) (tag flags : Byte) (record : Byte) (s : State) : Host.Outcome State Fault Refusal :=
  occur t (State.command p tag flags (.calRead record)) s

/-- EVT_READ (R508). -/
def execEvtRead (t : Nat) (p : Port) (tag flags : Byte) (count : Byte) (s : State) : Host.Outcome State Fault Refusal :=
  occur t (State.command p tag flags (.evtRead count)) s

/-- FAULT_ACK (R118). -/
def execFaultAck (t : Nat) (p : Port) (tag flags : Byte) (block : Byte) (code : Half) (s : State) : Host.Outcome State Fault Refusal :=
  occur t (State.command p tag flags (.faultAck block code)) s

/-- LANE_TEST (R343). -/
def execLaneTest (t : Nat) (p : Port) (tag flags : Byte) (lanemask : Half) (pattern inject : Byte) (duration : Half) (s : State) : Host.Outcome State Fault Refusal :=
  occur t (State.command p tag flags (.laneTest lanemask pattern inject duration)) s

/-- SAFETY_TEST (R461). -/
def execSafetyTest (t : Nat) (p : Port) (tag flags : Byte) (test : Byte) (s : State) : Host.Outcome State Fault Refusal :=
  occur t (State.command p tag flags (.safetyTest test)) s

/-- RESET (R122). -/
def execReset (t : Nat) (p : Port) (tag flags : Byte) (key : Half) (s : State) : Host.Outcome State Fault Refusal :=
  occur t (State.command p tag flags (.reset key)) s

end Sys2Proof.Machine
end

