-- ==== Sys2Proof/Machine/EngineRows.lean ====
section
/-! DEFINITION. The meanings of the engine link and the light engine (chapters 7 and 8). -/

namespace Sys2Proof.Machine

/-- MARKER (R308). -/
def execMarker (t : Nat) (lane : Fin 16) (s : State) : Host.Outcome State Fault Refusal :=
  occur t (State.marker lane.val) s

/-- FSTART_FILL (R318). -/
def execFstartFill (t : Nat) (lane : Fin 16) (s : State) : Host.Outcome State Fault Refusal :=
  occur t (State.fstartFill lane.val) s

/-- LANE_UP_TIMEOUT (R328). -/
def execLaneUpTimeout (t : Nat) (lane : Fin 16) (s : State) : Host.Outcome State Fault Refusal :=
  occur t (State.laneUpTimeout lane.val) s

/-- ECHO_MESSAGE (R278). -/
def execEchoMessage (t : Nat) (lane : Fin 16) (fseq : Half) (nsub : Byte) (crc : Word) (s : State) : Host.Outcome State Fault Refusal :=
  occur t (State.echoMsg lane.val fseq nsub.toNat crc) s

/-- SUBST_MESSAGE (R323). -/
def execSubstMessage (t : Nat) (lane : Fin 16) (fseq : Half) (line cause : Byte) (s : State) : Host.Outcome State Fault Refusal :=
  occur t (State.substMsg lane.val fseq cause.toNat line.toNat) s

/-- MARKACK (R340). -/
def execMarkack (t : Nat) (lane : Fin 16) (_mseq : BitVec 24) (residPs : Int) (elapsedPs : Nat) (s : State) : Host.Outcome State Fault Refusal :=
  occur t (State.markack lane.val residPs elapsedPs) s

/-- TRAIN_MESSAGE (R331). -/
def execTrainMessage (t : Nat) (lane : Fin 16) (m : TrainMsg) (s : State) : Host.Outcome State Fault Refusal :=
  occur t (State.trainMsg lane.val m) s

/-- FLY_TRAINING_TIMEOUT (R330). -/
def execFlyTrainingTimeout (t : Nat) (lane : Fin 16) (s : State) : Host.Outcome State Fault Refusal :=
  occur t (State.trainTimeout lane.val) s

/-- NVDATA (R338). -/
def execNvdata (t : Nat) (lane : Fin 16) (seq : Byte) (data : List Byte) (s : State) : Host.Outcome State Fault Refusal :=
  occur t (State.nvData lane.val seq data) s

/-- NVEND (R339). -/
def execNvend (t : Nat) (lane : Fin 16) (tag status : Byte) (crc : Word) (s : State) : Host.Outcome State Fault Refusal :=
  occur t (State.nvEnd lane.val tag.toNat status.toNat crc) s

/-- STATUS_MESSAGE (R333). -/
def execStatusMessage (t : Nat) (lane : Fin 16) (flags mslip : Byte) (inverted : Bool) (s : State) : Host.Outcome State Fault Refusal :=
  occur t (State.statusMsg lane.val flags.toNat mslip.toNat inverted) s

/-- PRBSCNT (R345). -/
def execPrbscnt (t : Nat) (lane : Fin 16) (errors _blocks : Word) (s : State) : Host.Outcome State Fault Refusal :=
  occur t (State.prbsMsg lane.val errors) s

/-- PRBSCNT_TIMEOUT (R345). -/
def execPrbscntTimeout (t : Nat) (s : State) : Host.Outcome State Fault Refusal :=
  occur t State.prbsTimeout s

/-- CTRLACK (R356). -/
def execCtrlack (t : Nat) (lane : Fin 16) (tag status : Byte) (data : BitVec 48) (s : State) : Host.Outcome State Fault Refusal :=
  occur t (State.ctrlAck lane.val tag.toNat status.toNat data) s

/-- BACKCHANNEL_DISCARD (R321). -/
def execBackchannelDiscard (t : Nat) (frame : BackFrame) (s : State) : Host.Outcome State Fault Refusal :=
  occur t (State.backDiscard frame.lane.val frame.bytes) s

/-- CTRL_TIMEOUT (R339). -/
def execCtrlTimeout (t : Nat) (lane : Fin 16) (tag : BitVec 2) (s : State) : Host.Outcome State Fault Refusal :=
  occur t (State.ctrlTimeout lane.val tag) s

/-- LANE_TEST_END (R345). -/
def execLaneTestEnd (t : Nat) (s : State) : Host.Outcome State Fault Refusal :=
  occur t State.laneTestEnd s

/-- LIFE_TICK (R369). -/
def execLifeTick (t : Nat) (s : State) : Host.Outcome State Fault Refusal :=
  occur t State.lifeTick s

/-- LIFE_RECORD_DUE (R372). -/
def execLifeRecordDue (t : Nat) (s : State) : Host.Outcome State Fault Refusal :=
  occur t State.lifeRecordDue s

end Sys2Proof.Machine
end

