-- ==== Sys2Proof/Machine/HoistRows.lean ====
section
/-! DEFINITION. The meanings of the messages and events of the host link (chapter 9). -/

namespace Sys2Proof.Machine

/-- VID (R404). -/
def execVid (t : Nat) (h : HoistHead) (surf : Byte) (offset : Word) (data : List Byte) (s : State) : Host.Outcome State Fault Refusal :=
  occur t (State.vidMsg h surf offset data) s

/-- VID_STORE_ENTRY (R144). -/
def execVidStoreEntry (t : Nat) (s : State) : Host.Outcome State Fault Refusal :=
  occur t State.vidEntry s

/-- VID_WRITE_DONE (R406). -/
def execVidWriteDone (t : Nat) (s : State) : Host.Outcome State Fault Refusal :=
  occur t State.vidDone s

/-- OBJ (R210). -/
def execObj (t : Nat) (h : HoistHead) (listseq : Half) (frag last : Byte) (data : List Byte) (s : State) : Host.Outcome State Fault Refusal :=
  occur t (State.objMsg h listseq frag last data) s

/-- CMD (R407). -/
def execCmd (t : Nat) (h : HoistHead) (packet : List Byte) (s : State) : Host.Outcome State Fault Refusal :=
  occur t (State.cmdMsg h packet) s

/-- TIME (R414). -/
def execTime (t : Nat) (h : HoistHead) (t1 : BitVec 64) (token : Word) (s : State) : Host.Outcome State Fault Refusal :=
  occur t (State.timeMsg h t1 token) s

/-- HCREDIT (R408). -/
def execHcredit (t : Nat) (h : HoistHead) (ack0 ack1 ack2 replyAdv timeAdv : Half) (s : State) : Host.Outcome State Fault Refusal :=
  occur t (State.hcreditMsg h ack0 ack1 ack2 replyAdv timeAdv) s

/-- RESTARTREQ (R396). -/
def execRestartreq (t : Nat) (h : HoistHead) (s : State) : Host.Outcome State Fault Refusal :=
  occur t (State.restartMsg h) s

/-- FEC_GROUP (R385). -/
def execFecGroup (t : Nat) (lane : Fin 4) (errors : Nat) (heard : GroupHeard) (s : State) : Host.Outcome State Fault Refusal :=
  occur t (State.fecGroup lane.val errors heard) s

/-- CREDIT_TIMER (R402). -/
def execCreditTimer (t : Nat) (s : State) : Host.Outcome State Fault Refusal :=
  occur t State.creditTimer s

/-- CREDIT_AUDIT (R399). -/
def execCreditAudit (t : Nat) (s : State) : Host.Outcome State Fault Refusal :=
  occur t State.creditAudit s

/-- HOIST_LINKDOWN (R388). -/
def execHoistLinkdown (t : Nat) (lane : Fin 5) (s : State) : Host.Outcome State Fault Refusal :=
  occur t (State.hoistDown lane.val) s

/-- CAPABILITY_RECORD (R389). -/
def execCapabilityRecord (t : Nat) (record : CapRecord) (s : State) : Host.Outcome State Fault Refusal :=
  occur t (State.hoistCaps record) s

/-- HOIST_TRAIN (R390). -/
def execHoistTrain (t : Nat) (lane : Fin 4) (m : HoistTrainMsg) (s : State) : Host.Outcome State Fault Refusal :=
  occur t (State.hoistTrain lane.val m) s

/-- HOIST_TRAINING_TIMEOUT (R391). -/
def execHoistTrainingTimeout (t : Nat) (s : State) : Host.Outcome State Fault Refusal :=
  occur t State.hoistTimeout s

/-- HOIST_TIME_STALE (R416). -/
def execHoistTimeStale (t : Nat) (s : State) : Host.Outcome State Fault Refusal :=
  occur t State.timeStale s

end Sys2Proof.Machine
end

