-- ==== Sys2Proof/Machine/LinkRows.lean ====
section
/-! DEFINITION. The meanings of the die link, the test port and Halyard (chapters 15 and 16). -/

namespace Sys2Proof.Machine

/-- ESCALATE (R425). -/
def execEscalate (t : Nat) (s : State) : Host.Outcome State Fault Refusal :=
  occur t State.escalateMsg s

/-- REQUEST (R614). -/
def execRequest (t : Nat) (s : State) : Host.Outcome State Fault Refusal :=
  occur t State.requestMsg s

/-- REGADDR (R615). -/
def execRegaddr (t : Nat) (s : State) : Host.Outcome State Fault Refusal :=
  occur t State.regAddr s

/-- REGDATA (R615). -/
def execRegdata (t : Nat) (s : State) : Host.Outcome State Fault Refusal :=
  occur t State.regData s

/-- REGRESP (R671). -/
def execRegresp (t : Nat) (s : State) : Host.Outcome State Fault Refusal :=
  occur t State.regResp s

/-- TIMEMARK_SEND (R60). -/
def execTimemarkSend (t : Nat) (s : State) : Host.Outcome State Fault Refusal :=
  occur t State.markSend s

/-- TIMEMARK (R60). -/
def execTimemark (t : Nat) (s : State) : Host.Outcome State Fault Refusal :=
  occur t State.markTake s

/-- TIMEHIGH (R60). -/
def execTimehigh (t : Nat) (s : State) : Host.Outcome State Fault Refusal :=
  occur t State.highTake s

/-- ACK (R614). -/
def execAck (t : Nat) (msg : Reliable) (tag : BitVec 4) (s : State) : Host.Outcome State Fault Refusal :=
  occur t (State.ackMsg msg tag) s

/-- MEAS (R460). -/
def execMeas (t : Nat) (ma mv : Half) (s : State) : Host.Outcome State Fault Refusal :=
  occur t (State.meas ma mv) s

/-- EVENT (R618). -/
def execEvent (t : Nat) (s : State) : Host.Outcome State Fault Refusal :=
  occur t State.eventMsg s

/-- DROPS (R618). -/
def execDrops (t : Nat) (s : State) : Host.Outcome State Fault Refusal :=
  occur t State.dropsMsg s

/-- DIE_LINK_RESEND (R616). -/
def execDieLinkResend (t : Nat) (msg : Reliable) (s : State) : Host.Outcome State Fault Refusal :=
  occur t (State.resend msg) s

/-- DIE_LINK_FRAME_DISCARD (R613). -/
def execDieLinkFrameDiscard (t : Nat) (dir : LinkDir) (seq : BitVec 4) (s : State) : Host.Outcome State Fault Refusal :=
  occur t (State.frameDiscard dir seq) s

/-- JTAG_UPDATE_IR (R640). -/
def execJtagUpdateIr (t : Nat) (code : BitVec 5) (s : State) : Host.Outcome State Fault Refusal :=
  occur t (State.updateIr code) s

/-- TMODE_HIGH (R644). -/
def execTmodeHigh (t : Nat) (s : State) : Host.Outcome State Fault Refusal :=
  occur t State.tmodeHigh s

/-- HAL_FW_STALL (R680). -/
def execHalFwStall (t : Nat) (s : State) : Host.Outcome State Fault Refusal :=
  occur t (State.fwFault 0x047) s

/-- HAL_FW_TRAP (R680). -/
def execHalFwTrap (t : Nat) (s : State) : Host.Outcome State Fault Refusal :=
  occur t (State.fwFault 0x046) s

end Sys2Proof.Machine
end

