-- ==== Sys2Proof/Machine/PictureRows.lean ====
section
/-! DEFINITION. The meanings of composition, masks and scan-out (chapters 4 to 6), with LIMP. -/

namespace Sys2Proof.Machine

/-- FLIP_INSTANT (R256). -/
def execFlipInstant (t : Nat) (s : State) : Host.Outcome State Fault Refusal :=
  occur t State.flipInstant s

/-- COMPOSITION_DEADLINE (R171). -/
def execCompositionDeadline (t : Nat) (s : State) : Host.Outcome State Fault Refusal :=
  occur t State.compDeadline s

/-- TILE_DONE (R177). -/
def execTileDone (t : Nat) (worker : Fin 32) (s : State) : Host.Outcome State Fault Refusal :=
  occur t (State.tileDone worker.val) s

/-- WORKER_HUNG (R180). -/
def execWorkerHung (t : Nat) (worker : Fin 32) (s : State) : Host.Outcome State Fault Refusal :=
  occur t (State.workerHung worker.val) s

/-- SCAN_ANCHOR (R553). -/
def execScanAnchor (t : Nat) (s : State) : Host.Outcome State Fault Refusal :=
  occur t State.scanAnchor s

/-- PASS_START (R255). -/
def execPassStart (t : Nat) (s : State) : Host.Outcome State Fault Refusal :=
  occur t State.passStart s

/-- PASS_LATCH (R216). -/
def execPassLatch (t : Nat) (s : State) : Host.Outcome State Fault Refusal :=
  occur t State.passLatch s

/-- TABLE_RENDER_DONE (R218). -/
def execTableRenderDone (t : Nat) (which : RenderTable) (s : State) : Host.Outcome State Fault Refusal :=
  occur t (State.tableDone which) s

/-- MASK_TABLE_DEADLINE (R218). -/
def execMaskTableDeadline (t : Nat) (s : State) : Host.Outcome State Fault Refusal :=
  occur t State.tableDeadline s

/-- MID_PASS_COMPARE (R237). -/
def execMidPassCompare (t : Nat) (s : State) : Host.Outcome State Fault Refusal :=
  occur t State.midPass s

/-- TOKEN_LATCH (R219). -/
def execTokenLatch (t : Nat) (s : State) : Host.Outcome State Fault Refusal :=
  occur t State.tokenLatch s

/-- READ_UNDERRUN (R272). -/
def execReadUnderrun (t : Nat) (lane : Fin 16) (line : Byte) (pixel : Byte) (s : State) : Host.Outcome State Fault Refusal :=
  occur t (State.underrun lane.val line.toNat pixel.toNat) s

/-- ECHO_DEADLINE (R280). -/
def execEchoDeadline (t : Nat) (s : State) : Host.Outcome State Fault Refusal :=
  occur t State.echoDeadline s

/-- ECHO_LOST_TIMEOUT (R281). -/
def execEchoLostTimeout (t : Nat) (lane : Fin 16) (s : State) : Host.Outcome State Fault Refusal :=
  occur t (State.echoLost lane.val) s

/-- RETRAIN_ANCHOR (R293). -/
def execRetrainAnchor (t : Nat) (s : State) : Host.Outcome State Fault Refusal :=
  occur t State.retrainAnchor s

/-- RETRAIN_TIMEOUT (R295). -/
def execRetrainTimeout (t : Nat) (s : State) : Host.Outcome State Fault Refusal :=
  occur t State.retrainTimeout s

/-- LIMP_BASE_LAYER_PASS (R39). -/
def execLimpBaseLayerPass (t : Nat) (s : State) : Host.Outcome State Fault Refusal :=
  occur t State.limpPass s

end Sys2Proof.Machine
end

