-- ==== Sys2Proof/Machine/PolicyRows.lean ====
section
/-! DEFINITION. The meanings of the converter, the thermal policy, the fabric, calibration and the recorder (chapters 11 to 14). -/

namespace Sys2Proof.Machine

/-- CONVERSION_DONE (R514). `raw` is the forward voltage in mV of a diode, the resistance in Ω of a thermistor, the result of a calibration's
conversion; `temp` is the temperature in 1/16 °C that a diode's two voltages stand for under an ideality factor of 1, or that of an on-die sensor. -/
def execConversionDone (t : Nat) (raw : Nat) (temp : Int) (s : State) : Host.Outcome State Fault Refusal :=
  occur t (State.convDone raw temp) s

/-- CONVERSION_TIMEOUT (R516). -/
def execConversionTimeout (t : Nat) (s : State) : Host.Outcome State Fault Refusal :=
  occur t State.convTimeout s

/-- THERMAL_POLICY_TICK (R513). -/
def execThermalPolicyTick (t : Nat) (guidon : Bool) (s : State) : Host.Outcome State Fault Refusal :=
  occur t (State.policyTick guidon) s

/-- ENF_GRACE_EXPIRY (R522). -/
def execEnfGraceExpiry (t : Nat) (s : State) : Host.Outcome State Fault Refusal :=
  occur t State.enfDue s

/-- ENF_RELAX (R523). -/
def execEnfRelax (t : Nat) (s : State) : Host.Outcome State Fault Refusal :=
  occur t State.enfRelax s

/-- TJ_SECOND (R532). -/
def execTjSecond (t : Nat) (s : State) : Host.Outcome State Fault Refusal :=
  occur t State.tjSecond s

/-- GUIDON_THERMAL_OVERRIDE (R534). -/
def execGuidonThermalOverride (t : Nat) (s : State) : Host.Outcome State Fault Refusal :=
  occur t State.gdnForce s

/-- MARGIN_DECREASE (R541). -/
def execMarginDecrease (t : Nat) (s : State) : Host.Outcome State Fault Refusal :=
  occur t State.marginDecrease s

/-- CANARY_MEASURE (R545). -/
def execCanaryMeasure (t : Nat) (cycles : Vector Half 24) (s : State) : Host.Outcome State Fault Refusal :=
  occur t (State.canaryMeasure cycles) s

/-- VREQ_STEP (R550). -/
def execVreqStep (t : Nat) (s : State) : Host.Outcome State Fault Refusal :=
  occur t State.vreqStep s

/-- FIRC_MEASURE (R564). -/
def execFircMeasure (t : Nat) (error : Int) (s : State) : Host.Outcome State Fault Refusal :=
  occur t (State.fircMeasure error) s

/-- FUSE_ROW_DONE (R579). -/
def execFuseRowDone (t : Nat) (s : State) : Host.Outcome State Fault Refusal :=
  occur t State.fuseRow s

/-- EVENT_QUEUE_EXIT (R500). -/
def execEventQueueExit (t : Nat) (s : State) : Host.Outcome State Fault Refusal :=
  occur t State.queueExit s

/-- BUCKET_REFILL (R501). -/
def execBucketRefill (t : Nat) (code : BitVec 12) (s : State) : Host.Outcome State Fault Refusal :=
  occur t (fun s => s.refill code.toNat) s

end Sys2Proof.Machine
end

