-- ==== Sys2Proof/Machine/PortRows.lean ====
section
/-! DEFINITION. The meanings of the SPI transactions (Table 2.4) and the register accesses that have an effect of their own. -/

namespace Sys2Proof.Machine

/-- An access that needs the logic die running. -/
def State.whenOn (f : State → State) (s : State) : State := if s.pow.logicOn then f s else s

/-- The low half whose read latches a high half. -/
def lowHalf : HalfPair → Nat
  | .framecnt => 0x50003 | .fliptime => 0x50005 | .rtc => 0x100000 | .lasttime => 0xD0001

/-- A write of PERF.CFG.PCDIVMAX with the other fields as they are. -/
def State.pcdivmax (v : BitVec 2) (s : State) : State :=
  s.writeWord 0x10200 ((s.actW 0x10200 &&& 0xFFFCFFFF#32) ||| (v.zeroExtend 32 <<< 16))

/-- PUT (R92). -/
def execPut (t : Nat) (p : SpiPort) (bytes : List Byte) (s : State) : Host.Outcome State Fault Refusal :=
  occur t (State.put p bytes) s

/-- GET (R93). -/
def execGet (t : Nat) (p : SpiPort) (n : Nat) (s : State) : Host.Outcome State Fault Refusal :=
  occur t (State.get p n) s

/-- STAT (R95). -/
def execStat (t : Nat) (p : SpiPort) (s : State) : Host.Outcome State Fault Refusal :=
  occur t (State.stat p) s

/-- RESYNC (R94); any other transport byte that is none of Table 2.4 too. -/
def execResync (t : Nat) (p : SpiPort) (bytes : List Byte) (s : State) : Host.Outcome State Fault Refusal :=
  occur t (State.resync p bytes) s

/-- REGISTER_WRITE (R17). -/
def execRegisterWrite (t : Nat) (p : Port) (addr value : Word) (s : State) : Host.Outcome State Fault Refusal :=
  occur t (State.whenOn (State.regWrite p addr.toNat value)) s

/-- RC_READ (R15). -/
def execRcRead (t : Nat) (p : Port) (addr : Word) (s : State) : Host.Outcome State Fault Refusal :=
  occur t (State.whenOn (fun s => s.readEffect p addr.toNat)) s

/-- FRAMECNTL_READ (R264). -/
def execFramecntlRead (t : Nat) (p : Port) (which : HalfPair) (s : State) : Host.Outcome State Fault Refusal :=
  occur t (State.whenOn (fun s => s.latchHigh p (lowHalf which))) s

/-- EVT_WINDOW_READ (R507). -/
def execEvtWindowRead (t : Nat) (p : Port) (s : State) : Host.Outcome State Fault Refusal :=
  occur t (State.whenOn (fun s => s.readEffect p 0xB0006)) s

/-- REL (R72). -/
def execRel (t : Nat) (s : State) : Host.Outcome State Fault Refusal :=
  occur t (State.whenOn State.rel) s

/-- PATHCTL_START (R377). -/
def execPathctlStart (t : Nat) (deltaMa : Nat) (s : State) : Host.Outcome State Fault Refusal :=
  occur t (State.whenOn (State.pathctl deltaMa)) s

/-- PATH_MEASURE_DONE (R378). -/
def execPathMeasureDone (t : Nat) (deltaUv deltaMa : Nat) (s : State) : Host.Outcome State Fault Refusal :=
  occur t (State.pathDone deltaUv deltaMa) s

/-- CRC_INJ_ARM (R600). -/
def execCrcInjArm (t : Nat) (unit : Byte) (s : State) : Host.Outcome State Fault Refusal :=
  occur t (State.whenOn (State.writeWord 0xE0000 (BitVec.ofNat 32 (unit.toNat % 32 + 256)))) s

/-- RTC_LOAD (R676). -/
def execRtcLoad (t : Nat) (s : State) : Host.Outcome State Fault Refusal :=
  occur t (State.whenOn State.rtcLoad) s

/-- ALARMH_WRITE (R674). -/
def execAlarmhWrite (t : Nat) (value : Word) (s : State) : Host.Outcome State Fault Refusal :=
  occur t (State.whenOn (State.alarmhWrite value)) s

/-- REFILL_WRITE (R501). -/
def execRefillWrite (t : Nat) (value : Byte) (s : State) : Host.Outcome State Fault Refusal :=
  occur t (State.whenOn (fun s => s.refillWrite value.toNat)) s

/-- PCDIVMAX_WRITE (R559). -/
def execPcdivmaxWrite (t : Nat) (value : BitVec 2) (s : State) : Host.Outcome State Fault Refusal :=
  occur t (State.whenOn (State.pcdivmax value)) s

end Sys2Proof.Machine
end

