-- ==== Sys2Proof/Machine/StoreRows.lean ====
section
/-! DEFINITION. The meanings of the frame store, its leases and the ceiling map (chapters 3 and 5). -/

namespace Sys2Proof.Machine

/-- STORE_ACCESS (R126); a list that holds an access of a kind its requester does not have has no meaning (Table 3.2). -/
def execStoreAccess (t : Nat) (reqs : List StoreReq) (ecc : List (Fin 16 × EccResult)) (s : State) : Host.Outcome State Fault Refusal :=
  if wrongAccess reqs then .fault .wrongAccess else occur t (State.storeAccess reqs ecc) s

/-- BIST_REGION_START (R163). -/
def execBistRegionStart (t : Nat) (s : State) : Host.Outcome State Fault Refusal :=
  occur t State.bistStart s

/-- BIST_REGION_DONE (R164). -/
def execBistRegionDone (t : Nat) (mismatch : Option (Fin 32 × Fin 16)) (rerunFails : Bool) (s : State) : Host.Outcome State Fault Refusal :=
  occur t (State.bistDone mismatch rerunFails) s

/-- LEASE_CHECK_DONE (R147). -/
def execLeaseCheckDone (t : Nat) (s : State) : Host.Outcome State Fault Refusal :=
  occur t State.leaseCheckDone s

/-- CEILING_LOAD_DONE (R240). -/
def execCeilingLoadDone (t : Nat) (s : State) : Host.Outcome State Fault Refusal :=
  occur t State.ceilingLoadDone s

/-- CEILING_CRC_CHECK (R241). -/
def execCeilingCrcCheck (t : Nat) (s : State) : Host.Outcome State Fault Refusal :=
  occur t State.ceilingCheck s

end Sys2Proof.Machine
end

