-- ==== Sys2Proof/Machine/SupplyRows.lean ====
section
/-! DEFINITION. The meanings of supplies, wake, bring-up and SLEEP entry (chapters 1 and 15). -/

namespace Sys2Proof.Machine

/-- DRAIN_TIMEOUT (R78). -/
def execDrainTimeout (t : Nat) (s : State) : Host.Outcome State Fault Refusal :=
  occur t State.drainTimeout s

/-- VBAT_POWER_ON (R602). -/
def execVbatPowerOn (t : Nat) (s : State) : Host.Outcome State Fault Refusal :=
  occur t State.powerOn s

/-- VBAT_OFF (R602). -/
def execVbatOff (t : Nat) (s : State) : Host.Outcome State Fault Refusal :=
  occur t State.powerOff s

/-- WAKE_N_LOW (R52). -/
def execWakeNLow (t : Nat) (s : State) : Host.Outcome State Fault Refusal :=
  occur t State.wakeLow s

/-- WAKE_N_HIGH (R52). -/
def execWakeNHigh (t : Nat) (s : State) : Host.Outcome State Fault Refusal :=
  occur t State.wakeHigh s

/-- HRX0_EDGE (R54). -/
def execHrx0Edge (t : Nat) (s : State) : Host.Outcome State Fault Refusal :=
  occur t State.hrxEdge s

/-- RTC_TICK (R675). -/
def execRtcTick (t : Nat) (s : State) : Host.Outcome State Fault Refusal :=
  occur t State.rtcTick s

/-- RAILS_GOOD (R605). -/
def execRailsGood (t : Nat) (s : State) : Host.Outcome State Fault Refusal :=
  occur t State.railsUp s

/-- RAILS_TIMEOUT (R605). -/
def execRailsTimeout (t : Nat) (s : State) : Host.Outcome State Fault Refusal :=
  occur t State.railsLate s

/-- PMIC_RETRY (R607). -/
def execPmicRetry (t : Nat) (s : State) : Host.Outcome State Fault Refusal :=
  occur t State.pmicRetry s

/-- LOGIC_RESET_RELEASE (R59). -/
def execLogicResetRelease (t : Nat) (straps : BitVec 4) (s : State) : Host.Outcome State Fault Refusal :=
  occur t (State.releaseRow straps) s

/-- STORE_CLEAR_DONE (R66). -/
def execStoreClearDone (t : Nat) (s : State) : Host.Outcome State Fault Refusal :=
  occur t State.storeCleared s

/-- PATCH_CHECK_DONE (R84). The operands are the flash's bytes in order, cut as Table 1.11 lays them out: header bytes 0 to 15, the signatures and
keys behind them, the firmware section, and the configuration section with what follows; only their joined bytes count. -/
def execPatchCheckDone (t : Nat) (lead sigs firmware config : List Byte) (s : State) : Host.Outcome State Fault Refusal :=
  occur t (State.patchDone (lead ++ sigs ++ firmware ++ config)) s

/-- XTAL_GOOD (R63). -/
def execXtalGood (t : Nat) (s : State) : Host.Outcome State Fault Refusal :=
  occur t State.xtalGood s

/-- XTAL_LOSS (R69). -/
def execXtalLoss (t : Nat) (s : State) : Host.Outcome State Fault Refusal :=
  occur t State.xtalLoss s

/-- MODE_TRANSITION_DONE (R46). -/
def execModeTransitionDone (t : Nat) (s : State) : Host.Outcome State Fault Refusal :=
  occur t State.modeDone s

/-- SLEEP_PMIC_RELEASE (R605). -/
def execSleepPmicRelease (t : Nat) (s : State) : Host.Outcome State Fault Refusal :=
  occur t State.sleepPower s

/-- SLEEP_COMPLETE (R605). -/
def execSleepComplete (t : Nat) (s : State) : Host.Outcome State Fault Refusal :=
  occur t State.sleepDone s

/-- BROWNOUT (R607). -/
def execBrownout (t : Nat) (rail : Rail) (s : State) : Host.Outcome State Fault Refusal :=
  occur t (State.brownOut rail) s

/-- VCORE_WINDOW (R608): VCORE in 0.1 mV, outside its good window for 20 µs or inside it for 1 ms. -/
def execVcoreWindow (t : Nat) (vcore : Half) (s : State) : Host.Outcome State Fault Refusal :=
  occur t (State.vcoreWindow vcore) s

/-- SUPPLY_THRESHOLD (R619). -/
def execSupplyThreshold (t : Nat) (cond : SupplyCond) (enters : Bool) (level : Nat) (s : State) : Host.Outcome State Fault Refusal :=
  occur t (State.supply cond enters level) s

/-- SAG_INHIBIT_END (R589). -/
def execSagInhibitEnd (t : Nat) (s : State) : Host.Outcome State Fault Refusal :=
  occur t State.inhibitEnd s

end Sys2Proof.Machine
end

