-- ==== Sys2Proof/Machine/Dispatch.lean ====
section
/-! DEFINITION. What each command does to everything but the queue: one arm per command, one call of its meaning. -/

namespace Sys2Proof.Machine

/-- The effect of a command (one arm per row of the table). -/
def exec (i : Instr) (s : State) : Host.Outcome State Fault Refusal :=
  match i with
  | .nop t p tag flags => Sys2Proof.Machine.execNop t p tag flags s
  | .identify t p tag flags => Sys2Proof.Machine.execIdentify t p tag flags s
  | .status t p tag flags => Sys2Proof.Machine.execStatus t p tag flags s
  | .portStatus t p tag flags port => Sys2Proof.Machine.execPortStatus t p tag flags port s
  | .regRead t p tag flags addr count => Sys2Proof.Machine.execRegRead t p tag flags addr count s
  | .regWrite t p tag flags addr values => Sys2Proof.Machine.execRegWrite t p tag flags addr values s
  | .regModify t p tag flags addr mask value => Sys2Proof.Machine.execRegModify t p tag flags addr mask value s
  | .commit t p tag flags groups => Sys2Proof.Machine.execCommit t p tag flags groups s
  | .modeSet t p tag flags target => Sys2Proof.Machine.execModeSet t p tag flags target s
  | .timebaseSelect t p tag flags source => Sys2Proof.Machine.execTimebaseSelect t p tag flags source s
  | .safeRequest t p tag flags target reason => Sys2Proof.Machine.execSafeRequest t p tag flags target reason s
  | .surfaceDefine t p tag flags surf format base width height stride => Sys2Proof.Machine.execSurfaceDefine t p tag flags surf format base width height stride s
  | .surfaceDelete t p tag flags surf => Sys2Proof.Machine.execSurfaceDelete t p tag flags surf s
  | .leaseTake t p tag flags surf crc => Sys2Proof.Machine.execLeaseTake t p tag flags surf crc s
  | .leaseRelease t p tag flags surf => Sys2Proof.Machine.execLeaseRelease t p tag flags surf s
  | .objlist t p tag flags listseq frag last data => Sys2Proof.Machine.execObjlist t p tag flags listseq frag last data s
  | .ceilingLoad t p tag flags surf crc => Sys2Proof.Machine.execCeilingLoad t p tag flags surf crc s
  | .frameStatus t p tag flags => Sys2Proof.Machine.execFrameStatus t p tag flags s
  | .dtimeRead t p tag flags => Sys2Proof.Machine.execDtimeRead t p tag flags s
  | .engineInfo t p tag flags => Sys2Proof.Machine.execEngineInfo t p tag flags s
  | .engineNvRead t p tag flags seg count addr => Sys2Proof.Machine.execEngineNvRead t p tag flags seg count addr s
  | .engineNvWrite t p tag flags seg addr data => Sys2Proof.Machine.execEngineNvWrite t p tag flags seg addr data s
  | .keepaliveWrite t p tag flags seg surf crc => Sys2Proof.Machine.execKeepaliveWrite t p tag flags seg surf crc s
  | .pixelCensus t p tag flags segmask => Sys2Proof.Machine.execPixelCensus t p tag flags segmask s
  | .lifeRead t p tag flags => Sys2Proof.Machine.execLifeRead t p tag flags s
  | .thermalMeasure t p tag flags chanmask => Sys2Proof.Machine.execThermalMeasure t p tag flags chanmask s
  | .calRun t p tag flags itemmask burn => Sys2Proof.Machine.execCalRun t p tag flags itemmask burn s
  | .calRead t p tag flags record => Sys2Proof.Machine.execCalRead t p tag flags record s
  | .evtRead t p tag flags count => Sys2Proof.Machine.execEvtRead t p tag flags count s
  | .faultAck t p tag flags block code => Sys2Proof.Machine.execFaultAck t p tag flags block code s
  | .evtReset t p tag flags => Sys2Proof.Machine.execEvtReset t p tag flags s
  | .laneTest t p tag flags lanemask pattern inject duration => Sys2Proof.Machine.execLaneTest t p tag flags lanemask pattern inject duration s
  | .safetyTest t p tag flags test => Sys2Proof.Machine.execSafetyTest t p tag flags test s
  | .reset t p tag flags key => Sys2Proof.Machine.execReset t p tag flags key s
  | .put t p bytes => Sys2Proof.Machine.execPut t p bytes s
  | .get t p n => Sys2Proof.Machine.execGet t p n s
  | .stat t p => Sys2Proof.Machine.execStat t p s
  | .resync t p bytes => Sys2Proof.Machine.execResync t p bytes s
  | .registerWrite t p addr value => Sys2Proof.Machine.execRegisterWrite t p addr value s
  | .rcRead t p addr => Sys2Proof.Machine.execRcRead t p addr s
  | .framecntlRead t p which => Sys2Proof.Machine.execFramecntlRead t p which s
  | .evtWindowRead t p => Sys2Proof.Machine.execEvtWindowRead t p s
  | .rel t => Sys2Proof.Machine.execRel t s
  | .pathctlStart t deltaMa => Sys2Proof.Machine.execPathctlStart t deltaMa s
  | .pathMeasureDone t deltaUv deltaMa => Sys2Proof.Machine.execPathMeasureDone t deltaUv deltaMa s
  | .crcInjArm t unit => Sys2Proof.Machine.execCrcInjArm t unit s
  | .rtcLoad t => Sys2Proof.Machine.execRtcLoad t s
  | .alarmhWrite t value => Sys2Proof.Machine.execAlarmhWrite t value s
  | .refillWrite t value => Sys2Proof.Machine.execRefillWrite t value s
  | .pcdivmaxWrite t value => Sys2Proof.Machine.execPcdivmaxWrite t value s
  | .vid t h surf offset data => Sys2Proof.Machine.execVid t h surf offset data s
  | .vidStoreEntry t => Sys2Proof.Machine.execVidStoreEntry t s
  | .vidWriteDone t => Sys2Proof.Machine.execVidWriteDone t s
  | .obj t h listseq frag last data => Sys2Proof.Machine.execObj t h listseq frag last data s
  | .cmd t h packet => Sys2Proof.Machine.execCmd t h packet s
  | .time t h t1 token => Sys2Proof.Machine.execTime t h t1 token s
  | .hcredit t h ack0 ack1 ack2 replyAdv timeAdv => Sys2Proof.Machine.execHcredit t h ack0 ack1 ack2 replyAdv timeAdv s
  | .restartreq t h => Sys2Proof.Machine.execRestartreq t h s
  | .fecGroup t lane errors heard => Sys2Proof.Machine.execFecGroup t lane errors heard s
  | .creditTimer t => Sys2Proof.Machine.execCreditTimer t s
  | .creditAudit t => Sys2Proof.Machine.execCreditAudit t s
  | .hoistLinkdown t lane => Sys2Proof.Machine.execHoistLinkdown t lane s
  | .capabilityRecord t record => Sys2Proof.Machine.execCapabilityRecord t record s
  | .hoistTrain t lane m => Sys2Proof.Machine.execHoistTrain t lane m s
  | .hoistTrainingTimeout t => Sys2Proof.Machine.execHoistTrainingTimeout t s
  | .flipInstant t => Sys2Proof.Machine.execFlipInstant t s
  | .compositionDeadline t => Sys2Proof.Machine.execCompositionDeadline t s
  | .tileDone t worker => Sys2Proof.Machine.execTileDone t worker s
  | .workerHung t worker => Sys2Proof.Machine.execWorkerHung t worker s
  | .scanAnchor t => Sys2Proof.Machine.execScanAnchor t s
  | .passStart t => Sys2Proof.Machine.execPassStart t s
  | .passLatch t => Sys2Proof.Machine.execPassLatch t s
  | .tableRenderDone t which => Sys2Proof.Machine.execTableRenderDone t which s
  | .maskTableDeadline t => Sys2Proof.Machine.execMaskTableDeadline t s
  | .midPassCompare t => Sys2Proof.Machine.execMidPassCompare t s
  | .tokenLatch t => Sys2Proof.Machine.execTokenLatch t s
  | .readUnderrun t lane line pixel => Sys2Proof.Machine.execReadUnderrun t lane line pixel s
  | .echoDeadline t => Sys2Proof.Machine.execEchoDeadline t s
  | .echoLostTimeout t lane => Sys2Proof.Machine.execEchoLostTimeout t lane s
  | .retrainAnchor t => Sys2Proof.Machine.execRetrainAnchor t s
  | .retrainTimeout t => Sys2Proof.Machine.execRetrainTimeout t s
  | .storeAccess t reqs ecc => Sys2Proof.Machine.execStoreAccess t reqs ecc s
  | .bistRegionStart t => Sys2Proof.Machine.execBistRegionStart t s
  | .bistRegionDone t mismatch rerunFails => Sys2Proof.Machine.execBistRegionDone t mismatch rerunFails s
  | .leaseCheckDone t => Sys2Proof.Machine.execLeaseCheckDone t s
  | .ceilingLoadDone t => Sys2Proof.Machine.execCeilingLoadDone t s
  | .ceilingCrcCheck t => Sys2Proof.Machine.execCeilingCrcCheck t s
  | .powerPlausibility t => Sys2Proof.Machine.execPowerPlausibility t s
  | .drainTimeout t => Sys2Proof.Machine.execDrainTimeout t s
  | .vbatPowerOn t => Sys2Proof.Machine.execVbatPowerOn t s
  | .vbatOff t => Sys2Proof.Machine.execVbatOff t s
  | .wakeNLow t => Sys2Proof.Machine.execWakeNLow t s
  | .hrx0Edge t => Sys2Proof.Machine.execHrx0Edge t s
  | .rtcTick t => Sys2Proof.Machine.execRtcTick t s
  | .railsGood t => Sys2Proof.Machine.execRailsGood t s
  | .railsTimeout t => Sys2Proof.Machine.execRailsTimeout t s
  | .logicResetRelease t straps => Sys2Proof.Machine.execLogicResetRelease t straps s
  | .storeClearDone t => Sys2Proof.Machine.execStoreClearDone t s
  | .patchCheckDone t lead sigs firmware config => Sys2Proof.Machine.execPatchCheckDone t lead sigs firmware config s
  | .laneUpTimeout t lane => Sys2Proof.Machine.execLaneUpTimeout t lane s
  | .xtalGood t => Sys2Proof.Machine.execXtalGood t s
  | .xtalLoss t => Sys2Proof.Machine.execXtalLoss t s
  | .modeTransitionDone t => Sys2Proof.Machine.execModeTransitionDone t s
  | .sleepPmicRelease t => Sys2Proof.Machine.execSleepPmicRelease t s
  | .sleepComplete t => Sys2Proof.Machine.execSleepComplete t s
  | .brownout t rail => Sys2Proof.Machine.execBrownout t rail s
  | .vcoreWindow t vcore => Sys2Proof.Machine.execVcoreWindow t vcore s
  | .supplyThreshold t cond enters level => Sys2Proof.Machine.execSupplyThreshold t cond enters level s
  | .sagInhibitEnd t => Sys2Proof.Machine.execSagInhibitEnd t s
  | .graceTimerExpiry t cls => Sys2Proof.Machine.execGraceTimerExpiry t cls s
  | .ensignGraceExpiry t power => Sys2Proof.Machine.execEnsignGraceExpiry t power s
  | .heartbeatSend t => Sys2Proof.Machine.execHeartbeatSend t s
  | .heartbeat t seq answer test linkOk => Sys2Proof.Machine.execHeartbeat t seq answer test linkOk s
  | .heartbeatWindowClose t => Sys2Proof.Machine.execHeartbeatWindowClose t s
  | .ensignStatusSend t => Sys2Proof.Machine.execEnsignStatusSend t s
  | .ensignStatus t => Sys2Proof.Machine.execEnsignStatus t s
  | .ensignSilent t => Sys2Proof.Machine.execEnsignSilent t s
  | .escalate t => Sys2Proof.Machine.execEscalate t s
  | .request t => Sys2Proof.Machine.execRequest t s
  | .regaddr t => Sys2Proof.Machine.execRegaddr t s
  | .regdata t => Sys2Proof.Machine.execRegdata t s
  | .regresp t => Sys2Proof.Machine.execRegresp t s
  | .timemarkSend t => Sys2Proof.Machine.execTimemarkSend t s
  | .timemark t => Sys2Proof.Machine.execTimemark t s
  | .timehigh t => Sys2Proof.Machine.execTimehigh t s
  | .ack t msg tag => Sys2Proof.Machine.execAck t msg tag s
  | .meas t ma mv => Sys2Proof.Machine.execMeas t ma mv s
  | .event t => Sys2Proof.Machine.execEvent t s
  | .drops t => Sys2Proof.Machine.execDrops t s
  | .dieLinkResend t msg => Sys2Proof.Machine.execDieLinkResend t msg s
  | .oscCheck t deviationPermille => Sys2Proof.Machine.execOscCheck t deviationPermille s
  | .oscStartTimeout t => Sys2Proof.Machine.execOscStartTimeout t s
  | .rtcOscOk t => Sys2Proof.Machine.execRtcOscOk t s
  | .rtcOscStop t => Sys2Proof.Machine.execRtcOscStop t s
  | .darkDemand t => Sys2Proof.Machine.execDarkDemand t s
  | .darkDemandEnd t => Sys2Proof.Machine.execDarkDemandEnd t s
  | .housingOpen t => Sys2Proof.Machine.execHousingOpen t s
  | .housingClosed t => Sys2Proof.Machine.execHousingClosed t s
  | .serviceEnableArm t => Sys2Proof.Machine.execServiceEnableArm t s
  | .serviceEnableDisarm t => Sys2Proof.Machine.execServiceEnableDisarm t s
  | .nearFieldInterruption t ch => Sys2Proof.Machine.execNearFieldInterruption t ch s
  | .nearFieldRelease t => Sys2Proof.Machine.execNearFieldRelease t s
  | .nfTestPulseTimeout t ch => Sys2Proof.Machine.execNfTestPulseTimeout t ch s
  | .inputDiscrepancy t pair => Sys2Proof.Machine.execInputDiscrepancy t pair s
  | .engineOvercurrent t fast => Sys2Proof.Machine.execEngineOvercurrent t fast s
  | .switchMonitorFault t monitor => Sys2Proof.Machine.execSwitchMonitorFault t monitor s
  | .switchTestDone t m => Sys2Proof.Machine.execSwitchTestDone t m s
  | .safetyTestOverrideEnd t => Sys2Proof.Machine.execSafetyTestOverrideEnd t s
  | .marker t lane => Sys2Proof.Machine.execMarker t lane s
  | .fstartFill t lane => Sys2Proof.Machine.execFstartFill t lane s
  | .echoMessage t lane fseq nsub crc => Sys2Proof.Machine.execEchoMessage t lane fseq nsub crc s
  | .substMessage t lane fseq line cause => Sys2Proof.Machine.execSubstMessage t lane fseq line cause s
  | .markack t lane mseq residPs elapsedPs => Sys2Proof.Machine.execMarkack t lane mseq residPs elapsedPs s
  | .trainMessage t lane m => Sys2Proof.Machine.execTrainMessage t lane m s
  | .flyTrainingTimeout t lane => Sys2Proof.Machine.execFlyTrainingTimeout t lane s
  | .nvdata t lane seq data => Sys2Proof.Machine.execNvdata t lane seq data s
  | .nvend t lane tag status crc => Sys2Proof.Machine.execNvend t lane tag status crc s
  | .statusMessage t lane flags mslip inverted => Sys2Proof.Machine.execStatusMessage t lane flags mslip inverted s
  | .prbscnt t lane errors blocks => Sys2Proof.Machine.execPrbscnt t lane errors blocks s
  | .ctrlack t lane tag status data => Sys2Proof.Machine.execCtrlack t lane tag status data s
  | .backchannelDiscard t frame => Sys2Proof.Machine.execBackchannelDiscard t frame s
  | .ctrlTimeout t lane tag => Sys2Proof.Machine.execCtrlTimeout t lane tag s
  | .laneTestEnd t => Sys2Proof.Machine.execLaneTestEnd t s
  | .conversionDone t raw temp => Sys2Proof.Machine.execConversionDone t raw temp s
  | .conversionTimeout t => Sys2Proof.Machine.execConversionTimeout t s
  | .thermalPolicyTick t guidon => Sys2Proof.Machine.execThermalPolicyTick t guidon s
  | .enfGraceExpiry t => Sys2Proof.Machine.execEnfGraceExpiry t s
  | .enfRelax t => Sys2Proof.Machine.execEnfRelax t s
  | .tjSecond t => Sys2Proof.Machine.execTjSecond t s
  | .guidonThermalOverride t => Sys2Proof.Machine.execGuidonThermalOverride t s
  | .marginDecrease t => Sys2Proof.Machine.execMarginDecrease t s
  | .canaryMeasure t cycles => Sys2Proof.Machine.execCanaryMeasure t cycles s
  | .vreqStep t => Sys2Proof.Machine.execVreqStep t s
  | .fircMeasure t error => Sys2Proof.Machine.execFircMeasure t error s
  | .fuseRowDone t => Sys2Proof.Machine.execFuseRowDone t s
  | .lifeTick t => Sys2Proof.Machine.execLifeTick t s
  | .lifeRecordDue t => Sys2Proof.Machine.execLifeRecordDue t s
  | .eventQueueExit t => Sys2Proof.Machine.execEventQueueExit t s
  | .bucketRefill t code => Sys2Proof.Machine.execBucketRefill t code s
  | .jtagUpdateIr t code => Sys2Proof.Machine.execJtagUpdateIr t code s
  | .tmodeHigh t => Sys2Proof.Machine.execTmodeHigh t s
  | .safetyInputChange t input level => Sys2Proof.Machine.execSafetyInputChange t input level s
  | .dieLinkFrameDiscard t dir seq => Sys2Proof.Machine.execDieLinkFrameDiscard t dir seq s
  | .hoistTimeStale t => Sys2Proof.Machine.execHoistTimeStale t s
  | .halFwStall t => Sys2Proof.Machine.execHalFwStall t s
  | .halFwTrap t => Sys2Proof.Machine.execHalFwTrap t s
  | .gdnRomCheck t ok => Sys2Proof.Machine.execGdnRomCheck t ok s
  | .limpBaseLayerPass t => Sys2Proof.Machine.execLimpBaseLayerPass t s
  | .prbscntTimeout t => Sys2Proof.Machine.execPrbscntTimeout t s
  | .pmicRetry t => Sys2Proof.Machine.execPmicRetry t s
  | .wakeNHigh t => Sys2Proof.Machine.execWakeNHigh t s
  | .kaselPairMismatch t goff => Sys2Proof.Machine.execKaselPairMismatch t goff s

end Sys2Proof.Machine
end

