-- ==== Sys2Proof/Machine/Pins.lean ====
section
/-! DEFINITION. What the block drives on its output pins, as functions of the state: the two interrupt lines, the voltage request, the
regulator enable, the engine switches and the general-purpose pads. -/

namespace Sys2Proof.Machine

/-- A PEND bit of block b is 1 whose INTEN bit is 1 (Table 11.2). -/
def State.intOf (s : State) (b : Nat) : Bool :=
  decide (s.act (b * 65536 + 0xFFF1) &&& s.act (b * 65536 + 0xFFF3) ≠ 0) ||
    decide (s.act (b * 65536 + 0xFFF2) &&& s.act (b * 65536 + 0xFFF4) ≠ 0)

/-- INT_N is asserted (R496); while VIO18 is off it is released (R639), and so it is while the logic die is in reset.
A test instruction drives it low, or does not (Table 16.7). -/
def State.intPin (s : State) : Bool :=
  s.pow.logicOn && (if s.testIns then decide (s.testDrive 8 = some false) else (List.range 18).any s.intOf)

/-- SINT_N is asserted: a safe state, or an active fault whose class bit in EVT.CTRL.SINTCLS is 1 (R497, R639). -/
def State.sintPin (s : State) : Bool :=
  s.pow.logicOn && (if s.testIns then decide (s.testDrive 9 = some false)
    else s.inSafe || s.flt.active.any (fun a => s.flag 0xB0000 (8 + a.cls)))

/-- High time of VREQ in ns, of a period of 2,000 ns (R547); none while the logic die is off, or a test instruction has the
ball. -/
def State.vreqHigh (s : State) : Option Nat := if s.pow.logicOn && !s.testIns then some (300 + 20 * s.fab.vcode) else none

/-- PMIC_EN (R55). -/
def State.pmicPin (s : State) : Bool := s.pow.pmicEn

/-- The engine switches, high side and low side, closed (Table 10.5). Under a test instruction the gate drivers stay
off whatever the Ensign commands (R641). -/
def State.switchPins (s : State) : Bool × Bool := (s.ens.hsOn && !s.testIns, s.ens.lsOn && !s.testIns)

/-- GPIO g as the block drives it: some level, or none for high impedance, pulled or not (Table 18.3, R71, R72). -/
def State.gpioDrive (s : State) (g : Nat) : Option Bool :=
  match s.padNow g with | .low => some false | .high => some true | _ => none

end Sys2Proof.Machine
end

