-- ==== Sys2Proof/Machine/Wire.lean ====
section
/-! DEFINITION. What the block puts on its serial links, bit for bit: Ranok blocks and their symbols on Fly and Hoist, the Reed-Solomon
groups of Hoist, the messages on HTX, and the frames of the die link. -/

namespace Sys2Proof.Machine

/-! ### Messages on HTX (Table 9.6, R393) -/

/-- A message as it leaves: its HEAD payload, then, where it has a body, the body region in whole blocks. -/
def HtxMsg.wire (epoch : Byte) (m : HtxMsg) : List Byte :=
  let h := headBytes m.cls.toNat epoch.toNat m.cseq.toNat m.body.length m.cf
  let hcrc := hcrcOf m.cls.toNat epoch.toNat m.cseq.toNat m.body.length m.cf
  let region := m.body ++ le 4 (bcrcOf hcrc m.body).toNat
  h ++ le 4 hcrc.toNat ++ (if m.body.isEmpty then [] else region ++ List.replicate ((16 - region.length % 16) % 16) 0)

/-- What the last command of the table gave to HTX, as bytes. -/
def State.htxBytes (s : State) : List Byte := s.hoist.sent.flatMap (HtxMsg.wire s.hoist.epoch)

/-- The blocks of a message that has begun, in order: HEAD, then DATA (R386, R394). -/
def HtxOut.block (o : HtxOut) (i : Nat) : Block :=
  { type := if i = 0 then .head else .data, payload := payload16 (((o.msg.wire o.epoch).drop (16 * i)).take 16) }

/-! ### The slots of HTX (R381 to R384, R386) -/

/-- The block in data slot j: of the message that has taken it; else TRAIN while the link is down or trains, IDLE otherwise. -/
def State.htxData (s : State) (j : Nat) : Block :=
  let h := s.hoist
  match h.htxOut.find? (fun o => decide (o.at_ ≤ j ∧ j < o.at_ + o.msg.blocks)) with
  | some o => o.block (j - o.at_)
  | none =>
    match h.st with
    | .down => { type := .train, payload := s.capPayload }
    | .training => { type := .train, payload := s.htxTrain h.trainPhase (h.count j) }
    | _ => { type := .idle, payload := payload16 [] }

/-- MSEQ of the MARKER at or before a slot (R308). -/
def slotMseq (slot : Nat) : BitVec 24 := BitVec.ofNat 24 (slot / 8192)

/-- The block in a slot of HTX that carries one. -/
def State.htxSlot (s : State) (slot : Nat) : Block :=
  if slotMarker slot then { type := .marker, payload := markerPayload htxLaneId (slotMseq slot) } else s.htxData (dataFrom slot)

/-- The scrambler before a slot: loaded after the last MARKER, advanced by each scrambled block since (R307, with n = 4 for HTX). -/
def State.htxScrambler (s : State) (slot : Nat) : BitVec 31 :=
  let first := slot / 8192 * 8192
  scramAfter (countBelow (fun i => slotCarries (first + i) && (s.htxSlot (first + i)).type.scrambled) (slot - first)) (scramSeed 4 (slotMseq slot))

/-- The 136 bits of a slot that carries a block, as sent. -/
def State.htxBits (s : State) (slot : Nat) : List Bool :=
  let b := s.htxSlot slot
  (blockBits b.type b.payload (s.htxScrambler slot)).1

/-- The 32 slots of FEC group g of HTX as sent: 30 blocks, then the parity over them. -/
def State.htxGroup (s : State) (g : Nat) : List (List Bool) := groupSlots ((List.range 30).map (fun i => s.htxBits (32 * g + i)))

/-- Precoding applies in a slot of HTX: at FULL, from the slot after COUNT 0 on (R380, Table 9.5 step 6). -/
def State.htxPrecodes (s : State) (slot : Nat) : Bool := s.hoist.htxFull && s.hoist.htxPrec && decide (s.hoist.htxPrecAt ≤ slot)

/-- Slots one after another as level indices, after the index `prev`; the first precoded slot starts from 0 (R303, R380). -/
def State.htxSymbols (s : State) : Nat → Nat → List (List Bool) → List Nat
  | _, _, [] => []
  | prev, slot, b :: t =>
    let v := levelsOf s.hoist.htxFull (s.htxPrecodes slot) (if slot = s.hoist.htxPrecAt then 0 else prev) b
    v ++ State.htxSymbols s (v.getLastD 0) (slot + 1) t

/-- The level indices of FEC group g on the HTX pair (R380, R634): Gray-mapped at FULL, precoded from the slot at which precoding starts, on
the outer levels at LIMP. `prev` is the index sent last before the group, of use only where precoding began before it. -/
def State.htxLevels (s : State) (prev g : Nat) : List Nat := onPair s.hoist.txInv (s.htxSymbols prev (32 * g) (s.htxGroup g))

/-- The data slots of HRX for `k` slots from slot a on, in the order in which message blocks stand on them: bonded, as (slot, lane); lane 0
alone at LIMP (R386). -/
def State.hrxSequence (s : State) (a k : Nat) : List (Nat × Nat) := bondedSlots (if s.hoist.st = .bonded then 4 else 1) a k

/-- The slot and the FEC group that lane n of HRX is in: groups counted since the lane's start (R383). -/
def State.hrxSlot (s : State) (n : Nat) : Nat := 32 * (vget s.hoist.lanes n).groups

/-! ### Die-link frames (R611, R612, Table 15.3) -/

/-- CRC-8 with polynomial 0x2F over bits in sending order. -/
def crc8 (init : Byte) (l : List Bool) : Byte := l.foldl (crcSerial 0x2F#8) init

/-- The 48 bits of a frame, bit 0 first. -/
def dieFrame (down : Bool) (type : Nat) (seq : BitVec 4) (payload : Word) : List Bool :=
  let body := (List.range 4).map (bit type) ++ (List.range 4).map seq.getLsbD ++ (List.range 32).map payload.getLsbD
  body ++ (List.range 8).map (crc8 (if down then 0xFF#8 else 0x7F#8) body).getLsbD

/-- The payloads of the downstream messages. -/
def beatPayload (seq answer : Byte) (test : Bool) : Nat := seq.toNat + 256 * answer.toNat + 65536 * b2n test
def escalPayload (e : Escal) (tag : BitVec 4) : Nat :=
  place 0 12 e.code + place 12 3 e.cls + place 15 5 e.block + place 20 1 (b2n e.dark) + place 21 4 tag.toNat
def requestPayload (req arg : Nat) (tag : BitVec 4) : Nat := place 0 8 req + place 8 16 arg + place 24 4 tag.toNat
def regAddrPayload (r : RegAcc) (tag : BitVec 4) : Nat :=
  place 0 16 r.offset + place 16 5 r.block + place 21 1 (b2n r.write.isSome) + place 22 4 tag.toNat
def timeHighPayload (high : Nat) (tag : BitVec 4) : Nat := place 0 12 high + place 12 4 tag.toNat
def ackPayload (type : Nat) (tag : BitVec 4) : Nat := place 0 4 type + place 4 4 tag.toNat

/-- The payloads of the upstream messages. -/
def statusPayload (s : State) (instat : BitVec 9) (mode : Nat) (held : Bool) : Nat :=
  place 0 4 s.ens.chal.toNat + place 4 9 instat.toNat + place 13 1 (b2n s.ens.hsOn) + place 14 1 (b2n s.ens.lsOn) + place 15 1 (b2n s.ens.ovr) +
    place 16 1 (b2n s.ens.gdis) + place 17 1 (b2n held) + place 18 2 mode
def measPayload (s : State) : Nat := s.ens.imeas.toNat + 65536 * s.ens.vled.toNat
def eventPayload (e : HvEvent) (tag : BitVec 4) : Nat := place 0 12 e.code + place 12 8 e.inst + place 20 8 e.data + place 28 4 tag.toNat
def dropsPayload (count : Nat) (tag : BitVec 4) : Nat := place 0 16 count + place 16 4 tag.toNat

end Sys2Proof.Machine
end

