-- ==== Sys2Proof/WellFormed.lean ====
section
/-! DEFINITION. Which commands can occur: the bounds that the operand types do not carry (the length fields of packets, messages and
blocks). -/

namespace Sys2Proof

/-- The instant at which a command occurs, ns. -/
def Instr.instant : Instr → Nat
  | .nop t _ _ _ => t
  | .identify t _ _ _ => t
  | .status t _ _ _ => t
  | .portStatus t _ _ _ _ => t
  | .regRead t _ _ _ _ _ => t
  | .regWrite t _ _ _ _ _ => t
  | .regModify t _ _ _ _ _ _ => t
  | .commit t _ _ _ _ => t
  | .modeSet t _ _ _ _ => t
  | .timebaseSelect t _ _ _ _ => t
  | .safeRequest t _ _ _ _ _ => t
  | .surfaceDefine t _ _ _ _ _ _ _ _ _ => t
  | .surfaceDelete t _ _ _ _ => t
  | .leaseTake t _ _ _ _ _ => t
  | .leaseRelease t _ _ _ _ => t
  | .objlist t _ _ _ _ _ _ _ => t
  | .ceilingLoad t _ _ _ _ _ => t
  | .frameStatus t _ _ _ => t
  | .dtimeRead t _ _ _ => t
  | .engineInfo t _ _ _ => t
  | .engineNvRead t _ _ _ _ _ _ => t
  | .engineNvWrite t _ _ _ _ _ _ => t
  | .keepaliveWrite t _ _ _ _ _ _ => t
  | .pixelCensus t _ _ _ _ => t
  | .lifeRead t _ _ _ => t
  | .thermalMeasure t _ _ _ _ => t
  | .calRun t _ _ _ _ _ => t
  | .calRead t _ _ _ _ => t
  | .evtRead t _ _ _ _ => t
  | .faultAck t _ _ _ _ _ => t
  | .evtReset t _ _ _ => t
  | .laneTest t _ _ _ _ _ _ _ => t
  | .safetyTest t _ _ _ _ => t
  | .reset t _ _ _ _ => t
  | .put t _ _ => t
  | .get t _ _ => t
  | .stat t _ => t
  | .resync t _ _ => t
  | .registerWrite t _ _ _ => t
  | .rcRead t _ _ => t
  | .framecntlRead t _ _ => t
  | .evtWindowRead t _ => t
  | .rel t => t
  | .pathctlStart t _ => t
  | .pathMeasureDone t _ _ => t
  | .crcInjArm t _ => t
  | .rtcLoad t => t
  | .alarmhWrite t _ => t
  | .refillWrite t _ => t
  | .pcdivmaxWrite t _ => t
  | .vid t _ _ _ _ => t
  | .vidStoreEntry t => t
  | .vidWriteDone t => t
  | .obj t _ _ _ _ _ => t
  | .cmd t _ _ => t
  | .time t _ _ _ => t
  | .hcredit t _ _ _ _ _ _ => t
  | .restartreq t _ => t
  | .fecGroup t _ _ _ => t
  | .creditTimer t => t
  | .creditAudit t => t
  | .hoistLinkdown t _ => t
  | .capabilityRecord t _ => t
  | .hoistTrain t _ _ => t
  | .hoistTrainingTimeout t => t
  | .flipInstant t => t
  | .compositionDeadline t => t
  | .tileDone t _ => t
  | .workerHung t _ => t
  | .scanAnchor t => t
  | .passStart t => t
  | .passLatch t => t
  | .tableRenderDone t _ => t
  | .maskTableDeadline t => t
  | .midPassCompare t => t
  | .tokenLatch t => t
  | .readUnderrun t _ _ _ => t
  | .echoDeadline t => t
  | .echoLostTimeout t _ => t
  | .retrainAnchor t => t
  | .retrainTimeout t => t
  | .storeAccess t _ _ => t
  | .bistRegionStart t => t
  | .bistRegionDone t _ _ => t
  | .leaseCheckDone t => t
  | .ceilingLoadDone t => t
  | .ceilingCrcCheck t => t
  | .powerPlausibility t => t
  | .drainTimeout t => t
  | .vbatPowerOn t => t
  | .vbatOff t => t
  | .wakeNLow t => t
  | .hrx0Edge t => t
  | .rtcTick t => t
  | .railsGood t => t
  | .railsTimeout t => t
  | .logicResetRelease t _ => t
  | .storeClearDone t => t
  | .patchCheckDone t _ _ _ _ => t
  | .laneUpTimeout t _ => t
  | .xtalGood t => t
  | .xtalLoss t => t
  | .modeTransitionDone t => t
  | .sleepPmicRelease t => t
  | .sleepComplete t => t
  | .brownout t _ => t
  | .vcoreWindow t _ => t
  | .supplyThreshold t _ _ _ => t
  | .sagInhibitEnd t => t
  | .graceTimerExpiry t _ => t
  | .ensignGraceExpiry t _ => t
  | .heartbeatSend t => t
  | .heartbeat t _ _ _ _ => t
  | .heartbeatWindowClose t => t
  | .ensignStatusSend t => t
  | .ensignStatus t => t
  | .ensignSilent t => t
  | .escalate t => t
  | .request t => t
  | .regaddr t => t
  | .regdata t => t
  | .regresp t => t
  | .timemarkSend t => t
  | .timemark t => t
  | .timehigh t => t
  | .ack t _ _ => t
  | .meas t _ _ => t
  | .event t => t
  | .drops t => t
  | .dieLinkResend t _ => t
  | .oscCheck t _ => t
  | .oscStartTimeout t => t
  | .rtcOscOk t => t
  | .rtcOscStop t => t
  | .darkDemand t => t
  | .darkDemandEnd t => t
  | .housingOpen t => t
  | .housingClosed t => t
  | .serviceEnableArm t => t
  | .serviceEnableDisarm t => t
  | .nearFieldInterruption t _ => t
  | .nearFieldRelease t => t
  | .nfTestPulseTimeout t _ => t
  | .inputDiscrepancy t _ => t
  | .engineOvercurrent t _ => t
  | .switchMonitorFault t _ => t
  | .switchTestDone t _ => t
  | .safetyTestOverrideEnd t => t
  | .marker t _ => t
  | .fstartFill t _ => t
  | .echoMessage t _ _ _ _ => t
  | .substMessage t _ _ _ _ => t
  | .markack t _ _ _ _ => t
  | .trainMessage t _ _ => t
  | .flyTrainingTimeout t _ => t
  | .nvdata t _ _ _ => t
  | .nvend t _ _ _ _ => t
  | .statusMessage t _ _ _ _ => t
  | .prbscnt t _ _ _ => t
  | .ctrlack t _ _ _ _ => t
  | .backchannelDiscard t _ => t
  | .ctrlTimeout t _ _ => t
  | .laneTestEnd t => t
  | .conversionDone t _ _ => t
  | .conversionTimeout t => t
  | .thermalPolicyTick t _ => t
  | .enfGraceExpiry t => t
  | .enfRelax t => t
  | .tjSecond t => t
  | .guidonThermalOverride t => t
  | .marginDecrease t => t
  | .canaryMeasure t _ => t
  | .vreqStep t => t
  | .fircMeasure t _ => t
  | .fuseRowDone t => t
  | .lifeTick t => t
  | .lifeRecordDue t => t
  | .eventQueueExit t => t
  | .bucketRefill t _ => t
  | .jtagUpdateIr t _ => t
  | .tmodeHigh t => t
  | .safetyInputChange t _ _ => t
  | .dieLinkFrameDiscard t _ _ => t
  | .hoistTimeStale t => t
  | .halFwStall t => t
  | .halFwTrap t => t
  | .gdnRomCheck t _ => t
  | .limpBaseLayerPass t => t
  | .prbscntTimeout t => t
  | .pmicRetry t => t
  | .wakeNHigh t => t
  | .kaselPairMismatch t _ => t

/-- The same command at another instant. -/
def Instr.retime (u : Nat) : Instr → Instr
  | .nop _ x1 x2 x3 => .nop u x1 x2 x3
  | .identify _ x1 x2 x3 => .identify u x1 x2 x3
  | .status _ x1 x2 x3 => .status u x1 x2 x3
  | .portStatus _ x1 x2 x3 x4 => .portStatus u x1 x2 x3 x4
  | .regRead _ x1 x2 x3 x4 x5 => .regRead u x1 x2 x3 x4 x5
  | .regWrite _ x1 x2 x3 x4 x5 => .regWrite u x1 x2 x3 x4 x5
  | .regModify _ x1 x2 x3 x4 x5 x6 => .regModify u x1 x2 x3 x4 x5 x6
  | .commit _ x1 x2 x3 x4 => .commit u x1 x2 x3 x4
  | .modeSet _ x1 x2 x3 x4 => .modeSet u x1 x2 x3 x4
  | .timebaseSelect _ x1 x2 x3 x4 => .timebaseSelect u x1 x2 x3 x4
  | .safeRequest _ x1 x2 x3 x4 x5 => .safeRequest u x1 x2 x3 x4 x5
  | .surfaceDefine _ x1 x2 x3 x4 x5 x6 x7 x8 x9 => .surfaceDefine u x1 x2 x3 x4 x5 x6 x7 x8 x9
  | .surfaceDelete _ x1 x2 x3 x4 => .surfaceDelete u x1 x2 x3 x4
  | .leaseTake _ x1 x2 x3 x4 x5 => .leaseTake u x1 x2 x3 x4 x5
  | .leaseRelease _ x1 x2 x3 x4 => .leaseRelease u x1 x2 x3 x4
  | .objlist _ x1 x2 x3 x4 x5 x6 x7 => .objlist u x1 x2 x3 x4 x5 x6 x7
  | .ceilingLoad _ x1 x2 x3 x4 x5 => .ceilingLoad u x1 x2 x3 x4 x5
  | .frameStatus _ x1 x2 x3 => .frameStatus u x1 x2 x3
  | .dtimeRead _ x1 x2 x3 => .dtimeRead u x1 x2 x3
  | .engineInfo _ x1 x2 x3 => .engineInfo u x1 x2 x3
  | .engineNvRead _ x1 x2 x3 x4 x5 x6 => .engineNvRead u x1 x2 x3 x4 x5 x6
  | .engineNvWrite _ x1 x2 x3 x4 x5 x6 => .engineNvWrite u x1 x2 x3 x4 x5 x6
  | .keepaliveWrite _ x1 x2 x3 x4 x5 x6 => .keepaliveWrite u x1 x2 x3 x4 x5 x6
  | .pixelCensus _ x1 x2 x3 x4 => .pixelCensus u x1 x2 x3 x4
  | .lifeRead _ x1 x2 x3 => .lifeRead u x1 x2 x3
  | .thermalMeasure _ x1 x2 x3 x4 => .thermalMeasure u x1 x2 x3 x4
  | .calRun _ x1 x2 x3 x4 x5 => .calRun u x1 x2 x3 x4 x5
  | .calRead _ x1 x2 x3 x4 => .calRead u x1 x2 x3 x4
  | .evtRead _ x1 x2 x3 x4 => .evtRead u x1 x2 x3 x4
  | .faultAck _ x1 x2 x3 x4 x5 => .faultAck u x1 x2 x3 x4 x5
  | .evtReset _ x1 x2 x3 => .evtReset u x1 x2 x3
  | .laneTest _ x1 x2 x3 x4 x5 x6 x7 => .laneTest u x1 x2 x3 x4 x5 x6 x7
  | .safetyTest _ x1 x2 x3 x4 => .safetyTest u x1 x2 x3 x4
  | .reset _ x1 x2 x3 x4 => .reset u x1 x2 x3 x4
  | .put _ x1 x2 => .put u x1 x2
  | .get _ x1 x2 => .get u x1 x2
  | .stat _ x1 => .stat u x1
  | .resync _ x1 x2 => .resync u x1 x2
  | .registerWrite _ x1 x2 x3 => .registerWrite u x1 x2 x3
  | .rcRead _ x1 x2 => .rcRead u x1 x2
  | .framecntlRead _ x1 x2 => .framecntlRead u x1 x2
  | .evtWindowRead _ x1 => .evtWindowRead u x1
  | .rel _ => .rel u
  | .pathctlStart _ x1 => .pathctlStart u x1
  | .pathMeasureDone _ x1 x2 => .pathMeasureDone u x1 x2
  | .crcInjArm _ x1 => .crcInjArm u x1
  | .rtcLoad _ => .rtcLoad u
  | .alarmhWrite _ x1 => .alarmhWrite u x1
  | .refillWrite _ x1 => .refillWrite u x1
  | .pcdivmaxWrite _ x1 => .pcdivmaxWrite u x1
  | .vid _ x1 x2 x3 x4 => .vid u x1 x2 x3 x4
  | .vidStoreEntry _ => .vidStoreEntry u
  | .vidWriteDone _ => .vidWriteDone u
  | .obj _ x1 x2 x3 x4 x5 => .obj u x1 x2 x3 x4 x5
  | .cmd _ x1 x2 => .cmd u x1 x2
  | .time _ x1 x2 x3 => .time u x1 x2 x3
  | .hcredit _ x1 x2 x3 x4 x5 x6 => .hcredit u x1 x2 x3 x4 x5 x6
  | .restartreq _ x1 => .restartreq u x1
  | .fecGroup _ x1 x2 x3 => .fecGroup u x1 x2 x3
  | .creditTimer _ => .creditTimer u
  | .creditAudit _ => .creditAudit u
  | .hoistLinkdown _ x1 => .hoistLinkdown u x1
  | .capabilityRecord _ x1 => .capabilityRecord u x1
  | .hoistTrain _ x1 x2 => .hoistTrain u x1 x2
  | .hoistTrainingTimeout _ => .hoistTrainingTimeout u
  | .flipInstant _ => .flipInstant u
  | .compositionDeadline _ => .compositionDeadline u
  | .tileDone _ x1 => .tileDone u x1
  | .workerHung _ x1 => .workerHung u x1
  | .scanAnchor _ => .scanAnchor u
  | .passStart _ => .passStart u
  | .passLatch _ => .passLatch u
  | .tableRenderDone _ x1 => .tableRenderDone u x1
  | .maskTableDeadline _ => .maskTableDeadline u
  | .midPassCompare _ => .midPassCompare u
  | .tokenLatch _ => .tokenLatch u
  | .readUnderrun _ x1 x2 x3 => .readUnderrun u x1 x2 x3
  | .echoDeadline _ => .echoDeadline u
  | .echoLostTimeout _ x1 => .echoLostTimeout u x1
  | .retrainAnchor _ => .retrainAnchor u
  | .retrainTimeout _ => .retrainTimeout u
  | .storeAccess _ x1 x2 => .storeAccess u x1 x2
  | .bistRegionStart _ => .bistRegionStart u
  | .bistRegionDone _ x1 x2 => .bistRegionDone u x1 x2
  | .leaseCheckDone _ => .leaseCheckDone u
  | .ceilingLoadDone _ => .ceilingLoadDone u
  | .ceilingCrcCheck _ => .ceilingCrcCheck u
  | .powerPlausibility _ => .powerPlausibility u
  | .drainTimeout _ => .drainTimeout u
  | .vbatPowerOn _ => .vbatPowerOn u
  | .vbatOff _ => .vbatOff u
  | .wakeNLow _ => .wakeNLow u
  | .hrx0Edge _ => .hrx0Edge u
  | .rtcTick _ => .rtcTick u
  | .railsGood _ => .railsGood u
  | .railsTimeout _ => .railsTimeout u
  | .logicResetRelease _ x1 => .logicResetRelease u x1
  | .storeClearDone _ => .storeClearDone u
  | .patchCheckDone _ x1 x2 x3 x4 => .patchCheckDone u x1 x2 x3 x4
  | .laneUpTimeout _ x1 => .laneUpTimeout u x1
  | .xtalGood _ => .xtalGood u
  | .xtalLoss _ => .xtalLoss u
  | .modeTransitionDone _ => .modeTransitionDone u
  | .sleepPmicRelease _ => .sleepPmicRelease u
  | .sleepComplete _ => .sleepComplete u
  | .brownout _ x1 => .brownout u x1
  | .vcoreWindow _ x1 => .vcoreWindow u x1
  | .supplyThreshold _ x1 x2 x3 => .supplyThreshold u x1 x2 x3
  | .sagInhibitEnd _ => .sagInhibitEnd u
  | .graceTimerExpiry _ x1 => .graceTimerExpiry u x1
  | .ensignGraceExpiry _ x1 => .ensignGraceExpiry u x1
  | .heartbeatSend _ => .heartbeatSend u
  | .heartbeat _ x1 x2 x3 x4 => .heartbeat u x1 x2 x3 x4
  | .heartbeatWindowClose _ => .heartbeatWindowClose u
  | .ensignStatusSend _ => .ensignStatusSend u
  | .ensignStatus _ => .ensignStatus u
  | .ensignSilent _ => .ensignSilent u
  | .escalate _ => .escalate u
  | .request _ => .request u
  | .regaddr _ => .regaddr u
  | .regdata _ => .regdata u
  | .regresp _ => .regresp u
  | .timemarkSend _ => .timemarkSend u
  | .timemark _ => .timemark u
  | .timehigh _ => .timehigh u
  | .ack _ x1 x2 => .ack u x1 x2
  | .meas _ x1 x2 => .meas u x1 x2
  | .event _ => .event u
  | .drops _ => .drops u
  | .dieLinkResend _ x1 => .dieLinkResend u x1
  | .oscCheck _ x1 => .oscCheck u x1
  | .oscStartTimeout _ => .oscStartTimeout u
  | .rtcOscOk _ => .rtcOscOk u
  | .rtcOscStop _ => .rtcOscStop u
  | .darkDemand _ => .darkDemand u
  | .darkDemandEnd _ => .darkDemandEnd u
  | .housingOpen _ => .housingOpen u
  | .housingClosed _ => .housingClosed u
  | .serviceEnableArm _ => .serviceEnableArm u
  | .serviceEnableDisarm _ => .serviceEnableDisarm u
  | .nearFieldInterruption _ x1 => .nearFieldInterruption u x1
  | .nearFieldRelease _ => .nearFieldRelease u
  | .nfTestPulseTimeout _ x1 => .nfTestPulseTimeout u x1
  | .inputDiscrepancy _ x1 => .inputDiscrepancy u x1
  | .engineOvercurrent _ x1 => .engineOvercurrent u x1
  | .switchMonitorFault _ x1 => .switchMonitorFault u x1
  | .switchTestDone _ x1 => .switchTestDone u x1
  | .safetyTestOverrideEnd _ => .safetyTestOverrideEnd u
  | .marker _ x1 => .marker u x1
  | .fstartFill _ x1 => .fstartFill u x1
  | .echoMessage _ x1 x2 x3 x4 => .echoMessage u x1 x2 x3 x4
  | .substMessage _ x1 x2 x3 x4 => .substMessage u x1 x2 x3 x4
  | .markack _ x1 x2 x3 x4 => .markack u x1 x2 x3 x4
  | .trainMessage _ x1 x2 => .trainMessage u x1 x2
  | .flyTrainingTimeout _ x1 => .flyTrainingTimeout u x1
  | .nvdata _ x1 x2 x3 => .nvdata u x1 x2 x3
  | .nvend _ x1 x2 x3 x4 => .nvend u x1 x2 x3 x4
  | .statusMessage _ x1 x2 x3 x4 => .statusMessage u x1 x2 x3 x4
  | .prbscnt _ x1 x2 x3 => .prbscnt u x1 x2 x3
  | .ctrlack _ x1 x2 x3 x4 => .ctrlack u x1 x2 x3 x4
  | .backchannelDiscard _ x1 => .backchannelDiscard u x1
  | .ctrlTimeout _ x1 x2 => .ctrlTimeout u x1 x2
  | .laneTestEnd _ => .laneTestEnd u
  | .conversionDone _ x1 x2 => .conversionDone u x1 x2
  | .conversionTimeout _ => .conversionTimeout u
  | .thermalPolicyTick _ x1 => .thermalPolicyTick u x1
  | .enfGraceExpiry _ => .enfGraceExpiry u
  | .enfRelax _ => .enfRelax u
  | .tjSecond _ => .tjSecond u
  | .guidonThermalOverride _ => .guidonThermalOverride u
  | .marginDecrease _ => .marginDecrease u
  | .canaryMeasure _ x1 => .canaryMeasure u x1
  | .vreqStep _ => .vreqStep u
  | .fircMeasure _ x1 => .fircMeasure u x1
  | .fuseRowDone _ => .fuseRowDone u
  | .lifeTick _ => .lifeTick u
  | .lifeRecordDue _ => .lifeRecordDue u
  | .eventQueueExit _ => .eventQueueExit u
  | .bucketRefill _ x1 => .bucketRefill u x1
  | .jtagUpdateIr _ x1 => .jtagUpdateIr u x1
  | .tmodeHigh _ => .tmodeHigh u
  | .safetyInputChange _ x1 x2 => .safetyInputChange u x1 x2
  | .dieLinkFrameDiscard _ x1 x2 => .dieLinkFrameDiscard u x1 x2
  | .hoistTimeStale _ => .hoistTimeStale u
  | .halFwStall _ => .halFwStall u
  | .halFwTrap _ => .halFwTrap u
  | .gdnRomCheck _ x1 => .gdnRomCheck u x1
  | .limpBaseLayerPass _ => .limpBaseLayerPass u
  | .prbscntTimeout _ => .prbscntTimeout u
  | .pmicRetry _ => .pmicRetry u
  | .wakeNHigh _ => .wakeNHigh u
  | .kaselPairMismatch _ x1 => .kaselPairMismatch u x1

/-- A command that can occur: LEN of a packet at most 1,024 (R87), an SPI transaction of at least one byte, LEN of a Hoist message 16 bits
(Table 9.6), at most 544 byte errors and 30 block headers in a group (R383, R384), the widths of TRAIN fields (Tables 7.9 and 9.4), a boot
image of at most 256 KiB (R83), 12 bytes in a backchannel message (R320), 7 bytes in NVDATA (Table 7.6), RESID 16 bits (Table 7.6), a level
of 16 bits (Table 15.10), each 64-bit group of a word once; RESYNC stands for a transaction that begins with any byte but those of PUT, GET
and STAT (Table 2.4). -/
def Instr.wf : Instr → Bool
  | .nop _ _ _ _ => true
  | .identify _ _ _ _ => true
  | .status _ _ _ _ => true
  | .portStatus _ _ _ _ _ => true
  | .regRead _ _ _ _ _ _ => true
  | .regWrite _ _ _ _ _ values => decide (values.length ≤ 254)
  | .regModify _ _ _ _ _ _ _ => true
  | .commit _ _ _ _ _ => true
  | .modeSet _ _ _ _ _ => true
  | .timebaseSelect _ _ _ _ _ => true
  | .safeRequest _ _ _ _ _ _ => true
  | .surfaceDefine _ _ _ _ _ _ _ _ _ _ => true
  | .surfaceDelete _ _ _ _ _ => true
  | .leaseTake _ _ _ _ _ _ => true
  | .leaseRelease _ _ _ _ _ => true
  | .objlist _ _ _ _ _ _ _ data => decide (data.length ≤ 1020)
  | .ceilingLoad _ _ _ _ _ _ => true
  | .frameStatus _ _ _ _ => true
  | .dtimeRead _ _ _ _ => true
  | .engineInfo _ _ _ _ => true
  | .engineNvRead _ _ _ _ _ _ _ => true
  | .engineNvWrite _ _ _ _ _ _ data => decide (data.length ≤ 1016)
  | .keepaliveWrite _ _ _ _ _ _ _ => true
  | .pixelCensus _ _ _ _ _ => true
  | .lifeRead _ _ _ _ => true
  | .thermalMeasure _ _ _ _ _ => true
  | .calRun _ _ _ _ _ _ => true
  | .calRead _ _ _ _ _ => true
  | .evtRead _ _ _ _ _ => true
  | .faultAck _ _ _ _ _ _ => true
  | .evtReset _ _ _ _ => true
  | .laneTest _ _ _ _ _ _ _ _ => true
  | .safetyTest _ _ _ _ _ => true
  | .reset _ _ _ _ _ => true
  | .put _ _ bytes => decide (bytes ≠ [])
  | .get _ _ n => decide (n ≠ 0)
  | .stat _ _ => true
  | .resync _ _ bytes => decide (bytes ≠ [] ∧ bytes.head? ≠ some 1 ∧ bytes.head? ≠ some 2 ∧ bytes.head? ≠ some 3)
  | .registerWrite _ _ _ _ => true
  | .rcRead _ _ _ => true
  | .framecntlRead _ _ _ => true
  | .evtWindowRead _ _ => true
  | .rel _ => true
  | .pathctlStart _ _ => true
  | .pathMeasureDone _ _ _ => true
  | .crcInjArm _ _ => true
  | .rtcLoad _ => true
  | .alarmhWrite _ _ => true
  | .refillWrite _ _ => true
  | .pcdivmaxWrite _ _ => true
  | .vid _ _ _ _ data => decide (data.length < 65536)
  | .vidStoreEntry _ => true
  | .vidWriteDone _ => true
  | .obj _ _ _ _ _ data => decide (data.length + 4 < 65536)
  | .cmd _ _ packet => decide (packet.length < 65536)
  | .time _ _ _ _ => true
  | .hcredit _ _ _ _ _ _ _ => true
  | .restartreq _ _ => true
  | .fecGroup _ _ errors heard => decide (errors ≤ 544 ∧ heard.headers.length = 30 ∧ heard.lens.length = 30)
  | .creditTimer _ => true
  | .creditAudit _ => true
  | .hoistLinkdown _ _ => true
  | .capabilityRecord _ _ => true
  | .hoistTrain _ _ m => decide (m.phase < 16 ∧ m.count < 16 ∧ m.pre < 256 ∧ m.main < 256 ∧ m.post < 256)
  | .hoistTrainingTimeout _ => true
  | .flipInstant _ => true
  | .compositionDeadline _ => true
  | .tileDone _ _ => true
  | .workerHung _ _ => true
  | .scanAnchor _ => true
  | .passStart _ => true
  | .passLatch _ => true
  | .tableRenderDone _ _ => true
  | .maskTableDeadline _ => true
  | .midPassCompare _ => true
  | .tokenLatch _ => true
  | .readUnderrun _ _ _ _ => true
  | .echoDeadline _ => true
  | .echoLostTimeout _ _ => true
  | .retrainAnchor _ => true
  | .retrainTimeout _ => true
  | .storeAccess _ _ ecc => decide ((ecc.map (·.1)).Nodup)
  | .bistRegionStart _ => true
  | .bistRegionDone _ _ _ => true
  | .leaseCheckDone _ => true
  | .ceilingLoadDone _ => true
  | .ceilingCrcCheck _ => true
  | .powerPlausibility _ => true
  | .drainTimeout _ => true
  | .vbatPowerOn _ => true
  | .vbatOff _ => true
  | .wakeNLow _ => true
  | .hrx0Edge _ => true
  | .rtcTick _ => true
  | .railsGood _ => true
  | .railsTimeout _ => true
  | .logicResetRelease _ _ => true
  | .storeClearDone _ => true
  | .patchCheckDone _ lead sigs firmware config => decide (lead.length + sigs.length + firmware.length + config.length ≤ 262144)
  | .laneUpTimeout _ _ => true
  | .xtalGood _ => true
  | .xtalLoss _ => true
  | .modeTransitionDone _ => true
  | .sleepPmicRelease _ => true
  | .sleepComplete _ => true
  | .brownout _ _ => true
  | .vcoreWindow _ _ => true
  | .supplyThreshold _ _ _ level => decide (level < 65536)
  | .sagInhibitEnd _ => true
  | .graceTimerExpiry _ _ => true
  | .ensignGraceExpiry _ _ => true
  | .heartbeatSend _ => true
  | .heartbeat _ _ _ _ _ => true
  | .heartbeatWindowClose _ => true
  | .ensignStatusSend _ => true
  | .ensignStatus _ => true
  | .ensignSilent _ => true
  | .escalate _ => true
  | .request _ => true
  | .regaddr _ => true
  | .regdata _ => true
  | .regresp _ => true
  | .timemarkSend _ => true
  | .timemark _ => true
  | .timehigh _ => true
  | .ack _ _ _ => true
  | .meas _ _ _ => true
  | .event _ => true
  | .drops _ => true
  | .dieLinkResend _ _ => true
  | .oscCheck _ _ => true
  | .oscStartTimeout _ => true
  | .rtcOscOk _ => true
  | .rtcOscStop _ => true
  | .darkDemand _ => true
  | .darkDemandEnd _ => true
  | .housingOpen _ => true
  | .housingClosed _ => true
  | .serviceEnableArm _ => true
  | .serviceEnableDisarm _ => true
  | .nearFieldInterruption _ _ => true
  | .nearFieldRelease _ => true
  | .nfTestPulseTimeout _ _ => true
  | .inputDiscrepancy _ _ => true
  | .engineOvercurrent _ _ => true
  | .switchMonitorFault _ _ => true
  | .switchTestDone _ _ => true
  | .safetyTestOverrideEnd _ => true
  | .marker _ _ => true
  | .fstartFill _ _ => true
  | .echoMessage _ _ _ _ _ => true
  | .substMessage _ _ _ _ _ => true
  | .markack _ _ _ residPs _ => decide (-32768 ≤ residPs ∧ residPs ≤ 32767)
  | .trainMessage _ _ m => decide (m.phase < 256)
  | .flyTrainingTimeout _ _ => true
  | .nvdata _ _ _ data => decide (data.length = 7)
  | .nvend _ _ _ _ _ => true
  | .statusMessage _ _ _ _ _ => true
  | .prbscnt _ _ _ _ => true
  | .ctrlack _ _ _ _ _ => true
  | .backchannelDiscard _ frame => decide (frame.bytes.length = 12)
  | .ctrlTimeout _ _ _ => true
  | .laneTestEnd _ => true
  | .conversionDone _ _ _ => true
  | .conversionTimeout _ => true
  | .thermalPolicyTick _ _ => true
  | .enfGraceExpiry _ => true
  | .enfRelax _ => true
  | .tjSecond _ => true
  | .guidonThermalOverride _ => true
  | .marginDecrease _ => true
  | .canaryMeasure _ _ => true
  | .vreqStep _ => true
  | .fircMeasure _ _ => true
  | .fuseRowDone _ => true
  | .lifeTick _ => true
  | .lifeRecordDue _ => true
  | .eventQueueExit _ => true
  | .bucketRefill _ _ => true
  | .jtagUpdateIr _ _ => true
  | .tmodeHigh _ => true
  | .safetyInputChange _ _ _ => true
  | .dieLinkFrameDiscard _ _ _ => true
  | .hoistTimeStale _ => true
  | .halFwStall _ => true
  | .halFwTrap _ => true
  | .gdnRomCheck _ _ => true
  | .limpBaseLayerPass _ => true
  | .prbscntTimeout _ => true
  | .pmicRetry _ => true
  | .wakeNHigh _ => true
  | .kaselPairMismatch _ _ => true

end Sys2Proof
end

