-- ==== Sys2Proof/Safety.lean ====
section
/-! DEFINITION. The terms in which claims speak of a run: the canonical memory, a command packet that starts at once, a state in which
nothing follows of itself, and the balances that the spec keeps. -/

namespace Sys2Proof.Machine

/-- The frame store's list is in its one form: addresses rising, no byte equal to what an unlisted address reads as. -/
def State.memOk (s : State) : Bool := sparseWf 0 s.store.mem

/-- A command packet of this content is accepted and admitted (Table 2.7) and starts at once (R102, R104, R105): its port is open and takes
requests, its parameters fit a packet, a tag is free and this one is not outstanding, no unassigned flag is set, the port and the mode permit
the opcode, nothing waits before it, no completed reply is held back, no register command awaits the HV die, with FENCE no command is outstanding, and no command of its
opcode runs where R105 asks that; and no injection is armed on the check-value unit of the port (R600). -/
def State.Takes (s : State) (p : Port) (tag flags : Byte) (c : Cmd) : Prop :=
  s.portOpen p = true ∧ s.portShut p = false ∧ cmdFits c = true ∧ s.portArmed p = false ∧
    (s.port p).tags.length < 32 ∧ (s.port p).tags.any (fun u => u.tag == tag) = false ∧ flags &&& 0xFE#8 = 0#8 ∧
    opPort (cmdOp c) p = true ∧ cmdModeOk c s.mode.cur = true ∧
    (s.port p).waiting = [] ∧ (s.port p).held = [] ∧ s.dl.regJob = none ∧ (flags.getLsbD 0 = false ∨ (s.port p).tags = []) ∧
    (opImm (cmdOp c) = true ∨ opExempt (cmdOp c) = true ∨ s.running (BitVec.ofNat 8 (cmdOp c)) { port := p, tag := tag } = false)

/-- An accepted command runs: the request sequence and ACCEPT have advanced, its tag is outstanding, and the port's check-value unit
has made its check (R89, R101, R596). -/
def State.started (s : State) (p : Port) (tag : Byte) (op : Nat) : State :=
  (s.setChk (fun c => c.request p)).setPort p { s.port p with
    reqSeq := (s.port p).reqSeq + 1, accept := (s.port p).accept + 1, tags := (s.port p).tags ++ [{ tag := tag, op := BitVec.ofNat 8 op }] }

/-- A timer whose class has a grace of 0 awaits its escalation. -/
def Timer.waits (t : Timer) : Bool := t.due && !t.expired && t.start.isSome

/-- Nothing follows of itself: no escalation is due, no lane is to be furled, no RESET is under way, bring-up has not reached step 6 or is over,
no SLEEP entry, no conversion to start, no command or message waits, and the newest STATUS is true. -/
def State.Calm (s : State) : Prop :=
  (∀ k, k < 7 → (vget s.flt.timers k).waits = false) ∧ s.flt.ensP.waits = false ∧ s.flt.ensI.waits = false ∧
    s.pow.ignoreRtc = false ∧ (∀ n, n < 16 → (vget s.fly n).furlDue = none) ∧ s.mode.restart = none ∧ s.mode.sleep = .none ∧
    (s.mode.step < 6 ∨ (s.mode.step = 11 ∧ s.eng.step7 = .done ∧ s.thm.waveSent = 0xFF ∧ (s.scan.run = true ∨ (s.mode.cur ≠ .limp ∧ s.mode.cur ≠ .ready)) ∧
      (s.hoist.st ≠ .limp ∨ s.hoist.gaveUp = true))) ∧
    (s.thm.conv.isSome = true ∨ (s.thm.pendHost ||| s.thm.pendPol ||| s.thm.pendGdn = 0 ∧ s.cal.run = none)) ∧
    (∀ p, (s.port p).waiting = []) ∧ s.hoist.ingress = [] ∧ (s.ensOn && s.pow.logicOn && s.statusStale) = false

/-- A message of the host link passes the five checks of R395: the link is up, no check injection is armed, HCRC and BCRC are right, it is of
this epoch, it costs no credit beyond its class's, and its CSEQ is the next of its class. RESTARTREQ, class 5, has no CSEQ. -/
def State.HoistGood (s : State) (h : HoistHead) (cls cost : Nat) (cf body : List Byte) : Prop :=
  s.hoistUp = true ∧ s.chk.armed = none ∧ h.hcrc = hcrcOf cls h.epoch.toNat h.cseq.toNat body.length cf ∧ h.epoch = s.hoist.epoch ∧
    (cost = 0 ∨ later 16 ((vget s.hoist.cred cls).cons.toNat + cost) (vget s.hoist.cred cls).adv.toNat = false) ∧
    (cls = 5 ∨ h.cseq = vget s.hoist.inNext cls) ∧ (body = [] ∨ h.bcrc = bcrcOf h.hcrc body)

/-- Such a message is accepted: unit 16 has made one check, or two where there is a body; the epoch is no longer awaited; its credits are
occupied and the next CSEQ is expected. -/
def State.hoistTook (s : State) (cls cost : Nat) (body : List Byte) : State :=
  { s with
    chk := { s.chk with units := vmod s.chk.units 16 (fun u => { u with cnt := u.cnt + (if body.isEmpty then 1 else 2) }) }
    hoist := { s.hoist with
      waitEpoch := false
      cred := if 0 < cost then vmod s.hoist.cred cls (fun c => { c with cons := c.cons + BitVec.ofNat 16 cost, occ := c.occ + cost })
        else s.hoist.cred
      inNext := if cls < 5 then vset s.hoist.inNext cls (vget s.hoist.inNext cls + 1) else s.hoist.inNext } }

end Sys2Proof.Machine
end

