-- ==== Sys2Proof/Certificates/Slice0/Obligations.lean ====
section
/-! DEFINITION. The statements for the provers. In each of them `x = s.advance t` is the state at the row's instant, the state after `.next` is
written with the named updates of the model, and `finish` is what follows at once from it (nothing, where `CalmFinish` applies). -/

open Sys2Proof Sys2Proof.Machine

/-! ### The machine -/

/-- A step takes the command at the front of the queue and runs it with the rest. -/
def Obligations.StepRunsFront : Prop :=
  ∀ (c : Instr) (rest : List Instr) (s : State), s.pending = c :: rest → step s = exec c { s with pending := rest }

/-- With no command waiting a step changes nothing: the model's choice (assumption 12). -/
def Obligations.IdleStep : Prop := ∀ s : State, s.pending = [] → step s = .next s

/-- The frame store's list stays in canonical form over every step, from every state where it is.
The model's choices it rests on: entry 16 of the assumption log. -/
def Obligations.StepKeepsMemory : Prop :=
  ∀ s u : State, s.memOk = true → step s = .next u → u.memOk = true

/-- The recorder's balance: RAISED is COUNT, RLIMIT, FULLDROP, QOVF and the entries that wait, over every step, from every state where it is. -/
def Obligations.RecorderBalanced : Prop :=
  ∀ s u : State, s.evt.balanced = true → step s = .next u → u.evt.balanced = true

/-- Reset: every register word holds its reset value, in force and in shadow; no surface is defined; every lane is FURLED; scan-out does not run;
the recorder is empty; nothing is listed of the store, which is the canonical form; the RTC counts from 0.
The model's choices it rests on: entries 1, 14, 16, 91 of the assumption log. -/
def Obligations.ResetState : Prop :=
  (∀ a : Nat, State.reset.actW a = regReset a ∧ State.reset.shdW a = regReset a) ∧ State.reset.pending = [] ∧
  (∀ n, n < 128 → (State.reset.surf n).st = .undefined) ∧ (∀ n, n < 16 → (vget State.reset.fly n).st = .furled) ∧
  State.reset.scan.run = false ∧ State.reset.evt.store = [] ∧ State.reset.evt.queue = [] ∧ State.reset.flt.active = [] ∧
  State.reset.store.mem = [] ∧ State.reset.memOk = true ∧ State.reset.evt.balanced = true ∧ State.reset.rtc.count = 0 ∧ State.reset.mode.cur = .off

/-- Every command of the table completes, in every state and with every operand, but for STORE_ACCESS with an access that Table 3.2 gives no
requester (there the model stops: entry 25 of the assumption log): it answers a next state, whose queue is the old one and whose instant is the
command's own, never back.
The model's choices it rests on: entries 18, 25 of the assumption log. -/
def Obligations.QueueAndInstant : Prop :=
  ∀ (c : Instr) (s : State), (∀ (t : Nat) (l : List StoreReq) (e : List (Fin 16 × EccResult)), c = .storeAccess t l e → wrongAccess l = false) →
    ∃ u : State, exec c s = .next u ∧ u.pending = s.pending ∧ u.clk.now = max s.clk.now c.instant

/-- Parsing is right on every packet's parameters: what Table 2.9 spells for a command is read back as that command.
The model's choices it rests on: entry 79 of the assumption log. -/
def Obligations.ParseOfParams : Prop := ∀ c : Cmd, cmdFits c = true → parseCmd (cmdOp c) (cmdParams c) = some c

/-- A PUT of one well-formed packet does what the row of its command does.
The model's choices it rests on: entries 24, 84 of the assumption log. -/
def Obligations.PutIsCommand : Prop :=
  ∀ (t : Nat) (p : SpiPort) (tag flags : Byte) (c : Cmd) (s x : State), x = s.advance t →
    x.portOpen (spiPort p) = true → cmdFits c = true →
    exec (.put t p (commandPacket (x.port (spiPort p)).reqSeq tag flags c)) s
      = .next (((x.drive (spiPort p) []).command (spiPort p) tag flags c).finish).finish

/-- A packet that frames is refused at admission by the first condition of Table 2.7 that holds: no free tag, the tag in use, an opcode that is not
assigned, parameters that do not parse, an unassigned flag, a port or a mode that does not permit it.
The model's choices it rests on: entries 24, 76, 84 of the assumption log. -/
def Obligations.AdmissionRefusals : Prop :=
  ∀ (t : Nat) (p : SpiPort) (op tag flags : Byte) (a k : List Byte) (s x z : State) (q : Port), x = s.advance t → q = spiPort p →
    x.portOpen q = true → x.portShut q = false → x.portArmed q = false → a.length ≤ 1024 →
    k = packet 0x5C op tag flags (x.port q).reqSeq a →
    z = (x.drive q []).counted q →
    (32 ≤ (x.port q).tags.length → exec (.put t p k) s =
      .next (((z.raise0 0x04B (portIdx q).val 0).refuse q op tag stTagsExhausted).finish).finish) ∧
    ((x.port q).tags.length < 32 →
      ((x.port q).tags.any (fun u => u.tag == tag) = true → exec (.put t p k) s =
        .next (((z.raise0 0x04B (portIdx q).val 0).refuse q op tag stTagInUse).finish).finish) ∧
      ((x.port q).tags.any (fun u => u.tag == tag) = false →
        (opKnown op.toNat = false → exec (.put t p k) s =
          .next ((z.refuse q op tag stBadOpcode).finish).finish) ∧
        (opKnown op.toNat = true → parseCmd op.toNat a = none → exec (.put t p k) s =
          .next ((z.refuse q op tag stBadLen).finish).finish) ∧
        (∀ c : Cmd, opKnown op.toNat = true → parseCmd op.toNat a = some c →
          (flags &&& 0xFE#8 ≠ 0#8 → exec (.put t p k) s =
            .next ((z.refuse q op tag stBadParam).finish).finish) ∧
          (flags &&& 0xFE#8 = 0#8 → opPort op.toNat q = false → exec (.put t p k) s =
            .next ((z.refuse q op tag stPortDenied).finish).finish) ∧
          (flags &&& 0xFE#8 = 0#8 → opPort op.toNat q = true → cmdModeOk c x.mode.cur = false →
            exec (.put t p k) s =
              .next ((z.refuse q op tag stModeDenied).finish).finish))))

/-- The reply of a command on an SPI port: with room and nothing held it goes to the end of the reply buffer with the next sequence, its tag is
freed and REPLY advances; under RBFULL it is held. The other ports keep their state.
The model's choices it rests on: entry 58 of the assumption log. -/
def Obligations.AnswerPlaces : Prop :=
  ∀ (id : ReqId) (st : Nat) (d : List Byte) (s : State) (q : PortState), id.port ≠ .hcmd → q = s.port id.port → q.held = [] → q.carry = [] →
    (q.rbFull id.port = false → (s.answer id st d).port id.port = { q with
        repSeq := q.repSeq + 1, replied := q.replied + 1, tags := q.tags.filter (fun u => u.tag != id.tag),
        buf := q.buf ++ packet 0xC5 (BitVec.ofNat 8 st) id.tag (s.replyFlags false) q.repSeq d }) ∧
    (q.rbFull id.port = true → (s.answer id st d).port id.port = { q with
        held := [{ tag := id.tag, status := BitVec.ofNat 8 st, data := d, fill := .none, last := false, frees := true }] }) ∧
    (∀ k : Port, k ≠ id.port → (s.answer id st d).port k = s.port k) ∧
    (s.answer id st d).store = s.store ∧ (s.answer id st d).scan = s.scan ∧ (s.answer id st d).fly = s.fly

/-- Serial comparison of two numbers of n bits: with d their difference modulo 2^n, a is later than b exactly for 1 ≤ d < 2^(n-1), and equal to
it exactly for d = 0; from half the range on it is not later. -/
def Obligations.SerialOrder : Prop :=
  ∀ (n : Nat) (a b : BitVec n),
    (later n a.toNat b.toNat = true ↔ 1 ≤ (a - b).toNat ∧ (a - b).toNat < 2 ^ (n - 1)) ∧ (a = b ↔ (a - b).toNat = 0) ∧
    (2 ^ (n - 1) ≤ (a - b).toNat → later n a.toNat b.toNat = false)

/-- Nothing follows of itself in a calm state.
The model's choices it rests on: entry 24 of the assumption log. -/
def Obligations.CalmFinish : Prop := ∀ s : State, s.Calm → s.finish = s

/-! ### Command packets -/

/-- The commands that read the device's state answer OK with the bytes that Table 2.9 lays out; PORT_STATUS of a port that does not exist
answers BAD_PARAM.
The model's choices it rests on: entries 8, 24, 81, 86 of the assumption log. -/
def Obligations.StatusCommands : Prop :=
  ∀ (t : Nat) (p : Port) (tag flags : Byte) (s x : State), x = s.advance t →
    (x.Takes p tag flags .nop → exec (.nop t p tag flags) s = .next ((x.started p tag 0x00).answer ⟨p, tag⟩ stOk []).finish) ∧
    (x.Takes p tag flags .identify →
      exec (.identify t p tag flags) s = .next ((x.started p tag 0x01).answer ⟨p, tag⟩ stOk
        (le 2 0x2048 ++ [Config.rev] ++ le 2 Config.romVer.toNat ++ le 2 x.mode.patchVer.toNat ++ [0] ++ le 8 Config.uid.toNat)).finish) ∧
    (x.Takes p tag flags .status → ∀ y : State, y = x.started p tag 0x02 →
      exec (.status t p tag flags) s = .next (y.answer ⟨p, tag⟩ stOk
        (le 4 (y.readWord p 0x00000).toNat ++ le 4 (y.readWord p 0x00004).toNat ++ le 1 y.actClasses ++ [0] ++
          le 1 (31 - (x.port p).tags.length) ++ [0] ++ le 6 x.scan.framecnt ++ le 2 0)).finish) ∧
    (∀ (k : Byte), x.Takes p tag flags (.portStatus k) → ∀ y : State, y = x.started p tag 0x03 →
      (3 ≤ k.toNat → exec (.portStatus t p tag flags k) s = .next (y.answer ⟨p, tag⟩ stBadParam []).finish) ∧
      (∀ q : Port, (portIdx q).val = k.toNat →
        exec (.portStatus t p tag flags k) s = .next (y.answer ⟨p, tag⟩ stOk
          (le 4 (y.port q).accept.toNat ++ le 4 (y.port q).replied.toNat ++ le 4 (y.port q).discard.toNat ++ le 4 (y.port q).reqSeq.toNat ++
            le 4 (y.port q).repSeq.toNat ++ le 1 (32 - (y.port q).tags.length) ++ le 3 0)).finish)) ∧
    (x.Takes p tag flags .frameStatus → ∀ r : Nat, r = (if x.scan.run then x.fld 0x50000 9 0 else 0) →
      exec (.frameStatus t p tag flags) s = .next ((x.started p tag 0x40).answer ⟨p, tag⟩ stOk
        (le 6 x.scan.framecnt ++ le 2 0 ++ le 8 x.scan.fliptime ++ le 4 x.scan.missed ++ le 2 r ++ le 2 (r / max x.scan.div 1))).finish) ∧
    (x.Takes p tag flags .dtimeRead →
      exec (.dtimeRead t p tag flags) s = .next ((x.started p tag 0x42).answer ⟨p, tag⟩ stOk
        (le 8 x.clk.dtime ++ [if x.clk.tbXtal then 1 else 0] ++ le 3 0)).finish) ∧
    (x.Takes p tag flags .engineInfo → x.eng.engId = true →
      exec (.engineInfo t p tag flags) s = .next ((x.started p tag 0x48).answer ⟨p, tag⟩ stOk (x.eng.burgee0 ++ x.eng.burgee8)).finish) ∧
    (x.Takes p tag flags .lifeRead →
      exec (.lifeRead t p tag flags) s = .next ((x.started p tag 0x4D).answer ⟨p, tag⟩ stOk (x.started p tag 0x4D).lifeData).finish) ∧
    (∀ r : Byte, x.Takes p tag flags (.calRead r) →
      exec (.calRead t p tag flags r) s = .next ((x.started p tag 0x59).answer ⟨p, tag⟩
        (if r.toNat < 32 then stOk else stBadParam) (if r.toNat < 32 then (x.started p tag 0x59).calRecord r.toNat else [])).finish)

/-- Register commands on one word of the logic die that R110 lets them touch: the read's side effect or the write happens, then the reply. A
word outside the map answers BAD_ADDR with its offset.
The model's choices it rests on: entries 24, 59, 79 of the assumption log. -/
def Obligations.RegisterCommands : Prop :=
  ∀ (t : Nat) (p : Port) (tag flags : Byte) (addr : Word) (s x : State), x = s.advance t →
    (x.Takes p tag flags (.regRead addr 1) → ∀ y : State, y = x.started p tag 0x10 →
      (regInfo addr.toNat = none →
        exec (.regRead t p tag flags addr 1) s = .next (y.answer ⟨p, tag⟩ stBadAddr (le 2 0 ++ le 2 0)).finish) ∧
      (regInfo addr.toNat ≠ none → regHv addr.toNat = false → ∀ (z : State) (j : RegJob),
        j = { id := ⟨p, tag⟩, op := 0, todo := [(addr.toNat, 0)], acc := [], mask := 0, value := 0 } →
        z = y.setDl (fun d => { d with regJob := some j }) →
        exec (.regRead t p tag flags addr 1) s = .next
          (((z.readEffect p addr.toNat).setDl (fun d => { d with regJob := none })).answer ⟨p, tag⟩ stOk
            (le 4 (z.readWord p addr.toNat).toNat)).finish)) ∧
    (∀ v : Word, x.Takes p tag flags (.regWrite addr [v]) → ∀ y : State, y = x.started p tag 0x11 →
      y.regCheck p true addr.toNat = none → regHv addr.toNat = false → ∀ (z : State) (j : RegJob),
        j = { id := ⟨p, tag⟩, op := 1, todo := [(addr.toNat, v)], acc := [], mask := 0, value := 0 } →
        z = (y.setDl (fun d => { d with regJob := some j })).writeWord addr.toNat v →
        exec (.regWrite t p tag flags addr [v]) s = .next
          ((z.setDl (fun d => { d with regJob := none })).answer ⟨p, tag⟩ stOk (le 2 0xFFFF ++ le 2 0)).finish) ∧
    (∀ m v : Word, x.Takes p tag flags (.regModify addr m v) → ∀ y : State, y = x.started p tag 0x12 →
      y.regCheck p true addr.toNat = none → regHv addr.toNat = false → ∀ (z : State) (j : RegJob),
        j = { id := ⟨p, tag⟩, op := 2, todo := [(addr.toNat, 0)], acc := [], mask := m, value := v } →
        z = y.setDl (fun d => { d with regJob := some j }) →
        exec (.regModify t p tag flags addr m v) s = .next
          (((((z.readEffectIn p addr.toNat m.toNat).writeWord addr.toNat (modValue addr.toNat (z.readWord p addr.toNat) m v)).setDl
            (fun d => { d with regJob := none }))).answer ⟨p, tag⟩ stOk (le 4 (z.readWord p addr.toNat).toNat)).finish)

/-- SURFACE_DEFINE makes a surface INCOMPLETE with nothing filled, SURFACE_DELETE makes it UNDEFINED; LEASE_TAKE of a COMPLETE surface puts it
in CHECKING without a reply yet; LEASE_RELEASE of a LEASED one while scan-out runs puts it in RELEASING without a reply yet.
The model's choices it rests on: entries 24, 82 of the assumption log. -/
def Obligations.SurfaceCommands : Prop :=
  ∀ (t : Nat) (p : Port) (tag flags : Byte) (n : Byte) (s x : State), x = s.advance t → n.toNat < 128 → x.hoist.cur = none →
    (∀ (f : Byte) (b : Word) (w h : Half) (st : Word), x.Takes p tag flags (.surfaceDefine n f b w h st) → ∀ y : State,
      y = x.started p tag 0x30 → geometryOk f.toNat b.toNat w.toNat h.toNat st.toNat = true →
      y.overlaps n.toNat b.toNat (footWords f.toNat w.toNat h.toNat st.toNat) = false → y.surfInUse n.toNat = false →
      exec (.surfaceDefine t p tag flags n f b w h st) s = .next
        ((y.setSurf n.toNat (fun _ =>
          { st := .incomplete, format := f.toNat, base := b.toNat, width := w.toNat, height := h.toNat, stride := st.toNat, fill := 0,
            req := none, crc := 0, flipN := false })).answer ⟨p, tag⟩ stOk []).finish) ∧
    (x.Takes p tag flags (.surfaceDelete n) → ∀ y : State, y = x.started p tag 0x31 → (y.surf n.toNat).st ≠ .undefined →
      y.surfInUse n.toNat = false →
      exec (.surfaceDelete t p tag flags n) s = .next
        ((y.setSurf n.toNat (fun _ => Surface.reset)).answer ⟨p, tag⟩ stOk []).finish) ∧
    (∀ crc : Word, x.Takes p tag flags (.leaseTake n crc) → ∀ y : State, y = x.started p tag 0x32 → (y.surf n.toNat).st = .complete →
      y.leases + y.store.checkQ.length < 128 → ∀ z : State,
      z = y.setSurf n.toNat (fun u => { u with st := .checking, req := some ⟨p, tag⟩, crc := crc }) →
      exec (.leaseTake t p tag flags n crc) s = .next
        ({ z with store := { z.store with checkQ := z.store.checkQ ++ [Fin.ofNat 128 n.toNat] } } : State).finish) ∧
    (x.Takes p tag flags (.leaseRelease n) → ∀ y : State, y = x.started p tag 0x33 → (y.surf n.toNat).st = .leased →
      y.scan.run = true →
      exec (.leaseRelease t p tag flags n) s = .next
        (y.setSurf n.toNat (fun u => { u with st := .releasing, req := some ⟨p, tag⟩, flipN := false })).finish)

/-- OBJLIST keeps a first fragment that is not the last; CEILING_LOAD copies the 512 rows of a leased 2,048 × 512 GREY8 surface to the ceiling
region, CEILOK being 0 from the copy's start, and replies later.
The model's choices it rests on: entries 24, 96 of the assumption log. -/
def Obligations.ListCommands : Prop :=
  ∀ (t : Nat) (p : Port) (tag flags : Byte) (s x : State), x = s.advance t →
    (∀ (q : Half) (d : List Byte), d.length = 1020 → x.Takes p tag flags (.objlist q 0 0 d) → ∀ (y : State) (i : Fin 3),
      y = x.started p tag 0x34 → i = (if p = .cspi then 0 else 1) →
      exec (.objlist t p tag flags q 0 0 d) s = .next
        (({ y with mask := { y.mask with asm := y.mask.asm.set i (some { seq := q, next := 1, data := d }) } } : State).answer
          ⟨p, tag⟩ stOk []).finish) ∧
    (∀ (n : Byte) (crc : Word), x.Takes p tag flags (.ceilingLoad n crc) → ∀ (y z : State) (u : Surface), y = x.started p tag 0x35 →
      n.toNat < 128 → u = y.surf n.toNat → u.st = .leased → u.format = 1 → u.width = 2048 → u.height = 512 →
      z = (y.readOver 4 (128 * u.base) u.bytes).storePut ceilBase
        ((List.range 512).flatMap (fun r => sparseBytes (y.memSeen 4) (128 * u.base + r * u.stride) 2048)) →
      exec (.ceilingLoad t p tag flags n crc) s = .next
        ({ z with mask := { z.mask with ceilOk := false, ceilLoaded := true, ceilCrc := crc, ceilRun := some ⟨p, tag⟩ } } : State).finish)

/-- EVT_READ returns the entries from CURSOR on and moves it past them; EVT_RESET empties the store; FAULT_ACK of a resolved fault that its
block's latch holds ends the activation and answers OK, and a raise of its source at the same instant follows it; one of a code that is not active,
or that its block's latch does not hold, answers STALE_ACK; one of a fault whose condition is still present NOT_RESOLVED.
The model's choices it rests on: entries 24, 38 of the assumption log. -/
def Obligations.RecorderCommands : Prop :=
  ∀ (t : Nat) (p : Port) (tag flags : Byte) (s x : State), x = s.advance t →
    (∀ n : Byte, x.Takes p tag flags (.evtRead n) → 1 ≤ n.toNat → n.toNat ≤ 63 → ∀ (y : State) (k : Nat), y = x.started p tag 0x60 →
      k = min n.toNat (y.evt.store.length - y.evt.cursor) →
      exec (.evtRead t p tag flags n) s = .next
        (({ y with evt := { y.evt with cursor := y.evt.cursor + k } } : State).answer ⟨p, tag⟩ stOk
          (((y.evt.store.drop y.evt.cursor).take k).flatMap Entry.bytes)).finish) ∧
    (x.Takes p tag flags .evtReset → ∃ u : State,
      exec (.evtReset t p tag flags) s = .next (u.answer ⟨p, tag⟩ stOk []).finish ∧
      u.evt.store = [(x.started p tag 0x62).entry 0x2C2 0 0] ∧ u.evt.cursor = 0 ∧ u.evt.full = false ∧ u.evt.gen = x.evt.gen + 1 ∧
      u.evt.queue = x.evt.queue ∧ u.evt.rlimit = 0 ∧ u.evt.fulldrop = 0 ∧ u.evt.qovf = 0 ∧ u.flt = x.flt) ∧
    (∀ (b : Byte) (code : Half), x.Takes p tag flags (.faultAck b code) → b.toNat ≤ 0x11 → ∀ (y : State),
      y = (x.started p tag 0x61).expireFirst →
      (y.activeOf code.toNat = none → exec (.faultAck t p tag flags b code) s = .next (y.answer ⟨p, tag⟩ stStaleAck []).finish) ∧
      (∀ (a : Active) (l : Latch), y.activeOf code.toNat = some a → l = vget y.flt.latch b.toNat →
        (l.valid = false ∨ srcBlock code.toNat ≠ b.toNat ∨ l.idx ≠ srcIdx code.toNat ∨ a.born = y.clk.now →
          exec (.faultAck t p tag flags b code) s = .next (y.answer ⟨p, tag⟩ stStaleAck []).finish) ∧
        (l.valid = true → srcBlock code.toNat = b.toNat → l.idx = srcIdx code.toNat → a.born ≠ y.clk.now →
          (y.resolved (a.before y.clk.now) = false →
            exec (.faultAck t p tag flags b code) s = .next (y.answer ⟨p, tag⟩ stNotResolved []).finish) ∧
          (y.resolved (a.before y.clk.now) = true → ∀ z : State,
            z = (a.again.filter (fun g => g.at_ == y.clk.now)).foldl (State.raiseAfter a.code a.cls) ((y.ackFault a).ackEntry a) →
            exec (.faultAck t p tag flags b code) s = .next
              (z.answer ⟨p, tag⟩ stOk (le 1 a.cls ++ [if l.ovf then 1 else 0] ++ le 2 0 ++ le 8 y.clk.dtime)).finish))))

/-- ENGINE_NV_READ asks the engine of its lane; ENGINE_NV_WRITE and KEEPALIVE_WRITE queue the pages they change; PIXEL_CENSUS of every segment
asks each mapped lane; LANE_TEST of lanes that are up turns them dark until its end. None of them replies yet.
The model's choices it rests on: entries 24, 32, 74, 97, 105, 121 of the assumption log. -/
def Obligations.EngineCommands : Prop :=
  ∀ (t : Nat) (p : Port) (tag flags : Byte) (s x : State), x = s.advance t →
    (∀ (seg : Byte) (count : Half) (addr : Word), x.Takes p tag flags (.engineNvRead seg count addr) → ∀ y : State, y = x.started p tag 0x49 →
      seg.toNat < 16 → y.mapped seg.toNat = true → 1 ≤ count.toNat → count.toNat ≤ 1024 → addr.toNat + count.toNat ≤ 0x30000 →
      exec (.engineNvRead t p tag flags seg count addr) s = .next
        (({ y with eng := { y.eng with nvRead := some (⟨p, tag⟩, seg.toNat) } } : State).ctrlSend seg.toNat .hostRead addr.toNat
          count.toNat).finish) ∧
    (∀ (seg : Byte) (addr : Word) (d : List Byte), x.Takes p tag flags (.engineNvWrite seg addr d) → ∀ y : State, y = x.started p tag 0x4A →
      seg.toNat < 16 → y.mapped seg.toNat = true → d ≠ [] → d.length ≤ 1012 → addr.toNat + d.length ≤ 0x20000 →
      exec (.engineNvWrite t p tag flags seg addr d) s = .next
        (({ y with eng := { y.eng with jobs := y.eng.jobs ++
          [{ use := .host ⟨p, tag⟩, pages := pagesOf seg.toNat 6 addr.toNat d, loaded := 0 }] } } : State).jobStep seg.toNat).finish) ∧
    (∀ (seg surf : Byte) (crc : Word), x.Takes p tag flags (.keepaliveWrite seg surf crc) → ∀ (y : State) (b : List Byte),
      y = x.started p tag 0x4B → y.injects 20 = false → seg.toNat < 16 → y.mapped seg.toNat = true → surf.toNat < 128 → y.kaSurface (y.surf surf.toNat) = true →
      y.kaUnder (y.surf surf.toNat) seg.toNat = true → b = y.kaPattern (y.surf surf.toNat) seg.toNat → crc32 0x20000#32 b = crc →
      exec (.keepaliveWrite t p tag flags seg surf crc) s = .next
        (((y.checked 20).setEng (fun e => { e with
          kaCheck := some (⟨p, tag⟩, [(seg.toNat, b)])
          jobs := e.jobs ++ [{ use := .keepalive ⟨p, tag⟩, pages := pagesOf seg.toNat 128 0x20000 b, loaded := 0 }] })).jobStep
            seg.toNat).finish) ∧
    (x.Takes p tag flags (.pixelCensus 0xFFFF) → ∀ y : State, y = x.started p tag 0x4C → y.eng.laneMap ≠ 0 →
      exec (.pixelCensus t p tag flags 0xFFFF) s = .next
        (iter (fun n (z : State) => if y.eng.laneMap.getLsbD n then z.ctrlSend n .census 0 0 else z) 16
          { y with eng := { y.eng with census := some (⟨p, tag⟩, 0xFFFF, Vector.replicate 16 (0xFFFF, 0xFFFF), y.eng.laneMap) } }).finish) ∧
    (∀ (mask : Half) (pat inj : Byte) (ms : Half), x.Takes p tag flags (.laneTest mask pat inj ms) → ∀ y : State, y = x.started p tag 0x70 →
      pat.toNat ≤ 2 → 1 ≤ ms.toNat → ms.toNat ≤ 10000 → (∀ n, n < 16 → mask.getLsbD n = true → (vget y.fly n).up = true) →
      ∃ u : State, exec (.laneTest t p tag flags mask pat inj ms) s = .next u.finish ∧ u.ports = y.ports ∧ u.store = y.store ∧
        u.eng = { y.eng with laneTest := some (⟨p, tag⟩, mask, y.clk.dtime + ms.toNat * 1000000, false) } ∧
        ∀ n, n < 16 → (mask.getLsbD n = true → (vget u.fly n).lastShow = .dark ∧ (vget u.fly n).fstartAt = y.clk.dtime) ∧
          (mask.getLsbD n = false → vget u.fly n = vget y.fly n))

/-- THERMAL_MEASURE marks its channels pending and replies when they have converted, at once where it names none; CAL_RUN begins with
CAL_STARTED and replies at its end, and answers BAD_PARAM to an empty mask, an unassigned item or an unassigned BURN.
The model's choices it rests on: entries 24, 46, 90 of the assumption log. -/
def Obligations.MeasureCommands : Prop :=
  ∀ (t : Nat) (p : Port) (tag flags : Byte) (s x : State), x = s.advance t →
    (∀ m : Half, x.Takes p tag flags (.thermalMeasure m) → ∀ y : State, y = x.started p tag 0x50 →
      (m = 0 → exec (.thermalMeasure t p tag flags m) s = .next (y.answer ⟨p, tag⟩ stOk []).finish) ∧
      (m ≠ 0 → m.toNat < 0x4000 → exec (.thermalMeasure t p tag flags m) s = .next
        ((y.setThm (fun h => { h with
          pendHost := h.pendHost ||| BitVec.ofNat 14 m.toNat
          measure := some (⟨p, tag⟩, BitVec.ofNat 14 m.toNat, []) })).convStart).finish) ∧
      (0x4000 ≤ m.toNat → exec (.thermalMeasure t p tag flags m) s = .next (y.answer ⟨p, tag⟩ stBadParam []).finish)) ∧
    (∀ m b : Byte, x.Takes p tag flags (.calRun m b) → ∀ y : State, y = x.started p tag 0x58 →
      (m ≠ 0 → m.toNat < 16 → b.toNat ≤ 1 → exec (.calRun t p tag flags m b) s = .next
        (State.event { y with cal := { y.cal with
          run := some { id := ⟨p, tag⟩, items := BitVec.ofNat 4 m.toNat, burn := decide (b = 1), convs := 0, shorts := 0, results := [],
                        row := none, record := 0, bytes := [], ended := false }
          ending := (y.cal.run.filter (fun r => r.row.isSome)).or y.cal.ending } } 0x340).finish) ∧
      (m = 0 ∨ 16 ≤ m.toNat ∨ 1 < b.toNat →
        exec (.calRun t p tag flags m b) s = .next (y.answer ⟨p, tag⟩ stBadParam []).finish))

/-- MODE_SET: TARGET 1 is always denied and a number that names no mode is a bad parameter; a safe state is entered at once, with cause 9. With no
transition in progress ALREADY is answered in the mode asked for, a permitted transition starts, and another is refused with its status and its
event; a request for the target of a transition in progress joins it, another is queued. SAFE_REQUEST raises its event, enters the safe state,
and takes TARGET 5 and 6 only; TIMEBASE_SELECT needs the crystal good, steps DTIME by at most 10 ns and leaves the timebase at the crystal.
COMMIT: a bit above 7 is a bad parameter; with nothing staged it answers OUTCOME 2, EMPTY, at once; one that names TIMING or LANES from the pass latch of a
flip on waits for that flip; a failed check refuses it; where its checks pass it waits for the boundary while scan-out runs, and applies at once
while it does not.
SAFETY_TEST 1 asks for the switch test, 2 for the heartbeat test, 3 answers a measurement, 4 in SERVICE holds override with the event SAFE_OVERRIDE and
shuts the lanes' pictures, and an unassigned test answers BAD_PARAM. RESET needs its key; it then stops every acceptance and replies where nothing is in
flight, and at the first row 100 µs after its reply, HTX having sent all, the logic die is in reset with nothing in the store.
The model's choices it rests on: entries 24, 42, 54, 65, 72, 80, 82, 101, 118 of the assumption log. -/
def Obligations.ControlCommands : Prop :=
  (∀ (t : Nat) (p : Port) (tag flags : Byte) (s x : State), x = s.advance t →
    (∀ k : Byte, x.Takes p tag flags (.modeSet k) → ∀ (y : State) (r : ModeReq), y = x.started p tag 0x20 → r = { id := ⟨p, tag⟩, viaSafe := false } →
      (k = 1 → exec (.modeSet t p tag flags k) s = .next ((y.modeAnswer stModeDenied 0 y.mode.cur.code r).event 0x00C).finish) ∧
      (k = 0 ∨ 8 ≤ k.toNat → exec (.modeSet t p tag flags k) s = .next (y.modeAnswer stBadParam 0 y.mode.cur.code r).finish) ∧
      (∀ m : Mode, targetMode k.toNat = some m → m.isSafe = true → exec (.modeSet t p tag flags k) s = .next
        (y.enterSafe (decide (k = 6)) { src := 9, cls := 0, code := 0, logic := true } (some r)).finish) ∧
      (∀ m : Mode, targetMode k.toNat = some m → m.isSafe = false →
        (y.mode.trans = none → y.busy = false →
          (y.mode.cur = m → exec (.modeSet t p tag flags k) s = .next (y.modeAnswer stOk 2 m.code r).finish) ∧
          (y.mode.cur ≠ m → y.modeRefusal m = none → exec (.modeSet t p tag flags k) s = .next (y.startTrans m r []).finish) ∧
          (y.mode.cur ≠ m → y.modeRefusal m = some stModeDenied → exec (.modeSet t p tag flags k) s = .next
            (((y.modeAnswer stModeDenied 0 y.mode.cur.code r).event 0x00C).queueTarget).finish) ∧
          (y.mode.cur ≠ m → y.modeRefusal m = some stWakeActive → exec (.modeSet t p tag flags k) s = .next
            (((y.modeAnswer stWakeActive 0 y.mode.cur.code r).event 0x00D).queueTarget).finish)) ∧
        (∀ tr : Trans, y.mode.trans = some tr → tr.target = m → exec (.modeSet t p tag flags k) s = .next
          ({ y with mode := { y.mode with trans := some { tr with merged := tr.merged ++ [r] } } } : State).finish) ∧
        (∀ tr : Trans, y.mode.trans = some tr → tr.target ≠ m → y.mode.queue = none → exec (.modeSet t p tag flags k) s = .next
          (({ y with mode := { y.mode with queue := some { target := m, owner := r, merged := [] } } } : State).queueTarget).finish))) ∧
    (∀ (k : Byte) (r : Half), x.Takes p tag flags (.safeRequest k r) → ∀ y : State, y = x.started p tag 0x24 →
      (k = 5 ∨ k = 6 → exec (.safeRequest t p tag flags k r) s = .next
        ((y.raise0 0x045 0 r.toNat).enterSafe (decide (k = 6))
          { src := if p = .wspi then 8 else 9, cls := 0, code := 0, logic := true } (some { id := ⟨p, tag⟩, viaSafe := true })).finish) ∧
      (k ≠ 5 → k ≠ 6 → exec (.safeRequest t p tag flags k r) s = .next (y.answer ⟨p, tag⟩ stBadParam []).finish)) ∧
    (∀ k : Byte, x.Takes p tag flags (.timebaseSelect k) → ∀ y : State, y = x.started p tag 0x21 →
      (k ≠ 1 → exec (.timebaseSelect t p tag flags k) s = .next (y.answer ⟨p, tag⟩ stBadParam []).finish) ∧
      (k = 1 → y.clk.xtalOk = false → exec (.timebaseSelect t p tag flags k) s = .next (y.answer ⟨p, tag⟩ stXtalNotReady []).finish) ∧
      (k = 1 → y.clk.xtalOk = true → y.clk.tbXtal = true →
        exec (.timebaseSelect t p tag flags k) s = .next (y.answer ⟨p, tag⟩ stOk (le 2 0)).finish) ∧
      (k = 1 → y.clk.xtalOk = true → y.clk.tbXtal = false → ∃ (d : Nat) (u : State), d ≤ 10 ∧ u.clk.dtime = y.clk.dtime + d ∧
        u.clk.tbXtal = true ∧ u.ports = y.ports ∧ u.store = y.store ∧
        exec (.timebaseSelect t p tag flags k) s = .next ((u.event 0x004).answer ⟨p, tag⟩ stOk (le 2 d)).finish)) ∧
    (∀ g : Word, x.Takes p tag flags (.commit g) → ∀ y : State, y = x.started p tag 0x18 →
      (256 ≤ g.toNat → exec (.commit t p tag flags g) s = .next (y.answer ⟨p, tag⟩ stBadParam (commitData 0 0 0xFFFF 0)).finish) ∧
      (g.toNat < 256 → ∀ (e : BitVec 8) (z : State), e = BitVec.ofNat 8 g.toNat &&& y.regs.staged →
        (e = 0 → exec (.commit t p tag flags g) s = .next
          (y.answerFill ⟨p, tag⟩ stOk .frame (commitData 2 0 0xFFFF y.scan.framecnt)).finish) ∧
        (e ≠ 0 → y.scan.run = true → y.scan.flipLatched = true → g.getLsbD grpTiming = true ∨ g.getLsbD grpLanes = true →
          exec (.commit t p tag flags g) s = .next
            ({ y with regs := { y.regs with deferred := y.regs.deferred ++ [(⟨p, tag⟩, g)] } } : State).finish) ∧
        (e ≠ 0 → y.scan.run = false ∨ y.scan.flipLatched = false ∨ g.getLsbD grpTiming = false ∧ g.getLsbD grpLanes = false →
          (∀ c i : Nat, y.checkGroups (BitVec.ofNat 8 g.toNat) (y.viewWord e (y.snapOf e)) = some (c, i) →
            exec (.commit t p tag flags g) s = .next (y.answer ⟨p, tag⟩ stCommitRefused (commitData 0 c i 0)).finish) ∧
          (y.checkGroups (BitVec.ofNat 8 g.toNat) (y.viewWord e (y.snapOf e)) = none →
            z = { y with regs := { y.regs with
              commits := y.regs.commits ++ [{ id := ⟨p, tag⟩, groups := e, snap := y.snapOf e }]
              staged := y.regs.staged &&& ~~~e } } →
            exec (.commit t p tag flags g) s = .next (if y.scan.run then z else z.applyIdle.releaseIdle).finish))))) ∧
  (∀ (t : Nat) (p : Port) (tag flags : Byte) (s x : State), x = s.advance t →
    (∀ k : Byte, x.Takes p tag flags (.safetyTest k) → ∀ y : State, y = x.started p tag 0x78 →
      (k = 1 → exec (.safetyTest t p tag flags k) s = .next (y.startSwTest (.safetyTest ⟨p, tag⟩)).finish) ∧
      (k = 2 → exec (.safetyTest t p tag flags k) s = .next (y.setGdn (fun g => { g with test := some (⟨p, tag⟩, 2) })).finish) ∧
      (k = 3 → ∃ (d : Nat) (u : State), 1 ≤ d ∧ d ≤ 0xFFFF ∧ u.ports = y.ports ∧ u.store = y.store ∧ u.ens = y.ens ∧
        exec (.safetyTest t p tag flags k) s = .next (u.testReply ⟨p, tag⟩ 3 0 d).finish) ∧
      (k = 4 → ∀ z : State, z = (y.setEns (fun e => { e with ovr := true, injectAt := some (⟨p, tag⟩, y.clk.now) })).event 0x18B →
        exec (.safetyTest t p tag flags k) s = .next
          ({ z with fly := z.fly.map (fun l => { l.suspend with kaShown := false }) } : State).finish ∧
        z.ens = { y.ens with ovr := true, injectAt := some (⟨p, tag⟩, y.clk.now) } ∧ z.ports = y.ports ∧ z.store = y.store ∧ z.fly = y.fly) ∧
      (k = 0 ∨ 5 ≤ k.toNat → exec (.safetyTest t p tag flags k) s = .next (y.answer ⟨p, tag⟩ stBadParam []).finish)) ∧
    (∀ k : Half, x.Takes p tag flags (.reset k) → ∀ y : State, y = x.started p tag 0x7F →
      (k ≠ 0xA55A → exec (.reset t p tag flags k) s = .next (y.answer ⟨p, tag⟩ stBadParam []).finish) ∧
      (k = 0xA55A → ∀ (r : Restart) (z : State), r = { id := ⟨p, tag⟩, since := y.clk.dtime, replied := none } →
        z = { y with mode := { y.mode with restart := some r } } →
        exec (.reset t p tag flags k) s = .next z.finish ∧ (∀ q : Port, z.portShut q = true) ∧
        (z.inFlight = false → (∀ i, i < 7 → (vget z.flt.timers i).waits = false) → z.flt.ensP.waits = false → z.flt.ensI.waits = false →
          z.pow.ignoreRtc = false → (∀ n, n < 16 → (vget z.fly n).furlDue = none) →
          z.settle = (((((z.resetReply r).sleepPlaced).bringUp).sleepCheck).convStart).statusChange)))) ∧
  (∀ (t : Nat) (p : SpiPort) (s z u : State) (r : Restart) (t0 : Nat), z = (((((s.tick t).inputsDue).closeDue).htxRun).countdowns).hoistCount →
    z.mode.restart = some r → r.replied = some t0 → t0 + 100000 ≤ z.clk.dtime → z.hoistUp = false ∨ z.hoist.quiet z.clk.dtime = true →
    u = z.restartDue →
    exec (.stat t p) s = .next u.finish ∧ u.mode = { ModeState.reset with cur := .boot, step := 3 } ∧ u.pow.logicOn = false ∧
      u.pow.viaReset = true ∧ u.store = Store.reset ∧ u.fly = Vector.replicate 16 Lane.reset ∧ u.regs.shd = [] ∧ u.regs.staged = 0 ∧
      u.flt.acts = Vector.replicate 8 0)

/-! ### SPI transactions and register accesses -/

/-- GET: with nothing held it answers with the buffer, then with zeros, and leaves the rest of the buffer. In every state the reply bytes that it
answered and those that it leaves are the old buffer, then the first i packets kept over a RESET and the packets of the first j held replies, numbered on
from the reply sequence; the other packets and replies stay as they were: none is dropped, none is repeated.
What follows in `finish` is ordered by the model (entry 24 of the assumption log); no clause of the rule rests on it. -/
def Obligations.GetReturnsBuffer : Prop :=
  ∀ (t n : Nat) (p : SpiPort) (s x : State) (q : Port), x = s.advance t → q = spiPort p → x.portOpen q = true →
    ((x.port q).held = [] → (x.port q).carry = [] → exec (.get t p n) s = .next
      (x.setPort q { x.port q with
        buf := (x.port q).buf.drop n
        miso := (x.port q).buf.take n ++ List.replicate (n - (x.port q).buf.length) 0 }).finish) ∧
    (∃ (u : State) (read : List Byte) (k i j : Nat) (f : Nat → Byte), exec (.get t p n) s = .next u.finish ∧
      (u.port q).miso = read ++ List.replicate k 0 ∧ read.length + k = n ∧ (0 < k → (u.port q).buf = []) ∧
      i ≤ (x.port q).carry.length ∧ j ≤ (x.port q).held.length ∧ (0 < j → i = (x.port q).carry.length) ∧
      (u.port q).carry = (x.port q).carry.drop i ∧ (u.port q).held = (x.port q).held.drop j ∧
      read ++ (u.port q).buf = (x.port q).buf ++ ((x.port q).carry.take i).flatten ++
        (((x.port q).held.take j).zipIdx.map (fun (r, m) =>
          packet 0xC5 r.status r.tag (f m) ((x.port q).repSeq + BitVec.ofNat 32 m) (x.filled r))).flatten)

/-- STAT drives the buffer's fill, the free tags, RBFULL and RESYNCED, the request sequence and DISCARD, and changes nothing else. RESYNC with the
guard byte sets both sequences of its port to zero and RESYNCED, with HAL_RESYNC; another guard byte, or a transaction whose first byte is none of
the four, is a framing failure.
A discarded request counts on its port, to 0xFFFF, with the framing event; no sequence advances.
The model's choices it rests on: entries 24, 84 of the assumption log. -/
def Obligations.StatAndResync : Prop :=
  (∀ (t : Nat) (p : SpiPort) (s x : State) (q : Port) (a : Nat), x = s.advance t → q = spiPort p → x.portOpen q = true →
    a = 0x10000 + 4 * (portIdx q).val →
    (exec (.stat t p) s = .next (x.drive q
      (le 2 (x.port q).buf.length ++ le 1 (32 - (x.port q).tags.length) ++ le 1 (b2n ((x.port q).rbFull q) + 2 * b2n (x.flag a 9)) ++
        le 2 (x.port q).reqSeq.toNat ++ le 2 (x.port q).discard.toNat)).finish) ∧
    (∀ l : List Byte, exec (.resync t p (0x04 :: 0xC3 :: l)) s = .next (((x.setPort q { x.port q with miso := [], reqSeq := 0, repSeq := 0 }).hwSet a
      0x200).raise0 0x042 (portIdx q).val 0).finish) ∧
    (∀ l : List Byte, l.take 2 ≠ [0x04, 0xC3] → exec (.resync t p l) s = .next
      ((x.setPort q { x.port q with miso := [] }).discard q).finish)) ∧
  (∀ (s : State) (p : Port), ((s.discard p).port p).discard = satAdd (s.port p).discard 1 ∧
    ((s.discard p).port p).reqSeq = (s.port p).reqSeq ∧ ((s.discard p).port p).accept = (s.port p).accept ∧
    ((s.discard p).port p).tags = (s.port p).tags ∧ ((s.discard p).port p).buf = (s.port p).buf ∧
    (∀ q : Port, q ≠ p → (s.discard p).port q = s.port q) ∧ (s.discard p).store = s.store ∧
    s.discard p = (s.setPort p { s.port p with discard := satAdd (s.port p).discard 1 }).raise0 0x040 (portIdx p).val 0 ∧
    (s.discard p).evt.raised = s.evt.raised + 1)

/-- A write of a word of class F goes to the shadow and stages its group: no active value changes, and nothing else but that.
The model's choices it rests on: entries 24, 56, 83 of the assumption log. -/
def Obligations.FrameClassWrite : Prop :=
  ∀ (t : Nat) (p : Port) (addr v : Word) (g : Nat) (r : RegInfo) (s x : State), x = s.advance t → x.pow.logicOn = true → p ≠ .wspi →
    regInfo addr.toNat = some r → x.regBusy addr.toNat = false → regInfo (addrPlain addr.toNat) = some r → r.grp = some g →
    ∀ (a : Nat) (w : Word), a = addrPlain addr.toNat → w = BitVec.ofNat 32 (regFix a (v.toNat &&& r.rw) ((x.shdW a).toNat &&& r.rw)) →
      exec (.registerWrite t p addr v) s = .next
        ({ x with regs := { x.regs with
          shd := wordPut x.regs.shd a w, staged := x.regs.staged ||| BitVec.ofNat 8 (2 ^ g) } } : State).finish

/-- The register rows whose effect is more than storing a value, each on a running logic die.
The model's choices it rests on: entries 19, 24, 29, 37, 59, 62, 83 of the assumption log. -/
def Obligations.RegisterRows : Prop :=
  ∀ (t : Nat) (p : Port) (s x : State), x = s.advance t → x.pow.logicOn = true →
    (∀ a : Word, exec (.rcRead t p a) s = .next (x.readEffectIn p a.toNat 0xFFFFFFFF).finish) ∧
    (∀ h : Word, h = BitVec.ofNat 32 (x.scan.framecnt / 2 ^ 32) →
      exec (.framecntlRead t p .framecnt) s = .next (x.setPort p { x.port p with frameHi := h }).finish) ∧
    (∀ h : Word, h = BitVec.ofNat 32 (x.scan.fliptime / 2 ^ 32) →
      exec (.framecntlRead t p .fliptime) s = .next (x.setPort p { x.port p with flipHi := h }).finish) ∧
    (∀ h : Word, h = BitVec.ofNat 32 (x.rtc.count / 2 ^ 32) →
      exec (.framecntlRead t p .rtc) s = .next (x.setPort p { x.port p with rtcHi := h }).finish) ∧
    (∀ h : Word, h = BitVec.ofNat 32 (x.lastTime / 2 ^ 32) →
      exec (.framecntlRead t p .lasttime) s = .next (x.setPort p { x.port p with lastHi := h }).finish) ∧
    (p ≠ .wspi → x.evt.cursor < x.evt.store.length →
      exec (.evtWindowRead t p) s = .next ({ x with evt := { x.evt with cursor := x.evt.cursor + 1 } } : State).finish) ∧
    (p = .wspi ∨ x.evt.store.length ≤ x.evt.cursor → exec (.evtWindowRead t p) s = .next x.finish) ∧
    (x.pow.padHeld = true → exec (.rel t) s = .next
      (State.event { x with pow := { x.pow with padHeld := false } } 0x008).finish) ∧
    (x.mode.cur = .ready → x.mode.trans = none → x.eng.pathBusy = false → ∀ d, 50 ≤ d → ∃ u : State,
      exec (.pathctlStart t d) s = .next u.finish ∧ u.eng = { x.eng with pathBusy := true, pathRefused := false } ∧ u.ports = x.ports ∧
      u.store = x.store ∧ ∀ n, n < 16 →
        ((vget x.fly n).st = .idle → (vget u.fly n).lastShow = .dark ∧ (vget u.fly n).fstartAt = x.clk.dtime) ∧
        ((vget x.fly n).st ≠ .idle → vget u.fly n = vget x.fly n)) ∧
    (x.mode.cur ≠ .ready → ∀ d, exec (.pathctlStart t d) s = .next
      ({ x with eng := { x.eng with
        pathBusy := x.eng.pathBusy && decide (50 ≤ d), pathRefused := true, pathValid := false } } : State).finish) ∧
    (x.mode.cur = .ready → x.eng.pathBusy = true → ∀ uv ma r, 50 ≤ ma → r = uv / ma → r < 65536 → r ≤ x.fld 0x70008 31 16 →
      exec (.pathMeasureDone t uv ma) s = .next
        ({ x with eng := { x.eng with pathBusy := false, pathValid := true, rmeas := r } } : State).finish) ∧
    (x.mode.cur = .ready → x.eng.pathBusy = true → ∀ uv ma r, 50 ≤ ma → r = uv / ma → r < 65536 → x.fld 0x70008 31 16 < r →
      exec (.pathMeasureDone t uv ma) s = .next
        (State.event { x with eng := { x.eng with pathBusy := false, pathValid := true, rmeas := r } } 0x1C8).finish) ∧
    (∀ (k : Fin 21), x.mode.cur = .service → ∃ u : State, exec (.crcInjArm t (BitVec.ofNat 8 k.val)) s = .next u.finish ∧
      u.chk = { x.chk with armed := some k } ∧ u.store = x.store ∧ u.ports = x.ports) ∧
    (x.pending.contains (.rtcTick x.clk.now) = false → x.rtcFirst = x) ∧
    (x.pending.contains (.rtcTick x.clk.now) = true → x.rtcDue = true → x.rtcFirst.rtc.count = (x.rtc.count + 1) % 2 ^ 40) ∧
    (∀ (v : Nat) (y : State), y = x.rtcFirst → v = y.act 0x100005 * 2 ^ 32 + y.act 0x100004 →
      (v < y.rtc.count → exec (.rtcLoad t) s = .next (y.hwSet 0x100007 8).finish) ∧
      (y.rtc.count ≤ v → ∀ (z : State) (crossed : Bool), z = ({ y with rtc := { y.rtc with count := v, since := y.clk.now } } : State) →
        crossed = (z.flag 0x100006 0 && decide (y.rtc.count < y.rtc.alarm.toNat ∧ y.rtc.alarm.toNat ≤ v)) →
        exec (.rtcLoad t) s = .next
          ((if crossed then z.setAlarm else z).raiseHv 0x402 0 ((v - y.rtc.count) % 2 ^ 32)).finish)) ∧
    (∀ (v : Word) (z : State) (met : Bool), z = ({ x.setAct 0x100003 (v &&& 0xFF) with
        rtc := { x.rtc with alarm := BitVec.ofNat 40 ((v &&& 0xFF).toNat * 2 ^ 32 + x.act 0x100002) } } : State) →
      met = (x.flag 0x100006 0 && decide (x.rtc.count = z.rtc.alarm.toNat)) →
      exec (.alarmhWrite t v) s = .next (if met then z.setAlarm else z).finish) ∧
    (∀ v : Byte, ∃ u : State, exec (.refillWrite t v) s = .next u.finish ∧ u.fld 0xB0000 7 0 = max 1 v.toNat ∧
      u.evt = { x.evt with buckets := x.evt.buckets.map (fun b => { b with since := x.clk.dtime }) } ∧ u.ports = x.ports) ∧
    (∀ v : BitVec 2, ∃ u : State, exec (.pcdivmaxWrite t v) s = .next u.finish ∧ u.fld 0x10200 17 16 = min v.toNat 2 ∧
      (x.scan.run = true → x.scan.stopping = false → min v.toNat 2 < x.scan.pcdiv → ∃ w, u.scan.pcdivWant = some w ∧ w ≤ min v.toNat 2))

/-! ### Supplies, wake, bring-up and SLEEP -/

/-- Power comes and goes: the first supply takes the machine from OFF to SLEEP with the RTC at zero (and on, where a wake source is active at
once); without it everything but the fuse bank is at its reset value. The wake pin, the latched HRX edge, and the RTC's second.
The rails' ladder: RAILS_GOOD with PMIC_EN asserted, a first failure released and tried again after 100 ms, the release of the logic die's
reset no sooner than 0.2 ms after the rails are good, with DTIME at the later of the RTC's count and DMARK + 3 ms.
The model's choices it rests on: entries 2, 14, 19, 24, 61, 62, 63, 92, 118 of the assumption log. -/
def Obligations.PowerAndRelease : Prop :=
  (∀ (t : Nat) (s x : State), x = s.advance t →
    (x.pow.vbat = false → ∃ u : State, exec (.vbatPowerOn t) s = .next u.finish ∧ u.pow.vbat = true ∧ u.pow.pmicEn = x.wakeLevel ∧
      u.mode.cur = (if x.wakeLevel then .boot else .sleep) ∧ u.rtc = { Rtc.reset with since := x.clk.now } ∧ u.store = x.store ∧
      u.cal.bank = x.cal.bank) ∧
    (x.pow.vbat = true → exec (.vbatOff t) s = .next
      ({ State.reset with
          pending := x.pending, free := x.free, clk := { Clock.reset with now := x.clk.now }
          pow := { Power.reset with wakeN := x.pow.wakeN }, cal := { Cal.reset with bank := x.cal.bank } } : State).finish) ∧
    exec (.wakeNHigh t) s = .next (x.setPow (fun q => { q with wakeN := true, ignoreWakeN := false })).finish ∧
    (x.mode.cur ≠ .sleep → exec (.wakeNLow t) s = .next (x.setPow (fun q => { q with wakeN := false })).finish) ∧
    (x.pow.vbat = true → x.pow.logicOn = false → x.mode.cur = .sleep → x.mode.sleep = .none → x.flag 0x00002 1 = true → x.pow.ignoreWakeN = false →
      ∃ u : State, exec (.wakeNLow t) s = .next u.finish ∧ u.mode = { ModeState.reset with cur := .boot } ∧ u.pow.pmicEn = true ∧
        u.pow.pmicAt = x.clk.now ∧ u.store = x.store) ∧
    (x.pow.vbat = true → x.flag 0x00002 2 = true → x.mode.cur = .sleep → x.mode.sleep = .released →
      x.clk.now + 91600 < x.pow.pmicAt + 20000000 → exec (.hrx0Edge t) s = .next (x.setPow (fun q => { q with hrxEdge := true })).finish) ∧
    (x.pow.vbat = true → x.rtc.since + 950000000 ≤ x.clk.now → ∀ (z : State) (met : Bool),
      z = ({ x with rtc := { x.rtc with count := (x.rtc.count + 1) % 2 ^ 40, since := x.clk.now } } : State) →
      met = (x.flag 0x100006 0 && decide (z.rtc.count = x.rtc.alarm.toNat)) →
      exec (.rtcTick t) s = .next (if met then z.setAlarm else z).wakeCheck.finish)) ∧
  (∀ (t : Nat) (s x : State), x = s.advance t →
    (x.pow.pmicEn = true → x.pow.logicOn = false → x.mode.cur = .boot →
      exec (.railsGood t) s = .next (x.setPow (fun q => { q with railsGood := true, railsAt := x.clk.now, rails4 := 15 })).finish) ∧
    (x.pow.pmicEn = true → x.pow.railsGood = false → x.pow.logicOn = false → x.mode.cur = .boot →
      (x.pow.pmicAt + 20000000 ≤ x.clk.now → x.pow.retried = false → ∃ u : State, exec (.railsTimeout t) s = .next u.finish ∧
        u.pow = { x.pow with pmicEn := false, pmicAt := x.clk.now, retried := true, retryDue := some (x.clk.now + 100000000) } ∧
        u.mode = x.mode) ∧
      (x.pow.pmicAt + 20000000 ≤ x.clk.now → x.pow.retried = true → ∃ u : State, exec (.railsTimeout t) s = .next u.finish ∧
        u.mode.cur = .sleep ∧ u.mode.sleep = .released ∧ u.pow.pmicEn = false ∧ u.pow.ignoreWakeN = !x.pow.wakeN)) ∧
    (∀ d, x.pow.retryDue = some d → d ≤ x.clk.now →
      exec (.pmicRetry t) s = .next (x.setPow (fun q => { q with pmicEn := true, pmicAt := x.clk.now, retryDue := none })).finish) ∧
    (x.pow.railsGood = true → x.pow.logicOn = false → x.mode.cur = .boot → x.pow.railsAt + 200000 ≤ x.clk.now → x.pow.strapsKept = false →
      ∀ straps : BitVec 4, ∃ u : State, exec (.logicResetRelease t straps) s = .next u.finish ∧ u.pow.logicOn = true ∧ u.pow.straps = straps ∧
        u.clk.dtime = max (x.rtc.count * 1000000000) (x.clk.dmark + 3000000) ∧ u.clk.tbXtal = false ∧ u.cal.inhibit = true ∧
        u.gdn.hbRun = true ∧ u.store = x.store ∧ u.rtc = x.rtc))

/-- Bring-up's own events: the store clear ends at step 4, the patch check ends step 5 (here without a flash: strap 0 at 0) and LIMP is entered at
step 6 with every lane started blind; the crystal's state; a transition with nothing left to wait for completes: its mode is in force and its
MODE_SET is answered OK with OUTCOME 0.
The model's choices it rests on: entries 16, 19, 24, 66, 67, 69, 73, 74, 120 of the assumption log. -/
def Obligations.BringUpRows : Prop :=
  ∀ (t : Nat) (s x : State), x = s.advance t → x.pow.logicOn = true →
    (x.store.clrDone = false → exec (.storeClearDone t) s = .next
      (State.event { x with store := { x.store with clrDone := true }, mode := { x.mode with step := max x.mode.step 4 } } 0x089).finish) ∧
    (x.store.clrDone = true → x.mode.cur = .boot → x.pow.straps.getLsbD 0 = false → x.inputDemand = false → x.ens.safe = none →
      x.mode.bootSafe = none → ∀ a b c d : List Byte, ∃ u : State, exec (.patchCheckDone t a b c d) s = .next u.finish ∧ u.mode.cur = .limp ∧
        u.mode.step = 6 ∧ u.mode.patch = 0 ∧ u.store = x.store ∧
        ∀ n, n < 16 → (vget u.fly n).st = .idle ∧ (vget u.fly n).full = false) ∧
    exec (.xtalGood t) s = .next (State.resolve { x with clk := { x.clk with xtalOk := true } } 0x005 0).finish ∧
    (x.clk.tbXtal = true → exec (.xtalLoss t) s = .next
      (State.event { x with clk := { x.clk with xtalOk := false, tbXtal := false } } 0x005).finish) ∧
    (x.clk.tbXtal = false → exec (.xtalLoss t) s = .next ({ x with clk := { x.clk with xtalOk := false } } : State).finish) ∧
    (∀ (tr : Trans) (r : ModeReq) (y : State), x.mode.trans = some tr → tr.owner = some r → tr.merged = [] → x.mode.queue = none →
      tr.target ≠ .sleep → (tr.target = .beam → x.scan.frontValid = true) →
      (tr.target = .ready → if x.mode.cur.isSafe then x.ens.ovr = false
        else x.scan.run = false ∧ x.scan.settleAt = none ∧ x.scan.retrain = none) →
      y = ({ x with mode := { x.mode with trans := none } } : State).enterMode tr.target →
      exec (.modeTransitionDone t) s = .next (y.modeAnswer stOk 0 y.mode.cur.code r).finish ∧ y.mode.cur = tr.target ∧
        (tr.target = .service → y.mode.trans = none ∧ y.ens.svcMode = true ∧ y.store = x.store))

/-- DRAIN_TIMEOUT: 500 µs after a SLEEP entry began what is in flight is aborted, every command outstanding but the request itself is answered
TRANSFER_ABORTED, and the life record follows; a lane to be furled furls, a RESET places its replies. 2 ms after the SLEEP reply the logic die is
reset and PMIC_EN released, HTX having sent all; 20 ms later SLEEP is complete, the Ensign holds nothing, and a wake source that is pending starts
the bring-up, at which a demand that is still recognised is held again.
The model's choices it rests on: entries 19, 24, 50, 63, 64, 118, 119 of the assumption log. -/
def Obligations.SleepRows : Prop :=
  ∀ (t : Nat) (s x : State), x = s.advance t →
    (∀ tr : Trans, x.mode.sleep = .draining → x.mode.sleepAt + 500000 ≤ x.clk.dtime → x.mode.restart = none →
      (∀ n, n < 16 → (vget x.fly n).furlDue = none) → x.mode.trans = some tr → exec (.drainTimeout t) s = .next
        (((x.abortCur.abortWaiting none).abortAll ((tr.owner.toList ++ tr.merged).map (fun r => r.id))).sleepLife).finish) ∧
    (∀ r : Restart, x.mode.sleep = .none → x.mode.restart = some r → r.replied = none → r.since + 500000 ≤ x.clk.dtime →
      (∀ n, n < 16 → (vget x.fly n).furlDue = none) → exec (.drainTimeout t) s = .next (x.resetReply r).finish) ∧
    (∀ (n : Fin 16) (d : Nat), x.mode.sleep = .none → x.mode.restart = none → (vget x.fly n.val).furlDue = some d → d ≤ x.clk.dtime →
      (∀ m, m < 16 → m ≠ n.val → (vget x.fly m).furlDue = none) → exec (.drainTimeout t) s = .next (x.furlNow n.val).finish) ∧
    (x.mode.sleep = .replied → x.mode.sleepAt + 2000000 ≤ x.clk.dtime → x.hoistUp = false ∨ x.hoist.quiet x.clk.dtime = true → ∃ u : State, exec (.sleepPmicRelease t) s = .next u.finish ∧
      u.mode = { ModeState.reset with cur := .sleep, sleep := .released } ∧ u.pow.logicOn = false ∧ u.pow.pmicEn = false ∧
      u.pow.pmicAt = x.clk.now ∧ u.rtc = x.rtc ∧ u.store = Store.reset ∧ u.regs.act = keepHv x.regs.act) ∧
    (x.mode.cur = .sleep → x.mode.sleep = .released → x.pow.pmicAt + 20000000 ≤ x.clk.now →
      ∀ z : State, z = ({ x with mode := { x.mode with sleep := .none }, ens := x.ens.asleep } : State).pairDisc .nf x.clk.now →
        z.ens.ovr = false ∧ z.ens.gdis = false ∧ z.ens.safe = none ∧ z.ens.hsOn = false ∧ z.ens.lsOn = false ∧ z.ens.hbSeq = none ∧
        (x.wakeBits = 0 → exec (.sleepComplete t) s = .next z.finish) ∧
        (x.wakeBits ≠ 0 → x.pow.vbat = true → x.pow.logicOn = false → ∃ u : State, exec (.sleepComplete t) s = .next u.finish ∧
          u.mode = { ModeState.reset with cur := .boot } ∧ u.pow.pmicEn = true ∧ u.pow.pmicAt = x.clk.now ∧
          u.ens.safe = (if x.ens.darkReq = true ∨ x.ens.hsgOpen = true then some .safeDark else none)))

/-- Supply conditions: a brownout resets the logic die and the Ensign holds SAFE-BEAM, and before the release it is a break of the rails; VCORE out of
its window raises its fault, inside it resolves; each condition of Table 15.4 is entered and left past its own threshold, with its event or fault, its
inhibit and its flag, and changes nothing but the measured value where it already holds or the level is not past the threshold; the sag inhibit ends
1 ms after its conditions are clear.
The model's choices it rests on: entries 19, 24, 75, 140 of the assumption log. -/
def Obligations.SupplyRows : Prop :=
  ∀ (t : Nat) (s x : State), x = s.advance t →
    (∀ r : Rail, x.pow.logicOn = false → exec (.brownout t r) s = .next
      (x.setPow (fun q => { q with railsGood := false, rails4 := q.rails4 &&& ~~~(BitVec.ofNat 4 (2 ^ railBit r)) })).finish) ∧
    (∀ r : Rail, x.pow.logicOn = true → x.ens.safe = none → x.ens.svcMode = false ∨ x.ens.hsgOpen = false → ∃ u : State, exec (.brownout t r) s = .next u.finish ∧ u.pow.logicOn = false ∧
      u.pow.brown = true ∧ u.pow.railsGood = false ∧ u.mode.cur = .boot ∧ u.ens.safe = some .safeBeam ∧ u.ens.ovr = true ∧
      u.ens.hsOn = x.ens.hsOn ∧ u.ens.lsOn = x.ens.lsOn ∧ u.store = Store.reset ∧ u.rtc = x.rtc) ∧
    (∀ (v : Half) (z : State), x.pow.logicOn = true →
      z = ({ x with
        pow := { x.pow with meas1 := BitVec.ofNat 32 (x.pow.meas1.toNat / 65536 * 65536 + v.toNat) }
        fab := { x.fab with vcoreBad := !x.vcoreGood v.toNat } } : State) →
      ((∀ e ∈ x.fab.drivenBy x.clk.dtime, e.2 = x.fab.vcode) →
        (x.vcoreGood v.toNat = true ↔ 6000 + 50 * x.fab.vcode ≤ v.toNat + 600 ∧ v.toNat ≤ 6000 + 50 * x.fab.vcode + 600)) ∧
      (x.vcoreGood v.toNat = false → exec (.vcoreWindow t v) s = .next (z.raiseHv 0x3C7 0 0).finish) ∧
      (x.vcoreGood v.toNat = true → exec (.vcoreWindow t v) s = .next (z.resolveAll 0x3C7).finish)) ∧
    (∀ (v : Nat) (y : State), x.pow.vbat = true → y = x.supplyValue .vbatHigh v →
      (20000 < v → x.pow.vbatHigh = false → exec (.supplyThreshold t .vbatHigh true v) s = .next
        ((y.setPow (fun q => { q with vbatHigh := true })).raiseHv 0x3C9 0 0).finish) ∧
      (v < 19000 → x.pow.vbatHigh = true → exec (.supplyThreshold t .vbatHigh false v) s = .next
        (y.setPow (fun q => { q with vbatHigh := false })).finish) ∧
      (∀ e : Bool, x.pow.vbatHigh = e → exec (.supplyThreshold t .vbatHigh e v) s = .next y.finish)) ∧
    (∀ (v : Nat) (y : State), x.pow.vbat = true → y = x.supplyValue .vbatSag v →
      (v < 9000 → x.pow.vbatSag = false → exec (.supplyThreshold t .vbatSag true v) s = .next
        (((({ y.setPow (fun q => { q with vbatSag := true }) with cal := { y.cal with inhVbat := true } } : State).raiseHv 0x3C3 0 0)).sagChanged).finish) ∧
      (9200 ≤ v → x.pow.vbatSag = true → exec (.supplyThreshold t .vbatSag false v) s = .next
        (({ y.setPow (fun q => { q with vbatSag := false }) with cal := { y.cal with inhVbat := false } } : State).sagChanged).finish) ∧
      (∀ e : Bool, x.pow.vbatSag = e → exec (.supplyThreshold t .vbatSag e v) s = .next y.finish)) ∧
    (∀ (v : Nat) (y : State), x.pow.vbat = true → y = x.supplyValue .vbatCrank v →
      (v < 6000 → x.pow.vbatCrank = false → exec (.supplyThreshold t .vbatCrank true v) s = .next
        ((y.setPow (fun q => { q with vbatCrank := true })).raiseHv 0x3C8 0 0).finish) ∧
      (6500 ≤ v → x.pow.vbatCrank = true → exec (.supplyThreshold t .vbatCrank false v) s = .next
        (y.setPow (fun q => { q with vbatCrank := false })).finish) ∧
      (∀ e : Bool, x.pow.vbatCrank = e → exec (.supplyThreshold t .vbatCrank e v) s = .next y.finish)) ∧
    (∀ (v : Nat) (y : State), x.pow.vbat = true → y = x.supplyValue .vio18Sag v →
      (v < 1710 → x.pow.vioSag = false → exec (.supplyThreshold t .vio18Sag true v) s = .next
        (((({ y.setPow (fun q => { q with vioSag := true }) with cal := { y.cal with inhVio := true } } : State).raiseHv 0x3C4 0 0)).sagChanged).finish) ∧
      (1730 ≤ v → x.pow.vioSag = true → exec (.supplyThreshold t .vio18Sag false v) s = .next
        (({ y.setPow (fun q => { q with vioSag := false }) with cal := { y.cal with inhVio := false } } : State).sagChanged).finish) ∧
      (∀ e : Bool, x.pow.vioSag = e → exec (.supplyThreshold t .vio18Sag e v) s = .next y.finish)) ∧
    (∀ (v : Nat) (y : State), x.pow.vbat = true → y = x.supplyValue .vledUnder v →
      (v < 7500 → x.pow.vledUv = false → exec (.supplyThreshold t .vledUnder true v) s = .next
        ((y.setPow (fun q => { q with vledUv := true, vledUvLeft := none })).raiseHv 0x3C5 0 0).finish) ∧
      (8000 ≤ v → x.pow.vledUv = true → exec (.supplyThreshold t .vledUnder false v) s = .next
        (y.setPow (fun q => { q with vledUv := false, vledUvLeft := some x.clk.now })).finish) ∧
      (∀ e : Bool, x.pow.vledUv = e → exec (.supplyThreshold t .vledUnder e v) s = .next y.finish)) ∧
    (∀ (v : Nat) (y : State), x.pow.vbat = true → y = x.supplyValue .vledOver v →
      (52000 < v → x.pow.vledOv = false → exec (.supplyThreshold t .vledOver true v) s = .next
        ((y.setPow (fun q => { q with vledOv := true })).raiseHv 0x3C6 0 0).finish) ∧
      (v < 50000 → x.pow.vledOv = true → exec (.supplyThreshold t .vledOver false v) s = .next
        ((y.setPow (fun q => { q with vledOv := false })).resolveAll 0x3C6).finish) ∧
      (∀ e : Bool, x.pow.vledOv = e → exec (.supplyThreshold t .vledOver e v) s = .next y.finish)) ∧
    (∀ (c : SupplyCond) (e : Bool) (v : Nat), x.pow.vbat = true → supplyPast c e v = false →
      exec (.supplyThreshold t c e v) s = .next (x.supplyValue c v).finish) ∧
    (∀ c : Nat, x.cal.clearAt = some c → c + 1000000 ≤ x.clk.now → exec (.sagInhibitEnd t) s = .next
      ({ x with cal := { x.cal with inhibit := false, clearAt := none } } : State).finish)

/-! ### Escalation, the channels, the safety inputs and the switches -/

/-- What the Ensign holds in a safe state: override; for SAFE-DARK gate disable with both switches open; SAFE-DARK is not lowered to SAFE-BEAM. A
cause already covered by the safe state in force asserts its lines, an escalation not even those; one in OFF or SLEEP does nothing; before LIMP the
lines are asserted and the state asked for is kept for step 6.
A class timer that has run for its grace escalates, once; one that has not, or has expired already, does nothing.
The model's choices it rests on: entries 24, 55, 65, 85, 95, 103 of the assumption log. -/
def Obligations.SafeAndGrace : Prop :=
  (∀ (s : State) (dark : Bool) (why : SafeWhy),
    (s.hold dark).ens.ovr = true ∧ (s.hold dark).ens.gdis = (s.ens.gdis || dark) ∧ (s.hold dark).ens.hsOn = (s.ens.hsOn && !dark) ∧
    (s.hold dark).ens.lsOn = (s.ens.lsOn && !dark) ∧
    (s.hold dark).ens.safe = (if dark = true ∨ s.ens.safe = some .safeDark then some .safeDark else some .safeBeam) ∧
    (s.hold dark).store = s.store ∧ (s.hold dark).ports = s.ports ∧ (s.hold dark).mode = s.mode ∧
    (s.mode.cur = .off ∨ s.mode.cur = .sleep → s.enterSafe dark why none = s) ∧
    (s.pow.logicOn = true → s.mode.cur = .safeDark → s.mode.trans = none → s.mode.sleep = .none →
      s.enterSafe dark why none = (if why.src = 1 ∨ why.src = 12 then s else s.assertLines dark why)) ∧
    (s.pow.logicOn = true → s.mode.cur = .safeBeam → s.mode.trans = none → s.mode.sleep = .none →
      s.enterSafe false why none = (if why.src = 1 ∨ why.src = 12 then s else s.assertLines false why)) ∧
    (s.pow.logicOn = true → s.mode.cur = .boot → s.mode.bootSafe = none → s.mode.sleep = .none → ∀ u z : State,
      u = s.assertSafe dark why → z = s.enterSafe dark why none →
      u.ens.ovr = true ∧ z = { u with mode := { u.mode with bootSafe := some (if dark then .safeDark else .safeBeam, []) } } ∧ u.mode = s.mode)) ∧
  (∀ (t : Nat) (s x : State), x = s.advance t →
    (∀ (k : Fin 7) (a : Nat), (vget x.flt.timers k.val).start = some a → (vget x.flt.timers k.val).expired = false →
      (x.grace k.val ≤ x.clk.dtime - a → exec (.graceTimerExpiry t k) s = .next (x.escalate k.val).finish) ∧
      (x.clk.dtime - a < x.grace k.val → exec (.graceTimerExpiry t k) s = .next x.finish)) ∧
    (∀ k : Fin 7, (vget x.flt.timers k.val).expired = true → exec (.graceTimerExpiry t k) s = .next x.finish) ∧
    (∀ a : Nat, x.flt.ensP.start = some a → x.flt.ensP.expired = false → x.ensGrace clsP ≤ x.clk.now - a →
      exec (.ensignGraceExpiry t true) s = .next (x.escalateEns true).finish) ∧
    (∀ a : Nat, x.flt.ensI.start = some a → x.flt.ensI.expired = false → x.ensGrace clsI ≤ x.clk.now - a →
      exec (.ensignGraceExpiry t false) s = .next (x.escalateEns false).finish))

/-- Heartbeat and status: Guidon answers its challenge every millisecond; a heartbeat in its window, in sequence, in a whole frame in order and with
the right answer is good, the first one wherever it falls; the marked one of the heartbeat test is only classed; a second bad one in a row, or an empty
window after one, has the Ensign enter SAFE-BEAM; a STATUS with a new challenge every 100 µs, which Guidon takes where its frame is in order; Guidon
enters SAFE-BEAM itself after 1 ms without status.
What a bad and a good heartbeat leave in the Ensign's count, window list and runs.
The model's choices it rests on: entries 4, 19, 24, 39, 40, 89 of the assumption log. -/
def Obligations.HeartbeatRows : Prop :=
  (∀ (t : Nat) (s x : State), x = s.advance t → x.pow.logicOn = true → x.ensOn = true →
    (x.gdn.hbRun = true → x.gdn.test = none → x.gdn.hbAt + 1000000 ≤ x.clk.now → ∃ u : State,
      exec (.heartbeatSend t) s = .next u.finish ∧ u.gdn = { x.gdn with hbSeq := x.gdn.hbSeq + 1, hbAt := x.clk.now } ∧
        u.dl.beatOut = some (x.gdn.hbSeq + 1, Config.answer x.gdn.chal, false) ∧ u.ens = x.ens) ∧
    (∀ (seq a : Byte) (y : State), x.dl.seqDown = x.dl.rxDown →
      y = x.setDl (fun d => { d with beatOut := none, seqDown := d.seqDown + 1, rxDown := d.seqDown + 1 }) → ∀ z : State,
      z = y.setEns (fun e => { e with hbSeq := some seq, winAt := x.clk.now }) →
      (x.ens.hbSeq = none → a = Config.answer x.gdn.chal → exec (.heartbeat t seq a false true) s = .next z.heartGood.finish) ∧
      (∀ k : Byte, x.ens.hbSeq = some k →
        (seq = k + 1 → x.ens.winAt + 750000 ≤ x.clk.now → x.clk.now ≤ x.ens.winAt + 1250000 → a = Config.answer x.gdn.chal →
          exec (.heartbeat t seq a false true) s = .next z.heartGood.finish) ∧
        (x.clk.now < x.ens.winAt + 750000 ∨ x.ens.winAt + 1250000 < x.clk.now ∨ seq ≠ k + 1 ∨ a ≠ Config.answer x.gdn.chal →
          exec (.heartbeat t seq a false true) s = .next z.heartBad.finish)) ∧
      (∀ (id : ReqId) (k d : Nat), x.gdn.test = some (id, k) → d = x.clk.now - x.ens.winAt → exec (.heartbeat t seq a true true) s = .next
        (((y.setEns (fun e => { e with hbSeq := some seq })).setGdn (fun g => { g with test := none })).testReply id k
          (if d < 750000 ∨ 1250000 < d then 0 else 1) (d / 1000)).finish)) ∧
    (∀ (seq a : Byte) (ok : Bool) (z : State), ok = false ∨ x.dl.seqDown ≠ x.dl.rxDown →
      z = ((x.setDl (fun d => { d with beatOut := none, seqDown := d.seqDown + 1, rxDown := d.seqDown + 1 })).discardDown).setEns
        (fun e => { e with hbSeq := some seq, winAt := x.clk.now }) →
      exec (.heartbeat t seq a false ok) s = .next z.heartBad.finish) ∧
    (x.ens.hbSeq.isSome = true → x.ens.winAt + 1250000 ≤ x.clk.now → exec (.heartbeatWindowClose t) s = .next
      (x.setEns (fun e => { e with winAt := e.winAt + 1250000 })).heartBad.finish) ∧
    (x.ens.statusAt + 100000 ≤ x.clk.now → ∃ (c : BitVec 4) (m : StatusMsg) (u : State), exec (.ensignStatusSend t) s = .next u.finish ∧
      m = { x.statusNow false with chal := c } ∧ u.ens = { x.ens with chal := c, statusAt := x.clk.now, told := m } ∧
      u.dl = { x.dl with statusOut := some m } ∧ u.gdn = x.gdn ∧ u.flt = x.flt) ∧
    (∀ m : StatusMsg, m = x.dl.statusOut.getD (x.statusNow false) →
      (x.dl.seqUp = x.dl.rxUp → x.gdn.capSeen = m.inst.getLsbD 5 → ∃ u : State, exec (.ensignStatus t) s = .next u.finish ∧
        u.gdn = { x.gdn with chal := m.chal, ensOk := true, ensAt := x.clk.now, heldSeen := m.held, ensMode := m.mode, swSeen := m.sw } ∧
        u.tok = { x.tok with nf := m.inst.getLsbD 5 } ∧
        u.dl = { x.dl with statusOut := none, seqUp := x.dl.seqUp + 1, rxUp := x.dl.seqUp + 1 } ∧ u.flt = x.flt) ∧
      (x.dl.seqUp ≠ x.dl.rxUp → exec (.ensignStatus t) s = .next
        ((x.setDl (fun d => { d with statusOut := none, seqUp := d.seqUp + 1, rxUp := d.seqUp + 1 })).discardUp).finish)) ∧
    (x.gdn.hbRun = true → x.gdn.ensAt + 1000000 ≤ x.clk.now → exec (.ensignSilent t) s = .next
      (((x.setGdn (fun g => { g with ensOk := false, ensAt := x.clk.now, kasel := true })).event 0x244).enterSafe false
        { src := 11, cls := 0, code := 0x244, logic := true } none).finish)) ∧
  (∀ s : State,
    (s.ens.badRun = 0 → (s.ens.wins.take 15).filter id = [] → ∃ u : State, s.heartBad = u ∧
      u.ens.badCnt = satAdd s.ens.badCnt 1 ∧ u.ens.badRun = 1 ∧ u.ens.goodRun = 0 ∧ u.ens.wins = (true :: s.ens.wins).take 16 ∧
      u.ens.ovr = s.ens.ovr ∧ u.mode = s.mode) ∧
    (1 ≤ s.ens.badRun → s.ens.safe = none → ∃ z : State, z.ens.badRun = s.ens.badRun + 1 ∧ z.mode = s.mode ∧
      s.heartBad = (z.raiseHv 0x28B 0 0).ensEnter false 3 0x28B) ∧
    (s.heartGood.ens.badRun = 0 ∧ s.heartGood.ens.goodRun = min 3 (s.ens.goodRun + 1) ∧ s.heartGood.ens.badCnt = s.ens.badCnt))

/-- The oscillator check, the RTC's oscillator, the plausibility of the engine's power, Guidon's self-test and the KASEL and GOFF pairs.
The model's choices it rests on: entries 19, 23, 24, 36, 41, 122 of the assumption log. -/
def Obligations.ChannelChecks : Prop :=
  ∀ (t : Nat) (s x : State), x = s.advance t → x.pow.logicOn = true → x.ensOn = true →
    (∀ d, d ≤ 50 → x.rtc.oscOk = true → exec (.oscCheck t d) s = .next
      (x.setEns (fun e => { e with oscPassed := true, oscBad := false })).tryClose.finish) ∧
    (∀ d, 50 < d → x.rtc.oscOk = true → x.ens.oscPassed = true → x.ens.oscBad = false → exec (.oscCheck t d) s = .next
      (((x.setEns (fun e => { e with oscBad := true })).raiseHv 0x28C 0 0).ensEnter false 10 0x28C).finish) ∧
    (∀ d, 50 < d → x.rtc.oscOk = true → x.ens.oscPassed = false → exec (.oscCheck t d) s = .next
      (x.setEns (fun e => { e with oscBad := true })).finish) ∧
    (x.rtc.oscOk = false → x.ens.powerOnAt + 1500000000 ≤ x.clk.now → exec (.oscStartTimeout t) s = .next
      ((x.oscFail.setEns (fun e => { e with oscSkip := true })).tryClose).finish) ∧
    (x.rtc.oscOk = false → exec (.rtcOscOk t) s = .next ({ x with rtc := { x.rtc with oscOk := true } } : State).finish) ∧
    (x.rtc.oscOk = true → ∃ z : State, z.rtc = { x.rtc with oscOk := false } ∧ z.flag 0x100007 2 = true ∧ z.ens = x.ens ∧
      exec (.rtcOscStop t) s = .next ((z.raiseHv 0x401 0 0).oscLost).finish) ∧
    (x.mode.cur = .beam → x.gdn.winAt + 4000000 ≤ x.clk.dtime → ∀ (meas exp : Nat) (z : State),
      meas = x.gdn.vled.toNat * x.gdn.imeas.toNat / 1000 →
      exp = (if x.gdn.winTime = 0 then x.gdn.expect else x.gdn.winEnergy / x.gdn.winTime / 1000000000) →
      z = x.setGdn (fun g => { g with
        winAt := g.winAt + 4000000, winEnergy := 0, winTime := 0, expect := exp, measPow := meas }) →
      (x.pow.vledUv = true ∨ (∃ a, x.pow.vledUvLeft = some a ∧ x.clk.now < a + 100000000) →
        exec (.powerPlausibility t) s = .next z.finish) ∧
      (x.pow.vledUv = false → (∀ a, x.pow.vledUvLeft = some a → a + 100000000 ≤ x.clk.now) →
        (3 * exp + 4000 < 2 * meas → exec (.powerPlausibility t) s = .next ((z.raise0 0x241 0 0).resolve 0x242 0).finish) ∧
        (2000 < exp → 2 * meas + 2000 < exp → exec (.powerPlausibility t) s = .next ((z.resolve 0x241 0).raise0 0x242 0 0).finish) ∧
        (2 * meas ≤ 3 * exp + 4000 → exp ≤ 2000 ∨ exp ≤ 2 * meas + 2000 → exec (.powerPlausibility t) s = .next
          ((z.resolve 0x241 0).resolve 0x242 0).finish))) ∧
    (exec (.gdnRomCheck t true) s = .next (x.resolve 0x248 0).finish) ∧
    (exec (.gdnRomCheck t false) s = .next (x.raise0 0x248 0 0).finish) ∧
    (∀ goff : Bool, exec (.kaselPairMismatch t goff) s = .next (x.ensEnter goff 2 0).finish)

/-- The safety inputs: each recognised change is noted with ENS_INPUT, a dark demand enters SAFE-DARK with cause 4, an open housing with cause 5
unless service is armed in SERVICE, where losing the arming enters it; an interruption of the near field sets the cap; arming needs both inputs within
500 ms. A level counts once it has lasted for the filter of its input, and a discrepancy or a missing test pulse raises its fault after its limit.
The model's choices it rests on: entries 19, 24, 122 of the assumption log. -/
def Obligations.InputRows : Prop :=
  ∀ (t : Nat) (s x : State), x = s.advance t → x.ensOn = true →
    (x.ens.filt.getLsbD 0 = true → x.ens.filt.getLsbD 1 = false → exec (.darkDemand t) s = .next
      (((x.setEns (fun e => { e with darkReq := true })).raiseHv 0x28D 0 0).ensEnter true 4 0x28D).finish) ∧
    (x.ens.darkReq = true → x.ens.filt.getLsbD 0 = false → x.ens.filt.getLsbD 1 = true → exec (.darkDemandEnd t) s = .next
      (((x.setEns (fun e => { e with darkReq := false })).raiseHv 0x28D 0 0).tryClose).finish) ∧
    (x.ens.hsgOpen = false → x.ens.filt.getLsbD 2 = true ∨ x.ens.filt.getLsbD 3 = true →
      (x.ens.svcMode = false ∨ x.ens.svcArm = false → exec (.housingOpen t) s = .next
        (((x.setEns (fun e => { e with hsgOpen := true })).raiseHv 0x28D 0 0).ensEnter true 5 0x28D).finish) ∧
      (x.ens.svcMode = true → x.ens.svcArm = true → exec (.housingOpen t) s = .next
        ((x.setEns (fun e => { e with hsgOpen := true })).raiseHv 0x28D 0 0).finish)) ∧
    (x.ens.hsgOpen = true → x.ens.filt.getLsbD 2 = false → x.ens.filt.getLsbD 3 = false → exec (.housingClosed t) s = .next
      (((x.setEns (fun e => { e with hsgOpen := false })).raiseHv 0x28D 0 0).tryClose).finish) ∧
    (∀ a : Nat, x.ens.filt.getLsbD 4 = true → x.ens.filt.getLsbD 5 = true → x.ens.svcArm = false → x.ens.svcLock = false →
      x.ens.svcFirst = some a →
      (max (vget x.ens.rawAt 4) (vget x.ens.rawAt 5) ≤ a + 500000000 → exec (.serviceEnableArm t) s = .next
        ((x.setEns (fun e => { e with svcArm := true, svcFirst := none })).raiseHv 0x28D 0 0).finish) ∧
      (a + 500000000 < max (vget x.ens.rawAt 4) (vget x.ens.rawAt 5) → exec (.serviceEnableArm t) s = .next
        ((x.setEns (fun e => { e with svcLock := true, svcFirst := none })).raiseHv 0x28F 0 0).finish)) ∧
    (∀ z : State, x.ens.svcArm = true → x.ens.filt.getLsbD 4 = false ∨ x.ens.filt.getLsbD 5 = false →
      z = (x.setEns (fun e => { e with svcArm := false })).raiseHv 0x28D 0 0 →
      (x.ens.hsgOpen = false ∨ x.ens.svcMode = false → exec (.serviceEnableDisarm t) s = .next z.finish) ∧
      (x.ens.hsgOpen = true → x.ens.svcMode = true → exec (.serviceEnableDisarm t) s = .next (z.ensEnter true 5 0x28D).finish)) ∧
    (∀ (c : Channel) (k : Nat), k = (if c = .a then 6 else 7) → x.ens.nfInt = false → x.ens.raw.getLsbD k = false →
      vget x.ens.rawAt k + 600000 ≤ x.clk.now → exec (.nearFieldInterruption t c) s = .next
        ((x.setEns (fun e => { e with nfInt := true })).raiseHv 0x28D 0 0).finish) ∧
    (x.ens.nfInt = true → (∀ k, k = 6 ∨ k = 7 → x.ens.raw.getLsbD k = true ∧ vget x.ens.rawAt k + x.fld 0xA0000 23 16 * 1000000 ≤ x.clk.now) →
      exec (.nearFieldRelease t) s = .next ((x.setEns (fun e => { e with nfInt := false })).raiseHv 0x28D 0 0).finish) ∧
    (x.ens.running = true → x.flag 0xA0000 0 = true → x.ens.discNf = none →
      (∀ a, a = x.ens.pulseA + x.fld 0xA0000 15 8 * 1000000 → a ≤ x.clk.now → exec (.nfTestPulseTimeout t .a) s = .next
        (x.setEns (fun e => { e with noPulseA := true, discNf := some a })).finish) ∧
      (∀ a, a = x.ens.pulseB + x.fld 0xA0000 15 8 * 1000000 → a ≤ x.clk.now → exec (.nfTestPulseTimeout t .b) s = .next
        (x.setEns (fun e => { e with noPulseB := true, discNf := some a })).finish)) ∧
    (∀ (level : Nat → Bool), (∀ k, level k = (x.ens.seen x.clk.now k).1) →
      (∀ a : Nat, x.ens.discDark = some a → a + 50000000 ≤ x.clk.now → level 0 = level 1 →
        exec (.inputDiscrepancy t .dark) s = .next (x.raiseHv 0x287 0 0).finish) ∧
      (∀ a : Nat, x.ens.discHsg = some a → a + 500000000 ≤ x.clk.now → level 2 ≠ level 3 →
        exec (.inputDiscrepancy t .hsg) s = .next (x.raiseHv 0x288 0 0).finish) ∧
      (∀ a : Nat, x.ens.discNf = some a → a + 100000000 ≤ x.clk.now → level 6 ≠ level 7 ∨ x.pulseGone = true →
        exec (.inputDiscrepancy t .nf) s = .next (x.raiseHv 0x289 0 0).finish)) ∧
    (∀ (i : SafetyInput) (k : Nat), k = inputBit i → x.pow.vbat = true → x.ens.raw.getLsbD k = true → exec (.safetyInputChange t i false) s = .next
      (x.setEns (fun e => { e with
        raw := e.raw &&& ~~~(BitVec.ofNat 8 (2 ^ k)), rawPrev := vset e.rawPrev k (vget e.rawAt k), rawAt := vset e.rawAt k x.clk.now })).finish) ∧
    (∀ d : Nat, x.pow.vbat = true → x.ens.raw.getLsbD 2 = false → d = x.clk.now - vget x.ens.rawAt 2 →
      exec (.safetyInputChange t .hsgA true) s = .next (x.setEns (fun e => { e with
        raw := e.raw ||| 4#8, rawAt := vset e.rawAt 2 (if d < 50000 then vget e.rawPrev 2 else x.clk.now) })).finish) ∧
    (∀ (k : Nat) (b : Bool) (a : Nat), k < 8 → (b, a) = x.ens.seen x.clk.now k → b ≠ x.ens.filt.getLsbD k →
      (a + inputFilter k ≤ x.clk.now → (x.inputDue k).ens.filt.getLsbD k = b) ∧ (x.clk.now < a + inputFilter k → x.inputDue k = x))

/-- The engine-supply switches: an overcurrent opens both, trips, and enters SAFE-DARK with cause 6; the monitors raise their faults; the latent-
fault test reports what Table 10.6 makes of its currents, and closed switches are not tested while a page is being programmed; the override test
of SAFETY_TEST 4 ends after 8 ms: RESULT 0 where every mapped lane shows keep-alive by itself, DETAIL the lanes that do; then override ends and the lanes start
blind, unless a safe state holds it.
The model's choices it rests on: entries 19, 24, 38, 42, 70, 122 of the assumption log. -/
def Obligations.SwitchRows : Prop :=
  ∀ (t : Nat) (s x : State), x = s.advance t → x.ensOn = true →
    (∀ (fast : Bool) (code : Nat), code = (if fast then 0x280 else 0x281) → exec (.engineOvercurrent t fast) s = .next
      (((x.setEns (fun e => { e.opened with ocTrip := true })).raiseHv code 0 0).ensEnter true 6 code).finish) ∧
    (x.ens.hsOn = true ∨ x.ens.lsOn = true ∨ x.pow.vbatCrank = false →
      exec (.switchMonitorFault t .gate) s = .next (x.raiseHv 0x282 0 0).finish) ∧
    (x.ens.hsOn = false → x.ens.lsOn = false → x.pow.vbatCrank = true → x.pow.meas0.toNat % 65536 < 4500 →
      exec (.switchMonitorFault t .gate) s = .next x.finish) ∧
    (x.ens.hsOn = true ∨ x.ens.lsOn = true → exec (.switchMonitorFault t .vds) s = .next (x.raiseHv 0x283 0 0).finish) ∧
    (x.ens.hsOn = false → x.ens.lsOn = false → exec (.switchMonitorFault t .leak) s = .next (x.raiseHv 0x284 0 0).finish) ∧
    (exec (.switchMonitorFault t .imis) s = .next (x.raiseHv 0x285 0 0).finish) ∧
    (∀ (m : SwitchMeas) (a : Nat) (z : State) (next : Option (SwUse × Nat)), next = x.ens.swNext.map (fun u => (u, x.clk.now)) →
      ((x.ens.hsOn || x.ens.lsOn) && x.progOut) = false →
      (x.ens.swTest = some (.beamEntry, a) → x.testResult m = 0 →
        z = (x.setEns (fun e => { e with swTest := next, testBad := x.testIns, swNext := none, testRes := 0, testCnt := satAdd e.testCnt 1 })).resolve 0x286 0 →
        exec (.switchTestDone t m) s = .next ({ z with mode := { z.mode with tested := true } } : State).finish) ∧
      (∀ id : ReqId, x.ens.swTest = some (.safetyTest id, a) → x.testResult m = 1 → exec (.switchTestDone t m) s = .next
        ((((x.setEns (fun e => { e with swTest := next, testBad := x.testIns, swNext := none, testRes := 1, testCnt := satAdd e.testCnt 1 })).setEns
          Ensign.opened).raiseHv 0x286 0 1).testReply id 1 1 (m.highMa % 65536 + 65536 * (m.lowMa % 65536))).finish)) ∧
    (∀ (m : SwitchMeas), x.ens.hsOn = true → x.progOut = true → exec (.switchTestDone t m) s = .next x.finish) ∧
    (∀ (id : ReqId) (a n : Nat), x.ens.injectAt = some (id, a) → a + 8000000 ≤ x.clk.now →
      n = (if (List.range 16).all (fun n => !x.mapped n || (vget x.fly n).kaShown) then 0 else 1) →
      (x.ens.safe = none → ∀ z : State, z = (x.setEns (fun e => { e with injectAt := none, ovr := false })).testReply id 4 n
          (bitsOf (fun n => (vget x.fly n).kaShown) 16) →
        exec (.safetyTestOverrideEnd t) s = .next z.lanesRestart.finish ∧ z.lanesRestart.ens.ovr = false ∧
        ∀ n, n < 16 → x.laneEn n = true ∨ (vget x.fly n).st ≠ .furled → (vget z.lanesRestart.fly n).st = .idle ∧
          (vget z.lanesRestart.fly n).full = false ∧ (vget z.lanesRestart.fly n).up = false ∧
          (vget z.lanesRestart.fly n).startedAt = x.clk.dtime ∧ (vget z.lanesRestart.fly n).attempt = 0) ∧
      (x.ens.safe ≠ none → exec (.safetyTestOverrideEnd t) s = .next
        ((x.setEns (fun e => { e with injectAt := none, ovr := true })).testReply id 4 n
          (bitsOf (fun n => (vget x.fly n).kaShown) 16)).finish))

/-! ### The die link, the test port and Halyard -/

/-- A reliable message acts once, however often it comes: with the TAG last accepted it only counts as received; a new one has the Ensign do what
the message says; a frame whose SEQ does not follow the last received is discarded.
Register access over the die link: REGADDR of a word of the HV die returns its value, of any other word 0 with DOWNERR counted; a write waits
for REGDATA, which writes it and answers 0; REGRESP brings a REG_READ its next word.
The model's choices it rests on: entries 17, 24, 80 of the assumption log. -/
def Obligations.ReliableOnce : Prop :=
  (∀ (t : Nat) (s x r : State), x = s.advance t → r = x.passDown → x.dl.seqDown ≠ x.dl.rxDown →
    (∀ o : Out Escal, x.dl.escOut = some o → exec (.escalate t) s = .next r.discardDown.finish) ∧
    (∀ o : Out (Nat × Nat), x.dl.reqOut = some o → exec (.request t) s = .next r.discardDown.finish) ∧
    (∀ o : Out Nat, x.dl.highOut = some o → exec (.timehigh t) s = .next r.discardDown.finish) ∧
    (∀ o : Out RegAcc, x.dl.regOut = some o → exec (.regaddr t) s = .next r.discardDown.finish) ∧
    (∀ q : RegAcc, x.dl.regWait = some q → exec (.regdata t) s = .next r.discardDown.finish)) ∧
  (∀ (t : Nat) (s x r : State), x = s.advance t → r = x.passDown → x.dl.seqDown = x.dl.rxDown →
    r.dl = { x.dl with seqDown := x.dl.seqDown + 1, rxDown := x.dl.seqDown + 1 } ∧
    (∀ o : Out Escal, x.dl.escOut = some o →
      (x.dl.escTag = some o.tag → exec (.escalate t) s = .next r.finish) ∧
      (x.dl.escTag ≠ some o.tag → exec (.escalate t) s = .next ((r.setDl (fun d => { d with escTag := some o.tag })).hold o.body.dark).finish)) ∧
    (∀ o : Out (Nat × Nat), x.dl.reqOut = some o →
      (x.dl.reqTag = some o.tag → exec (.request t) s = .next r.finish) ∧
      (x.dl.reqTag ≠ some o.tag → o.body.1 = 3 → x.ensHeld = true → x.mode.cur.isSafe = true →
        (∃ tr : Trans, x.mode.trans = some tr ∧ tr.target = .ready) → exec (.request t) s = .next
        ((r.setDl (fun d => { d with reqTag := some o.tag })).transFail stModeDenied).finish) ∧
      (x.dl.reqTag ≠ some o.tag → o.body.1 = 1 → exec (.request t) s = .next
        ((r.setDl (fun d => { d with reqTag := some o.tag })).ensEnter false 2 0).finish) ∧
      (x.dl.reqTag ≠ some o.tag → o.body.1 = 5 → exec (.request t) s = .next
        ((r.setDl (fun d => { d with reqTag := some o.tag })).setEns (fun e => { e with running := false })).finish)) ∧
    (∀ o : Out Nat, x.dl.highOut = some o → x.dl.highTag ≠ some o.tag → ∃ u : State, exec (.timehigh t) s = .next u.finish ∧
      u.clk = { x.clk with timeHigh := o.body } ∧ u.dl = { r.dl with highTag := some o.tag })) ∧
  (∀ (t : Nat) (s x r : State), x = s.advance t → r = x.passDown → x.dl.seqDown = x.dl.rxDown →
    (∀ (o : Out RegAcc) (a : Nat), x.dl.regOut = some o → x.dl.regTag ≠ some o.tag → a = o.body.block * 65536 + o.body.offset →
      (regHv a = false → exec (.regaddr t) s = .next
        (r.setDl (fun d => { d with regTag := some o.tag, resp := some 0, lastResp := 0, downErr := satAdd d.downErr 1 })).finish) ∧
      (∀ v : Word, regHv a = true → o.body.write = some v → exec (.regaddr t) s = .next
        (r.setDl (fun d => { d with regTag := some o.tag, regWait := some o.body })).finish) ∧
      (∀ (j : RegJob) (z : State), regHv a = true → o.body.write = none → x.dl.regJob = some j → j.op = 0 →
        z = r.setDl (fun d => { d with regTag := some o.tag }) → exec (.regaddr t) s = .next
          ((z.readEffectIn j.id.port a 0xFFFFFFFF).setDl (fun d => { d with
            resp := some (z.readWord j.id.port a), lastResp := z.readWord j.id.port a })).finish)) ∧
    (∀ (q : RegAcc) (v : Word), x.dl.regWait = some q → q.write = some v → exec (.regdata t) s = .next
      ((r.setDl (fun d => { d with regWait := none, resp := some 0, lastResp := 0 })).writeWord (q.block * 65536 + q.offset) v).finish)) ∧
  (∀ (t : Nat) (s x : State) (v : Word) (o : Out RegAcc) (j : RegJob) (a : Nat) (w : Word), x = s.advance t →
    x.dl.statusOut.any (fun m => m.urgent) = false → x.dl.resp = some v → x.dl.regOut = some o → x.dl.regJob = some j → j.op = 0 → j.todo = [(a, w)] →
    (x.dl.seqUp = x.dl.rxUp → exec (.regresp t) s = .next
      ((x.setDl (fun d => { d with
          seqUp := d.seqUp + 1, rxUp := d.seqUp + 1, resp := none, regOut := none, regJob := none })).answer j.id stOk
        ((j.acc ++ [v]).flatMap (fun k => le 4 k.toNat))).finish) ∧
    (x.dl.seqUp ≠ x.dl.rxUp → exec (.regresp t) s = .next
      ((x.setDl (fun d => { d with seqUp := d.seqUp + 1, rxUp := d.seqUp + 1, resp := none })).discardUp).finish))

/-- The time messages: no TIMEMARK while a TIMEHIGH is unacknowledged, a TIMEHIGH first where the high bits have changed; the HV die's DMARK
follows the newest pair and is never lowered.
EVENT brings the logic die an event of the HV die: of the ENS block with HV set and its fault counted from then on, of another block as a
raise of its own; MEAS brings the engine's current and VLED to both dies; DROPS adds its count to RAISED and QOVF. A STATUS that reports a change is
taken ahead of a frame behind it.
The model's choices it rests on: entries 24, 61, 71, 80 of the assumption log. -/
def Obligations.DieLinkTraffic : Prop :=
  (∀ (t : Nat) (s x : State), x = s.advance t →
    (x.pow.logicOn = true → x.dl.highOut.isSome = true → exec (.timemarkSend t) s = .next x.finish) ∧
    (x.pow.logicOn = true → x.dl.highOut = none → x.clk.highSent = some (x.clk.dtime / 2 ^ 52) → ∃ u : State,
      exec (.timemarkSend t) s = .next u.finish ∧ u.clk.markWord = some (BitVec.ofNat 32 (x.clk.dtime / 2 ^ 20)) ∧
        u.clk.markAt = x.clk.dtime ∧ u.dl = x.dl) ∧
    (x.pow.logicOn = true → x.dl.highOut = none → x.clk.highSent ≠ some (x.clk.dtime / 2 ^ 52) → ∃ u : State,
      exec (.timemarkSend t) s = .next u.finish ∧
        u.dl.highOut = some { body := x.clk.dtime / 2 ^ 52, tag := x.dl.highNext, resends := 0, sentAt := x.clk.now } ∧
        u.dl.highNext = x.dl.highNext + 1 ∧ u.clk = x.clk) ∧
    (∀ w : Word, x.clk.markWord = some w → x.dl.seqDown = x.dl.rxDown → ∃ u : State, exec (.timemark t) s = .next u.finish ∧ u.clk.markWord = none ∧
      u.clk.dmark = max x.clk.dmark (x.clk.timeHigh * 2 ^ 52 + w.toNat * 2 ^ 20) ∧ x.clk.dmark ≤ u.clk.dmark) ∧
    (∀ w : Word, x.clk.markWord = some w → x.dl.seqDown ≠ x.dl.rxDown → exec (.timemark t) s = .next
      ((({ x with clk := { x.clk with markWord := none } } : State).passDown).discardDown).finish)) ∧
  (∀ (t : Nat) (s x r : State), x = s.advance t → r = x.passUp → x.pow.logicOn = true → x.dl.statusOut.any (fun m => m.urgent) = false →
    x.dl.seqUp = x.dl.rxUp → r.dl = { x.dl with seqUp := x.dl.seqUp + 1, rxUp := x.dl.seqUp + 1 } ∧
    (∀ (o : Out HvEvent) (z : State) (e : Entry), x.dl.evOut = some o → x.dl.evTag ≠ some o.tag →
      z = r.setDl (fun d => { d with evTag := some o.tag }) →
      e = { z.entry o.body.code o.body.inst o.body.data with hv := true } →
      (isEns o.body.code = true → o.body.act = false → exec (.event t) s = .next
        (z.enqueue { e with act := false, esc := o.body.esc }).finish) ∧
      (∀ a : Active, isEns o.body.code = true → o.body.act = true → z.activeOf o.body.code = some a → exec (.event t) s = .next
        ((((({ z with flt := { z.flt with
            active := z.flt.active.map (fun k => if k.code = o.body.code then { k with seen := true } else k) } } : State).startTimer
              a.cls).countAct a.cls).enqueue { e with act := true, esc := o.body.esc })).finish) ∧
      (isEns o.body.code = false → faultClass o.body.code = none → exec (.event t) s = .next
        ((if o.body.pended then z else z.setPend o.body.code o.body.inst).enqueue e).finish)) ∧
    (∀ o : Out Nat, x.dl.dropOut = some o → x.dl.dropTag ≠ some o.tag → ∃ u : State, exec (.drops t) s = .next u.finish ∧
      u.evt = { x.evt with
        raised := x.evt.raised + BitVec.ofNat 32 (o.body % 65536), qovf := x.evt.qovf + BitVec.ofNat 32 (o.body % 65536) } ∧
      u.dl.dropTag = some o.tag) ∧
    (∀ ma mv : Half, x.pow.vbat = true → ∃ u : State, exec (.meas t ma mv) s = .next u.finish ∧ u.ens = { x.ens with imeas := ma, vled := mv } ∧
      u.gdn = { x.gdn with imeas := ma, vled := mv } ∧ u.pow.meas0 = x.pow.meas0 ∧
      u.pow.meas1 = BitVec.ofNat 32 (x.pow.meas1.toNat % 65536 + 65536 * mv.toNat) ∧ u.dl = r.dl)) ∧
  (∀ (t : Nat) (s x r : State) (m : StatusMsg), x = s.advance t → x.pow.logicOn = true → x.dl.statusOut = some m → m.urgent = true →
    x.dl.seqUp = x.dl.rxUp → x.gdn.capSeen = m.inst.getLsbD 5 → r = x.ensStatus →
    r.gdn = { x.gdn with chal := m.chal, ensOk := true, ensAt := x.clk.now, heldSeen := m.held, ensMode := m.mode, swSeen := m.sw } ∧
    r.dl = { x.dl with statusOut := none, seqUp := x.dl.seqUp + 1, rxUp := x.dl.seqUp + 1 } ∧
    (∀ o : Out Nat, x.dl.dropOut = some o → x.dl.dropTag = some o.tag → exec (.drops t) s = .next r.passUp.finish))

/-- Acknowledgement, resending and discarding: an ACK with the outstanding TAG that the receiver has accepted ends the message; after 10 µs a
message goes out again, eight times at most; one abandoned by the logic die counts in DLERR. A discarded frame counts and both dies note it.
The model's choices it rests on: entries 24, 80 of the assumption log. -/
def Obligations.LinkRepair : Prop :=
  ∀ (t : Nat) (s x : State), x = s.advance t →
    (∀ (o : Out Nat) (tag : BitVec 4), x.dl.highOut = some o → o.tag = tag → x.dl.highTag = some tag →
      x.dl.statusOut.any (fun m => m.urgent) = false → x.dl.seqUp = x.dl.rxUp → ∃ u : State,
      exec (.ack t .timehigh tag) s = .next u.finish ∧ u.dl.highOut = none ∧ u.clk = { x.clk with highSent := some o.body }) ∧
    (∀ (o : Out HvEvent) (tag : BitVec 4), x.dl.evOut = some o → o.tag = tag → x.dl.evTag = some tag → x.dl.seqDown = x.dl.rxDown →
      exec (.ack t .event tag) s = .next
        ((x.setDl (fun d => { d with seqDown := d.seqDown + 1, rxDown := d.seqDown + 1, evOut := none })).pumpUp).finish) ∧
    (∀ (o : Out Nat), x.pow.logicOn = true → x.dl.highOut = some o → o.sentAt + 10000 ≤ x.clk.now →
      (o.resends < 8 → exec (.dieLinkResend t .timehigh) s = .next (x.setDl (fun d => { d with
        highOut := some { o with resends := o.resends + 1, sentAt := x.clk.now } })).finish) ∧
      (8 ≤ o.resends → exec (.dieLinkResend t .timehigh) s = .next (((x.setDl (fun d => { d with highOut := none })).setGdn
        (fun g => { g with dlerr := satAdd g.dlerr 1 })).event 0x246).finish)) ∧
    (∀ q : BitVec 4, x.pow.logicOn = true →
      exec (.dieLinkFrameDiscard t .down q) s = .next
        (((x.setDl (fun d => { d with seqDown := d.seqDown + 1, downErr := satAdd d.downErr 1, rxDown := q })).raiseHv 0x00B 0 0).raiseHv 0x246 0 0).finish ∧
      exec (.dieLinkFrameDiscard t .up q) s = .next
        ((((x.setDl (fun d => { d with seqUp := d.seqUp + 1, rxUp := q })).setGdn (fun g => { g with dlerr := satAdd g.dlerr 1 })).event 0x00B).event 0x246).finish)

/-- The test port and Halyard: the instruction in the IR, with TEST_JTAG for a boundary-scan instruction, its DATA the code and
whether it is refused; TMODE; the two firmware events.
The model's choices it rests on: entries 24, 70 of the assumption log. -/
def Obligations.PortAndFirmware : Prop :=
  ∀ (t : Nat) (s x : State), x = s.advance t → x.pow.logicOn = true →
    (∀ c : BitVec 5, testCode c.toNat = false → exec (.jtagUpdateIr t c) s = .next
      ({ x with jtag := { x.jtag with ir := c } } : State).finish) ∧
    (∀ (c : BitVec 5) (y : State), testCode c.toNat = true → y = { x with jtag := { x.jtag with ir := c } } → exec (.jtagUpdateIr t c) s = .next
      (y.raise0 0x441 0 (c.toNat + 256 * (if y.irNow = c.toNat then 0 else 1))).finish) ∧
    (exec (.tmodeHigh t) s = .next (State.event { x with jtag := { x.jtag with tmode := true } } 0x442).finish) ∧
    (exec (.halFwStall t) s = .next (x.event 0x047).finish) ∧ (exec (.halFwTrap t) s = .next (x.event 0x046).finish)

/-! ### The engine link and the light engine -/

/-- A MARKER block counts 8,192 slots, advances MSEQ and reseeds the scrambler with it; before its slot comes there is none. A lane without a frame
start for 1 ms sends one: HOLD while passes of a picture or of the base layer go on, else the quiet SHOW of the mode, KEEP in place of DARK on a
lane that is not back at its rate after override, DARK in a SLEEP entry; a lane
that is not up within its bound after a blind start is down.
The model's choices it rests on: entries 19, 24, 74, 91, 105 of the assumption log. -/
def Obligations.LaneBlocks : Prop :=
  ∀ (t : Nat) (n : Fin 16) (s x : State) (l : Lane), x = s.advance t → l = vget x.fly n.val → x.laneOn n.val = true →
    (l.baseAt + 8192 * l.blockPs ≤ 1000 * x.clk.dtime → ∃ u : State, exec (.marker t n) s = .next u.finish ∧
      (vget u.fly n.val).slots = l.slots + 8192 ∧ (vget u.fly n.val).mseq = l.mseq + 1 ∧
      (vget u.fly n.val).lfsr = scramSeed n.val (l.mseq + 1) ∧ (vget u.fly n.val).baseAt = l.baseAt + 8192 * l.blockPs ∧
      (vget u.fly n.val).st = l.st ∧ (∀ m, m < 16 → m ≠ n.val → vget u.fly m = vget x.fly m) ∧ u.scan = x.scan ∧ u.store = x.store) ∧
    (1000 * x.clk.dtime < l.baseAt + 8192 * l.blockPs → exec (.marker t n) s = .next x.finish) ∧
    (l.runs = true → l.fstartAt + 1000000 ≤ x.clk.dtime → ∀ show_ : Show,
      show_ = (if x.scan.run = true ∨ x.scan.limp.isSome = true then .hold else if x.mode.sleep = .none then l.showFor x.quietShow else .dark) →
      ∃ u : State, exec (.fstartFill t n) s = .next u.finish ∧ (vget u.fly n.val).fstartAt = x.clk.dtime ∧
        (vget u.fly n.val).lastShow = (if show_ = .hold then l.lastShow else show_) ∧ (vget u.fly n.val).st = l.st ∧
        (∃ (y : Tx) (ofs : Nat), (vget u.fly n.val).txq = l.txq ++ [y] ∧ y.kind = .fstart x.scan.fseq show_ ofs ∧ y.left = 1) ∧
        (∀ m, m < 16 → m ≠ n.val → vget u.fly m = vget x.fly m) ∧ u.scan = x.scan ∧ u.store = x.store) ∧
    (l.runs = true → l.up = false → l.down = false → l.startedAt + l.upBound ≤ x.clk.dtime →
      exec (.laneUpTimeout t n) s = .next
        (((x.setLane n.val (fun k => { k with down := true })).raise0 0x187 n.val 0).retrainCheck).finish)

/-- A message of the backchannel is a check by the unit of its lane, and brings lock where 1,440 ns have passed since the last bad one. MARKACK gives a
round trip, at 10 ps, of which the last 16 stay; SUBST_MESSAGE counts in SUBCNT and in the window of its pass, and a CRC failure also at the check unit of
the lane; NVDATA in sequence adds its seven bytes, out of sequence it ends the read with the event of check unit 20, whose DATA is the NV address.
ECHO_MESSAGE for the pass that is waited for, without substitutions and in time, is a check by the lane's unit: equal signatures resolve both
echo faults, unequal ones count in ECHOBAD and at the unit, which keeps both values.
The model's choices it rests on: entries 10, 22, 24, 28, 121, 141 of the assumption log. -/
def Obligations.BackchannelMessages : Prop :=
  (∀ (n : Fin 16) (x g : State), g = x.backHeard n.val →
    (vget g.fly n.val).bclock = ((vget x.fly n.val).bclock || decide ((vget x.fly n.val).runFrom + 1440 ≤ x.clk.dtime)) ∧
    (vget g.fly n.val).badRun = 0 ∧ (vget g.fly n.val).subcnt = (vget x.fly n.val).subcnt ∧
    (vget g.chk.units n.val).cnt = (vget x.chk.units n.val).cnt + 1 ∧ (vget g.chk.units n.val).mis = (vget x.chk.units n.val).mis) ∧
  (∀ (t : Nat) (n : Fin 16) (s x g : State), x = s.advance t → x.backOn n.val = true → g = x.backHeard n.val →
    (∀ (q : BitVec 24) (resid : Int) (el : Nat), exec (.markack t n q resid el) s = .next
      (g.setLane n.val (fun k => { k with rts := (((((el / 10 * 10 : Nat) : Int) - 1000000 - resid - Config.tdev n.val)) :: k.rts).take 16 })).finish) ∧
    (∀ (fseq : Half) (line cause : Byte), cause ≠ 1 → exec (.substMessage t n fseq line cause) s = .next
      (((g.setLane n.val (fun k => { k with subcnt := satAdd k.subcnt 1 })).markWindow n.val fseq (fun p => (p.1 + 1, p.2))).judgeSubst
        n.val).finish) ∧
    (∀ (fseq : Half) (line : Byte), (vget g.fly n.val).crcOut = false → ∃ u : State,
      exec (.substMessage t n fseq line 1) s = .next u.finish ∧
      (vget u.fly n.val).subcnt = satAdd (vget g.fly n.val).subcnt 1 ∧
      (vget u.chk.units n.val).cnt = (vget g.chk.units n.val).cnt + 1 ∧
      (vget u.chk.units n.val).mis = satAdd (vget g.chk.units n.val).mis 1 ∧
      (vget u.chk.units n.val).inj = (vget g.chk.units n.val).inj) ∧
    (∀ (r : NvRead) (seq : Byte) (d : List Byte), (vget g.fly n.val).read = some r → d.length = 7 →
      (seq = r.seq → exec (.nvdata t n seq d) s = .next
        (g.setLane n.val (fun k => { k with read := some { seq := r.seq + 1, data := r.data ++ d } })).finish) ∧
      (∀ c : Ctrl, seq ≠ r.seq → (vget g.fly n.val).ctrl.find? (fun c => c.use.isRead) = some c → ∀ z : State,
        z = g.setLane n.val (fun k => { k with read := none }) → exec (.nvdata t n seq d) s = .next
        (({ z with chk := { z.chk with units := vmod z.chk.units 20 (fun k => { k with mis := satAdd k.mis 1 }) } } : State).raise0
          0x394 0 c.addr).finish))) ∧
  (∀ (t : Nat) (n : Fin 16) (fseq : Half) (sige crc : Word) (deadline : Nat) (s x g : State), x = s.advance t → x.backOn n.val = true →
    g = x.backHeard n.val → (vget g.scan.segs n.val).wait = some (fseq, sige, deadline) → g.clk.dtime ≤ deadline → ∃ u : State,
      exec (.echoMessage t n fseq 0 crc) s = .next u.finish ∧
      (vget u.scan.segs n.val).echo = crc ∧ (vget u.scan.segs n.val).wait = none ∧
      (vget u.chk.units n.val).cnt = (vget g.chk.units n.val).cnt + 1 ∧
      (crc = sige → u.evt = g.evt ∧ (vget u.scan.segs n.val).goodAt = some g.clk.dtime ∧
        (vget u.scan.segs n.val).echobad = (vget g.scan.segs n.val).echobad ∧
        (∀ a ∈ u.flt.active, a.code = 0x145 ∨ a.code = 0x146 → n.val ∉ a.conds)) ∧
      (crc ≠ sige → (vget u.scan.segs n.val).goodAt = (vget g.scan.segs n.val).goodAt ∧
        (vget u.scan.segs n.val).echobad = satAdd (vget g.scan.segs n.val).echobad 1 ∧
        (vget u.chk.units n.val).mis = satAdd (vget g.chk.units n.val).mis 1 ∧
        (vget u.chk.units n.val).exp = crc ∧ (vget u.chk.units n.val).got = sige))

/-- Training: the engine in PHASE 1 is acknowledged before the block with COUNT 0 begins, and not from then on; when that block has left the lane goes to FULL
with a MARKER under the preset taps; a request with a new RSEQ moves the taps and is answered; under LOCK the block lock is noted and its bound set, and
TXREADY brings PHASE 4, or PHASE 3 where precoding is asked for; PHASE 4 puts FULL in force with the loss recorded and the lane IDLE; a step past its bound
counts in TRAINFAIL and the lane starts blind at LIMP, and after the third attempt its active RATE is LIMP.
The model's choices it rests on: entries 19, 22, 24, 27, 74, 121 of the assumption log. -/
def Obligations.LaneTraining : Prop :=
  (∀ (t : Nat) (n : Fin 16) (s x g : State) (l : Lane), x = s.advance t → l = vget x.fly n.val → x.laneOn n.val = true → l.st = .training →
    g = (x.backGood n.val).checked n.val →
    (∀ (m : TrainMsg) (c : Nat), l.phase = 1 → l.countAt = some c →
      (m.phase = 1 → 1000 * x.clk.dtime + l.blockPs < c → exec (.trainMessage t n m) s = .next
        (g.setLane n.val (fun k => { k with acked := true, rseq := m.rseq })).finish) ∧
      (m.phase ≠ 1 ∨ c ≤ 1000 * x.clk.dtime + l.blockPs → exec (.trainMessage t n m) s = .next g.finish)) ∧
    (∀ (m : TrainMsg) (z : State), l.phase = 2 → (m.rseq = l.rseq → z = g) →
      (m.rseq ≠ l.rseq → ∃ (a b c st : Nat),
        tapRequest (x.flag (laneAddr n.val) 3) m.req.toNat (l.txPre, l.txMain, l.txPost) = ((a, b, c), st) ∧
        z = g.setLane n.val (fun k => ({ k with
          rseq := m.rseq, tapStatus := BitVec.ofNat 8 st, txPre := a, txMain := b, txPost := c } : Lane).trains (1000 * x.clk.dtime) 2)) →
      (m.flags.getLsbD 0 = false → exec (.trainMessage t n m) s = .next z.finish) ∧
      (m.flags.getLsbD 0 = true → ∀ y : State, y = z.setLane n.val (fun k => { k with
          block := true, phaseDue := if l.block then l.phaseDue else l.startedAt + 6100000 }) →
        (m.flags.getLsbD 1 = false → exec (.trainMessage t n m) s = .next y.finish) ∧
        (m.flags.getLsbD 1 = true → m.flags.getLsbD 2 = false ∨ x.flag (laneAddr n.val) 2 = false → exec (.trainMessage t n m) s = .next
          (y.setLane n.val (fun k => ({ k with phase := 4, phaseDue := l.startedAt + 7000000 } : Lane).trains (1000 * x.clk.dtime) 4)).finish) ∧
        (m.flags.getLsbD 1 = true → m.flags.getLsbD 2 = true → x.flag (laneAddr n.val) 2 = true → exec (.trainMessage t n m) s = .next
          ((y.setLane n.val (fun k => ({ k with phase := 3, phaseDue := l.startedAt + 6500000 } : Lane).trains (1000 * x.clk.dtime) 3)).setLane
            n.val (fun k => { k with countAt := some (k.countEnd x.clk.dtime) })).finish))) ∧
    (∀ m : TrainMsg, l.phase = 4 → m.phase = 4 → 0 < m.ahi.toNat → m.ahi.toNat ≤ m.alo.toNat → ∃ u : State,
      exec (.trainMessage t n m) s = .next u.finish ∧ (vget u.fly n.val).st = .idle ∧ (vget u.fly n.val).full = true ∧
      (vget u.fly n.val).up = true ∧ (vget u.fly n.val).loss = lossOf m.ahi.toNat m.alo.toNat 963) ∧
    (l.phaseDue ≤ x.clk.dtime → ∃ y : State,
      (vget y.fly n.val).trainfail = satAdd l.trainfail 1 ∧ (vget y.fly n.val).st = .idle ∧ (vget y.fly n.val).full = false ∧
      (vget y.fly n.val).up = false ∧ (vget y.fly n.val).startedAt = x.clk.dtime ∧ (vget y.fly n.val).tail = (x.fallback n.val).1 ∧
      (vget y.fly n.val).baseAt = (x.fallback n.val).2 ∧
      (l.attempt < 3 → exec (.flyTrainingTimeout t n) s = .next y.finish) ∧
      (3 ≤ l.attempt → exec (.flyTrainingTimeout t n) s = .next
        ((((y.hwClr (laneAddr n.val) 2).raise0 0x181 n.val 0).resolve 0x183 n.val).retrainCheck).finish))) ∧
  (∀ (s : State) (n : Fin 16) (c w : Nat) (k : Lane), s.ens.ovr = false → (vget s.fly n.val).st = .training → (vget s.fly n.val).phase = 1 →
    (vget s.fly n.val).acked = true → (vget s.fly n.val).countAt = some c → c ≤ 1000 * s.clk.dtime → w = s.act (laneAddr n.val + 1) →
    k = vget s.countdowns.fly n.val → k.st = .training ∧ k.phase = 2 ∧ k.full = true ∧ k.slots = 0 ∧ k.mseq = 0 ∧
      k.lfsr = scramSeed n.val 0 ∧ k.baseAt = c ∧ k.txPre = bits w 5 0 ∧ k.txMain = bits w 13 8 ∧ k.txPost = bits w 21 16 ∧
      k.phaseDue = (vget s.fly n.val).startedAt + 1100000)

/-- STATUS of a lane: MSLIP counts the slips since the last message; LANEMIS raises FLY_LANEID, and its absence resolves it; a lane in use without LOCK is lost,
which starts it blind again with no attempt behind it; the polarity found at LIMP stays for FULL. A frame of the backchannel that does not pass its checks
counts in BCRC, one less than 960 ns after another in the same run; the fourth in a row unlocks the backchannel, and a lane in use is then lost. A frame
that parses is a good message, and one of a reserved type is counted but good for the lock.
The model's choices it rests on: entries 22, 24, 44, 141 of the assumption log. -/
def Obligations.LaneStatus : Prop :=
  ∀ (t : Nat) (n : Fin 16) (s x : State) (l : Lane), x = s.advance t → l = vget x.fly n.val → x.backOn n.val = true →
    (∀ (f k : Byte) (inv : Bool), l.runs = true → l.up = true → x.ens.ovr = false → ∃ u : State,
      exec (.statusMessage t n f k inv) s = .next u.finish ∧ (vget u.fly n.val).rxInv = (if l.full then l.rxInv else inv) ∧
      (vget u.fly n.val).kaShown = f.getLsbD 3 ∧ (vget u.fly n.val).mslipSeen = k ∧
      (vget u.fly n.val).mslip = satAdd l.mslip (if l.mslipSeen.toNat ≤ k.toNat then k.toNat - l.mslipSeen.toNat else k.toNat) ∧
      (f.getLsbD 1 = true → l.mis = false → ∃ a ∈ u.flt.active, a.code = 0x184 ∧ n.val ∈ a.conds) ∧
      (f.getLsbD 1 = false → ∀ a ∈ u.flt.active, a.code = 0x184 → n.val ∉ a.conds) ∧
      (f.getLsbD 0 = true → (vget u.fly n.val).up = true ∧ (vget u.fly n.val).st = l.st ∧ (vget u.fly n.val).mis = f.getLsbD 1) ∧
      (f.getLsbD 0 = false → (vget u.fly n.val).up = false ∧ (vget u.fly n.val).st = .idle ∧ (vget u.fly n.val).full = false ∧
        (vget u.fly n.val).attempt = 0 ∧ (vget u.fly n.val).startedAt = x.clk.dtime)) ∧
    (∀ (b f : List Byte) (i : Bool) (y : State), i = l.polarity n.val b → f = (if i then flipBytes b else b) →
      y = x.setLane n.val (fun k => { k with rxInv := i }) →
      ((backParse n.val f).isSome = true → exec (.backchannelDiscard t ⟨n, b⟩) s = .next (y.backHeard n.val).finish) ∧
      ((backParse n.val f).isSome = false → backCrcOk n.val f = true → exec (.backchannelDiscard t ⟨n, b⟩) s = .next
        (((y.setLane n.val (fun k => { k with bcrc := satAdd k.bcrc 1 })).raise0 0x186 n.val 0).backHeard n.val).finish) ∧
      (∀ (r : Nat) (k : Lane), (backParse n.val f).isSome = false → backCrcOk n.val f = false →
        r = (if x.clk.dtime < l.runFrom + 960 then l.badRun + 1 else 1) →
        k = { l with rxInv := i, bcrc := satAdd l.bcrc 1, badRun := r, runFrom := x.clk.dtime } → ∃ u : State,
        exec (.backchannelDiscard t ⟨n, b⟩) s = .next u.finish ∧
        (l.bclock = false ∨ r < 4 → vget u.fly n.val = k) ∧
        (l.bclock = true → 4 ≤ r → x.ens.ovr = true → vget u.fly n.val = { k with bclock := false }) ∧
        (l.bclock = true → 4 ≤ r → x.ens.ovr = false → l.st ≠ .training →
          (l.up = false → vget u.fly n.val = { k with bclock := false }) ∧
          (l.up = true → (vget u.fly n.val).up = false ∧ (vget u.fly n.val).bclock = false ∧ (vget u.fly n.val).st = .idle ∧
            (vget u.fly n.val).full = false ∧ (vget u.fly n.val).attempt = 0 ∧ (vget u.fly n.val).startedAt = x.clk.dtime ∧
            ∃ a ∈ u.flt.active, a.code = 0x183 ∧ n.val ∈ a.conds)) ∧
        (l.bclock = true → 4 ≤ r → x.ens.ovr = false → l.st = .training →
          (l.full = false → vget u.fly n.val = { k with bclock := false }) ∧
          (l.full = true → (vget u.fly n.val).trainfail = satAdd l.trainfail 1 ∧ (vget u.fly n.val).st = .idle ∧
            (vget u.fly n.val).full = false ∧ (vget u.fly n.val).up = false))))

/-- A lane test ends when its time has passed and every lane under test has reported; a lane without a PRBSCNT 1 ms later, and one not under test,
report all ones.
Life: each ms of keep-alive without lines adds its term to the accumulators of the mapped segments that are not dark, at derated flux where the lane
is down; after 600 s of BEAM time a
life record is written to lane 0, and skipped without a burgee.
The model's choices it rests on: entries 24, 29, 30, 50, 104, 121 of the assumption log. -/
def Obligations.LaneTestAndLife : Prop :=
  (∀ (t : Nat) (s x : State) (id : ReqId) (mask : Half) (due : Nat), x = s.advance t →
    (x.eng.laneTest = some (id, mask, due, false) → due ≤ x.clk.dtime →
      (∃ n, n < 16 ∧ mask.getLsbD n = true ∧ (vget x.fly n).prbs = none) → ∃ u : State, exec (.laneTestEnd t) s = .next u.finish ∧
      u.eng = { x.eng with laneTest := some (id, mask, due, true) } ∧ u.ports = x.ports ∧
      ∀ n, n < 16 → (vget u.fly n).prbs = (vget x.fly n).prbs ∧
        (mask.getLsbD n = true → (vget u.fly n).injcnt = BitVec.ofNat 32 ((vget x.fly n).injections due)) ∧
        (mask.getLsbD n = false → vget u.fly n = vget x.fly n)) ∧
    (x.eng.laneTest = some (id, mask, due, false) → due ≤ x.clk.dtime →
      (∀ n, n < 16 → mask.getLsbD n = true → (vget x.fly n).prbs ≠ none) → ∃ z : State,
      z.eng = { x.eng with laneTest := some (id, mask, due, true) } ∧ z.ports = x.ports ∧ z.dropLaneTest.eng.laneTest = none ∧
      (∀ n, n < 16 → mask.getLsbD n = true → (vget z.fly n).injcnt = BitVec.ofNat 32 ((vget x.fly n).injections due)) ∧
      exec (.laneTestEnd t) s = .next ((z.dropLaneTest.answer id stOk ((List.range 16).flatMap (fun n =>
        le 4 (match mask.getLsbD n, (vget x.fly n).prbs with | true, some w => w.toNat | _, _ => 0xFFFFFFFF)))).event 0x440).finish) ∧
    (∀ (n : Fin 16) (e b : Word) (g z : State), x.backOn n.val = true → g = x.backHeard n.val → mask.getLsbD n.val = true →
      z = g.setLane n.val (fun k => { k with prbs := some e }) →
      (g.eng.laneTest = some (id, mask, due, false) → exec (.prbscnt t n e b) s = .next z.finish) ∧
      (g.eng.laneTest = some (id, mask, due, true) → (∃ m, m < 16 ∧ mask.getLsbD m = true ∧ (vget z.fly m).prbs = none) →
        exec (.prbscnt t n e b) s = .next z.finish) ∧
      (g.eng.laneTest = some (id, mask, due, true) → (∀ m, m < 16 → mask.getLsbD m = true → (vget z.fly m).prbs ≠ none) →
        exec (.prbscnt t n e b) s = .next ((z.dropLaneTest.answer id stOk ((List.range 16).flatMap (fun n =>
          le 4 (match mask.getLsbD n, (vget z.fly n).prbs with | true, some w => w.toNat | _, _ => 0xFFFFFFFF)))).event 0x440).finish)) ∧
    (x.eng.laneTest = some (id, mask, due, true) → due + 1000000 ≤ x.clk.dtime → exec (.prbscntTimeout t) s = .next
      ((x.dropLaneTest.answer id stOk ((List.range 16).flatMap (fun n =>
        le 4 (match mask.getLsbD n, (vget x.fly n).prbs with | true, some w => w.toNat | _, _ => 0xFFFFFFFF)))).event 0x440).finish)) ∧
  (∀ (t : Nat) (s x : State), x = s.advance t →
    (∀ d : Bool, x.keepShown = some d → x.eng.lifeTickAt + 1000000 ≤ x.clk.dtime → exec (.lifeTick t) s = .next
      (iter (fun n (z : State) => if z.mapped n && !z.dark n then
          z.addStress n (1000000 * burg (z.burgeeOf n) 43 1 * (if d || (vget z.fly n).down then burg (z.burgeeOf n) 42 1 + 1 else 256) * z.stressWeight n /
            (256 * 256 * 16))
        else z) 16 { x with eng := { x.eng with lifeTickAt := x.clk.dtime } }).finish) ∧
    (x.mode.cur = .beam → x.eng.markNs + 600000000000 ≤ x.beamTime →
      (x.eng.engId = true → exec (.lifeRecordDue t) s = .next
        (({ x with eng := { x.eng with jobs := x.eng.jobs ++ [{ use := .life, pages := [], loaded := 0 }] } } : State).jobStep 0).finish) ∧
      (x.eng.engId = false → x.mode.sleep = .none → exec (.lifeRecordDue t) s = .next (x.event 0x1CA).finish)))

/-- Operations of the engine end by their answers: a WAVE that is acknowledged is over; NVEND with the CRC of the bytes read gives a host's read
its data; 10 ms after its block has left an operation without an answer is a timeout, the host's read answering TIMEOUT; one that has not left does not run
out.
The model's choices it rests on: entries 22, 24, 32, 52 of the assumption log. -/
def Obligations.EngineAnswers : Prop :=
  ∀ (t : Nat) (n : Fin 16) (s x g : State) (c : Ctrl), x = s.advance t → g = x.backHeard n.val →
    (∀ (tag : Byte) (d : BitVec 48), x.backOn n.val = true → (vget g.fly n.val).ctrl = [c] → c.tag.toNat = tag.toNat → c.use = .wave →
      exec (.ctrlack t n tag 0 d) s = .next (g.ctrlEnd n.val c).finish) ∧
    (∀ (tag : Byte) (id : ReqId) (r : NvRead), x.backOn n.val = true → (vget g.fly n.val).ctrl = [c] → (vget g.fly n.val).ctrlQ = [] →
      c.tag.toNat = tag.toNat → c.use = .hostRead → (vget g.fly n.val).read = some r → c.count ≤ r.data.length →
      g.eng.nvRead = some (id, n.val) → g.injects 20 = false → ∃ u : State,
      exec (.nvend t n tag 0 (crc32 (BitVec.ofNat 32 c.addr) (r.data.take c.count))) s = .next
        (u.answer id stOk (r.data.take c.count)).finish ∧
      u.eng = { g.eng with nvRead := none } ∧ (vget u.fly n.val).ctrl = [] ∧ (vget u.fly n.val).read = none ∧
      (vget u.chk.units 20).cnt = (vget g.chk.units 20).cnt + 1 ∧ (vget u.chk.units 20).mis = (vget g.chk.units 20).mis) ∧
    (∀ (id : ReqId) (a : Nat) (l : Lane), l = vget x.fly n.val → l.ctrl = [c] → l.ctrlQ = [] → c.use = .hostRead →
      l.leftAt (l.slotsBy x.clk.dtime) c = some a → a + 10000000 ≤ x.clk.dtime → x.eng.nvRead = some (id, n.val) → ∃ u : State,
      exec (.ctrlTimeout t n c.tag) s = .next (u.answer id stTimeout []).finish ∧ u.eng = { x.eng with nvRead := none } ∧
      (vget u.fly n.val).ctrl = []) ∧
    (∀ l : Lane, l = vget x.fly n.val → l.ctrl = [c] → l.leftAt (l.slotsBy x.clk.dtime) c = none →
      exec (.ctrlTimeout t n c.tag) s = .next x.finish)

/-! ### The host link -/

/-- The checks of a received message, on CMD: one that passes them all enters the ingress buffer; while the link is down it is not received; a
wrong HCRC or BCRC counts and restarts the data layer in the next epoch (a wrong HCRC is ignored while the new epoch is awaited), a message of
another epoch is dropped, a credit overrun restarts, an earlier CSEQ counts in DUP and a later one restarts.
The model's choices it rests on: entries 24, 89 of the assumption log. -/
def Obligations.HoistChecks : Prop :=
  ∀ (t : Nat) (h : HoistHead) (p : List Byte) (s x z : State), x = s.advance t → z = x.hoistTook 2 1 p →
    (x.HoistGood h 2 1 [] p → exec (.cmd t h p) s = .next
      ({ z with hoist := { z.hoist with ingress := z.hoist.ingress ++ [.cmd p] } } : State).finish) ∧
    (x.hoistUp = false → exec (.cmd t h p) s = .next x.finish) ∧
    (x.hoistUp = true → x.chk.armed = none →
      (h.hcrc ≠ hcrcOf 2 h.epoch.toNat h.cseq.toNat p.length [] → x.hoist.waitEpoch = true → ∃ u : State,
        exec (.cmd t h p) s = .next u.finish ∧ u.hoist = x.hoist) ∧
      (h.hcrc ≠ hcrcOf 2 h.epoch.toNat h.cseq.toNat p.length [] → x.hoist.waitEpoch = false → ∃ u : State,
        exec (.cmd t h p) s = .next u.finish ∧ u.hoist.hcrcErr = satAdd x.hoist.hcrcErr 1 ∧ u.hoist.epoch = x.hoist.epoch + 1 ∧ u.hoist.waitEpoch = true ∧
        u.hoist.inNext = x.hoist.inNext ∧ u.hoist.ingress = x.hoist.ingress) ∧
      (h.hcrc = hcrcOf 2 h.epoch.toNat h.cseq.toNat p.length [] →
        (h.epoch ≠ x.hoist.epoch → ∃ u : State, exec (.cmd t h p) s = .next u.finish ∧ u.hoist = x.hoist ∧ u.evt = x.evt) ∧
        (h.epoch = x.hoist.epoch →
          (later 16 ((vget x.hoist.cred 2).cons.toNat + 1) (vget x.hoist.cred 2).adv.toNat = true → ∃ u : State,
            exec (.cmd t h p) s = .next u.finish ∧ u.hoist.epoch = x.hoist.epoch + 1 ∧ u.hoist.inNext = x.hoist.inNext ∧
            u.hoist.ingress = x.hoist.ingress ∧ (vget u.hoist.cred 2).occ = (vget x.hoist.cred 2).occ) ∧
          (later 16 ((vget x.hoist.cred 2).cons.toNat + 1) (vget x.hoist.cred 2).adv.toNat = false →
            (later 16 h.cseq.toNat (vget x.hoist.inNext 2).toNat = true → ∃ u : State, exec (.cmd t h p) s = .next u.finish ∧
              u.hoist.epoch = x.hoist.epoch + 1 ∧ u.hoist.inNext = x.hoist.inNext ∧ u.hoist.ingress = x.hoist.ingress) ∧
            (h.cseq ≠ vget x.hoist.inNext 2 → later 16 h.cseq.toNat (vget x.hoist.inNext 2).toNat = false → ∃ u : State,
              exec (.cmd t h p) s = .next u.finish ∧ u.hoist.dup = satAdd x.hoist.dup 1 ∧ u.hoist.epoch = x.hoist.epoch ∧
              u.hoist.inNext = x.hoist.inNext ∧ u.hoist.ingress = x.hoist.ingress) ∧
            (h.cseq = vget x.hoist.inNext 2 → p ≠ [] → h.bcrc ≠ bcrcOf h.hcrc p → ∃ u : State,
              exec (.cmd t h p) s = .next u.finish ∧ u.hoist.bcrcErr = satAdd x.hoist.bcrcErr 1 ∧
              u.hoist.epoch = x.hoist.epoch + 1 ∧ u.hoist.inNext = x.hoist.inNext ∧ u.hoist.ingress = x.hoist.ingress)))))

/-- The other messages, accepted: VID waits in the ingress buffer; OBJ is a fragment of the Hoist list; TIME is answered by a TREPLY with the
instants of its arrival and of the answer's departure, if TIMEADV allows one; HCREDIT moves the limits; RESTARTREQ opens the next epoch.
A restart: the epoch and RESTARTS advance, every class advertises its capacity less what is occupied, and RESTART goes out before the
retained messages, of which XSTAT go before TREPLY and TREPLY before REPLY.
The model's choices it rests on: entries 24, 49, 89 of the assumption log. -/
def Obligations.HoistMessages : Prop :=
  (∀ (t : Nat) (h : HoistHead) (s x : State), x = s.advance t →
    (∀ (n : Byte) (off : Word) (d : List Byte) (z : State), x.mode.sleep = .none → x.mode.restart = none →
      x.HoistGood h 0 (vidCost d.length) ([n, 0] ++ le 4 off.toNat) d → z = x.hoistTook 0 (vidCost d.length) d →
      exec (.vid t h n off d) s = .next
        ({ z with hoist := { z.hoist with ingress := z.hoist.ingress ++ [.vid n off.toNat d] } } : State).finish) ∧
    (∀ (q : Half) (d b : List Byte) (z : State), b = le 2 q.toNat ++ [0, 0] ++ d → d.length = 1020 → x.HoistGood h 1 1 [] b →
      z = (x.hoistTook 1 1 b).freeCred 1 1 → exec (.obj t h q 0 0 d) s = .next
        ({ z with mask := { z.mask with asm := z.mask.asm.set 2 (some { seq := q, next := 1, data := d }) } } : State).finish) ∧
    (∀ (t1 : BitVec 64) (k : Word) (b : List Byte) (z w : State), b = le 8 t1.toNat ++ le 4 k.toNat ++ le 4 0 → x.HoistGood h 3 1 [] b →
      z = (x.hoistTook 3 1 b).freeCred 3 1 → x.hoist.timeQ = [] →
      w = { z with hoist := { z.hoist with timeQ := [(t1, k, x.clk.dtime)], timeAt := some x.clk.dtime } } →
      (creditLeft x.hoist.timeAdv x.hoist.timeSent = true → exec (.time t h t1 k) s = .next
        (({ w with hoist := { w.hoist with timeQ := [], timeSent := w.hoist.timeSent + 1 } } : State).htx 0x83 []
          (le 8 t1.toNat ++ le 8 x.clk.dtime ++ le 8 w.timeLeaves ++ le 4 k.toNat ++ le 1 (b2n x.clk.tbXtal) ++ le 3 0)).finish) ∧
      (creditLeft x.hoist.timeAdv x.hoist.timeSent = false → exec (.time t h t1 k) s = .next w.finish)) ∧
    (∀ (a0 a1 a2 ra ta : Half) (z : State), x.HoistGood h 4 0 [] (hcreditBody a0 a1 a2 ra ta) →
      z = x.hoistTook 4 0 (hcreditBody a0 a1 a2 ra ta) → x.hoist.timeQ = [] → x.hoist.replyQ = [] →
      exec (.hcredit t h a0 a1 a2 ra ta) s = .next
        ({ z with hoist := { z.hoist with
            replyAdv := ra, timeAdv := ta
            retained := z.hoist.retained.filter (fun m => later 16 m.cseq.toNat
              (if m.cls = 0x81 then a0 else if m.cls = 0x82 then a1 else a2).toNat) } } : State).finish) ∧
    (x.HoistGood h 5 0 [] [] → exec (.restartreq t h) s = .next (x.hoistTook 5 0 []).restart.finish)) ∧
  (∀ s : State, s.hoistUp = true →
    s.restart.hoist.epoch = s.hoist.epoch + 1 ∧ s.restart.hoist.restarts = satAdd s.hoist.restarts 1 ∧ s.restart.hoist.waitEpoch = true ∧
    s.restart.hoist.retained = s.hoist.retained ∧ s.restart.hoist.inNext = s.hoist.inNext ∧
    (∀ c, c < 4 → vget s.restart.hoist.cred c = Cred.newEpoch (hoistCap c) (vget s.hoist.cred c) ∧
      (vget s.restart.hoist.cred c).adv = BitVec.ofNat 16 (hoistCap c - (vget s.hoist.cred c).occ)) ∧
    ∃ m : HtxMsg, m.cls = 0x84 ∧ s.restart.hoist.sent = m :: (s.retainedOf 0x81 ++ s.retainedOf 0x83 ++ s.retainedOf 0x82))

/-- A transfer reaches the store port when the one before it is written, or is refused there with XSTAT; its last word extends FILL of an
INCOMPLETE surface where it leaves no gap, and the surface is COMPLETE when it is full; XSTAT OK follows.
The model's choices it rests on: entries 24, 60, 88, 93 of the assumption log. -/
def Obligations.TransferRows : Prop :=
  ∀ (t : Nat) (s x : State), x = s.advance t →
    (∀ (n : Byte) (off : Nat) (d : List Byte) (rest : List Ingress) (z : State), x.hoist.cur = none → x.store.clrDone = true →
      x.hoist.ingress = .vid n off d :: rest → z = ({ x with hoist := { x.hoist with ingress := rest } } : State) →
      (x.vidRefusal n.toNat off d.length = none → exec (.vidStoreEntry t) s = .next
        ({ z with hoist := { z.hoist with cur := some { surf := n.toNat, offset := off, data := d } } } : State).finish) ∧
      (∀ (st : Nat) (y : State), y = z.freeCred 0 (vidCost d.length) → x.vidRefusal n.toNat off d.length = some st →
        exec (.vidStoreEntry t) s = .next
          (((({ y with store := { y.store with wrefused := satAdd y.store.wrefused 1 } } : State).raise0 0x082 0 0).raise0
            0x204 0 0).xstat n.toNat st off).finish)) ∧
    (∀ (w : Xfer) (f : Surface) (e : Nat) (z : State), x.hoist.cur = some w → w.surf < 128 → f = x.surf w.surf → e = w.offset + w.data.length →
      z = x.storePut (128 * f.base + w.offset) w.data →
      (∀ y : State, y = z.setSurf w.surf (fun v => { v with fill := e, st := if e = v.bytes then .complete else .incomplete }) →
        f.st = .incomplete → w.offset ≤ f.fill → f.fill < e → exec (.vidWriteDone t) s = .next
          ((({ y with hoist := { y.hoist with cur := none } } : State).freeCred 0 (vidCost w.data.length)).xstat w.surf stOk
            w.offset).finish) ∧
      (f.st ≠ .incomplete ∨ f.fill < w.offset ∨ e ≤ f.fill → exec (.vidWriteDone t) s = .next
        ((({ z with hoist := { z.hoist with cur := none } } : State).freeCred 0 (vidCost w.data.length)).xstat w.surf stOk
          w.offset).finish)) ∧
    (∀ (h : HoistHead) (n : Byte) (off : Word) (d : List Byte), x.hoistUp = false →
      exec (.vid t h n off d) s = .next x.finish)

/-- The link: groups that decode count in CORR, one that does not is lost, counts in UE and restarts the message layer where it runs; a bonded lane whose
headers lose lock takes the link down; CREDIT goes
out when 100 µs have passed; the credits are audited by class whatever the link does; a lost lane takes the link down; a record brings it up at
LIMP, and after a failed attempt begins the next; PHASE 1 is acknowledged by the host, and at COUNT 0 the link goes on at FULL; a phase past its
bound fails the attempt, which starts the link blind with 2 ms to come up, the third for good; after 1 s without TIME there is the event.
The model's choices it rests on: entries 24, 68, 74, 88, 93, 112, 123 of the assumption log. -/
def Obligations.HoistLinkRows : Prop :=
  (∀ (t : Nat) (s x : State), x = s.advance t → x.pow.logicOn = true → 6 ≤ x.mode.step →
    (∀ (n : Fin 4) (k : Nat) (heard g : GroupHeard) (i : Bool) (z : State), x.hrxFull = true ∨ n.val = 0 →
      i = hrxPolarity n.val (x.hrxFull && decide (n.val = 0)) (x.hoist.rxInv.getLsbD n.val) heard →
      g = (if i then heardFlip heard else heard) →
      z = { x with hoist := { x.hoist with
        rxInv := if i then x.hoist.rxInv ||| BitVec.ofNat 4 (2 ^ n.val) else x.hoist.rxInv &&& ~~~(BitVec.ofNat 4 (2 ^ n.val))
        lanes := vmod x.hoist.lanes n.val (HLane.group g.headers) } } →
      (x.hoist.st ≠ .bonded ∨ (vget x.hoist.lanes n.val).lock = false ∨ (vget z.hoist.lanes n.val).lock = true → ∃ u : State,
        exec (.fecGroup t n k heard) s = .next u.finish ∧ u.store = x.store ∧ u.ports = x.ports ∧ u.hoist.rxInv = z.hoist.rxInv ∧
        (k ≤ 17 → u.hoist.corr = satAdd x.hoist.corr k ∧ u.hoist.ue = x.hoist.ue ∧ u.hoist.epoch = x.hoist.epoch ∧ u.evt = x.evt ∧
          (vget u.hoist.lanes n.val).mseq =
            if headerClass hoistTypes (heardFirst g) = some .marker then some g.mseq else (vget x.hoist.lanes n.val).mseq) ∧
        (17 < k → u.hoist.ue = satAdd x.hoist.ue 1 ∧ u.hoist.corr = x.hoist.corr ∧
          (vget u.hoist.lanes n.val).mseq = (vget x.hoist.lanes n.val).mseq ∧
          (x.hoistUp = true → u.hoist.epoch = x.hoist.epoch + 1) ∧ (x.hoistUp = false → u.hoist.epoch = x.hoist.epoch))) ∧
      (x.hoist.st = .bonded → (vget x.hoist.lanes n.val).lock = true → (vget z.hoist.lanes n.val).lock = false → k ≤ 17 →
        exec (.fecGroup t n k heard) s = .next ((z.hoistBlind 0).raise0 0x202 n.val 0).finish)) ∧
    (x.hoistUp = true → x.hoist.creditAt + 100000 ≤ x.clk.dtime → exec (.creditTimer t) s = .next x.sendCredit.finish) ∧
    ((∀ c, c < 4 → x.credBalanced c = true) → exec (.creditAudit t) s = .next x.finish) ∧
    (x.credBalanced 1 = false → (∀ c, c < 4 → c ≠ 1 → x.credBalanced c = true) →
      exec (.creditAudit t) s = .next (x.raise0 0x205 1 0).finish) ∧
    (∀ n : Fin 5, x.hoist.st = .bonded → exec (.hoistLinkdown t n) s = .next ((x.hoistBlind 0).raise0 0x202 n.val 0).finish) ∧
    (∀ c : CapRecord, x.hoist.st = .down → x.hoist.attempt = 0 → x.mode.step < 8 → exec (.capabilityRecord t c) s = .next
      (({ x with hoist := { x.hoist with st := .limp, caps := some c } } : State).event 0x209).finish) ∧
    (∀ c : CapRecord, x.hoist.st = .down → x.hoist.attempt ≠ 0 → x.hoist.retryDue.isSome = true → x.flag 0x80000 0 = true → c.version = 1 →
      c.lanes = 4 → c.rates.getLsbD 1 = true → ∃ u : State, exec (.capabilityRecord t c) s = .next u.finish ∧ u.hoist.st = .training ∧
        u.hoist.phase = 1 ∧ u.hoist.attempt = x.hoist.attempt + 1 ∧ u.hoist.trainAt = x.clk.dtime ∧ u.hoist.caps = some c) ∧
    (∀ (m : HoistTrainMsg) (c : Nat), x.hoist.st = .training → x.hoist.phase = 1 → m.phase = 1 → x.hoist.countAt = some c → x.clk.dtime < c →
      ∃ u : State, exec (.hoistTrain t 0 m) s = .next u.finish ∧ u.hoist.acked = true ∧ u.hoist.phase = 1 ∧ u.hoist.st = .training ∧
        u.hoist.countAt = some c) ∧
    (x.hoist.st = .training → x.hoist.phaseDue ≤ x.clk.dtime → exec (.hoistTrainingTimeout t) s = .next x.hoistFail.finish) ∧
    (∀ t0 : Nat, x.hoist.timeAt = some t0 → t0 + 1000000000 ≤ x.clk.dtime → exec (.hoistTimeStale t) s = .next
      (({ x with hoist := { x.hoist with timeAt := some x.clk.dtime } } : State).event 0x208).finish)) ∧
  (∀ s : State, s.hoistFail.hoist.st = .down ∧ s.hoistFail.hoist.attempt = s.hoist.attempt ∧
    (s.hoist.attempt < 3 → s.hoistFail.hoist.retryDue = some (s.clk.dtime + 2000000) ∧ s.hoistFail.hoist.gaveUp = false) ∧
    (3 ≤ s.hoist.attempt → s.hoistFail.hoist.gaveUp = true) ∧
    (∀ c : Nat, s.hoist.st = .training → s.hoist.phase = 1 → s.hoist.acked = true → s.hoist.countAt = some c → c ≤ s.clk.dtime →
      s.hoistCount.hoist.phase = 2 ∧ s.hoistCount.hoist.htxFull = true ∧ s.hoistCount.hoist.htxAt = 1000 * c ∧
      s.hoistCount.hoist.phaseDue = s.hoist.trainAt + 1100000 ∧ s.hoistCount.hrxFull = true))

/-! ### Composition, masks and scan-out -/

/-- The flip instant: without a finished composition the flip is missed and counted, and the picture stays; with one the buffers change places,
FRAMECNT advances and FLIPTIME is the instant.
The model's choices it rests on: entries 24, 93 of the assumption log. -/
def Obligations.FlipInstant : Prop :=
  ∀ (t : Nat) (s x : State) (f : Nat), x = s.advance t → x.flipDue = true → f = x.passAt x.scan.flipK →
    (x.bun.done = none → ∃ u : State, exec (.flipInstant t) s = .next u.finish ∧ u.scan.missed = x.scan.missed + 1 ∧
      u.scan.framecnt = x.scan.framecnt ∧ u.scan.front = x.scan.front ∧ u.scan.fliptime = x.scan.fliptime ∧ u.scan.flipLatched = false) ∧
    (∀ i : FrameInfo, x.bun.done = some i → exec (.flipInstant t) s = .next (x.endPass.flipTaken i f).finish) ∧
    (∀ (i : FrameInfo) (y : State), (y.flipSwap i f).scan.framecnt = (y.scan.framecnt + 1) % 2 ^ 48 ∧
      (y.flipSwap i f).scan.fliptime = f ∧ (y.flipSwap i f).scan.frontValid = true ∧ (y.flipSwap i f).scan.frame = i ∧
      (y.flipSwap i f).scan.missed = y.scan.missed ∧ (∀ c : Comp, y.bun.comp = some c → (y.flipSwap i f).scan.front = c.back))

/-- A composition: past its deadline it misses; a worker that finishes writes its tile and takes the next; one that holds a tile for more than
1 ms is excluded and its tile is handed on.
The model's choices it rests on: entries 19, 24, 93, 96 of the assumption log. -/
def Obligations.CompositionRows : Prop :=
  ∀ (t : Nat) (s x : State) (c : Comp), x = s.advance t → x.bun.comp = some c →
    (c.dead = false → x.bun.done = none → c.deadline ≤ x.clk.dtime → exec (.compositionDeadline t) s = .next
      (({ x with bun := { x.bun with comp := some { c with dead := true } } } : State).slackMissed).finish) ∧
    (∀ (w : Fin 32) (k t0 : Nat) (zs : List Zone) (r : Comp × State), vget c.workers w.val = some (k, t0) → c.zones = some zs →
      c.dead = false → x.clk.dtime ≤ c.deadline → x.bun.hungTiles = [] →
      r = x.writeTile { c with workers := vset c.workers w.val none } zs w.val k → r.1.tiles ≠ 256 → ∃ u : State,
      exec (.tileDone t w) s = .next u.finish ∧ u.store = r.2.store ∧
        u.bun.comp = some (r.1.dispatch r.2.bun.excluded r.2.clk.dtime) ∧ r.1.tiles = c.tiles + 1) ∧
    (∀ (w : Fin 32) (k t0 : Nat), vget c.workers w.val = some (k, t0) → t0 + 1000000 < x.clk.dtime → ∃ u : State,
      exec (.workerHung t w) s = .next u.finish ∧ u.bun.excluded.getLsbD w.val = true ∧ k ∈ u.bun.hungTiles ∧ u.store.mem = x.store.mem ∧
        ∃ d : Comp, u.bun.comp = some d ∧ vget d.workers w.val = none ∧
          ((∃ v t1, v < 32 ∧ v ≠ w.val ∧ vget d.workers v = some (k, t1)) ∨ k ∈ d.reissue))

/-- Scan-out: BEAM entry, once the switch test has passed, and a service task anchor it 50 µs after VCODE has reached its aim; a pass start ends the
pass in progress and begins the next, or after a stop sends DARK or KEEP and ends scan-out; retraining anchors it 200 µs after the last lane is
back, or fails 30 ms after the flip's pass.
What a pass start keeps: the index of the pass advances, lines are sent where a front buffer is valid, on the lanes that are ready, and the
tables, scales and holdings in force are those the pass is sent with.
The model's choices it rests on: entries 24, 51, 93, 110, 111 of the assumption log. -/
def Obligations.ScanRows : Prop :=
  (∀ (t : Nat) (s x : State), x = s.advance t →
    (∀ t0 : Nat, x.scan.settleAt = some t0 → x.fab.vcode = x.vaim → t0 + 50000 ≤ x.clk.dtime →
      (∃ tr : Trans, x.mode.trans = some tr ∧ tr.target = .beam ∧ x.mode.tested = true) ∨ x.mode.trans = none ∧ x.mode.cur = .service →
      exec (.scanAnchor t) s = .next x.scanStart.finish) ∧
    (x.mode.trans = none → x.scan.settleAt = none → x.mode.cur = .service → x.scan.run = false →
      exec (.scanAnchor t) s = .next x.rampUp.finish) ∧
    (x.scan.run = true → x.passAt x.scan.k ≤ x.clk.dtime → x.scan.retrain = none → x.scan.stopping = false → x.scan.k ≠ x.scan.flipK →
      exec (.passStart t) s = .next x.endPass.passBegin.finish) ∧
    (∀ (p : Nat) (y : State), x.scan.run = true → p = x.passAt x.scan.k → p ≤ x.clk.dtime → x.scan.retrain = none →
      x.scan.stopping = true → y = x.endPass → exec (.passStart t) s = .next
        (((((y.frameStart p y.quietShow false).passTake false).freezePass p false).lanesIdle).scanOff).finish) ∧
    (∀ r : Retrain, x.scan.run = true → x.passAt x.scan.k ≤ x.clk.dtime → x.scan.retrain = some r → r.opened = false →
      x.scan.stopping = false → r.flipAt < x.passAt x.scan.k → exec (.passStart t) s = .next (x.endPass.openRetrain r).finish) ∧
    (∀ (r : Retrain) (d : Nat) (z : State), x.scan.retrain = some r → r.doneAt = some d → x.scan.run = true → r.failed = false →
      d + 200000 ≤ x.clk.dtime → z = x.endPass.anchorAt (d + 200000) → exec (.retrainAnchor t) s = .next
        (((({ z with scan := { z.scan with freezeMute := true } } : State).resolveAll 0x14A).event 0x14B).anchorComp).finish) ∧
    (∀ r : Retrain, x.scan.retrain = some r → r.doneAt = none → r.failed = false → r.flipAt + r.ts + 30000000 ≤ x.clk.dtime →
      exec (.retrainTimeout t) s = .next
        (({ x with scan := { x.scan with retrain := some { r with failed := true } } } : State).raise0 0x14A 0 0).finish)) ∧
  (∀ s : State, (s.scanStart.scan.run = true ∧ s.scanStart.scan.anchor = s.clk.dtime ∧ s.scanStart.scan.k = 0 ∧ s.scanStart.scan.flipK = 2 ∧
      s.scanStart.scan.retrain = none) ∧
    s.passBegin.scan.k = s.scan.k + 1 ∧ s.passBegin.scan.curOn = true ∧ s.passBegin.scan.curLines = s.scan.frontValid ∧
    s.passBegin.scan.curScale = s.tok.scale ∧ s.passBegin.scan.curHold = s.tok.hold ∧ s.passBegin.scan.curPass = s.mask.passTbl ∧
    s.passBegin.scan.curCoarse = s.mask.coarseTbl ∧ s.passBegin.scan.fseq = s.scan.fseq + 1 ∧ s.passBegin.scan.front = s.scan.front ∧
    s.passBegin.scan.framecnt = s.scan.framecnt ∧ (s.scan.frontValid = false → s.passBegin.scan.curLanes = 0))

/-- The mask tables: the latch takes the pass table and the coarse mask to render; each is in force when it completes by 40 µs before its pass; at that
deadline an unfinished one gives way to the previous and two coarse masks in a row raise the fault; at 120 Hz the masks are compared again in the
pass.
The model's choices it rests on: entries 24, 93 of the assumption log. -/
def Obligations.MaskRows : Prop :=
  ∀ (t : Nat) (s x : State), x = s.advance t →
    (∀ (y : State) (r : List Zone × List Nat), x.scan.run = true → x.scan.stopping = false → x.scan.k ≠ x.scan.flipK →
      y = x.lateTables.countLate → r = y.render y.renderList y.mask.late y.passWindow → exec (.passLatch t) s = .next
        (({ y with mask := { y.mask with
            passList := y.renderList, passLate := y.mask.late, passWin := y.passWindow, tableDue := y.latchTiming.1 - 40000,
            rendPass := some r.1, rendCoarse := some r.1, passFresh := false, coarseFresh := false } } : State).dropZones r.2).finish) ∧
    (∀ z : List Zone, x.mask.rendPass = some z → x.clk.dtime ≤ x.mask.tableDue → x.mask.coarseFresh = false → x.mask.lateNow = true →
      exec (.tableRenderDone t .pass) s = .next
        ({ x with mask := { x.mask with passTbl := z, rendPass := none, passFresh := true } } : State).finish) ∧
    (∀ z : List Zone, x.mask.rendPass = some z → x.clk.dtime ≤ x.mask.tableDue → x.mask.coarseFresh = false → x.mask.lateNow = false →
      exec (.tableRenderDone t .pass) s = .next
        (({ x with mask := { x.mask with passTbl := z, rendPass := none, passFresh := true } } : State).resolveAll 0x102).finish) ∧
    (∀ z : List Zone, x.mask.rendComp = some z → x.bun.comp = none → exec (.tableRenderDone t .composition) s = .next
      ({ x with mask := { x.mask with compTbl := z, rendComp := none } } : State).finish) ∧
    (∀ z : List Zone, x.mask.rendCoarse = some z → x.clk.dtime ≤ x.mask.tableDue → x.mask.passFresh = false →
      exec (.tableRenderDone t .coarse) s = .next
        (({ x with mask := { x.mask with coarseTbl := z, rendCoarse := none, coarseFresh := true, glate := 0 } } : State).resolveAll
          0x104).finish) ∧
    (∀ z : List Zone, x.mask.rendPass = none → x.mask.rendCoarse = some z → x.mask.tableDue ≤ x.clk.dtime → ∀ y : State,
      y = ({ x with mask := { x.mask with rendCoarse := none, glate := x.mask.glate + 1 } } : State) →
      (x.mask.glate = 0 → exec (.maskTableDeadline t) s = .next y.finish) ∧
      (1 ≤ x.mask.glate → exec (.maskTableDeadline t) s = .next (y.raise0 0x104 0 0).finish)) ∧
    (∀ z : List Zone, x.mask.rendPass = some z → x.mask.tableDue ≤ x.clk.dtime → x.mask.rendCoarse = none → x.mask.lateNow = true →
      exec (.maskTableDeadline t) s = .next (({ x with mask := { x.mask with rendPass := none } } : State).event 0x106).finish) ∧
    (x.scan.run = true → x.scan.refresh = 120 → 0 < x.scan.k → (∀ r : Retrain, x.scan.retrain = some r → r.opened = false) →
      ∃ (u : State) (z : List Zone), exec (.midPassCompare t) s = .next u.finish ∧
      u.mask = { x.mask with disc := disagreeing z z (x.fld 0x40002 1 0) } ∧
      z = (x.render x.mask.passList x.mask.passLate x.mask.passWin).1)

/-- A token latch keeps the sum: where the bases total 1,024, the pool and the holdings total 1,024 after it; the demands and holdings are those
of the allocation under the effective budget, and a segment whose demand is held in full is not scaled.
The model's choices it rests on: entries 5, 24 of the assumption log. -/
def Obligations.TokenLatch : Prop :=
  ∀ (t : Nat) (s x : State), x = s.advance t → x.scan.run = true → x.scan.stopping = false → ∃ u : State,
    exec (.tokenLatch t) s = .next u.finish ∧ u.tok.effbud = x.effBudget ∧
    (∀ n : Fin 16, vget u.tok.demand n.val = demandTok x.effBudget (x.demandOf x.comingFrame n.val)) ∧
    (∀ n : Fin 16, vget u.tok.demand n.val ≤ vget u.tok.hold n.val → vget u.tok.scale n.val = 65536) ∧
    (((List.range 16).map (fun n => x.fld (0xF0010 + n) 10 0)).sum = 1024 → u.tok.pool + u.tok.hold.toList.sum = 1024) ∧
    u.scan = x.scan ∧ u.store = x.store ∧ u.mask = x.mask

/-- Underruns and the echo: an underrun counts, taints its pass and raises; a pass that is still waited for at its deadline is skipped; a lane
without a good comparison for its bound has lost its echo; a pass of the LIMP base layer starts a frame at 60 Hz, KEEP in the first and NEXT after it, and makes the ready lanes
ACTIVE.
The model's choices it rests on: entries 19, 24, 51, 120 of the assumption log. -/
def Obligations.PassFaultRows : Prop :=
  ∀ (t : Nat) (s x : State), x = s.advance t →
    (∀ (n : Fin 16) (l p : Byte), x.scan.run = true → x.scan.curOn = true → x.scan.curRead.getLsbD n.val = true → ∃ u : State,
      exec (.readUnderrun t n l p) s = .next u.finish ∧ (vget u.scan.segs n.val).undercnt = satAdd (vget x.scan.segs n.val).undercnt 1 ∧
      (vget u.scan.segs n.val).taintNow = true ∧
      (vget u.scan.segs n.val).under = (vget x.scan.segs n.val).under ++ [(l.toNat, p.toNat)] ∧ u.scan.underNow = true ∧
      u.store = x.store ∧ u.fly = x.fly) ∧
    (∃ u : State, exec (.echoDeadline t) s = .next u.finish ∧ ∀ n, n < 16 →
      (∀ (f : Half) (c : Word) (d : Nat), (vget x.scan.segs n).wait = some (f, c, d) →
        (d ≤ x.clk.dtime → (vget u.scan.segs n).wait = none ∧
          (vget u.scan.segs n).echoskip = satAdd (vget x.scan.segs n).echoskip 1) ∧
        (x.clk.dtime < d → vget u.scan.segs n = vget x.scan.segs n)) ∧
      ((vget x.scan.segs n).wait = none → vget u.scan.segs n = vget x.scan.segs n)) ∧
    (∀ (n : Fin 16) (t0 ts : Nat), (vget x.scan.segs n.val).goodAt = some t0 → x.scan.run = true → x.scan.retrain = none →
      x.laneEn n.val = true → ts = x.passAt (x.scan.k + 1) - x.passAt x.scan.k → t0 + max 12000000 (2 * ts + 1000000) < x.clk.dtime →
      exec (.echoLostTimeout t n) s = .next (x.raise0 0x146 n.val 0).finish) ∧
    (∀ a k : Nat, (a, k) = x.scan.limp.getD (x.clk.dtime, 0) → x.limpBase = true → x.ens.ovr = false →
      (passTime a 60 k ≤ x.clk.dtime → ∃ u : State, exec (.limpBaseLayerPass t) s = .next u.finish ∧ u.scan.fseq = x.scan.fseq + 1 ∧
        u.scan.limp = some (a, k + 1) ∧ u.store.mem = x.store.mem ∧ (∀ n, n < 16 → x.laneReady n = true →
          (vget u.fly n).st = .active ∧ (vget u.fly n).lastShow = (if x.scan.limp.isNone then .keep else .next))) ∧
      (x.clk.dtime < passTime a 60 k → exec (.limpBaseLayerPass t) s = .next x.finish))

/-! ### The policies, the recorder and the store -/

/-- The converter: one of a temperature channel gives the channel its value and its requesters their
count, and clears their requests; after twice its time it is stuck; the policies ask for their channels.
Throttling: ENF rises to the level that TGT has held for the grace, relaxes by one level per period while TGT is below it, rises with the
junction each second at 135 °C, and to Guidon's target where it lags that for the grace and 1 s.
A sensor: one whose
conversion fails is broken at once; a broken one takes its hottest good neighbour's value and 8 K, or its limit; the level follows the value; one
that agrees with its neighbours stays good.
The model's choices it rests on: entries 19, 24, 45, 46, 93 of the assumption log. -/
def Obligations.ThermalRows : Prop :=
  (∀ (t : Nat) (s x : State), x = s.advance t →
    (∀ (v : Conv) (raw : Nat) (k : Int), x.thm.conv = some v → 12 ≤ v.ch → v.ch < 14 → v.gdn = false → v.host = false → v.policy = true →
      x.pow.logicOn = true → x.thm.pendHost = 0 → x.thm.pendPol = BitVec.ofNat 14 (2 ^ v.ch) → x.thm.pendGdn = 0 → x.cal.run = none →
      (vget x.thm.ch v.ch).broken = false → (vget x.thm.ch v.ch).disagree < x.fld 0xC0002 17 16 →
      ∃ u : State, exec (.conversionDone t raw k) s = .next u.finish ∧ u.thm.conv = none ∧ (vget u.thm.ch v.ch).temp = k ∧
        (vget u.thm.ch v.ch).state = 0 ∧ u.thm.nPol = x.thm.nPol + 1 ∧ u.thm.nHost = x.thm.nHost ∧ u.thm.nGdn = x.thm.nGdn ∧
        u.thm.pendPol = 0) ∧
    (∀ v : Conv, x.thm.conv = some v → v.ch = 14 → v.startAt + 2 * v.dur ≤ x.clk.now → exec (.conversionTimeout t) s = .next
      (((x.raise0 0x307 14 0).setThm (fun h => { h with conv := none })).convStart).finish) ∧
    (x.mode.cur = .ready → x.pow.logicOn = true → exec (.thermalPolicyTick t true) s = .next
      ((x.setThm (fun h => { h with pendGdn := 0x3FFF, gdnAt := x.clk.dtime })).convStart).finish) ∧
    (x.mode.cur = .ready → x.pow.logicOn = true → x.thm.policyAt + 100000000 ≤ x.clk.dtime → exec (.thermalPolicyTick t false) s = .next
      ((x.setThm (fun h => { h with pendPol := 0xFFF, policyAt := x.clk.dtime })).convStart).finish)) ∧
  (∀ (t : Nat) (s x : State), x = s.advance t →
    (x.thm.enf < x.heldLevel → exec (.enfGraceExpiry t) s = .next (((({ x with thm := { x.thm with
        enf := x.heldLevel, enfAt := x.clk.dtime, belowAt := none } } : State).raise0 0x301 0 x.heldLevel).budgetMoved).relaxMark).finish) ∧
    (x.heldLevel ≤ x.thm.enf → exec (.enfGraceExpiry t) s = .next x.relaxMark.finish) ∧
    (∀ (t0 : Nat), x.thm.belowAt = some t0 → max t0 x.thm.enfAt + x.fld 0xC0000 13 8 * 1000000000 ≤ x.clk.dtime →
      x.thm.floor = none → 1 < x.thm.enf → exec (.enfRelax t) s = .next
        ((((x.setThm (fun h => { h with enf := h.enf - 1, enfAt := x.clk.dtime })).event 0x308).budgetMoved).relaxMark).finish) ∧
    (∀ t0 : Nat, x.thm.tjAt = some t0 → t0 + 1000000000 ≤ x.clk.dtime → x.thm.tjHot = true → ∃ u : State,
      exec (.tjSecond t) s = .next u.finish ∧ u.thm.tjLvl = min 7 (x.thm.tjLvl + 1) ∧ u.thm.tjAt = some (t0 + 1000000000) ∧
      u.thm.tjLvl ≤ u.thm.enf ∧ u.thm.tjLvl ≤ u.thm.tgt) ∧
    (∀ t0 : Nat, x.thm.gdnLagAt = some t0 → t0 + x.guidonView.enfGrace + 1000000000 ≤ x.clk.dtime → exec (.guidonThermalOverride t) s = .next
      ((((x.setThm (fun h => { h with xcheck := h.xcheck ||| 0x4000 })).raise0 0x306 14 0).riseEnf x.thm.gdnTgt).relaxMark).finish)) ∧
  (∀ (t : Nat) (s x : State) (v : Conv) (raw : Nat) (k : Int), x = s.advance t → x.thm.conv = some v → v.ch < 14 →
    exec (.conversionDone t raw k) s = .next (((x.convEnd v (convState v.ch raw) (x.scaledTemp v raw k)).convStart).finish)) ∧
  (∀ s : State, (s.thermalBudget = s.tok.thbud → s.budgetMoved = s) ∧ (s.thermalBudget ≠ s.tok.thbud →
    s.budgetMoved = ({ s with tok := { s.tok with thbud := s.thermalBudget } } : State).event 0x3CA)) ∧
  (∀ (s : State) (w : Vector ThermCh 14) (c st : Nat) (k : Int) (y : ThermCh), y = s.sensed w c st k →
    (st ≠ 0 → y.broken = true ∧ y.agree = 0) ∧ y.state = b2n y.broken ∧ (y.broken = false → y.temp = k) ∧
    (c < 12 → y.broken = true → s.goodNeighbours w c = [] → y.temp = s.tlim c) ∧
    (∀ m : Int, y.broken = true → maxInt? (s.goodNeighbours w c) = some m → y.temp = m + 8 * 16) ∧
    (12 ≤ c → y.lvl = 0) ∧ (c < 12 → y.rateHot = false → y.temp < s.tstart c → y.lvl = 0) ∧
    (c < 12 → y.rateHot = false → s.tstart c ≤ y.temp → s.tlim c ≤ y.temp → y.lvl = 7) ∧
    (c < 12 → y.rateHot = false → s.tstart c ≤ y.temp → y.temp < s.tlim c →
      y.lvl = min 7 (8 * (y.temp - s.tstart c) / (s.tlim c - s.tstart c) + 1).toNat) ∧
    (∀ m : Int, c < 12 → st = 0 → (vget w c).broken = false → median (s.goodNeighbours w c) = some m →
      (k - m).natAbs ≤ 16 * (if c < 8 then s.fld 0xC0002 7 0 else s.fld 0xC0002 15 8) → 0 < s.fld 0xC0002 17 16 →
      y.broken = false ∧ y.disagree = 0))

/-- The fabric: 100 ms after a fall the margin is the wanted one; VREQ moves one code toward its aim; FIRC's error is kept while the crystal runs;
the slowest ring gives the speed.
Calibration's bank: a row burned is four bytes of its record, then the next row; the eighth ends the run with the record in force. A row that an ended run left behind a new one ends alone.
The model's choices it rests on: entries 7, 19, 21, 24, 47, 90 of the assumption log. -/
def Obligations.FabricRows : Prop :=
  (∀ (t : Nat) (s x : State), x = s.advance t →
    (∀ t0 : Nat, x.fab.marginAt = some t0 → t0 + 100000000 ≤ x.clk.dtime → exec (.marginDecrease t) s = .next
      ({ x with fab := { x.fab with margin := x.wantMargin, marginAt := none } } : State).finish) ∧
    (x.pow.logicOn = true → x.fab.stepAt + 50000 ≤ x.clk.dtime → x.fab.vcode ≠ x.vaim → ∃ u : State,
      exec (.vreqStep t) s = .next u.finish ∧ u.fab.stepAt = x.clk.dtime ∧
      (x.fab.vcode < x.vaim → u.fab.vcode = x.fab.vcode + 1) ∧ (x.vaim < x.fab.vcode → u.fab.vcode = x.fab.vcode - 1) ∧
      u.fab.vtarget = x.fab.vtarget) ∧
    (∀ e : Int, x.clk.tbXtal = true → exec (.fircMeasure t e) s = .next
      ({ x with fab := { x.fab with firc := e, fircOk := true, fircAt := x.clk.dtime } } : State).finish) ∧
    (∀ cyc : Vector Half 24, x.auto = false → ∃ u : State, exec (.canaryMeasure t cyc) s = .next u.finish ∧
      u.fab.canaryAt = x.clk.dtime ∧ u.fab.speed = u.fab.canary.toList.foldl (fun m c => min m c.2) 4095 ∧
      (∀ i : Fin 24, (vget u.fab.canary i.val).1 = (vget cyc i.val).toNat) ∧ u.fab.vtarget = x.fab.vtarget)) ∧
  (∀ (t : Nat) (s x : State) (r : CalRun) (k : Nat), x = s.advance t → x.cal.ending = some r → r.row = some k → r.record < 32 → ∃ u : State,
    exec (.fuseRowDone t) s = .next u.finish ∧ u.cal.ending = none ∧ u.cal.run = x.cal.run ∧
    vget u.cal.bank r.record = putBytes (4 * k) ((r.bytes.drop (4 * k)).take 4) (vget x.cal.bank r.record) ∧
    u.cal.ramOnly = decide (k < 7) ∧ u.cal.src = (if k < 7 then 2 else 1)) ∧
  (∀ (t : Nat) (s x : State) (r : CalRun) (k : Nat), x = s.advance t → x.cal.ending = none → x.cal.run = some r → r.row = some k →
    r.record < 32 →
    (k < 7 → ∃ u : State, exec (.fuseRowDone t) s = .next u.finish ∧
      vget u.cal.bank r.record = putBytes (4 * k) ((r.bytes.drop (4 * k)).take 4) (vget x.cal.bank r.record) ∧
      (∀ n, n < 32 → n ≠ r.record → vget u.cal.bank n = vget x.cal.bank n)) ∧
    (7 ≤ k → r.ended = true → ∃ u : State, exec (.fuseRowDone t) s = .next u.finish ∧ u.cal.run = none ∧ u.cal.record = r.record ∧
      u.cal.src = 1 ∧ u.cal.ramOnly = false))

/-- The recorder's queue: the oldest entry leaves it; a full store counts it in FULLDROP, a code without a token in RLIMIT; else it is stored. A
token comes back after the refill time; the fourth ends the bucket.
The model's choices it rests on: entry 24 of the assumption log. -/
def Obligations.QueueRows : Prop :=
  ∀ (t : Nat) (s x : State), x = s.advance t →
    (x.evt.queue = [] → exec (.eventQueueExit t) s = .next x.finish) ∧
    (∀ (e : Entry) (q : List Entry), x.evt.queue = e :: q →
      (x.evt.full = true → ∃ u : State, exec (.eventQueueExit t) s = .next u.finish ∧ u.evt.fulldrop = x.evt.fulldrop + 1 ∧
        u.evt.store = x.evt.store ∧ u.evt.rlimit = x.evt.rlimit) ∧
      (x.evt.full = false → e.free = false → x.evt.tokens e.code = 0 → ∃ u : State, exec (.eventQueueExit t) s = .next u.finish ∧
        u.evt.rlimit = x.evt.rlimit + 1 ∧ u.evt.limcode = e.code ∧ u.evt.store = x.evt.store ∧ u.evt.fulldrop = x.evt.fulldrop) ∧
      (x.evt.full = false → e.free = false → 0 < x.evt.tokens e.code → ∃ (u : State) (f : Entry),
        exec (.eventQueueExit t) s = .next u.finish ∧ (∃ tail, u.evt.store = x.evt.store ++ f :: tail) ∧ f.code = e.code ∧
        f.data = e.data ∧ u.evt.rlimit = x.evt.rlimit)) ∧
    (∀ (code : BitVec 12) (b : Bucket), x.evt.buckets = [b] → b.code = code.toNat → b.since + x.refillNs ≤ x.clk.dtime →
      (b.tokens < 3 → exec (.bucketRefill t code) s = .next
        ({ x with evt := { x.evt with buckets := [{ b with tokens := b.tokens + 1, since := x.clk.dtime }] } } : State).finish) ∧
      (b.tokens = 3 → exec (.bucketRefill t code) s = .next ({ x with evt := { x.evt with buckets := [] } } : State).finish))

/-- At each queue exit the recorder checks its balance over the counters as they are after the exit: a mismatch raises EVT_BALANCE.
What follows in `finish` is ordered by the model (entry 24 of the assumption log); no clause of the rule rests on it. -/
def Obligations.BalanceChecked : Prop :=
  ∀ (t : Nat) (s x : State) (e : Entry) (l : List Entry), x = s.advance t → x.evt.queue = e :: l → ∃ z : State,
    z.evt.queue = l ∧ z.flt = x.flt ∧
    (z.evt.raised = BitVec.ofNat 32 z.evt.store.length + z.evt.rlimit + z.evt.fulldrop + z.evt.qovf + BitVec.ofNat 32 z.evt.queue.length →
      exec (.eventQueueExit t) s = .next (z.resolve 0x2C1 0).finish) ∧
    (z.evt.raised ≠ BitVec.ofNat 32 z.evt.store.length + z.evt.rlimit + z.evt.fulldrop + z.evt.qovf + BitVec.ofNat 32 z.evt.queue.length →
      exec (.eventQueueExit t) s = .next (z.raise0 0x2C1 0 0).finish)

/-- The store's port: a slot grants by Table 3.2; a write stores the bytes its mask selects and no other byte of the store changes, a read
changes none, and gives zero in every group that it cannot correct; a write of the background test in its own region reaches neither the store
that the others see nor the saved copy; before CLRDONE nothing is granted; a write by scan-out or Fly and a read by
Hoist are no requests of the table, and are a fault of the model.
The model's choices it rests on: entries 9, 16, 24, 25, 107, 108 of the assumption log. -/
def Obligations.StoreAccessRows : Prop :=
  ∀ (t : Nat) (s x : State), x = s.advance t →
    (∀ (l : List StoreReq) (e : List (Fin 16 × EccResult)),
      (∃ r, r ∈ l ∧ (r.write = true ∧ (r.who = .scan ∨ r.who = .flyLine) ∨ r.write = false ∧ r.who = .hoist)) →
      exec (.storeAccess t l e) s = .fault .wrongAccess) ∧
    (∀ (l : List StoreReq) (e : List (Fin 16 × EccResult)), wrongAccess l = false → x.store.clrDone = false →
      exec (.storeAccess t l e) s = .next x.finish) ∧
    (∀ (r : StoreReq) (e : List (Fin 16 × EccResult)), x.memOk = true → x.store.clrDone = true → r.who = .hoist → r.write = true → ∃ u : State,
      exec (.storeAccess t [r] e) s = .next u.finish ∧ u.store.arb.lastGrant = some 3 ∧
      (∀ i, i < 128 → u.storeByte (128 * r.word.toNat + i) =
        if r.mask.getLsbD i then r.data.extractLsb' (8 * i) 8 else x.storeByte (128 * r.word.toNat + i)) ∧
      (∀ a, a < 128 * r.word.toNat ∨ 128 * r.word.toNat + 128 ≤ a → u.storeByte a = x.storeByte a)) ∧
    (∀ (r : StoreReq) (e : List (Fin 16 × EccResult)), x.store.clrDone = true → r.who = .background → r.write = true →
      x.inTest r = true → x.store.scrub = [] → ∃ u : State, exec (.storeAccess t [r] e) s = .next u.finish ∧
      u.store.arb.lastGrant = some 5 ∧ u.store.mem = x.store.mem ∧ u.store.bistSave = x.store.bistSave) ∧
    (∀ (r : StoreReq) (e : List (Fin 16 × EccResult)), x.store.clrDone = true → r.who = .halyard → r.write = false →
      vget x.store.arb.grants 4 < 8 → ∃ u : State, exec (.storeAccess t [r] e) s = .next u.finish ∧ u.store.mem = x.store.mem ∧
      (e = [] → u.store.arb.lastRead = BitVec.ofNat 1024 (ofLe (sparseBytes x.store.mem (128 * r.word.toNat) 128))) ∧
      (∀ g : Fin 16, (g, EccResult.uncorrectable) ∈ e → ∀ i, i < 64 → u.store.arb.lastRead.getLsbD (64 * g.val + i) = false))

/-- The background test and the checks of content: a region starts from a copy of it and ends restored; a lease check compares the CRC of the
surface's bytes; a ceiling map is in force once its CRC is right.
The model's choices it rests on: entries 24, 48, 88, 93 of the assumption log. -/
def Obligations.StoreCheckRows : Prop :=
  ∀ (t : Nat) (s x : State), x = s.advance t →
    (∀ (r : Nat) (m : List Host.Cell), x.bistRuns = true → x.store.bistActive = false → r = x.store.bistRegion →
      m = memPut x.store.mem (4096 * r) (sparseBytes (x.memSeen 5) (4096 * r) 4096) → exec (.bistRegionStart t) s = .next
      ({ x with store := { x.store with
          bistActive := true, bistAt := x.clk.dtime, mem := m, bistSave := regionCells m r, bistArr := regionCells m r
          zeroed := x.store.zeroed.filter (fun p => !(p.1 == 5 && inRegion r (8 * p.2))) } } : State).finish) ∧
    (∀ b : Bool, x.store.bistActive = true → ∃ u : State, exec (.bistRegionDone t none b) s = .next u.finish ∧
      u.store.bistActive = false ∧ u.store.bistRegion = (x.store.bistRegion + 1) % 8192 ∧
      u.store.bistPass = (if x.store.bistRegion = 8191 then satAdd x.store.bistPass 1 else x.store.bistPass)) ∧
    (∀ (w : Fin 32) (g : Fin 16), x.store.bistActive = true → ∃ u : State, exec (.bistRegionDone t (some (w, g)) true) s = .next u.finish ∧
      u.store.bistActive = false ∧ x.store.bistRegion ∈ u.store.bistHard) ∧
    (∀ (w : Fin 32) (g : Fin 16), x.store.bistActive = true → ∃ u : State, exec (.bistRegionDone t (some (w, g)) false) s = .next u.finish ∧
      u.store.bistActive = false ∧ u.store.bistHard = x.store.bistHard.filter (fun k => k != x.store.bistRegion)) ∧
    (∀ (n : Fin 128) (q : List (Fin 128)) (f : Surface) (id : ReqId) (got : Word), x.store.checkQ = n :: q → x.hoist.cur = none →
      x.chk.armed = none → f = x.surf n.val → f.req = some id →
      got = crc32 (BitVec.ofNat 32 f.base) (sparseBytes (x.memSeen 4) (128 * f.base) f.bytes) →
      (f.crc = got → ∃ u : State, exec (.leaseCheckDone t) s = .next u.finish ∧ (u.surf n.val).st = .leased ∧
        (u.surf n.val).req = none ∧ u.store.granted = x.store.granted + 1 ∧ u.store.mem = x.store.mem) ∧
      (f.crc ≠ got → ∃ u : State, exec (.leaseCheckDone t) s = .next (u.answer id stCrcMismatch []).finish ∧
        (u.surf n.val).st = .complete ∧ (u.surf n.val).req = none ∧ u.store.granted = x.store.granted)) ∧
    (∀ id : ReqId, x.mask.ceilRun = some id →
      (x.ceilCrcNow = x.mask.ceilCrc → exec (.ceilingLoadDone t) s = .next
        ((({ x with mask := { x.mask with ceilRun := none, ceilOk := true } } : State).event 0x108).answer id stOk []).finish) ∧
      (x.ceilCrcNow ≠ x.mask.ceilCrc → exec (.ceilingLoadDone t) s = .next
        (({ x with mask := { x.mask with ceilRun := none, ceilOk := false } } : State).answer id stCrcMismatch []).finish)) ∧
    (x.mode.cur = .service → x.mask.ceilLoaded = true → x.mask.ceilRun = none →
      (x.ceilCrcNow = x.mask.ceilCrc → exec (.ceilingCrcCheck t) s = .next (x.resolveAll 0x105).finish) ∧
      (x.ceilCrcNow ≠ x.mask.ceilCrc → exec (.ceilingCrcCheck t) s = .next
        (({ x with mask := { x.mask with ceilOk := false } } : State).raise0 0x105 0 0).finish))


/-- A March mismatch: when the re-run passes there is the event, and no word is latched; when it fails the word and group are latched unless
HARD already is, HARD is set and the memory fault is active; a good pass of another region leaves that fault as it is, one of the last region that
fails resolves it.
What follows in `finish` is ordered by the model (entry 24 of the assumption log); no clause of the rule rests on it. -/
def Obligations.BistMismatch : Prop :=
  ∀ (t : Nat) (s x : State) (r : Nat), x = s.advance t → x.store.bistActive = true → r = x.store.bistRegion →
    (∀ (w : Fin 32) (g : Fin 16), ∃ z : State, exec (.bistRegionDone t (some (w, g)) false) s = .next (z.event 0x083).finish ∧
      z.store.bistFail = x.store.bistFail) ∧
    (∀ (w : Fin 32) (g : Fin 16), ∃ u : State, exec (.bistRegionDone t (some (w, g)) true) s = .next u.finish ∧
      r ∈ u.store.bistHard ∧ u.flag 0x20004 23 = true ∧
      (x.flag 0x20004 23 = false → u.store.bistFail = BitVec.ofNat 32 (32 * r + w.val + 2 ^ 18 * g.val + 2 ^ 22)) ∧
      ∃ a, a ∈ u.flt.active ∧ a.code = 0x084 ∧ a.conds ≠ []) ∧
    (∀ b : Bool, ∃ u : State, exec (.bistRegionDone t none b) s = .next u.finish ∧
      ((∃ k, k ∈ x.store.bistHard ∧ k ≠ r) → u.flt = x.flt) ∧
      ((∀ k, k ∈ x.store.bistHard → k = r) → ∀ a, a ∈ u.flt.active → a.code = 0x084 → a.conds = []))
end

