-- ==== Sys2Proof/Laws/Memory.lean ====
section
/-! SUPPORT. The sparse lists that hold the store: reading after writing, and the canonical form. -/

namespace Sys2Proof.Machine

/-- An address above a bound stays above a smaller one. -/
theorem sparseAbove_mono {α : Type} {a b : Nat} {l : List (Nat × α)} (hab : a ≤ b) (h : sparseAbove b l = true) : sparseAbove a l = true := by
  cases l with
  | nil => rfl
  | cons x t => simp only [sparseAbove, decide_eq_true_eq] at h ⊢; omega

/-- In a canonical list every address is above what the head's bound says. -/
theorem sparseWf_lt {α : Type} [DecidableEq α] {d : α} {a : Nat} {l : List (Nat × α)} (h : sparseWf d l = true) (ha : sparseAbove a l = true)
    {x : Nat × α} (hx : x ∈ l) : a < x.1 := by
  induction l generalizing a with
  | nil => cases hx
  | cons y t ih =>
    simp only [sparseWf, Bool.and_eq_true, decide_eq_true_eq] at h
    simp only [sparseAbove, decide_eq_true_eq] at ha
    rcases List.mem_cons.1 hx with rfl | hx
    · exact ha
    · exact Nat.lt_trans ha (ih h.2 h.1.2 hx)

/-- A list is canonical when its values are not `d` and its addresses rise. -/
theorem sparseWf_iff {α : Type} [DecidableEq α] {d : α} {l : List (Nat × α)} :
    sparseWf d l = true ↔ (∀ x ∈ l, x.2 ≠ d) ∧ l.Pairwise (fun x y => x.1 < y.1) := by
  induction l with
  | nil => simp [sparseWf]
  | cons y t ih =>
    constructor
    · intro h
      have h' := h
      simp only [sparseWf, Bool.and_eq_true, decide_eq_true_eq] at h
      obtain ⟨⟨hy, ha⟩, ht⟩ := h
      refine ⟨fun x hx => ?_, List.pairwise_cons.2 ⟨fun x hx => sparseWf_lt ht ha hx, (ih.1 ht).2⟩⟩
      rcases List.mem_cons.1 hx with rfl | hx
      · exact hy
      · exact (ih.1 ht).1 x hx
    · rintro ⟨hd, hp⟩
      have hp := List.pairwise_cons.1 hp
      simp only [sparseWf, Bool.and_eq_true, decide_eq_true_eq]
      refine ⟨⟨hd y (List.mem_cons_self ..), ?_⟩, ih.2 ⟨fun x hx => hd x (List.mem_cons_of_mem _ hx), hp.2⟩⟩
      cases t with
      | nil => rfl
      | cons z u => simpa [sparseAbove] using hp.1 z (List.mem_cons_self ..)

/-- The cells of bytes lie where the bytes do, and none is zero. -/
theorem cellsOf_bounds {a : Nat} {bs : List Byte} {x : Nat × Byte} (h : x ∈ cellsOf a bs) : a ≤ x.1 ∧ x.1 < a + bs.length ∧ x.2 ≠ 0 := by
  induction bs generalizing a with
  | nil => simp [cellsOf] at h
  | cons b t ih =>
    simp only [cellsOf] at h
    split at h
    · obtain ⟨h1, h2, h3⟩ := ih h
      simp only [List.length_cons]; exact ⟨by omega, by omega, h3⟩
    · rcases List.mem_cons.1 h with rfl | h
      · simp only [List.length_cons]; exact ⟨by simp, by simp, by assumption⟩
      · obtain ⟨h1, h2, h3⟩ := ih h
        simp only [List.length_cons]; exact ⟨by omega, by omega, h3⟩

theorem cellsOf_pairwise (a : Nat) (bs : List Byte) : (cellsOf a bs).Pairwise (fun x y => x.1 < y.1) := by
  induction bs generalizing a with
  | nil => simp [cellsOf]
  | cons b t ih =>
    simp only [cellsOf]
    split
    · exact ih _
    · exact List.pairwise_cons.2 ⟨fun x hx => (cellsOf_bounds hx).1, ih _⟩

/-- Writing bytes keeps the canonical form. -/
theorem memPut_wf {l : List (Nat × Byte)} (a : Nat) (bs : List Byte) (h : sparseWf 0 l = true) : sparseWf 0 (memPut l a bs) = true := by
  rw [sparseWf_iff] at h ⊢
  obtain ⟨hd, hp⟩ := h
  unfold memPut
  refine ⟨fun x hx => ?_, List.pairwise_append.2 ⟨hp.sublist List.filter_sublist, List.pairwise_append.2
    ⟨cellsOf_pairwise .., hp.sublist List.filter_sublist, fun x hx y hy => ?_⟩, fun x hx y hy => ?_⟩⟩
  · simp only [List.mem_append, List.mem_filter] at hx
    rcases hx with ⟨hx, -⟩ | hx | ⟨hx, -⟩
    · exact hd x hx
    · exact (cellsOf_bounds hx).2.2
    · exact hd x hx
  · have := cellsOf_bounds hx
    simp only [List.mem_filter, decide_eq_true_eq] at hy
    omega
  · simp only [List.mem_filter, decide_eq_true_eq] at hx
    simp only [List.mem_append, List.mem_filter, decide_eq_true_eq] at hy
    rcases hy with hy | hy
    · have := cellsOf_bounds hy; omega
    · omega

/-- Reading a list whose addresses all miss. -/
theorem sparseGet_miss {α : Type} {d : α} {l : List (Nat × α)} {a : Nat} (h : ∀ x ∈ l, x.1 ≠ a) : sparseGet d l a = d := by
  induction l with
  | nil => rfl
  | cons y t ih =>
    simp only [sparseGet]
    rw [if_neg (fun e => h y (List.mem_cons_self ..) e.symm)]
    exact ih (fun x hx => h x (List.mem_cons_of_mem _ hx))

/-- Reading two lists one after the other. -/
theorem sparseGet_append {α : Type} {d : α} {l k : List (Nat × α)} {a : Nat} (h : ∀ x ∈ l, x.1 ≠ a) :
    sparseGet d (l ++ k) a = sparseGet d k a := by
  induction l with
  | nil => rfl
  | cons y t ih =>
    simp only [List.cons_append, sparseGet]
    rw [if_neg (fun e => h y (List.mem_cons_self ..) e.symm)]
    exact ih (fun x hx => h x (List.mem_cons_of_mem _ hx))

theorem sparseGet_append_hit {α : Type} {d : α} {l k : List (Nat × α)} {a : Nat} (h : ∀ x ∈ k, x.1 ≠ a) :
    sparseGet d (l ++ k) a = sparseGet d l a := by
  induction l with
  | nil => exact sparseGet_miss h
  | cons y t ih => simp only [List.cons_append, sparseGet, ih]

theorem sparseGet_filter {α : Type} {d : α} {l : List (Nat × α)} {a : Nat} (p : Nat → Bool) (h : p a = true) :
    sparseGet d (l.filter (fun x => p x.1)) a = sparseGet d l a := by
  induction l with
  | nil => rfl
  | cons y t ih =>
    simp only [List.filter_cons]
    split
    · simp only [sparseGet, ih]
    · have : a ≠ y.1 := by rintro rfl; contradiction
      simp only [sparseGet, if_neg this, ih]

/-- What the cells of bytes hold. -/
theorem sparseGet_cellsOf (a : Nat) (bs : List Byte) (i : Nat) (h : i < bs.length) : sparseGet 0 (cellsOf a bs) (a + i) = bs[i] := by
  induction bs generalizing a i with
  | nil => simp at h
  | cons b t ih =>
    cases i with
    | zero =>
      simp only [cellsOf, Nat.add_zero, List.getElem_cons_zero]
      split
      · rename_i hb; rw [hb]; exact sparseGet_miss (fun x hx => by have := cellsOf_bounds hx; omega)
      · simp [sparseGet]
    | succ i =>
      have := ih (a + 1) i (by simpa using h)
      simp only [cellsOf, List.getElem_cons_succ]
      rw [show a + (i + 1) = a + 1 + i by omega]
      split
      · exact this
      · simp only [sparseGet]; rw [if_neg (by omega)]; exact this

/-- A byte written is read back. -/
theorem memPut_read (l : List (Nat × Byte)) (a : Nat) (bs : List Byte) (i : Nat) (h : i < bs.length) :
    sparseGet 0 (memPut l a bs) (a + i) = bs[i] := by
  unfold memPut
  rw [sparseGet_append (fun x hx => by simp only [List.mem_filter, decide_eq_true_eq] at hx; omega),
    sparseGet_append_hit (fun x hx => by simp only [List.mem_filter, decide_eq_true_eq] at hx; omega)]
  exact sparseGet_cellsOf a bs i h

/-- Every other byte reads as before. -/
theorem memPut_frame (l : List (Nat × Byte)) (a : Nat) (bs : List Byte) (x : Nat) (h : x < a ∨ a + bs.length ≤ x) :
    sparseGet 0 (memPut l a bs) x = sparseGet 0 l x := by
  have hc : ∀ y ∈ cellsOf a bs, y.1 ≠ x := fun y hy => by have := cellsOf_bounds hy; omega
  unfold memPut
  rcases h with h | h
  · rw [sparseGet_append_hit (fun y hy => by
      rcases List.mem_append.1 hy with hy | hy
      · exact hc y hy
      · simp only [List.mem_filter, decide_eq_true_eq] at hy; omega)]
    exact sparseGet_filter (fun n => decide (n < a)) (by simpa using h)
  · rw [sparseGet_append (fun y hy => by simp only [List.mem_filter, decide_eq_true_eq] at hy; omega), sparseGet_append hc]
    exact sparseGet_filter (fun n => decide (a + bs.length ≤ n)) (by simpa using h)

/-- Setting one entry keeps the canonical form. -/
theorem sparseSet_above {α : Type} [DecidableEq α] {d : α} {l : List (Nat × α)} {a b : Nat} (v : α) (h : sparseAbove b l = true) (hb : b < a) (hw : sparseWf d l = true) :
    sparseAbove b (sparseSet d l a v) = true := by
  cases l with
  | nil => simp only [sparseSet]; split <;> simp [sparseAbove, hb]
  | cons y t =>
    have hy : b < y.1 := by simpa [sparseAbove] using h
    simp only [sparseSet]
    split
    · split <;> simp [sparseAbove, hy, hb]
    · split
      · split
        · simp only [sparseWf, Bool.and_eq_true] at hw
          exact sparseAbove_mono (Nat.le_of_lt hy) hw.1.2
        · simp [sparseAbove, hb]
      · simp [sparseAbove, hy]

theorem sparseSet_wf {α : Type} [DecidableEq α] {d : α} {l : List (Nat × α)} (a : Nat) (v : α) (h : sparseWf d l = true) :
    sparseWf d (sparseSet d l a v) = true := by
  induction l with
  | nil => simp only [sparseSet]; split <;> simp_all [sparseWf, sparseAbove]
  | cons y t ih =>
    have hw := h
    simp only [sparseWf, Bool.and_eq_true, decide_eq_true_eq] at h
    simp only [sparseSet]
    split
    · split
      · exact hw
      · rename_i hlt hv
        have ha : sparseAbove a (y :: t) = true := by simpa [sparseAbove] using hlt
        rw [sparseWf, hw, ha]
        simp [hv]
    · split
      · rename_i hya
        split
        · exact h.2
        · rename_i hv
          subst hya
          simp [sparseWf, hv, h.1.2, h.2]
      · simp only [sparseWf, Bool.and_eq_true, decide_eq_true_eq]
        exact ⟨⟨h.1.1, sparseSet_above v h.1.2 (by omega) h.2⟩, ih h.2⟩

/-- What a set entry reads as, and that no other is touched. -/
theorem sparseGet_sparseSet {α : Type} [DecidableEq α] {d : α} {l : List (Nat × α)} (a x : Nat) (v : α) (h : sparseWf d l = true) :
    sparseGet d (sparseSet d l a v) x = if x = a then v else sparseGet d l x := by
  induction l with
  | nil => simp only [sparseSet]; split <;> simp_all [sparseGet]
  | cons y t ih =>
    have hw := h
    simp only [sparseWf, Bool.and_eq_true, decide_eq_true_eq] at h
    have miss : ∀ z, z ≤ y.1 → sparseGet d t z = d := fun z hz =>
      sparseGet_miss (fun w hwt => by have := sparseWf_lt h.2 h.1.2 hwt; omega)
    simp only [sparseSet]
    split
    · rename_i hlt
      split
      · rename_i hv
        by_cases hx : x = a
        · subst hx
          rw [if_pos rfl, sparseGet, if_neg (by omega), miss x (by omega), hv]
        · simp [hx]
      · simp only [sparseGet]
    · split
      · rename_i hya
        subst hya
        split
        · rename_i hv
          by_cases hx : x = y.1
          · rw [if_pos hx, hx, miss _ (Nat.le_refl _), hv]
          · simp [sparseGet, hx]
        · simp only [sparseGet]; split <;> rfl
      · simp only [sparseGet, ih h.2]
        by_cases hx : x = a
        · subst hx; simp [*]
        · simp [hx]

end Sys2Proof.Machine
end

