-- ==== Sys2Proof/Laws/Trunk.lean ====
section
/-! SUPPORT. Tools for the frame lemmas. -/

namespace Sys2Proof.Machine

/-- What the recorder's counters owe: RAISED less all that R506 sets against it. -/
def owed (raised rlimit fulldrop qovf : Word) (store queue : List Entry) : Word :=
  raised - (BitVec.ofNat 32 store.length + rlimit + fulldrop + qovf + BitVec.ofNat 32 queue.length)

theorem owed_zero : owed 0 0 0 0 [] [] = 0 := by decide

/-- A raise that is queued is owed nothing. -/
@[simp] theorem owed_queue (r a b c : Word) (st q : List Entry) (e : Entry) : owed (r + 1#32) a b c st (q ++ [e]) = owed r a b c st q := by
  simp only [owed, List.length_append, List.length_cons, List.length_nil, BitVec.ofNat_add]; bv_omega

/-- The queue counts by its length alone. -/
theorem owed_len (r a b c : Word) (st q q' : List Entry) (h : q'.length = q.length) : owed r a b c st q' = owed r a b c st q := by
  simp only [owed, h]

theorem owed_grown (r a b c : Word) (st q q' : List Entry) (h : q'.length = q.length + 1) : owed (r + 1) a b c st q' = owed r a b c st q := by
  simp only [owed, h, BitVec.ofNat_add]; bv_omega

/-- Nor is one that finds the queue full, or that the HV die dropped. -/
@[simp] theorem owed_qovf (r a b c n : Word) (st q : List Entry) : owed (r + n) a b (c + n) st q = owed r a b c st q := by
  have h (x z : Word) : r + n - (x + (c + n) + z) = r - (x + c + z) := by
    rw [show x + (c + n) + z = (x + c + z) + n by ac_rfl, BitVec.sub_eq_add_neg, BitVec.neg_add, BitVec.sub_eq_add_neg, BitVec.sub_eq_add_neg,
      show r + n + (-(x + c + z) + -n) = r + -(x + c + z) + (n + -n) by ac_rfl, ← BitVec.sub_eq_add_neg n n, BitVec.sub_self, BitVec.add_zero]
  exact h _ _

/-- An entry that leaves the queue is counted in FULLDROP, in RLIMIT or in the store. -/
theorem owed_drop (r a b c : Word) (st q : List Entry) (e : Entry) : owed r a (b + 1) c st q = owed r a b c st (e :: q) := by
  simp only [owed, List.length_cons, BitVec.ofNat_add]; bv_omega

theorem owed_limit (r a b c : Word) (st q : List Entry) (e : Entry) : owed r (a + 1) b c st q = owed r a b c st (e :: q) := by
  simp only [owed, List.length_cons, BitVec.ofNat_add]; bv_omega

theorem owed_store (r a b c : Word) (st q : List Entry) (e f : Entry) : owed r a b c (st ++ [f]) q = owed r a b c st (e :: q) := by
  simp only [owed, List.length_append, List.length_cons, List.length_nil, BitVec.ofNat_add]; bv_omega

/-- An entry stored as it is raised. -/
theorem owed_both (r a b c : Word) (st q : List Entry) (f : Entry) : owed (r + 1) a b c (st ++ [f]) q = owed r a b c st q := by
  simp only [owed, List.length_append, List.length_cons, List.length_nil, BitVec.ofNat_add]; bv_omega

/-- The parts of the state that the frame lemmas follow: the queue, the instant, the memory, the recorder's balance. -/
def State.trunk (s : State) : List Instr × Nat × List Host.Cell × Word :=
  (s.pending, s.clk.now, s.store.mem, owed s.evt.raised s.evt.rlimit s.evt.fulldrop s.evt.qovf s.evt.store s.evt.queue)

@[simp] theorem trunk_fold (s : State) :
    (s.pending, s.clk.now, s.store.mem, owed s.evt.raised s.evt.rlimit s.evt.fulldrop s.evt.qovf s.evt.store s.evt.queue) = s.trunk := id rfl
@[simp] theorem trunk_mk (a b c d e f g h i j k l m n o p q r u v w x y z aa bb) :
    State.trunk ⟨a, b, c, d, e, f, g, h, i, j, k, l, m, n, o, p, q, r, u, v, w, x, y, z, aa, bb⟩ =
      (a, b.now, h.mem, owed u.raised u.rlimit u.fulldrop u.qovf u.store u.queue) := id rfl

@[simp] theorem foldl_trunk {β : Type} (f : State → β → State) (h : ∀ s k, (f s k).trunk = s.trunk) (l : List β) (s : State) :
    (l.foldl f s).trunk = s.trunk := by
  induction l generalizing s with
  | nil => rfl
  | cons b t ih => rw [List.foldl_cons, ih, h]

@[simp] theorem iter_trunk (f : Nat → State → State) (h : ∀ k s, (f k s).trunk = s.trunk) (n : Nat) (s : State) :
    (iter f n s).trunk = s.trunk := by
  induction n generalizing s with
  | zero => rfl
  | succ n ih => simp [iter, h, ih]

@[simp] theorem ite_trunk (c : Prop) [Decidable c] (a b : State) : (if c then a else b).trunk = if c then a.trunk else b.trunk := apply_ite _ _ _ _

/-- What a claim fixes: the queue, the instant, and whether it concerns the memory's form and the recorder's balance. -/
abbrev Base := List Instr × Nat × Bool × Bool

/-- The queue and the instant are these; where the claim concerns them, the memory is in canonical form and the recorder is balanced. -/
def Held (b : Base) (t : List Instr × Nat × List Host.Cell × Word) : Prop :=
  t.1 = b.1 ∧ t.2.1 = b.2.1 ∧ (b.2.2.1 = true → sparseWf 0 t.2.2.1 = true) ∧ (b.2.2.2 = true → t.2.2.2 = 0)

theorem foldl_held {β : Type} {b : Base} (f : State → β → State) (h : ∀ s k, Held b s.trunk → Held b (f s k).trunk) (l : List β)
    (s : State) (hs : Held b s.trunk) : Held b (l.foldl f s).trunk := by
  induction l generalizing s with
  | nil => exact hs
  | cons _ _ ih => exact ih _ (h _ _ hs)

theorem iter_held {b : Base} (f : Nat → State → State) (h : ∀ k s, Held b s.trunk → Held b (f k s).trunk) (n : Nat) (s : State)
    (hs : Held b s.trunk) : Held b (iter f n s).trunk := by
  induction n with
  | zero => exact hs
  | succ n ih => exact h _ _ ih

theorem iter_pair_held {α : Type} {b : Base} (f : Nat → α × State → α × State)
    (h : ∀ k p, Held b p.2.trunk → Held b (f k p).2.trunk) (n : Nat) (p : α × State) (hp : Held b p.2.trunk) : Held b (iter f n p).2.trunk := by
  induction n with
  | zero => exact hp
  | succ n ih => exact h _ _ ih

theorem iter_pair_trunk {α : Type} (f : Nat → α × State → α × State) (h : ∀ k p, (f k p).2.trunk = p.2.trunk) (n : Nat) (p : α × State) :
    (iter f n p).2.trunk = p.2.trunk := by
  induction n with
  | zero => rfl
  | succ n ih => rw [iter, h, ih]

/-- What an alternative answers, one of its two sides does. -/
theorem orElse_some {α : Type} {a : Option α} {b : Unit → Option α} {x : α} (h : a.orElse b = some x) : a = some x ∨ b () = some x := by
  cases a with
  | none => exact .inr h
  | some y => exact .inl h

end Sys2Proof.Machine
end

