-- ==== Sys2Proof/Laws/TrunkRegs.lean ====
section
/-! SUPPORT. What the operations of Machine/Regs.lean leave alone: the queue and the instant, and the memory or its canonical form. -/

namespace Sys2Proof.Machine

set_option linter.all false

@[simp] theorem State.setAct_trunk (s : State) (a : Nat) (v : Word) : (State.setAct s a v).trunk = s.trunk := by simp [State.setAct]
@[simp] theorem State.setShd_trunk (s : State) (a : Nat) (v : Word) : (State.setShd s a v).trunk = s.trunk := by simp [State.setShd]
@[simp] theorem State.hwSet_trunk (s : State) (a m : Nat) : (State.hwSet s a m).trunk = s.trunk := by simp [State.hwSet]
@[simp] theorem State.hwClr_trunk (s : State) (a m : Nat) : (State.hwClr s a m).trunk = s.trunk := by simp [State.hwClr]

end Sys2Proof.Machine
end

