-- ==== Sys2Proof/Laws/TrunkOps.lean ====
section
/-! SUPPORT. What the operations of Machine/Ops.lean leave alone: the queue and the instant, and the memory or its canonical form. -/

namespace Sys2Proof.Machine

set_option linter.all false

@[simp] theorem State.tick_trunk (t : Nat) (s : State) :
    (s.tick t).trunk = (s.trunk.1, max s.trunk.2.1 t, s.trunk.2.2) := id rfl
@[simp] theorem State.fresh_trunk (s : State) : (State.fresh s).2.trunk = s.trunk := by simp [State.fresh]
@[simp] theorem State.setPend_trunk (s : State) (code inst : Nat) : (State.setPend s code inst).trunk = s.trunk := by
  simp only [State.setPend]; (repeat' split) <;> simp
theorem slotIn_length (e : Entry) (l : List Entry) : (slotIn e l).length = l.length + 1 := by
  induction l with
  | nil => rfl
  | cons a t ih => simp only [slotIn]; split <;> simp [ih]
theorem slotted_length (e : Entry) (q : List Entry) (k : Nat) : (q.take k ++ slotIn e (q.drop k)).length = q.length + 1 := by
  simp only [List.length_append, slotIn_length, List.length_take, List.length_drop]; omega
@[simp] theorem State.enqueue_trunk (s : State) (e : Entry) : (State.enqueue s e).trunk = s.trunk := by
  simp only [State.enqueue]
  split
  · simp only [trunk_mk]
    rw [owed_grown _ _ _ _ _ s.evt.queue _ (slotted_length ..)]; exact trunk_fold s
  · simp only [trunk_mk, owed_qovf, BitVec.ofNat_eq_ofNat]
    rw [owed_len _ _ _ _ _ s.evt.queue _ (by rw [List.length_take, slotted_length]; omega)]; exact trunk_fold s
@[simp] theorem State.startTimer_trunk (s : State) (cls : Nat) : (State.startTimer s cls).trunk = s.trunk := by simp [State.startTimer]
@[simp] theorem State.startEnsTimer_trunk (s : State) (cls : Nat) : (State.startEnsTimer s cls).trunk = s.trunk := by simp [State.startEnsTimer]
@[simp] theorem State.stopTimers_trunk (s : State) (cls : Nat) : (State.stopTimers s cls).trunk = s.trunk := by simp [State.stopTimers]
@[simp] theorem State.latchFault_trunk (s : State) (code cls inst : Nat) : (State.latchFault s code cls inst).trunk = s.trunk := by simp [State.latchFault]
@[simp] theorem State.present_trunk (s : State) (code cls inst data : Nat) (seen : Bool) : (State.present s code cls inst data seen).1.trunk = s.trunk := by
  simp only [State.present]; (repeat' split) <;> simp
@[simp] theorem State.countAct_trunk (s : State) (cls : Nat) : (State.countAct s cls).trunk = s.trunk := by simp [State.countAct]
@[simp] theorem State.raise0_trunk (s : State) (code inst data : Nat) : (State.raise0 s code inst data).trunk = s.trunk := by
  simp only [State.raise0]; (repeat' split) <;> simp
@[simp] theorem State.event_trunk (s : State) (code : Nat) : (State.event s code).trunk = s.trunk := by simp [State.event]
@[simp] theorem State.resolve_trunk (s : State) (code inst : Nat) : (State.resolve s code inst).trunk = s.trunk := by simp [State.resolve]
@[simp] theorem State.resolveAll_trunk (s : State) (code : Nat) : (State.resolveAll s code).trunk = s.trunk := by simp [State.resolveAll]
@[simp] theorem State.pumpUp_trunk (s : State) : (State.pumpUp s).trunk = s.trunk := by
  simp only [State.pumpUp]; (repeat' split) <;> simp
@[simp] theorem State.bufferHv_trunk (s : State) (e : HvEvent) : (State.bufferHv s e).trunk = s.trunk := by simp [State.bufferHv]
@[simp] theorem State.raiseHv_trunk (s : State) (code inst data : Nat) : (State.raiseHv s code inst data).trunk = s.trunk := by
  simp only [State.raiseHv]; (repeat' split) <;> simp
@[simp] theorem State.htx_trunk (s : State) (cls : Nat) (cf body : List Byte) : (State.htx s cls cf body).trunk = s.trunk := by simp [State.htx]
@[simp] theorem State.sendReplies_trunk (n : Nat) (s : State) : (State.sendReplies n s).trunk = s.trunk := by
  induction n generalizing s with
  | zero => rfl
  | succ n ih => simp only [State.sendReplies]; (repeat' split) <;> simp [ih]
@[simp] theorem State.setPort_trunk (s : State) (p : Port) (x : PortState) : (State.setPort s p x).trunk = s.trunk := by simp [State.setPort]
@[simp] theorem State.auditReplies_trunk (s : State) (p : Port) : (State.auditReplies s p).trunk = s.trunk := by simp [State.auditReplies]
@[simp] theorem State.place_trunk (s : State) (p : Port) (r : Reply) : (State.place s p r).trunk = s.trunk := by
  unfold State.place; cases p <;> simp
@[simp] theorem State.placeHeld_trunk (n : Nat) (p : Port) (s : State) : (State.placeHeld n p s).trunk = s.trunk := by
  induction n generalizing s with
  | zero => rfl
  | succ n ih => simp only [State.placeHeld]; (repeat' split) <;> simp [ih]
@[simp] theorem State.reply_trunk (s : State) (p : Port) (r : Reply) : (State.reply s p r).trunk = s.trunk := by simp [State.reply]
@[simp] theorem State.answerFill_trunk (s : State) (id : ReqId) (status : Nat) (fill : Fill) (data : List Byte) : (State.answerFill s id status fill data).trunk = s.trunk := by simp [State.answerFill]
@[simp] theorem State.answer_trunk (s : State) (id : ReqId) (status : Nat) (data : List Byte) : (State.answer s id status data).trunk = s.trunk := by simp [State.answer]
@[simp] theorem State.discard_trunk (s : State) (p : Port) : (State.discard s p).trunk = s.trunk := by simp [State.discard]

end Sys2Proof.Machine
end

