-- ==== Sys2Proof/Laws/TrunkEnforce.lean ====
section
/-! SUPPORT. What the operations of Machine/Enforce.lean leave alone: the queue and the instant, and the memory or its canonical form. -/

namespace Sys2Proof.Machine

set_option linter.all false

@[simp] theorem State.budgetMoved_trunk (s : State) : (State.budgetMoved s).trunk = s.trunk := by simp [State.budgetMoved]
@[simp] theorem State.riseEnf_trunk (l : Nat) (s : State) : (State.riseEnf l s).trunk = s.trunk := by simp [State.riseEnf]
@[simp] theorem State.graceDue_trunk (s : State) : (State.graceDue s).trunk = s.trunk := by simp [State.graceDue]

end Sys2Proof.Machine
end

