-- ==== Sys2Proof/Laws/TrunkRegRead.lean ====
section
/-! SUPPORT. What the operations of Machine/RegRead.lean leave alone: the queue and the instant, and the memory or its canonical form. -/

namespace Sys2Proof.Machine

set_option linter.all false

@[simp] theorem State.latchHigh_trunk (s : State) (p : Port) (a : Nat) : (State.latchHigh s p a).trunk = s.trunk := by simp [State.latchHigh]
@[simp] theorem State.clearRc_trunk (s : State) (a m : Nat) : (State.clearRc s a m).trunk = s.trunk := by simp [State.clearRc]
@[simp] theorem State.readEffectIn_trunk (s : State) (p : Port) (a m : Nat) : (State.readEffectIn s p a m).trunk = s.trunk := by simp [State.readEffectIn]
@[simp] theorem State.readEffect_trunk (s : State) (p : Port) (a : Nat) : (State.readEffect s p a).trunk = s.trunk := by simp [State.readEffect]

end Sys2Proof.Machine
end

