-- ==== Sys2Proof/Laws/TrunkLanes.lean ====
section
/-! SUPPORT. What the operations of Machine/Lanes.lean leave alone: the queue and the instant, and the memory or its canonical form. -/

namespace Sys2Proof.Machine

set_option linter.all false

@[simp] theorem State.setLane_trunk (s : State) (n : Nat) (f : Lane → Lane) : (State.setLane s n f).trunk = s.trunk := by simp [State.setLane]
@[simp] theorem State.dropOps_trunk (n : Nat) (p : CtrlUse → Bool) (s : State) : (State.dropOps n p s).trunk = s.trunk := by simp [State.dropOps]
@[simp] theorem State.dropJobs_trunk (p : Job → Bool) (s : State) : (State.dropJobs p s).trunk = s.trunk := by
  simp only [State.dropJobs]
  repeat' (first | with_reducible rfl | (with_reducible refine (foldl_trunk _ (fun s j => ?_) _ _).trans ?_) | (with_reducible refine (iter_trunk _ (fun k s => ?_) _ _).trans ?_) | split | simp only [State.dropOps_trunk, trunk_mk, trunk_fold, ite_trunk])
@[simp] theorem State.dropRead_trunk (s : State) : (State.dropRead s).trunk = s.trunk := by
  simp only [State.dropRead]; (repeat' split) <;> simp
@[simp] theorem State.dropCensus_trunk (s : State) : (State.dropCensus s).trunk = s.trunk := by simp [State.dropCensus]
@[simp] theorem State.dropKa_trunk (s : State) : (State.dropKa s).trunk = s.trunk := by
  simp only [State.dropKa]; (repeat' split) <;> simp
@[simp] theorem State.endRead_trunk (s : State) (st : Nat) : (State.endRead s st).trunk = s.trunk := by
  simp only [State.endRead]; (repeat' split) <;> simp
@[simp] theorem State.endCensus_trunk (s : State) (st : Nat) : (State.endCensus s st).trunk = s.trunk := by
  simp only [State.endCensus]; (repeat' split) <;> simp
@[simp] theorem State.endKa_trunk (s : State) (st : Nat) : (State.endKa s st).trunk = s.trunk := by
  simp only [State.endKa]; (repeat' split) <;> simp
@[simp] theorem State.abortLaneOps_trunk (s : State) (n : Nat) : (State.abortLaneOps s n).trunk = s.trunk := by
  simp only [State.abortLaneOps]
  repeat' (first | with_reducible rfl | (with_reducible refine (foldl_trunk _ (fun s j => ?_) _ _).trans ?_) | (with_reducible refine (iter_trunk _ (fun k s => ?_) _ _).trans ?_) | split | simp)
@[simp] theorem State.extraFstart_trunk (n : Nat) (show_ : Show) (s : State) : (State.extraFstart n show_ s).trunk = s.trunk := by simp [State.extraFstart]
@[simp] theorem State.laneBlind_trunk (n : Nat) (s : State) : (State.laneBlind n s).trunk = s.trunk := by simp [State.laneBlind]
@[simp] theorem State.furlNow_trunk (n : Nat) (s : State) : (State.furlNow n s).trunk = s.trunk := by simp [State.furlNow]
@[simp] theorem State.laneFurl_trunk (n : Nat) (s : State) : (State.laneFurl n s).trunk = s.trunk := by simp [State.laneFurl]
@[simp] theorem State.furlDrained_trunk (s : State) : (State.furlDrained s).trunk = s.trunk := by simp [State.furlDrained]
@[simp] theorem State.furlExpired_trunk (s : State) : (State.furlExpired s).trunk = s.trunk := by
  simp only [State.furlExpired]
  repeat' (first | with_reducible rfl | (with_reducible refine (foldl_trunk _ (fun s j => ?_) _ _).trans ?_) | (with_reducible refine (iter_trunk _ (fun k s => ?_) _ _).trans ?_) | split | simp only [State.furlNow_trunk, trunk_mk, trunk_fold, ite_trunk])
@[simp] theorem State.lanesRestart_trunk (s : State) : (State.lanesRestart s).trunk = s.trunk := by simp [State.lanesRestart]
@[simp] theorem State.laneTrain_trunk (n : Nat) (s : State) : (State.laneTrain n s).trunk = s.trunk := by simp [State.laneTrain]
@[simp] theorem State.laneRetrain_trunk (n : Nat) (s : State) : (State.laneRetrain n s).trunk = s.trunk := by simp [State.laneRetrain]
@[simp] theorem State.backGood_trunk (n : Nat) (s : State) : (State.backGood n s).trunk = s.trunk := by simp [State.backGood]
@[simp] theorem State.laneFull_trunk (n t : Nat) (s : State) : (State.laneFull n t s).trunk = s.trunk := by simp [State.laneFull]
@[simp] theorem State.lanePrecode_trunk (n t : Nat) (s : State) : (State.lanePrecode n t s).trunk = s.trunk := by simp [State.lanePrecode]
@[simp] theorem State.countdowns_trunk (s : State) : (State.countdowns s).trunk = s.trunk := by
  simp only [State.countdowns]
  repeat' (first | with_reducible rfl | (with_reducible refine (foldl_trunk _ (fun s j => ?_) _ _).trans ?_) | (with_reducible refine (iter_trunk _ (fun k s => ?_) _ _).trans ?_) | split | simp only [State.lanePrecode_trunk, State.laneFull_trunk, trunk_mk, trunk_fold, ite_trunk])

end Sys2Proof.Machine
end

