-- ==== Sys2Proof/Laws/TrunkGroups.lean ====
section
/-! SUPPORT. What the operations of Machine/Groups.lean leave alone: the queue and the instant, and the memory or its canonical form. -/

namespace Sys2Proof.Machine

set_option linter.all false

@[simp] theorem State.loadGroup_trunk (s : State) (g : Nat) (snap : List (Nat × Word)) : (State.loadGroup s g snap).trunk = s.trunk := by simp [State.loadGroup]
@[simp] theorem State.newSteps_trunk (s : State) : (State.newSteps s).trunk = s.trunk := by simp [State.newSteps]
@[simp] theorem State.newThresholds_trunk (s : State) : (State.newThresholds s).trunk = s.trunk := by simp [State.newThresholds]
@[simp] theorem State.markDue_trunk (s : State) : (State.markDue s).trunk = s.trunk := by simp [State.markDue]
@[simp] theorem State.copyThermal_trunk (s : State) : (State.copyThermal s).trunk = s.trunk := by simp [State.copyThermal]
@[simp] theorem State.groupEffect_trunk (g : Nat) (s : State) : (State.groupEffect g s).trunk = s.trunk := by simp [State.groupEffect]
@[simp] theorem State.applyCommits_trunk (s : State) : (State.applyCommits s).trunk = s.trunk := by
  simp only [State.applyCommits]
  repeat' (first | with_reducible rfl | (with_reducible refine (foldl_trunk _ (fun s j => ?_) _ _).trans ?_) | (with_reducible refine (iter_trunk _ (fun k s => ?_) _ _).trans ?_) | split | simp)
@[simp] theorem State.lanesEn_trunk (old : Nat → Nat) (s : State) : (State.lanesEn old s).trunk = s.trunk := by simp [State.lanesEn]
@[simp] theorem State.applyIdle_trunk (s : State) : (State.applyIdle s).trunk = s.trunk := by simp [State.applyIdle]

end Sys2Proof.Machine
end

