-- ==== Sys2Proof/Laws/TrunkChecks.lean ====
section
/-! SUPPORT. What the operations of Machine/Checks.lean leave alone: the queue and the instant, and the memory or its canonical form. -/

namespace Sys2Proof.Machine

set_option linter.all false

@[simp] theorem State.setChk_trunk (f : Checks → Checks) (s : State) : (State.setChk f s).trunk = s.trunk := by simp [State.setChk]
@[simp] theorem State.unitCheck_trunk (u data : Nat) (exp got : Word) (s : State) : (State.unitCheck u data exp got s).2.trunk = s.trunk := by
  simp only [State.unitCheck]; (repeat' split) <;> simp
@[simp] theorem State.checked_trunk (u : Nat) (s : State) : (State.checked u s).trunk = s.trunk := by simp [State.checked]
@[simp] theorem State.seqMismatch_trunk (addr : Nat) (s : State) : (State.seqMismatch addr s).trunk = s.trunk := by simp [State.seqMismatch]
@[simp] theorem State.sealCheck_trunk (addr : Nat) (b : List Byte) (s : State) : (State.sealCheck addr b s).2.trunk = s.trunk := by simp [State.sealCheck]

end Sys2Proof.Machine
end

