-- ==== Sys2Proof/Laws/TrunkPerf.lean ====
section
/-! SUPPORT. What the operations of Machine/Perf.lean leave alone: the queue and the instant, and the memory or its canonical form. -/

namespace Sys2Proof.Machine

set_option linter.all false

@[simp] theorem State.setPcdiv_trunk (v : Nat) (s : State) : (State.setPcdiv v s).trunk = s.trunk := by simp [State.setPcdiv]
@[simp] theorem State.idleTarget_trunk (s : State) : (State.idleTarget s).trunk = s.trunk := by simp [State.idleTarget]
@[simp] theorem State.queueTarget_trunk (s : State) : (State.queueTarget s).trunk = s.trunk := by simp [State.queueTarget]
@[simp] theorem State.resettle_trunk (s : State) : (State.resettle s).trunk = s.trunk := by simp [State.resettle]
@[simp] theorem State.wantPcdiv_trunk (v : Nat) (s : State) : (State.wantPcdiv v s).trunk = s.trunk := by simp [State.wantPcdiv]
@[simp] theorem State.downDue_trunk (s : State) : (State.downDue s).trunk = s.trunk := by simp [State.downDue]
@[simp] theorem State.atMaxStill_trunk (s : State) : (State.atMaxStill s).trunk = s.trunk := by simp [State.atMaxStill]
@[simp] theorem State.perfTarget_trunk (s : State) : (State.perfTarget s).trunk = s.trunk := by simp [State.perfTarget]
@[simp] theorem State.perfDivider_trunk (s : State) : (State.perfDivider s).trunk = s.trunk := by simp [State.perfDivider]
@[simp] theorem State.perfWritten_trunk (aim : Nat) (s : State) : (State.perfWritten aim s).trunk = s.trunk := by simp [State.perfWritten]
@[simp] theorem State.setTjHot_trunk (v : Bool) (s : State) : (State.setTjHot v s).trunk = s.trunk := by simp [State.setTjHot]
@[simp] theorem State.rampUp_trunk (s : State) : (State.rampUp s).trunk = s.trunk := by simp [State.rampUp]
@[simp] theorem State.vreqStep_trunk (s : State) : (State.vreqStep s).trunk = s.trunk := by simp [State.vreqStep]
@[simp] theorem State.policy_trunk (missed blockEnd : Bool) (low : Nat) (s : State) : (State.policy missed blockEnd low s).trunk = s.trunk := by
  simp only [State.policy]; (repeat' split) <;> simp
@[simp] theorem State.enterSlack_trunk (v : Nat) (s : State) : (State.enterSlack v s).trunk = s.trunk := by simp [State.enterSlack]
@[simp] theorem State.slackMissed_trunk (s : State) : (State.slackMissed s).trunk = s.trunk := by simp [State.slackMissed]
@[simp] theorem State.newMargin_trunk (s : State) : (State.newMargin s).trunk = s.trunk := by simp [State.newMargin]
@[simp] theorem State.marginDecrease_trunk (s : State) : (State.marginDecrease s).trunk = s.trunk := by
  simp only [State.marginDecrease]; (repeat' split) <;> simp
@[simp] theorem ringSpeed_trunk (i cyc : Nat) (s : State) : (ringSpeed i cyc s).2.trunk = s.trunk := by
  simp only [ringSpeed]; (repeat' split) <;> simp
@[simp] theorem State.canaryMeasure_trunk (cycles : Vector Half 24) (s : State) : (State.canaryMeasure cycles s).trunk = s.trunk := by simp [State.canaryMeasure]
@[simp] theorem State.fircMeasure_trunk (e : Int) (s : State) : (State.fircMeasure e s).trunk = s.trunk := by simp [State.fircMeasure]

end Sys2Proof.Machine
end

