-- ==== Sys2Proof/Laws/TrunkStore.lean ====
section
/-! SUPPORT. What the operations of Machine/Store.lean leave alone: the queue and the instant, and the memory or its canonical form. -/

namespace Sys2Proof.Machine

set_option linter.all false

theorem State.storePut_held {hb : Base} (a : Nat) (bs : List Byte) (s : State) (h : Held hb s.trunk) :
    Held hb (State.storePut a bs s).trunk := ⟨h.1, h.2.1, fun e => memPut_wf a bs (h.2.2.1 e), h.2.2.2⟩
@[simp] theorem State.readOver_trunk (reader a n : Nat) (s : State) : (State.readOver reader a n s).trunk = s.trunk := by simp [State.readOver]
@[simp] theorem State.setSurf_trunk (s : State) (n : Nat) (f : Surface → Surface) : (State.setSurf s n f).trunk = s.trunk := by simp [State.setSurf]
@[simp] theorem State.auditLeases_trunk (s : State) : (State.auditLeases s).trunk = s.trunk := by simp [State.auditLeases]
@[simp] theorem State.leaseTake_trunk (id : ReqId) (n : Nat) (crc : Word) (s : State) : (State.leaseTake id n crc s).trunk = s.trunk := by simp [State.leaseTake]
@[simp] theorem State.endCheck_trunk (n : Nat) (st : SurfState) (s : State) : (State.endCheck n st s).trunk = s.trunk := by simp [State.endCheck]
@[simp] theorem State.leaseCheckDone_trunk (s : State) : (State.leaseCheckDone s).trunk = s.trunk := by
  simp only [State.leaseCheckDone]; (repeat' split) <;> simp
@[simp] theorem State.completeRelease_trunk (n : Nat) (s : State) : (State.completeRelease n s).trunk = s.trunk := by
  simp only [State.completeRelease]; (repeat' split) <;> simp
@[simp] theorem State.releaseIdle_trunk (s : State) : (State.releaseIdle s).trunk = s.trunk := by simp [State.releaseIdle]
@[simp] theorem State.releaseFlip_trunk (s : State) : (State.releaseFlip s).trunk = s.trunk := by simp [State.releaseFlip]
@[simp] theorem State.leaseRelease_trunk (id : ReqId) (n : Nat) (s : State) : (State.leaseRelease id n s).trunk = s.trunk := by simp [State.leaseRelease]
theorem State.xferWritten_held {hb : Base} (x : Xfer) (s : State) (hk : Held hb s.trunk) : Held hb (State.xferWritten x s).trunk := by
  simp only [State.xferWritten]
  repeat' (first | with_reducible assumption | (with_reducible refine foldl_held _ (fun s j h => ?_) _ _ ?_) | (with_reducible refine iter_held _ (fun k s h => ?_) _ _ ?_) | split | (with_reducible apply State.storePut_held) | simp only [State.setSurf_trunk, trunk_mk, trunk_fold, ite_trunk])
theorem State.xferAborted_held {hb : Base} (x : Xfer) (s : State) (hk : Held hb s.trunk) : Held hb (State.xferAborted x s).trunk := by
  simp only [State.xferAborted]
  repeat' (first | with_reducible assumption | (with_reducible refine foldl_held _ (fun s j h => ?_) _ _ ?_) | (with_reducible refine iter_held _ (fun k s h => ?_) _ _ ?_) | split | (with_reducible apply State.storePut_held) | simp only [State.fresh_trunk, State.answer_trunk, State.setSurf_trunk, State.endCheck_trunk, trunk_mk, trunk_fold, ite_trunk])
theorem State.grantWrite_held {hb : Base} (r : StoreReq) (s : State) (hk : Held hb s.trunk) : Held hb (State.grantWrite r s).trunk := by
  simp only [State.grantWrite]
  repeat' (first | with_reducible assumption | (with_reducible refine foldl_held _ (fun s j h => ?_) _ _ ?_) | (with_reducible refine iter_held _ (fun k s h => ?_) _ _ ?_) | split | (with_reducible apply State.storePut_held) | simp only [trunk_mk, trunk_fold, ite_trunk])
@[simp] theorem State.scanTaint_trunk (w : Nat) (s : State) : (State.scanTaint w s).trunk = s.trunk := by simp [State.scanTaint]
theorem State.savedZero_held {hb : Base} (who : Requester) (w g : Nat) (s : State) (hk : Held hb s.trunk) : Held hb (State.savedZero who w g s).trunk := by
  simp only [State.savedZero]
  repeat' (first | with_reducible assumption | (with_reducible refine foldl_held _ (fun s j h => ?_) _ _ ?_) | (with_reducible refine iter_held _ (fun k s h => ?_) _ _ ?_) | split | (with_reducible apply State.storePut_held) | simp only [trunk_mk, trunk_fold, ite_trunk])
theorem State.groupLost_held {hb : Base} (who : Requester) (w g : Nat) (s : State) (hk : Held hb s.trunk) : Held hb (State.groupLost who w g s).trunk := by
  simp only [State.groupLost]
  repeat' (first | with_reducible assumption | (with_reducible refine foldl_held _ (fun s j h => ?_) _ _ ?_) | (with_reducible refine iter_held _ (fun k s h => ?_) _ _ ?_) | split | (with_reducible apply State.savedZero_held) | simp only [State.scanTaint_trunk, State.raise0_trunk, State.hwSet_trunk, trunk_mk, trunk_fold, ite_trunk])
@[simp] theorem State.groupFixed_trunk (w behind : Nat) (s : State) : (State.groupFixed w behind s).trunk = s.trunk := by simp [State.groupFixed]
theorem State.grantRead_held {hb : Base} (r : StoreReq) (ecc : List (Fin 16 × EccResult)) (behind : Nat) (s : State) (hk : Held hb s.trunk) : Held hb (State.grantRead r ecc behind s).trunk := by
  simp only [State.grantRead]
  repeat' (first | with_reducible assumption | (with_reducible refine foldl_held _ (fun s j h => ?_) _ _ ?_) | (with_reducible refine iter_held _ (fun k s h => ?_) _ _ ?_) | split | (with_reducible apply State.groupLost_held) | simp only [State.readOver_trunk, State.resolveAll_trunk, State.groupFixed_trunk, trunk_mk, trunk_fold, ite_trunk])
@[simp] theorem State.countGrant_trunk (r : StoreReq) (s : State) : (State.countGrant r s).trunk = s.trunk := by simp [State.countGrant]
@[simp] theorem State.scrubbed_trunk (w : Nat) (s : State) : (State.scrubbed w s).trunk = s.trunk := by simp [State.scrubbed]
@[simp] theorem State.endSlot_trunk (last : Option Nat) (s : State) : (State.endSlot last s).trunk = s.trunk := by simp [State.endSlot]
theorem State.granted_held {hb : Base} (ecc : List (Fin 16 × EccResult)) (behind : Nat) (g : Grant) (s : State) (hk : Held hb s.trunk) : Held hb (State.granted ecc behind g s).trunk := by
  simp only [State.granted]
  repeat' (first | with_reducible assumption | (with_reducible refine foldl_held _ (fun s j h => ?_) _ _ ?_) | (with_reducible refine iter_held _ (fun k s h => ?_) _ _ ?_) | split | (with_reducible apply State.grantRead_held) | (with_reducible apply State.grantWrite_held) | simp only [State.countGrant_trunk, State.scrubbed_trunk, trunk_mk, trunk_fold, ite_trunk])
@[simp] theorem State.afterGrant_trunk (g : Grant) (s : State) : (State.afterGrant g s).trunk = s.trunk := by simp [State.afterGrant]
theorem State.storeAccess_held {hb : Base} (reqs : List StoreReq) (ecc : List (Fin 16 × EccResult)) (s : State) (hk : Held hb s.trunk) : Held hb (State.storeAccess reqs ecc s).trunk := by
  simp only [State.storeAccess]
  repeat' (first | with_reducible assumption | (with_reducible refine foldl_held _ (fun s j h => ?_) _ _ ?_) | (with_reducible refine iter_held _ (fun k s h => ?_) _ _ ?_) | split | (with_reducible apply State.granted_held) | simp only [State.endSlot_trunk, trunk_mk, trunk_fold, ite_trunk])
theorem State.bistStart_held {hb : Base} (s : State) (h : Held hb s.trunk) : Held hb (State.bistStart s).trunk := by
  simp only [State.bistStart]
  split
  · exact ⟨h.1, h.2.1, fun e => memPut_wf _ _ (h.2.2.1 e), h.2.2.2⟩
  · exact h
@[simp] theorem State.bistGood_trunk (r : Nat) (s : State) : (State.bistGood r s).trunk = s.trunk := by simp [State.bistGood]
theorem State.bistDone_held {hb : Base} (mismatch : Option (Fin 32 × Fin 16)) (rerunFails : Bool) (s : State) (h : Held hb s.trunk) :
    Held hb (State.bistDone mismatch rerunFails s).trunk := by
  simp only [State.bistDone]
  repeat' (first | assumption | exact ⟨h.1, h.2.1, fun e => memPut_wf _ _ (h.2.2.1 e), h.2.2.2⟩ | split | simp)

end Sys2Proof.Machine
end

