-- ==== Sys2Proof/Laws/TrunkSending.lean ====
section
/-! SUPPORT. What the operations of Machine/Sending.lean leave alone: the queue and the instant, and the memory or its canonical form. -/

namespace Sys2Proof.Machine

set_option linter.all false

@[simp] theorem State.keepBytes_trunk (s : State) : (State.keepBytes s).trunk = s.trunk := by simp [State.keepBytes]
@[simp] theorem State.lanesIdle_trunk (s : State) : (State.lanesIdle s).trunk = s.trunk := by simp [State.lanesIdle]
@[simp] theorem State.cutPass_trunk (s : State) : (State.cutPass s).trunk = s.trunk := by simp [State.cutPass]
@[simp] theorem State.limpOff_trunk (s : State) : (State.limpOff s).trunk = s.trunk := by simp [State.limpOff]
@[simp] theorem State.laneMarker_trunk (n : Nat) (s : State) : (State.laneMarker n s).trunk = s.trunk := by simp [State.laneMarker]

end Sys2Proof.Machine
end

