-- ==== Sys2Proof/Laws/TrunkSafe.lean ====
section
/-! SUPPORT. What the operations of Machine/Safe.lean leave alone: the queue and the instant, and the memory or its canonical form. -/

namespace Sys2Proof.Machine

set_option linter.all false

@[simp] theorem State.modeAnswer_trunk (st outcome mode : Nat) (s : State) (r : ModeReq) : (State.modeAnswer st outcome mode s r).trunk = s.trunk := by simp [State.modeAnswer]
@[simp] theorem State.modeAnswers_trunk (st : Nat) (first merged : List ModeReq) (s : State) : (State.modeAnswers st first merged s).trunk = s.trunk := by simp [State.modeAnswers]
@[simp] theorem State.dropRequests_trunk (s : State) (st : Nat) : (State.dropRequests s st).trunk = s.trunk := by
  simp only [State.dropRequests]; (repeat' split) <;> simp
@[simp] theorem State.endCal_trunk (s : State) (st : Nat) : (State.endCal s st).trunk = s.trunk := by
  simp only [State.endCal]; (repeat' split) <;> simp
@[simp] theorem State.endJobs_trunk (s : State) (st : Nat) : (State.endJobs s st).trunk = s.trunk := by simp [State.endJobs]
@[simp] theorem State.endOne_trunk {α : Type} (o : Option α) (id : α → ReqId) (clear : State → State) (st : Nat) (s : State)
    (h : ∀ s, (clear s).trunk = s.trunk) : (State.endOne o id clear st s).trunk = s.trunk := by
  cases o <;> simp [State.endOne, h]
@[simp] theorem State.dropLaneTest_trunk (s : State) : (State.dropLaneTest s).trunk = s.trunk := by
  simp only [State.dropLaneTest]; (repeat' split) <;> simp
@[simp] theorem State.endLaneTest_trunk (s : State) (st : Nat) : (State.endLaneTest s st).trunk = s.trunk := by
  simp only [State.endLaneTest]; (repeat' split) <;> simp
@[simp] theorem State.startSwTest_trunk (u : SwUse) (s : State) : (State.startSwTest u s).trunk = s.trunk := by simp [State.startSwTest]
@[simp] theorem State.endSwTest_trunk (s : State) (st : Nat) : (State.endSwTest s st).trunk = s.trunk := by
  simp only [State.endSwTest]; (repeat' split) <;> simp
@[simp] theorem State.endInject_trunk (s : State) (st : Nat) : (State.endInject s st).trunk = s.trunk := by
  simp only [State.endInject]; (repeat' split) <;> simp
@[simp] theorem State.abortFor_trunk (m : Mode) (st : Nat) (s : State) : (State.abortFor m st s).trunk = s.trunk := by simp [State.abortFor]
@[simp] theorem State.commitRun_trunk (id : ReqId) (mask : Word) (s : State) : (State.commitRun id mask s).trunk = s.trunk := by
  simp only [State.commitRun]; (repeat' split) <;> simp
@[simp] theorem State.commit_trunk (id : ReqId) (mask : Word) (s : State) : (State.commit id mask s).trunk = s.trunk := by simp [State.commit]
@[simp] theorem State.commitDeferred_trunk (s : State) : (State.commitDeferred s).trunk = s.trunk := by simp [State.commitDeferred]
@[simp] theorem State.scanEvt_trunk (s : State) (m en code : Nat) : (State.scanEvt s m en code).trunk = s.trunk := by simp [State.scanEvt]
@[simp] theorem State.countMissed_trunk (s : State) : (State.countMissed s).trunk = s.trunk := by simp [State.countMissed]
@[simp] theorem State.auditFrames_trunk (s : State) : (State.auditFrames s).trunk = s.trunk := by simp [State.auditFrames]
@[simp] theorem State.abandon_trunk (s : State) : (State.abandon s).trunk = s.trunk := by
  simp only [State.abandon]; (repeat' split) <;> simp
@[simp] theorem State.scanOff_trunk (s : State) : (State.scanOff s).trunk = s.trunk := by simp [State.scanOff]
@[simp] theorem State.cutScan_trunk (s : State) : (State.cutScan s).trunk = s.trunk := by simp [State.cutScan]
@[simp] theorem State.stopScan_trunk (s : State) : (State.stopScan s).trunk = s.trunk := by simp [State.stopScan]
@[simp] theorem State.latchEns_trunk (s : State) (src : Nat) : (State.latchEns s src).trunk = s.trunk := by simp [State.latchEns]
@[simp] theorem State.latchSafe_trunk (s : State) (src cls code : Nat) : (State.latchSafe s src cls code).trunk = s.trunk := by simp [State.latchSafe]
@[simp] theorem State.hold_trunk (s : State) (dark : Bool) : (State.hold s dark).trunk = s.trunk := by simp [State.hold]
@[simp] theorem State.pumpDown_trunk (s : State) : (State.pumpDown s).trunk = s.trunk := by
  simp only [State.pumpDown]; (repeat' split) <;> simp
@[simp] theorem State.askEns_trunk (s : State) (kind arg : Nat) : (State.askEns s kind arg).trunk = s.trunk := by simp [State.askEns]
@[simp] theorem State.assertLines_trunk (s : State) (dark : Bool) (why : SafeWhy) : (State.assertLines s dark why).trunk = s.trunk := by simp [State.assertLines]
@[simp] theorem State.assertSafe_trunk (s : State) (dark : Bool) (why : SafeWhy) : (State.assertSafe s dark why).trunk = s.trunk := by simp [State.assertSafe]
@[simp] theorem State.coveredLines_trunk (s : State) (dark : Bool) (why : SafeWhy) : (State.coveredLines s dark why).trunk = s.trunk := by simp [State.coveredLines]
@[simp] theorem State.enterSafe_trunk (s : State) (dark : Bool) (why : SafeWhy) (owner : Option ModeReq) : (State.enterSafe s dark why owner).trunk = s.trunk := by
  simp only [State.enterSafe]
  repeat' (first | with_reducible rfl | (with_reducible refine (foldl_trunk _ (fun s j => ?_) _ _).trans ?_) | (with_reducible refine (iter_trunk _ (fun k s => ?_) _ _).trans ?_) | split | simp only [State.abortFor_trunk, State.dropRequests_trunk, State.cutScan_trunk, State.modeAnswer_trunk, State.event_trunk, State.assertSafe_trunk, State.coveredLines_trunk, trunk_mk, trunk_fold, ite_trunk])
@[simp] theorem State.escEntry_trunk (s : State) (a : Active) (hv : Bool) : (State.escEntry s a hv).trunk = s.trunk := by simp [State.escEntry]
@[simp] theorem State.escalate_trunk (s : State) (cls : Nat) : (State.escalate s cls).trunk = s.trunk := by
  simp only [State.escalate]; (repeat' split) <;> simp
@[simp] theorem State.escalateEns_trunk (s : State) (power : Bool) : (State.escalateEns s power).trunk = s.trunk := by
  simp only [State.escalateEns]; (repeat' split) <;> simp
@[simp] theorem State.escalateDue_trunk (s : State) : (State.escalateDue s).trunk = s.trunk := by simp [State.escalateDue]

end Sys2Proof.Machine
end

