-- ==== Sys2Proof/Laws/TrunkRecord.lean ====
section
/-! SUPPORT. What the operations of Machine/Record.lean leave alone: the queue and the instant, and the memory or its canonical form. -/

namespace Sys2Proof.Machine

set_option linter.all false

theorem setPend_recorder (s : State) (code inst : Nat) : (s.setPend code inst).evt = s.evt := by
  simp only [State.setPend]; (repeat' split) <;> exact id rfl
theorem trunk_evt (s : State) (r : Recorder) :
    State.trunk { s with evt := r } = (s.trunk.1, s.trunk.2.1, s.trunk.2.2.1, owed r.raised r.rlimit r.fulldrop r.qovf r.store r.queue) := id rfl
/-- One entry more in the store, and EVT_FULL counted as it is stored. -/
theorem State.store1_trunk (s : State) (e : Entry) :
    (State.store1 s e).trunk = State.trunk { s with evt := { s.evt with store := s.evt.store ++ [e] } } := by
  simp only [State.store1]
  split
  · rw [trunk_evt]
    simp only [owed_both]
    rw [setPend_recorder, State.setPend_trunk]
    exact id rfl
  · rfl
theorem Recorder.take_counts (r : Recorder) (code now : Nat) :
    (r.take code now).raised = r.raised ∧ (r.take code now).rlimit = r.rlimit ∧ (r.take code now).fulldrop = r.fulldrop ∧
      (r.take code now).qovf = r.qovf ∧ (r.take code now).store = r.store ∧ (r.take code now).queue = r.queue := by
  unfold Recorder.take; split <;> exact ⟨rfl, rfl, rfl, rfl, rfl, rfl⟩
@[simp] theorem State.queueExit_trunk (s : State) : (State.queueExit s).trunk = s.trunk := by
  simp only [State.queueExit]
  split
  · rfl
  · rename_i e t hq
    have key : ∀ z : State, z.trunk = s.trunk → (if z.evt.balanced then z.resolve 0x2C1 0 else z.raise0 0x2C1 0 0).trunk = s.trunk := by
      intro z hz; split <;> simp [hz]
    apply key
    split
    · rw [trunk_evt]; simp only; rw [owed_drop _ _ _ _ _ _ e, ← hq]; exact id rfl
    · split
      · rw [trunk_evt]; simp only; rw [owed_limit _ _ _ _ _ _ e, ← hq]; exact id rfl
      · rw [State.store1_trunk, trunk_evt]
        split
        · simp only; rw [owed_store _ _ _ _ _ _ e, ← hq]; exact id rfl
        · obtain ⟨h1, h2, h3, h4, h5, h6⟩ := Recorder.take_counts ({ s.evt with queue := t, tied := min s.evt.tied t.length }) e.code s.clk.dtime
          simp only [h1, h2, h3, h4, h5, h6]; rw [owed_store _ _ _ _ _ _ e, ← hq]; exact id rfl
@[simp] theorem State.refill_trunk (s : State) (code : Nat) : (State.refill s code).trunk = s.trunk := by
  simp only [State.refill]; (repeat' split) <;> simp
@[simp] theorem State.refillWrite_trunk (s : State) (v : Nat) : (State.refillWrite s v).trunk = s.trunk := by simp [State.refillWrite]
/-- EVT_RESET leaves the recorder balanced, whatever it was. -/
theorem State.evtReset_held {b : Base} (s : State) (h : Held b s.trunk) : Held b (State.evtReset s).trunk := by
  simp only [State.evtReset]
  rw [State.store1_trunk, trunk_evt, State.setPend_trunk, setPend_recorder]
  refine ⟨h.1, h.2.1, h.2.2.1, fun _ => ?_⟩
  simp [owed]
@[simp] theorem State.evtRead_trunk (s : State) (count : Nat) : (State.evtRead s count).2.trunk = s.trunk := by simp [State.evtRead]
@[simp] theorem State.ackFault_trunk (s : State) (a : Active) : (State.ackFault s a).trunk = s.trunk := by simp [State.ackFault]
@[simp] theorem State.ackEntry_trunk (s : State) (a : Active) : (State.ackEntry s a).trunk = s.trunk := by simp [State.ackEntry]
@[simp] theorem State.graceOver_trunk (cls : Nat) (s : State) : (State.graceOver cls s).trunk = s.trunk := by
  simp only [State.graceOver]; (repeat' split) <;> simp
@[simp] theorem State.ensGraceOver_trunk (power : Bool) (s : State) : (State.ensGraceOver power s).trunk = s.trunk := by
  simp only [State.ensGraceOver]; (repeat' split) <;> simp
@[simp] theorem State.expireFirst_trunk (s : State) : (State.expireFirst s).trunk = s.trunk := by simp [State.expireFirst]
theorem unraise_owed (r : Recorder) (code : Nat) :
    owed (r.unraise code).raised (r.unraise code).rlimit (r.unraise code).fulldrop (r.unraise code).qovf (r.unraise code).store (r.unraise code).queue =
      owed r.raised r.rlimit r.fulldrop r.qovf r.store r.queue := by
  simp only [Recorder.unraise]
  split
  · rename_i i hi
    split
    · have hlt := (List.findIdx?_eq_some_iff_getElem.mp hi).1
      have hl : r.queue.length = (r.queue.reverse.eraseIdx i).reverse.length + 1 := by
        rw [List.length_reverse, List.length_eraseIdx_of_lt hlt, List.length_reverse]
        rw [List.length_reverse] at hlt; omega
      simp only [owed, hl, BitVec.ofNat_add]; bv_omega
    · rfl
  · rfl
@[simp] theorem State.raiseAfter_trunk (code cls : Nat) (s : State) (g : Again) : (State.raiseAfter code cls s g).trunk = s.trunk := by
  simp only [State.raiseAfter]
  (repeat' split) <;> simp [unraise_owed]
@[simp] theorem State.faultAck_trunk (s : State) (b code : Nat) : (State.faultAck s b code).1.trunk = s.trunk := by
  simp only [State.faultAck]; (repeat' split) <;> simp

end Sys2Proof.Machine
end

