-- ==== Sys2Proof/Laws/TrunkRegWrite.lean ====
section
/-! SUPPORT. What the operations of Machine/RegWrite.lean leave alone: the queue and the instant, and the memory or its canonical form. -/

namespace Sys2Proof.Machine

set_option linter.all false

@[simp] theorem State.setAlarm_trunk (s : State) : (State.setAlarm s).trunk = s.trunk := by simp [State.setAlarm]
@[simp] theorem State.compareAlarm_trunk (s : State) : (State.compareAlarm s).trunk = s.trunk := by simp [State.compareAlarm]
@[simp] theorem State.alarmhWrite_trunk (v : Word) (s : State) : (State.alarmhWrite v s).trunk = s.trunk := by simp [State.alarmhWrite]
@[simp] theorem State.rtcCount_trunk (s : State) : (State.rtcCount s).trunk = s.trunk := by simp [State.rtcCount]
@[simp] theorem State.rtcFirst_trunk (s : State) : (State.rtcFirst s).trunk = s.trunk := by simp [State.rtcFirst]
@[simp] theorem State.rtcLoad_trunk (s : State) : (State.rtcLoad s).trunk = s.trunk := by simp [State.rtcLoad]
@[simp] theorem State.rtcCtrl_trunk (v : Nat) (s : State) : (State.rtcCtrl v s).trunk = s.trunk := by simp [State.rtcCtrl]
@[simp] theorem State.rel_trunk (s : State) : (State.rel s).trunk = s.trunk := by simp [State.rel]
@[simp] theorem State.pathStart_trunk (s : State) : (State.pathStart s).trunk = s.trunk := by simp [State.pathStart]
@[simp] theorem State.crcArm_trunk (s : State) : (State.crcArm s).trunk = s.trunk := by
  simp only [State.crcArm]; (repeat' split) <;> simp
@[simp] theorem State.cursorWrite_trunk (v : Nat) (s : State) : (State.cursorWrite v s).trunk = s.trunk := by simp [State.cursorWrite]
@[simp] theorem State.writeLive_trunk (a : Nat) (v : Word) (r : RegInfo) (s : State) : (State.writeLive a v r s).trunk = s.trunk := by simp [State.writeLive]
@[simp] theorem State.writeShadow_trunk (a g : Nat) (v : Word) (r : RegInfo) (s : State) : (State.writeShadow a g v r s).trunk = s.trunk := by simp [State.writeShadow]
@[simp] theorem State.writePlain_trunk (a : Nat) (v : Word) (s : State) : (State.writePlain a v s).trunk = s.trunk := by
  simp only [State.writePlain]; (repeat' split) <;> simp
@[simp] theorem State.writeWord_trunk (a : Nat) (v : Word) (s : State) : (State.writeWord a v s).trunk = s.trunk := by simp [State.writeWord]
@[simp] theorem State.regWrite_trunk (p : Port) (a : Nat) (v : Word) (s : State) : (State.regWrite p a v s).trunk = s.trunk := by
  simp only [State.regWrite]; (repeat' split) <;> simp

end Sys2Proof.Machine
end

