-- ==== Sys2Proof/Laws/TrunkMask.lean ====
section
/-! SUPPORT. What the operations of Machine/Mask.lean leave alone: the queue and the instant, and the memory or its canonical form. -/

namespace Sys2Proof.Machine

set_option linter.all false

@[simp] theorem State.listRefused_trunk (src : Fin 3) (s : State) : (State.listRefused src s).trunk = s.trunk := by simp [State.listRefused]
@[simp] theorem State.listComplete_trunk (src : Fin 3) (a : Assembly) (s : State) : (State.listComplete src a s).2.trunk = s.trunk := by
  simp only [State.listComplete]; (repeat' split) <;> simp
@[simp] theorem State.listFragment_trunk (src : Fin 3) (seq : Half) (frag last : Nat) (data : List Byte) (s : State) : (State.listFragment src seq frag last data s).2.trunk = s.trunk := by
  simp only [State.listFragment]; (repeat' split) <;> simp
@[simp] theorem State.dropZones_trunk (ids : List Nat) (s : State) : (State.dropZones ids s).trunk = s.trunk := by simp [State.dropZones]
@[simp] theorem State.judgeLate_trunk (s : State) : (State.judgeLate s).trunk = s.trunk := by simp [State.judgeLate]
@[simp] theorem State.countLate_trunk (s : State) : (State.countLate s).trunk = s.trunk := by simp [State.countLate]
@[simp] theorem State.onTime_trunk (s : State) : (State.onTime s).trunk = s.trunk := by simp [State.onTime]
@[simp] theorem State.missTables_trunk (s : State) : (State.missTables s).trunk = s.trunk := by
  simp only [State.missTables]; (repeat' split) <;> simp
@[simp] theorem State.lateTables_trunk (s : State) : (State.lateTables s).trunk = s.trunk := by simp [State.lateTables]
@[simp] theorem State.passLatch_trunk (s : State) : (State.passLatch s).trunk = s.trunk := by simp [State.passLatch]
@[simp] theorem State.anchorLatch_trunk (ts tc : Nat) (s : State) : (State.anchorLatch ts tc s).trunk = s.trunk := by simp [State.anchorLatch]
@[simp] theorem State.compareMasks_trunk (fine coarse : List Zone) (s : State) : (State.compareMasks fine coarse s).trunk = s.trunk := by simp [State.compareMasks]
@[simp] theorem State.compareFresh_trunk (s : State) : (State.compareFresh s).trunk = s.trunk := by simp [State.compareFresh]
@[simp] theorem State.passTableDone_trunk (s : State) : (State.passTableDone s).trunk = s.trunk := by
  simp only [State.passTableDone]; (repeat' split) <;> simp
@[simp] theorem State.coarseDone_trunk (s : State) : (State.coarseDone s).trunk = s.trunk := by
  simp only [State.coarseDone]; (repeat' split) <;> simp
@[simp] theorem State.tableDeadline_trunk (s : State) : (State.tableDeadline s).trunk = s.trunk := by
  simp only [State.tableDeadline]; (repeat' split) <;> simp
@[simp] theorem State.midPass_trunk (s : State) : (State.midPass s).trunk = s.trunk := by simp [State.midPass]
theorem State.ceilingLoad_held {hb : Base} (id : ReqId) (n : Nat) (crc : Word) (s : State) (hk : Held hb s.trunk) : Held hb (State.ceilingLoad id n crc s).trunk := by
  simp only [State.ceilingLoad]
  repeat' (first | with_reducible assumption | (with_reducible refine foldl_held _ (fun s j h => ?_) _ _ ?_) | (with_reducible refine iter_held _ (fun k s h => ?_) _ _ ?_) | split | (with_reducible apply State.storePut_held) | simp only [State.readOver_trunk, State.answer_trunk, trunk_mk, trunk_fold, ite_trunk])
@[simp] theorem State.ceilingLoadDone_trunk (s : State) : (State.ceilingLoadDone s).trunk = s.trunk := by
  unfold State.ceilingLoadDone; (repeat' split) <;> simp_all
@[simp] theorem State.ceilingCheck_trunk (s : State) : (State.ceilingCheck s).trunk = s.trunk := by simp [State.ceilingCheck]
@[simp] theorem State.tokenLatch_trunk (s : State) : (State.tokenLatch s).trunk = s.trunk := by simp [State.tokenLatch]

end Sys2Proof.Machine
end

