-- ==== Sys2Proof/Laws/TrunkEngine.lean ====
section
/-! SUPPORT. What the operations of Machine/Engine.lean leave alone: the queue and the instant, and the memory or its canonical form. -/

namespace Sys2Proof.Machine

set_option linter.all false

@[simp] theorem failStatus_trunk (s : State) : (failStatus s).2.trunk = s.trunk := by simp [failStatus]
@[simp] theorem State.ctrlPump1_trunk (n : Nat) (s : State) : (State.ctrlPump1 n s).trunk = s.trunk := by simp [State.ctrlPump1]
@[simp] theorem State.ctrlPump_trunk (n : Nat) (s : State) : (State.ctrlPump n s).trunk = s.trunk := by simp [State.ctrlPump]
@[simp] theorem State.ctrlSend_trunk (n : Nat) (u : CtrlUse) (addr count : Nat) (s : State) : (State.ctrlSend n u addr count s).trunk = s.trunk := by simp [State.ctrlSend]
@[simp] theorem State.ctrlEnd_trunk (n : Nat) (c : Ctrl) (s : State) : (State.ctrlEnd n c s).trunk = s.trunk := by simp [State.ctrlEnd]
@[simp] theorem State.beamSync_trunk (s : State) : (State.beamSync s).trunk = s.trunk := by simp [State.beamSync]
@[simp] theorem State.eolCheck_trunk (n : Nat) (s : State) : (State.eolCheck n s).trunk = s.trunk := by simp [State.eolCheck]
@[simp] theorem State.eolReady_trunk (s : State) : (State.eolReady s).trunk = s.trunk := by simp [State.eolReady]
@[simp] theorem State.addStress_trunk (n term : Nat) (s : State) : (State.addStress n term s).trunk = s.trunk := by simp [State.addStress]
@[simp] theorem State.passStress_trunk (n ts psent : Nat) (s : State) : (State.passStress n ts psent s).trunk = s.trunk := by simp [State.passStress]
@[simp] theorem State.lifeTick_trunk (s : State) : (State.lifeTick s).trunk = s.trunk := by
  simp only [State.lifeTick]; (repeat' split) <;> simp
@[simp] theorem State.modJob_trunk (n : Nat) (f : Job → Option Job) (s : State) : (State.modJob n f s).trunk = s.trunk := by simp [State.modJob]
@[simp] theorem State.lifeSkip_trunk (s : State) : (State.lifeSkip s).trunk = s.trunk := by simp [State.lifeSkip]
@[simp] theorem State.logSkip_trunk (s : State) : (State.logSkip s).trunk = s.trunk := by simp [State.logSkip]
@[simp] theorem State.jobFail_trunk (n st : Nat) (s : State) : (State.jobFail n st s).trunk = s.trunk := by
  simp only [State.jobFail]; (repeat' split) <;> simp
@[simp] theorem State.jobDone_trunk (n : Nat) (s : State) : (State.jobDone n s).trunk = s.trunk := by
  simp only [State.jobDone]; (repeat' split) <;> simp
@[simp] theorem State.jobsInhibited_trunk (n : Nat) (s : State) : (State.jobsInhibited n s).trunk = s.trunk := by
  simp only [State.jobsInhibited]
  repeat' (first | with_reducible rfl | (with_reducible refine (foldl_trunk _ (fun s j => ?_) _ _).trans ?_) | (with_reducible refine (iter_trunk _ (fun k s => ?_) _ _).trans ?_) | split | simp only [State.event_trunk, State.jobFail_trunk, trunk_mk, trunk_fold, ite_trunk])
@[simp] theorem State.jobStep_trunk (n : Nat) (s : State) : (State.jobStep n s).trunk = s.trunk := by
  simp only [State.jobStep]; (repeat' split) <;> simp
@[simp] theorem State.lifeDue_trunk (s : State) : (State.lifeDue s).trunk = s.trunk := by simp [State.lifeDue]
@[simp] theorem State.logDue_trunk (s : State) : (State.logDue s).trunk = s.trunk := by simp [State.logDue]
@[simp] theorem State.lifeRecordDue_trunk (s : State) : (State.lifeRecordDue s).trunk = s.trunk := by simp [State.lifeRecordDue]
@[simp] theorem State.sendWave_trunk (d : Nat) (s : State) : (State.sendWave d s).trunk = s.trunk := by simp [State.sendWave]

end Sys2Proof.Machine
end

