-- ==== Sys2Proof/Laws/TrunkCal.lean ====
section
/-! SUPPORT. What the operations of Machine/Cal.lean leave alone: the queue and the instant, and the memory or its canonical form. -/

namespace Sys2Proof.Machine

set_option linter.all false

@[simp] theorem State.calPowerOn_trunk (s : State) : (State.calPowerOn s).trunk = s.trunk := by
  simp only [State.calPowerOn]; (repeat' split) <;> simp
@[simp] theorem State.calReady_trunk (s : State) : (State.calReady s).trunk = s.trunk := by
  simp only [State.calReady]; (repeat' split) <;> simp
@[simp] theorem State.inhibitEval_trunk (s : State) : (State.inhibitEval s).trunk = s.trunk := by simp [State.inhibitEval]
@[simp] theorem State.inhibitEnd_trunk (s : State) : (State.inhibitEnd s).trunk = s.trunk := by
  simp only [State.inhibitEnd]; (repeat' split) <;> simp
@[simp] theorem State.inhibitTj_trunk (tj : Int) (s : State) : (State.inhibitTj tj s).trunk = s.trunk := by simp [State.inhibitTj]
@[simp] theorem State.inhibitRelease_trunk (s : State) : (State.inhibitRelease s).trunk = s.trunk := by simp [State.inhibitRelease]
@[simp] theorem State.calStart_trunk (id : ReqId) (items : BitVec 4) (burn : Bool) (s : State) : (State.calStart id items burn s).trunk = s.trunk := by simp [State.calStart]
@[simp] theorem freeBytes_trunk (n : Nat) (s : State) : (freeBytes n s).2.trunk = s.trunk := by
  induction n generalizing s with
  | zero => rfl
  | succ n ih => simp [freeBytes, ih]
@[simp] theorem State.calBytes_trunk (items : BitVec 4) (s : State) : (State.calBytes items s).2.trunk = s.trunk := by
  simp only [State.calBytes, iter]
  (repeat' split) <;> simp
@[simp] theorem State.ramOnly_trunk (s : State) : (State.ramOnly s).trunk = s.trunk := by simp [State.ramOnly]
@[simp] theorem State.calReply_trunk (id : ReqId) (burned : Option Nat) (s : State) : (State.calReply id burned s).trunk = s.trunk := by simp [State.calReply]
@[simp] theorem State.calRow_trunk (r : CalRun) (k : Nat) (s : State) : (State.calRow r k s).trunk = s.trunk := by simp [State.calRow]
@[simp] theorem State.calApply_trunk (r : CalRun) (s : State) : (State.calApply r s).trunk = s.trunk := by simp [State.calApply]
@[simp] theorem State.calRefCheck_trunk (r : CalRun) (s : State) : (State.calRefCheck r s).trunk = s.trunk := by simp [State.calRefCheck]
@[simp] theorem State.calConv_trunk (raw : Nat) (short : Bool) (s : State) : (State.calConv raw short s).trunk = s.trunk := by
  simp only [State.calConv]; (repeat' split) <;> simp
@[simp] theorem State.burnRow_trunk (r : CalRun) (k : Nat) (s : State) : (State.burnRow r k s).trunk = s.trunk := by simp [State.burnRow]
@[simp] theorem State.burned_trunk (r : CalRun) (s : State) : (State.burned r s).trunk = s.trunk := by simp [State.burned]
@[simp] theorem State.fuseRow_trunk (s : State) : (State.fuseRow s).trunk = s.trunk := by
  simp only [State.fuseRow]; (repeat' split) <;> simp
@[simp] theorem State.calEngine_trunk (s : State) : (State.calEngine s).trunk = s.trunk := by simp [State.calEngine]

end Sys2Proof.Machine
end

