-- ==== Sys2Proof/Laws/TrunkModes.lean ====
section
/-! SUPPORT. What the operations of Machine/Modes.lean leave alone: the queue and the instant, and the memory or its canonical form. -/

namespace Sys2Proof.Machine

set_option linter.all false

@[simp] theorem State.sleepStart_trunk (s : State) : (State.sleepStart s).trunk = s.trunk := by simp [State.sleepStart]
@[simp] theorem State.releaseStart_trunk (s : State) : (State.releaseStart s).trunk = s.trunk := by simp [State.releaseStart]
@[simp] theorem State.startTrans_trunk (t : Mode) (owner : ModeReq) (merged : List ModeReq) (s : State) : (State.startTrans t owner merged s).trunk = s.trunk := by
  simp only [State.startTrans]; (repeat' split) <;> simp
@[simp] theorem State.modeBegin_trunk (t : Mode) (owner : ModeReq) (merged : List ModeReq) (s : State) : (State.modeBegin t owner merged s).trunk = s.trunk := by
  simp only [State.modeBegin]; (repeat' split) <;> simp
@[simp] theorem State.modeQueue_trunk (t : Mode) (owner : ModeReq) (s : State) : (State.modeQueue t owner s).trunk = s.trunk := by
  simp only [State.modeQueue]; (repeat' split) <;> simp
@[simp] theorem State.modeGo_trunk (t : Mode) (owner : ModeReq) (s : State) : (State.modeGo t owner s).trunk = s.trunk := by
  simp only [State.modeGo]; (repeat' split) <;> simp
@[simp] theorem State.modeSet_trunk (t : Mode) (owner : ModeReq) (s : State) : (State.modeSet t owner s).trunk = s.trunk := by simp [State.modeSet]
@[simp] theorem State.leaveService_trunk (s : State) : (State.leaveService s).trunk = s.trunk := by simp [State.leaveService]
@[simp] theorem State.firstReady_trunk (s : State) : (State.firstReady s).trunk = s.trunk := by simp [State.firstReady]
@[simp] theorem State.enterMode_trunk (t : Mode) (s : State) : (State.enterMode t s).trunk = s.trunk := by
  simp only [State.enterMode]; (repeat' split) <;> simp
@[simp] theorem State.modeDequeue_trunk (s : State) : (State.modeDequeue s).trunk = s.trunk := by
  simp only [State.modeDequeue]; (repeat' split) <;> simp
@[simp] theorem State.transDone_trunk (s : State) : (State.transDone s).trunk = s.trunk := by
  simp only [State.transDone]; (repeat' split) <;> simp
@[simp] theorem State.modeDone_trunk (s : State) : (State.modeDone s).trunk = s.trunk := by
  simp only [State.modeDone]; (repeat' split) <;> simp
@[simp] theorem State.transFail_trunk (st : Nat) (s : State) : (State.transFail st s).trunk = s.trunk := by
  simp only [State.transFail]; (repeat' split) <;> simp
@[simp] theorem State.abortPort_trunk (skip : List ReqId) (p : Port) (s : State) : (State.abortPort skip p s).trunk = s.trunk := by simp [State.abortPort]
@[simp] theorem State.forget_trunk (s : State) : (State.forget s).trunk = s.trunk := by simp [State.forget]
@[simp] theorem State.abortAll_trunk (skip : List ReqId) (s : State) : (State.abortAll skip s).trunk = s.trunk := by simp [State.abortAll]
@[simp] theorem State.sleepCheck_trunk (s : State) : (State.sleepCheck s).trunk = s.trunk := by simp [State.sleepCheck]
@[simp] theorem State.sleepLife_trunk (s : State) : (State.sleepLife s).trunk = s.trunk := by simp [State.sleepLife]
@[simp] theorem State.latchPads_trunk (s : State) : (State.latchPads s).trunk = s.trunk := by simp [State.latchPads]
@[simp] theorem State.sleepReply_trunk (s : State) : (State.sleepReply s).trunk = s.trunk := by
  unfold State.sleepReply
  generalize hv : iter (fun n (s : State) => if (vget s.fly n).st = .furled then s else s.furlNow n) 16 s = v
  have hw : v.trunk = s.trunk := hv ▸ iter_trunk _ (fun k s => by split <;> simp) _ _
  dsimp only
  generalize hu : State.latchPads { v with ens := v.ens.opened } = u
  have h : u.trunk = s.trunk := by rw [← hu]; simpa using hw
  split
  · exact h
  · rw [trunk_mk, trunk_fold]; simpa using h
@[simp] theorem State.sleepPut_trunk (out : Nat) (r : ModeReq) (s : State) : (State.sleepPut out r s).trunk = s.trunk := by simp [State.sleepPut]
@[simp] theorem State.sleepPlace_trunk (n : Nat) (s : State) : (State.sleepPlace n s).trunk = s.trunk := by
  induction n generalizing s with
  | zero => rfl
  | succ n ih => simp only [State.sleepPlace]; (repeat' split) <;> simp [ih]
@[simp] theorem State.sleepPlaced_trunk (s : State) : (State.sleepPlaced s).trunk = s.trunk := by simp [State.sleepPlaced]

end Sys2Proof.Machine
end

