-- ==== Sys2Proof/Laws/TrunkBunting.lean ====
section
/-! SUPPORT. What the operations of Machine/Bunting.lean leave alone: the queue and the instant, and the memory or its canonical form. -/

namespace Sys2Proof.Machine

set_option linter.all false

@[simp] theorem State.latchRepeats_trunk (first : Bool) (n : Nat) (s : State) : (State.latchRepeats first n s).trunk = s.trunk := by simp [State.latchRepeats]
@[simp] theorem State.latchExcl_trunk (out : Bool) (n : Nat) (s : State) : (State.latchExcl out n s).trunk = s.trunk := by simp [State.latchExcl]
@[simp] theorem State.startComp_trunk (flip : Nat) (first : Bool) (s : State) : (State.startComp flip first s).trunk = s.trunk := by simp [State.startComp]
theorem State.writeTile_held {hb : Base} (c : Comp) (zs : List Zone) (w t : Nat) (s : State) (h : Held hb s.trunk) :
    Held hb (State.writeTile c zs w t s).2.trunk := by
  simp only [State.writeTile]
  rw [foldl_trunk _ (fun s j => State.event_trunk ..), State.readOver_trunk]
  exact iter_pair_held _ (fun k p hp => State.storePut_held _ _ _ hp) _ _ h
@[simp] theorem State.compMiss_trunk (c : Comp) (s : State) : (State.compMiss c s).trunk = s.trunk := by simp [State.compMiss]
@[simp] theorem State.compDeadline_trunk (s : State) : (State.compDeadline s).trunk = s.trunk := by
  simp only [State.compDeadline]; (repeat' split) <;> simp
@[simp] theorem State.compDone_trunk (c : Comp) (s : State) : (State.compDone c s).trunk = s.trunk := by simp [State.compDone]
theorem State.tileDone_held {hb : Base} (w : Nat) (s : State) (hk : Held hb s.trunk) : Held hb (State.tileDone w s).trunk := by
  simp only [State.tileDone]
  repeat' (first | with_reducible assumption | (with_reducible refine foldl_held _ (fun s j h => ?_) _ _ ?_) | (with_reducible refine iter_held _ (fun k s h => ?_) _ _ ?_) | split | (with_reducible apply State.writeTile_held) | simp only [State.resolveAll_trunk, State.compMiss_trunk, State.compDone_trunk, trunk_mk, trunk_fold, ite_trunk])
@[simp] theorem State.workerHung_trunk (w : Nat) (s : State) : (State.workerHung w s).trunk = s.trunk := by
  simp only [State.workerHung]; (repeat' split) <;> simp
@[simp] theorem State.compTableDone_trunk (s : State) : (State.compTableDone s).trunk = s.trunk := by
  simp only [State.compTableDone]; (repeat' split) <;> simp
@[simp] theorem State.tableDone_trunk (which : RenderTable) (s : State) : (State.tableDone which s).trunk = s.trunk := by
  simp only [State.tableDone]; (repeat' split) <;> simp

end Sys2Proof.Machine
end

