-- ==== Sys2Proof/Laws/TrunkHoist.lean ====
section
/-! SUPPORT. What the operations of Machine/Hoist.lean leave alone: the queue and the instant, and the memory or its canonical form. -/

namespace Sys2Proof.Machine

set_option linter.all false

@[simp] theorem State.setCred_trunk (c : Nat) (f : Cred → Cred) (s : State) : (State.setCred c f s).trunk = s.trunk := by simp [State.setCred]
@[simp] theorem State.freeCred_trunk (c k : Nat) (s : State) : (State.freeCred c k s).trunk = s.trunk := by simp [State.freeCred]
@[simp] theorem State.sendCredit_trunk (s : State) : (State.sendCredit s).trunk = s.trunk := by simp [State.sendCredit]
@[simp] theorem State.creditTimer_trunk (s : State) : (State.creditTimer s).trunk = s.trunk := by simp [State.creditTimer]
@[simp] theorem State.creditAudit_trunk (s : State) : (State.creditAudit s).trunk = s.trunk := by simp [State.creditAudit]
@[simp] theorem State.restart_trunk (s : State) : (State.restart s).trunk = s.trunk := by simp [State.restart]
@[simp] theorem State.hoistBlind_trunk (attempt : Nat) (s : State) : (State.hoistBlind attempt s).trunk = s.trunk := by simp [State.hoistBlind]
@[simp] theorem State.align_trunk (s : State) : (State.align s).trunk = s.trunk := by simp [State.align]
@[simp] theorem State.classGroup_trunk (s : State) : (State.classGroup s).trunk = s.trunk := by simp [State.classGroup]
@[simp] theorem State.hoistDown_trunk (n : Nat) (s : State) : (State.hoistDown n s).trunk = s.trunk := by simp [State.hoistDown]
@[simp] theorem State.fecGroup_trunk (lane errors : Nat) (heard : GroupHeard) (s : State) : (State.fecGroup lane errors heard s).trunk = s.trunk := by simp [State.fecGroup]
@[simp] theorem State.hoistCheck_trunk (h : HoistHead) (cls cost : Nat) (cf body : List Byte) (s : State) :
    (State.hoistCheck h cls cost cf body s).2.trunk = s.trunk := by
  simp only [State.hoistCheck, apply_ite Prod.snd, apply_ite State.trunk]
  simp
@[simp] theorem State.xstat_trunk (surf status offset : Nat) (s : State) : (State.xstat surf status offset s).trunk = s.trunk := by simp [State.xstat]
@[simp] theorem State.vidMsg_trunk (h : HoistHead) (surf : Byte) (offset : Word) (data : List Byte) (s : State) : (State.vidMsg h surf offset data s).trunk = s.trunk := by simp [State.vidMsg]
@[simp] theorem State.vidEntry_trunk (s : State) : (State.vidEntry s).trunk = s.trunk := by
  simp only [State.vidEntry]; (repeat' split) <;> simp
theorem State.vidDone_held {hb : Base} (s : State) (hk : Held hb s.trunk) : Held hb (State.vidDone s).trunk := by
  simp only [State.vidDone]
  repeat' (first | with_reducible assumption | (with_reducible refine foldl_held _ (fun s j h => ?_) _ _ ?_) | (with_reducible refine iter_held _ (fun k s h => ?_) _ _ ?_) | split | (with_reducible apply State.xferWritten_held) | simp only [State.freeCred_trunk, State.xstat_trunk, trunk_mk, trunk_fold, ite_trunk])
theorem State.abortCur_held {hb : Base} (s : State) (hk : Held hb s.trunk) : Held hb (State.abortCur s).trunk := by
  simp only [State.abortCur]
  repeat' (first | with_reducible assumption | (with_reducible refine foldl_held _ (fun s j h => ?_) _ _ ?_) | (with_reducible refine iter_held _ (fun k s h => ?_) _ _ ?_) | split | (with_reducible apply State.xferAborted_held) | simp only [State.event_trunk, State.freeCred_trunk, State.xstat_trunk, trunk_mk, trunk_fold, ite_trunk])
@[simp] theorem State.abortVid_trunk (surf : Byte) (offset : Nat) (data : List Byte) (s : State) : (State.abortVid surf offset data s).trunk = s.trunk := by simp [State.abortVid]
@[simp] theorem State.abortWaiting_trunk (which : Option Nat) (s : State) : (State.abortWaiting which s).trunk = s.trunk := by
  simp only [State.abortWaiting]
  repeat' (first | with_reducible rfl | (with_reducible refine (foldl_trunk _ (fun s j => ?_) _ _).trans ?_) | (with_reducible refine (iter_trunk _ (fun k s => ?_) _ _).trans ?_) | split | simp)
@[simp] theorem State.sendTimes_trunk (n : Nat) (s : State) : (State.sendTimes n s).trunk = s.trunk := by
  induction n generalizing s with
  | zero => rfl
  | succ n ih => simp only [State.sendTimes]; (repeat' split) <;> simp [ih]
@[simp] theorem State.timeMsg_trunk (h : HoistHead) (t1 : BitVec 64) (token : Word) (s : State) : (State.timeMsg h t1 token s).trunk = s.trunk := by simp [State.timeMsg]
@[simp] theorem State.hcreditMsg_trunk (h : HoistHead) (ack0 ack1 ack2 replyAdv timeAdv : Half) (s : State) : (State.hcreditMsg h ack0 ack1 ack2 replyAdv timeAdv s).trunk = s.trunk := by simp [State.hcreditMsg]
@[simp] theorem State.restartMsg_trunk (h : HoistHead) (s : State) : (State.restartMsg h s).trunk = s.trunk := by simp [State.restartMsg]
@[simp] theorem State.objMsg_trunk (h : HoistHead) (seq : Half) (frag last : Byte) (data : List Byte) (s : State) : (State.objMsg h seq frag last data s).trunk = s.trunk := by simp [State.objMsg]
@[simp] theorem State.cmdMsg_trunk (h : HoistHead) (p : List Byte) (s : State) : (State.cmdMsg h p s).trunk = s.trunk := by simp [State.cmdMsg]
@[simp] theorem State.timeStale_trunk (s : State) : (State.timeStale s).trunk = s.trunk := by
  simp only [State.timeStale]; (repeat' split) <;> simp
@[simp] theorem State.hoistAttempt_trunk (s : State) : (State.hoistAttempt s).trunk = s.trunk := by simp [State.hoistAttempt]
@[simp] theorem State.hoistGiveUp_trunk (s : State) : (State.hoistGiveUp s).trunk = s.trunk := by simp [State.hoistGiveUp]
@[simp] theorem State.hoistStart_trunk (s : State) : (State.hoistStart s).trunk = s.trunk := by simp [State.hoistStart]
@[simp] theorem State.hoistFirst_trunk (s : State) : (State.hoistFirst s).trunk = s.trunk := by simp [State.hoistFirst]
@[simp] theorem State.hoistFail_trunk (s : State) : (State.hoistFail s).trunk = s.trunk := by simp [State.hoistFail]
@[simp] theorem State.hoistBond_trunk (s : State) : (State.hoistBond s).trunk = s.trunk := by simp [State.hoistBond]
@[simp] theorem State.hoistFull_trunk (t : Nat) (s : State) : (State.hoistFull t s).trunk = s.trunk := by simp [State.hoistFull]
@[simp] theorem State.hoistLast_trunk (s : State) : (State.hoistLast s).trunk = s.trunk := by simp [State.hoistLast]
@[simp] theorem State.hoistPrecode_trunk (s : State) : (State.hoistPrecode s).trunk = s.trunk := by simp [State.hoistPrecode]
@[simp] theorem State.hoistCount_trunk (s : State) : (State.hoistCount s).trunk = s.trunk := by
  simp only [State.hoistCount]; (repeat' split) <;> simp
@[simp] theorem State.hrxAsk_trunk (n : Nat) (s : State) : (State.hrxAsk n s).trunk = s.trunk := by simp [State.hrxAsk]
@[simp] theorem State.hrxAnswer_trunk (n : Nat) (rseq : Byte) (s : State) : (State.hrxAnswer n rseq s).trunk = s.trunk := by simp [State.hrxAnswer]
@[simp] theorem State.htxAnswer_trunk (m : HoistTrainMsg) (s : State) : (State.htxAnswer m s).trunk = s.trunk := by simp [State.htxAnswer]
@[simp] theorem State.hoistReady_trunk (s : State) : (State.hoistReady s).trunk = s.trunk := by simp [State.hoistReady]
@[simp] theorem State.hoistTrain_trunk (n : Nat) (m : HoistTrainMsg) (s : State) : (State.hoistTrain n m s).trunk = s.trunk := by
  simp only [State.hoistTrain]; repeat' (first | split | (simp; done) | simp)
@[simp] theorem State.hoistTimeout_trunk (s : State) : (State.hoistTimeout s).trunk = s.trunk := by simp [State.hoistTimeout]
@[simp] theorem State.hoistAgain_trunk (s : State) : (State.hoistAgain s).trunk = s.trunk := by simp [State.hoistAgain]
@[simp] theorem State.hoistCaps_trunk (c : CapRecord) (s : State) : (State.hoistCaps c s).trunk = s.trunk := by simp [State.hoistCaps]

end Sys2Proof.Machine
end

