-- ==== Sys2Proof/Laws/TrunkScan.lean ====
section
/-! SUPPORT. What the operations of Machine/Scan.lean leave alone: the queue and the instant, and the memory or its canonical form. -/

namespace Sys2Proof.Machine

set_option linter.all false

@[simp] theorem State.setSeg_trunk (n : Nat) (f : Seg → Seg) (s : State) : (State.setSeg n f s).trunk = s.trunk := by simp [State.setSeg]
@[simp] theorem State.echoSkip_trunk (n : Nat) (s : State) : (State.echoSkip n s).trunk = s.trunk := by simp [State.echoSkip]
@[simp] theorem State.endSent_trunk (n p ts : Nat) (sige : Word) (scw sam : Nat) (s : State) : (State.endSent n p ts sige scw sam s).trunk = s.trunk := by simp [State.endSent]
@[simp] theorem State.endLane_trunk (n : Nat) (s : State) : (State.endLane n s).trunk = s.trunk := by simp [State.endLane]
@[simp] theorem State.endPass_trunk (s : State) : (State.endPass s).trunk = s.trunk := by simp [State.endPass]
@[simp] theorem State.anchorAt_trunk (a : Nat) (s : State) : (State.anchorAt a s).trunk = s.trunk := by simp [State.anchorAt]
@[simp] theorem State.anchorComp_trunk (s : State) : (State.anchorComp s).trunk = s.trunk := by simp [State.anchorComp]
@[simp] theorem State.blockStart_trunk (s : State) : (State.blockStart s).trunk = s.trunk := by simp [State.blockStart]
@[simp] theorem State.scanStart_trunk (s : State) : (State.scanStart s).trunk = s.trunk := by simp [State.scanStart]
@[simp] theorem State.scanAnchor_trunk (s : State) : (State.scanAnchor s).trunk = s.trunk := by
  simp only [State.scanAnchor]; (repeat' split) <;> simp
@[simp] theorem State.freezeFlip_trunk (s : State) : (State.freezeFlip s).trunk = s.trunk := by simp [State.freezeFlip]
@[simp] theorem State.nextFlip_trunk (s : State) : (State.nextFlip s).trunk = s.trunk := by simp [State.nextFlip]
@[simp] theorem State.afterFlip_trunk (first : Bool) (s : State) : (State.afterFlip first s).trunk = s.trunk := by simp [State.afterFlip]
@[simp] theorem State.flipSwap_trunk (info : FrameInfo) (f : Nat) (s : State) : (State.flipSwap info f s).trunk = s.trunk := by simp [State.flipSwap]
@[simp] theorem State.flipSets_trunk (old : Nat → Nat) (s : State) : (State.flipSets old s).trunk = s.trunk := by simp [State.flipSets]
@[simp] theorem State.flipPcdiv_trunk (s : State) : (State.flipPcdiv s).trunk = s.trunk := by
  simp only [State.flipPcdiv]; (repeat' split) <;> simp
@[simp] theorem State.flipPace_trunk (retrain restart : Bool) (f ts : Nat) (s : State) : (State.flipPace retrain restart f ts s).trunk = s.trunk := by simp [State.flipPace]
@[simp] theorem State.flipBeam_trunk (s : State) : (State.flipBeam s).trunk = s.trunk := by
  simp only [State.flipBeam]; (repeat' split) <;> simp
@[simp] theorem State.flipTaken_trunk (info : FrameInfo) (f : Nat) (s : State) : (State.flipTaken info f s).trunk = s.trunk := by simp [State.flipTaken]
@[simp] theorem State.flipMissed_trunk (s : State) : (State.flipMissed s).trunk = s.trunk := by
  simp only [State.flipMissed]; (repeat' split) <;> simp
@[simp] theorem State.flipInstant_trunk (s : State) : (State.flipInstant s).trunk = s.trunk := by
  simp only [State.flipInstant]; (repeat' split) <;> simp
@[simp] theorem State.pushWindow_trunk (s : State) : (State.pushWindow s).trunk = s.trunk := by simp [State.pushWindow]
@[simp] theorem State.frameStart_trunk (p : Nat) (show_ : Show) (lines : Bool) (s : State) : (State.frameStart p show_ lines s).trunk = s.trunk := by simp [State.frameStart]
@[simp] theorem State.freezePass_trunk (p : Nat) (lines : Bool) (s : State) : (State.freezePass p lines s).trunk = s.trunk := by simp [State.freezePass]
@[simp] theorem State.passUnder_trunk (s : State) : (State.passUnder s).trunk = s.trunk := by simp [State.passUnder]
@[simp] theorem State.passTake_trunk (lines : Bool) (s : State) : (State.passTake lines s).trunk = s.trunk := by simp [State.passTake]
@[simp] theorem State.passInject_trunk (s : State) : (State.passInject s).trunk = s.trunk := by
  simp only [State.passInject]; (repeat' split) <;> simp
@[simp] theorem State.passBegin_trunk (s : State) : (State.passBegin s).trunk = s.trunk := by simp [State.passBegin]
@[simp] theorem State.retrainLanes_trunk (s : State) : (State.retrainLanes s).trunk = s.trunk := by simp [State.retrainLanes]
@[simp] theorem State.retrainFail_trunk (r : Retrain) (s : State) : (State.retrainFail r s).trunk = s.trunk := by simp [State.retrainFail]
@[simp] theorem State.retrainCheck_trunk (s : State) : (State.retrainCheck s).trunk = s.trunk := by
  simp only [State.retrainCheck]; (repeat' split) <;> simp
@[simp] theorem State.openRetrain_trunk (r : Retrain) (s : State) : (State.openRetrain r s).trunk = s.trunk := by simp [State.openRetrain]
@[simp] theorem State.stopNow_trunk (s : State) : (State.stopNow s).trunk = s.trunk := by simp [State.stopNow]
@[simp] theorem State.passStart_trunk (s : State) : (State.passStart s).trunk = s.trunk := by
  simp only [State.passStart]; (repeat' split) <;> simp
@[simp] theorem State.underrun_trunk (n line pixel : Nat) (s : State) : (State.underrun n line pixel s).trunk = s.trunk := by simp [State.underrun]
@[simp] theorem State.lockBack_trunk (n : Nat) (s : State) : (State.lockBack n s).trunk = s.trunk := by simp [State.lockBack]
@[simp] theorem State.laneUp_trunk (n : Nat) (s : State) : (State.laneUp n s).trunk = s.trunk := by simp [State.laneUp]
@[simp] theorem State.backHeard_trunk (n : Nat) (s : State) : (State.backHeard n s).trunk = s.trunk := by simp [State.backHeard]
@[simp] theorem State.judgeSubst_trunk (n : Nat) (s : State) : (State.judgeSubst n s).trunk = s.trunk := by simp [State.judgeSubst]
@[simp] theorem State.markWindow_trunk (n : Nat) (fseq : Half) (f : Nat × Nat → Nat × Nat) (s : State) : (State.markWindow n fseq f s).trunk = s.trunk := by simp [State.markWindow]
@[simp] theorem State.echoMsg_trunk (n : Nat) (fseq : Half) (nsub : Nat) (crc : Word) (s : State) : (State.echoMsg n fseq nsub crc s).trunk = s.trunk := by
  simp only [State.echoMsg]; (repeat' split) <;> simp
@[simp] theorem State.echoDeadline_trunk (s : State) : (State.echoDeadline s).trunk = s.trunk := by
  simp only [State.echoDeadline]
  refine iter_trunk _ (fun k s => ?_) _ _
  (repeat' split) <;> simp
@[simp] theorem State.echoLost_trunk (n : Nat) (s : State) : (State.echoLost n s).trunk = s.trunk := by
  simp only [State.echoLost]; (repeat' split) <;> simp
@[simp] theorem State.retrainTimeout_trunk (s : State) : (State.retrainTimeout s).trunk = s.trunk := by
  simp only [State.retrainTimeout]; (repeat' split) <;> simp
@[simp] theorem State.retrainAnchor_trunk (s : State) : (State.retrainAnchor s).trunk = s.trunk := by
  simp only [State.retrainAnchor]; (repeat' split) <;> simp
@[simp] theorem State.limpStart_trunk (p ts : Nat) (first : Bool) (s : State) : (State.limpStart p ts first s).trunk = s.trunk := by simp [State.limpStart]
@[simp] theorem State.limpPass_trunk (s : State) : (State.limpPass s).trunk = s.trunk := by simp [State.limpPass]

end Sys2Proof.Machine
end

