-- ==== Sys2Proof/Laws/TrunkFly.lean ====
section
/-! SUPPORT. What the operations of Machine/Fly.lean leave alone: the queue and the instant, and the memory or its canonical form. -/

namespace Sys2Proof.Machine

set_option linter.all false

@[simp] theorem State.marker_trunk (n : Nat) (s : State) : (State.marker n s).trunk = s.trunk := by simp [State.marker]
@[simp] theorem State.fstartFill_trunk (n : Nat) (s : State) : (State.fstartFill n s).trunk = s.trunk := by simp [State.fstartFill]
@[simp] theorem State.laneUpTimeout_trunk (n : Nat) (s : State) : (State.laneUpTimeout n s).trunk = s.trunk := by simp [State.laneUpTimeout]
@[simp] theorem State.trainFail_trunk (n : Nat) (s : State) : (State.trainFail n s).trunk = s.trunk := by simp [State.trainFail]
@[simp] theorem State.trainTimeout_trunk (n : Nat) (s : State) : (State.trainTimeout n s).trunk = s.trunk := by simp [State.trainTimeout]
@[simp] theorem State.setLoss_trunk (n ahi alo : Nat) (s : State) : (State.setLoss n ahi alo s).trunk = s.trunk := by simp [State.setLoss]
@[simp] theorem State.trained_trunk (n ahi alo : Nat) (s : State) : (State.trained n ahi alo s).trunk = s.trunk := by simp [State.trained]
@[simp] theorem State.laneTaps_trunk (n : Nat) (m : TrainMsg) (s : State) : (State.laneTaps n m s).trunk = s.trunk := by simp [State.laneTaps]
@[simp] theorem State.trainMsg_trunk (n : Nat) (m : TrainMsg) (s : State) : (State.trainMsg n m s).trunk = s.trunk := by
  simp only [State.trainMsg]; (repeat' split) <;> simp
@[simp] theorem State.laneLost_trunk (n : Nat) (s : State) : (State.laneLost n s).trunk = s.trunk := by simp [State.laneLost]
@[simp] theorem State.statusMsg_trunk (n : Nat) (flags mslip : Nat) (inverted : Bool) (s : State) : (State.statusMsg n flags mslip inverted s).trunk = s.trunk := by simp [State.statusMsg]
@[simp] theorem State.backBad_trunk (n : Nat) (s : State) : (State.backBad n s).trunk = s.trunk := by simp [State.backBad]
@[simp] theorem State.backDiscard_trunk (n : Nat) (frame : List Byte) (s : State) : (State.backDiscard n frame s).trunk = s.trunk := by simp [State.backDiscard]
@[simp] theorem State.substMsg_trunk (n : Nat) (fseq : Half) (cause : Nat) (line : Nat) (s : State) : (State.substMsg n fseq cause line s).trunk = s.trunk := by simp [State.substMsg]
@[simp] theorem State.markack_trunk (n : Nat) (resid : Int) (elapsed : Nat) (s : State) : (State.markack n resid elapsed s).trunk = s.trunk := by simp [State.markack]
@[simp] theorem State.prbsSeed_trunk (pattern : Nat) (s : State) : (State.prbsSeed pattern s).2.trunk = s.trunk := by simp [State.prbsSeed]
@[simp] theorem State.laneTestRun_trunk (id : ReqId) (mask : BitVec 16) (pattern inject ms : Nat) (s : State) : (State.laneTestRun id mask pattern inject ms s).trunk = s.trunk := by simp [State.laneTestRun]
@[simp] theorem State.laneTestReply_trunk (s : State) : (State.laneTestReply s).trunk = s.trunk := by
  simp only [State.laneTestReply]; (repeat' split) <;> simp
@[simp] theorem State.laneTestCheck_trunk (s : State) : (State.laneTestCheck s).trunk = s.trunk := by
  simp only [State.laneTestCheck]; (repeat' split) <;> simp
@[simp] theorem State.laneTestEnd_trunk (s : State) : (State.laneTestEnd s).trunk = s.trunk := by
  simp only [State.laneTestEnd]; (repeat' split) <;> simp
@[simp] theorem State.prbsMsg_trunk (n : Nat) (errors : Word) (s : State) : (State.prbsMsg n errors s).trunk = s.trunk := by
  simp only [State.prbsMsg]; (repeat' split) <;> simp
@[simp] theorem State.prbsTimeout_trunk (s : State) : (State.prbsTimeout s).trunk = s.trunk := by
  simp only [State.prbsTimeout]; (repeat' split) <;> simp

end Sys2Proof.Machine
end

