-- ==== Sys2Proof/Laws/TrunkLight.lean ====
section
/-! SUPPORT. What the operations of Machine/Light.lean leave alone: the queue and the instant, and the memory or its canonical form. -/

namespace Sys2Proof.Machine

set_option linter.all false

@[simp] theorem State.setEng_trunk (f : Engine → Engine) (s : State) : (State.setEng f s).trunk = s.trunk := by simp [State.setEng]
@[simp] theorem State.step7Fail_trunk (code : Nat) (s : State) : (State.step7Fail code s).trunk = s.trunk := by simp [State.step7Fail]
@[simp] theorem State.step7Read_trunk (st : Step7) (n : Nat) (u : CtrlUse) (addr count : Nat) (s : State) : (State.step7Read st n u addr count s).trunk = s.trunk := by simp [State.step7Read]
@[simp] theorem State.unmap_trunk (map : BitVec 16) (s : State) : (State.unmap map s).trunk = s.trunk := by simp [State.unmap]
@[simp] theorem State.acceptEngine_trunk (pair : Bool) (s : State) : (State.acceptEngine pair s).trunk = s.trunk := by simp [State.acceptEngine]
@[simp] theorem State.firstEngine_trunk (s : State) : (State.firstEngine s).trunk = s.trunk := by simp [State.firstEngine]
@[simp] theorem State.burgeeFail_trunk (n : Nat) (u : CtrlUse) (addr count : Nat) (s : State) : (State.burgeeFail n u addr count s).trunk = s.trunk := by simp [State.burgeeFail]
@[simp] theorem State.burgeeBad_trunk (n : Nat) (s : State) : (State.burgeeBad n s).trunk = s.trunk := by simp [State.burgeeBad]
@[simp] theorem State.burgeeRead_trunk (n : Nat) (b : List Byte) (s : State) : (State.burgeeRead n b s).trunk = s.trunk := by simp [State.burgeeRead]
@[simp] theorem State.opticsRead_trunk (n : Nat) (b : List Byte) (s : State) : (State.opticsRead n b s).trunk = s.trunk := by simp [State.opticsRead]
@[simp] theorem State.entriesOf_trunk (check : Nat → State → Option Nat × State) (h : ∀ k s, (check k s).2.trunk = s.trunk) (n : Nat) (s : State) :
    (State.entriesOf check n s).2.trunk = s.trunk := by
  simp only [State.entriesOf]
  generalize List.range n = l
  suffices ∀ (l : List Nat) (p : List (Nat × Nat) × State), (l.foldl (fun p k =>
      (match (check k p.2).1 with | some g => p.1 ++ [(g, k)] | none => p.1, (check k p.2).2)) p).2.trunk = p.2.trunk from this l ([], s)
  intro l
  induction l with
  | nil => intro p; rfl
  | cons k t ih => intro p; rw [List.foldl_cons, ih, h]
@[simp] theorem State.ringGen_trunk (ring : List Byte) (k : Nat) (s : State) : (State.ringGen ring k s).2.trunk = s.trunk := by
  simp only [State.ringGen]; split <;> simp
@[simp] theorem State.logSess_trunk (log : List Byte) (k : Nat) (s : State) : (State.logSess log k s).2.trunk = s.trunk := by
  simp only [State.logSess]; (repeat' split) <;> simp
@[simp] theorem State.eolLoad_trunk (s : State) : (State.eolLoad s).trunk = s.trunk := by simp [State.eolLoad]
@[simp] theorem State.ringRead_trunk (ring : List Byte) (s : State) : (State.ringRead ring s).trunk = s.trunk := by
  simp only [State.ringRead]; (repeat' split) <;> simp
@[simp] theorem State.logRead_trunk (log : List Byte) (s : State) : (State.logRead log s).trunk = s.trunk := by simp [State.logRead]
theorem State.gainPut_held {hb : Base} (n k l : Nat) (b : List Byte) (s : State) (h : Held hb s.trunk) :
    Held hb (State.gainPut n k l b s).trunk := by
  induction k generalizing l b s with
  | zero => exact h
  | succ k ih => exact ih _ _ _ (State.storePut_held _ _ _ h)
theorem State.gainCheck_held {hb : Base} (s : State) (hk : Held hb s.trunk) : Held hb (State.gainCheck s).trunk := by
  simp only [State.gainCheck]
  repeat' (first | with_reducible assumption | (with_reducible refine foldl_held _ (fun s j h => ?_) _ _ ?_) | (with_reducible refine iter_held _ (fun k s h => ?_) _ _ ?_) | split | (with_reducible apply State.storePut_held) | simp only [State.setEng_trunk, trunk_mk, trunk_fold, ite_trunk])
theorem State.gainMark_held {hb : Base} (n : Nat) (s : State) (hk : Held hb s.trunk) : Held hb (State.gainMark n s).trunk := by
  simp only [State.gainMark]
  repeat' (first | with_reducible assumption | (with_reducible refine foldl_held _ (fun s j h => ?_) _ _ ?_) | (with_reducible refine iter_held _ (fun k s h => ?_) _ _ ?_) | split | (with_reducible apply State.gainCheck_held) | simp only [State.setEng_trunk, trunk_mk, trunk_fold, ite_trunk])
theorem State.gainLost_held {hb : Base} (n : Nat) (s : State) (hk : Held hb s.trunk) : Held hb (State.gainLost n s).trunk := by
  simp only [State.gainLost]
  repeat' (first | with_reducible assumption | (with_reducible refine foldl_held _ (fun s j h => ?_) _ _ ?_) | (with_reducible refine iter_held _ (fun k s h => ?_) _ _ ?_) | split | (with_reducible apply State.gainPut_held) | (with_reducible apply State.gainMark_held) | simp only [State.raise0_trunk, State.setEng_trunk, trunk_mk, trunk_fold, ite_trunk])
theorem State.gainRead_held {hb : Base} (n addr : Nat) (b : List Byte) (s : State) (hk : Held hb s.trunk) : Held hb (State.gainRead n addr b s).trunk := by
  simp only [State.gainRead]
  repeat' (first | with_reducible assumption | (with_reducible refine foldl_held _ (fun s j h => ?_) _ _ ?_) | (with_reducible refine iter_held _ (fun k s h => ?_) _ _ ?_) | split | (with_reducible apply State.gainPut_held) | (with_reducible apply State.gainMark_held) | simp only [State.ctrlSend_trunk, trunk_mk, trunk_fold, ite_trunk])
theorem State.gainFail_held {hb : Base} (n addr : Nat) (s : State) (hk : Held hb s.trunk) : Held hb (State.gainFail n addr s).trunk := by
  simp only [State.gainFail]
  repeat' (first | with_reducible assumption | (with_reducible refine foldl_held _ (fun s j h => ?_) _ _ ?_) | (with_reducible refine iter_held _ (fun k s h => ?_) _ _ ?_) | split | (with_reducible apply State.gainLost_held) | simp only [State.ctrlSend_trunk, State.setEng_trunk, trunk_mk, trunk_fold, ite_trunk])
theorem State.step7Check_held {hb : Base} (s : State) (hk : Held hb s.trunk) : Held hb (State.step7Check s).trunk := by
  simp only [State.step7Check]
  repeat' (first | with_reducible assumption | (with_reducible refine foldl_held _ (fun s j h => ?_) _ _ ?_) | (with_reducible refine iter_held _ (fun k s h => ?_) _ _ ?_) | split | (with_reducible apply State.gainLost_held) | simp only [State.ctrlSend_trunk, State.step7Fail_trunk, State.step7Read_trunk, State.acceptEngine_trunk, trunk_mk, trunk_fold, ite_trunk])
theorem State.step7Lost_held {hb : Base} (n : Nat) (c : Ctrl) (s : State) (hk : Held hb s.trunk) : Held hb (State.step7Lost n c s).trunk := by
  simp only [State.step7Lost]
  repeat' (first | with_reducible assumption | (with_reducible refine foldl_held _ (fun s j h => ?_) _ _ ?_) | (with_reducible refine iter_held _ (fun k s h => ?_) _ _ ?_) | split | (with_reducible apply State.gainFail_held) | simp only [State.ctrlSend_trunk, State.setEng_trunk, State.burgeeFail_trunk, State.ringRead_trunk, State.logRead_trunk, trunk_mk, trunk_fold, ite_trunk])
@[simp] theorem State.merged_trunk (n : Nat) (b : List Byte) (s : State) : (State.merged n b s).trunk = s.trunk := by simp [State.merged]
@[simp] theorem State.kaBack_trunk (n : Nat) (b : List Byte) (s : State) : (State.kaBack n b s).trunk = s.trunk := by
  simp only [State.kaBack]; (repeat' split) <;> simp
@[simp] theorem State.hostReadEnd_trunk (n st : Nat) (b : List Byte) (s : State) : (State.hostReadEnd n st b s).trunk = s.trunk := by
  simp only [State.hostReadEnd]; (repeat' split) <;> simp
@[simp] theorem State.censusGot_trunk (n : Nat) (r : Half × Half) (s : State) : (State.censusGot n r s).trunk = s.trunk := by
  simp only [State.censusGot]; (repeat' split) <;> simp
@[simp] theorem State.jobsGo_trunk (n : Nat) (s : State) : (State.jobsGo n s).trunk = s.trunk := by simp [State.jobsGo]
theorem State.ctrlLost_held {hb : Base} (n : Nat) (c : Ctrl) (st : Nat) (s : State) (hk : Held hb s.trunk) : Held hb (State.ctrlLost n c st s).trunk := by
  simp only [State.ctrlLost]
  repeat' (first | with_reducible assumption | (with_reducible refine foldl_held _ (fun s j h => ?_) _ _ ?_) | (with_reducible refine iter_held _ (fun k s h => ?_) _ _ ?_) | split | (with_reducible apply State.step7Lost_held) | simp only [State.jobsGo_trunk, State.hostReadEnd_trunk, State.endKa_trunk, State.endCensus_trunk, State.jobFail_trunk, trunk_mk, trunk_fold, ite_trunk])
@[simp] theorem State.nvData_trunk (n : Nat) (seq : Byte) (data : List Byte) (s : State) : (State.nvData n seq data s).trunk = s.trunk := by
  simp only [State.nvData]; (repeat' split) <;> simp
theorem State.readDone_held {hb : Base} (n : Nat) (c : Ctrl) (b : List Byte) (s : State) (hk : Held hb s.trunk) : Held hb (State.readDone n c b s).trunk := by
  simp only [State.readDone]
  repeat' (first | with_reducible assumption | (with_reducible refine foldl_held _ (fun s j h => ?_) _ _ ?_) | (with_reducible refine iter_held _ (fun k s h => ?_) _ _ ?_) | split | (with_reducible apply State.gainRead_held) | simp only [State.ringRead_trunk, State.jobsGo_trunk, State.hostReadEnd_trunk, State.kaBack_trunk, State.logRead_trunk, State.merged_trunk, State.burgeeRead_trunk, State.opticsRead_trunk, trunk_mk, trunk_fold, ite_trunk])
theorem State.nvEnd_held {hb : Base} (n : Nat) (tag status : Nat) (crc : Word) (s : State) (hk : Held hb s.trunk) : Held hb (State.nvEnd n tag status crc s).trunk := by
  simp only [State.nvEnd]
  repeat' (first | with_reducible assumption | (with_reducible refine foldl_held _ (fun s j h => ?_) _ _ ?_) | (with_reducible refine iter_held _ (fun k s h => ?_) _ _ ?_) | split | (with_reducible apply State.ctrlLost_held) | (with_reducible apply State.readDone_held) | simp)
theorem State.ctrlAck_held {hb : Base} (n : Nat) (tag status : Nat) (data : BitVec 48) (s : State) (hk : Held hb s.trunk) : Held hb (State.ctrlAck n tag status data s).trunk := by
  simp only [State.ctrlAck]
  repeat' (first | with_reducible assumption | (with_reducible refine foldl_held _ (fun s j h => ?_) _ _ ?_) | (with_reducible refine iter_held _ (fun k s h => ?_) _ _ ?_) | split | (with_reducible apply State.ctrlLost_held) | simp only [State.jobsGo_trunk, State.backHeard_trunk, State.jobStep_trunk, failStatus_trunk, State.jobDone_trunk, State.ctrlEnd_trunk, State.modJob_trunk, State.censusGot_trunk, trunk_mk, trunk_fold, ite_trunk])
theorem State.ctrlTimeout_held {hb : Base} (n : Nat) (tag : BitVec 2) (s : State) (hk : Held hb s.trunk) : Held hb (State.ctrlTimeout n tag s).trunk := by
  simp only [State.ctrlTimeout]
  repeat' (first | with_reducible assumption | (with_reducible refine foldl_held _ (fun s j h => ?_) _ _ ?_) | (with_reducible refine iter_held _ (fun k s h => ?_) _ _ ?_) | split | (with_reducible apply State.ctrlLost_held) | simp only [State.raise0_trunk, State.ctrlEnd_trunk, trunk_mk, trunk_fold, ite_trunk])
@[simp] theorem State.engineInfo_trunk (id : ReqId) (s : State) : (State.engineInfo id s).trunk = s.trunk := by simp [State.engineInfo]
@[simp] theorem State.nvReadRun_trunk (id : ReqId) (seg count addr : Nat) (s : State) : (State.nvReadRun id seg count addr s).trunk = s.trunk := by simp [State.nvReadRun]
@[simp] theorem State.nvWriteRun_trunk (id : ReqId) (seg addr : Nat) (data : List Byte) (s : State) : (State.nvWriteRun id seg addr data s).trunk = s.trunk := by simp [State.nvWriteRun]
@[simp] theorem State.kaRun_trunk (id : ReqId) (seg surf : Nat) (crc : Word) (s : State) : (State.kaRun id seg surf crc s).trunk = s.trunk := by simp [State.kaRun]
@[simp] theorem State.censusRun_trunk (id : ReqId) (mask : BitVec 16) (s : State) : (State.censusRun id mask s).trunk = s.trunk := by
  simp only [State.censusRun]
  generalize hr : iter _ 16 _ = r
  have h : r.2.trunk = s.trunk := by
    rw [← hr]
    refine iter_pair_trunk _ (fun k p => ?_) _ _
    split <;> simp
  split
  · simpa using h
  · rw [iter_trunk _ (fun k s => ?_)]
    · simpa using h
    · split <;> simp
@[simp] theorem State.pathctl_trunk (deltaMa : Nat) (s : State) : (State.pathctl deltaMa s).trunk = s.trunk := by simp [State.pathctl]
@[simp] theorem State.pathDone_trunk (deltaUv deltaMa : Nat) (s : State) : (State.pathDone deltaUv deltaMa s).trunk = s.trunk := by
  simp only [State.pathDone]; (repeat' split) <;> simp

end Sys2Proof.Machine
end

