-- ==== Sys2Proof/Laws/TrunkEnsign.lean ====
section
/-! SUPPORT. What the operations of Machine/Ensign.lean leave alone: the queue and the instant, and the memory or its canonical form. -/

namespace Sys2Proof.Machine

set_option linter.all false

@[simp] theorem State.setEns_trunk (f : Ensign → Ensign) (s : State) : (State.setEns f s).trunk = s.trunk := by simp [State.setEns]
@[simp] theorem State.setGdn_trunk (f : Guidon → Guidon) (s : State) : (State.setGdn f s).trunk = s.trunk := by simp [State.setGdn]
@[simp] theorem State.setDl_trunk (f : DieLink → DieLink) (s : State) : (State.setDl f s).trunk = s.trunk := by simp [State.setDl]
@[simp] theorem State.ensEnter_trunk (dark : Bool) (src code : Nat) (s : State) : (State.ensEnter dark src code s).trunk = s.trunk := by simp [State.ensEnter]
@[simp] theorem State.passDown_trunk (s : State) : (State.passDown s).trunk = s.trunk := by simp [State.passDown]
@[simp] theorem State.passUp_trunk (s : State) : (State.passUp s).trunk = s.trunk := by simp [State.passUp]
@[simp] theorem State.discardDown_trunk (s : State) : (State.discardDown s).trunk = s.trunk := by simp [State.discardDown]
@[simp] theorem State.discardUp_trunk (s : State) : (State.discardUp s).trunk = s.trunk := by simp [State.discardUp]
@[simp] theorem State.landDown_trunk (f : State → State) (hf : ∀ x, (f x).trunk = x.trunk) (s : State) : (State.landDown f s).trunk = s.trunk := by
  simp only [State.landDown]; split <;> simp [hf]
@[simp] theorem State.landUp_trunk (f : State → State) (hf : ∀ x, (f x).trunk = x.trunk) (s : State) : (State.landUp f s).trunk = s.trunk := by
  simp only [State.landUp]; split <;> simp [hf]
@[simp] theorem State.tryClose_trunk (s : State) : (State.tryClose s).trunk = s.trunk := by simp [State.tryClose]
@[simp] theorem State.closeDue_trunk (s : State) : (State.closeDue s).trunk = s.trunk := by
  simp only [State.closeDue]; (repeat' split) <;> simp
@[simp] theorem State.heartbeatSend_trunk (s : State) : (State.heartbeatSend s).trunk = s.trunk := by simp [State.heartbeatSend]
@[simp] theorem State.heartBad_trunk (s : State) : (State.heartBad s).trunk = s.trunk := by simp [State.heartBad]
@[simp] theorem State.heartGood_trunk (s : State) : (State.heartGood s).trunk = s.trunk := by simp [State.heartGood]
@[simp] theorem State.testReply_trunk (id : ReqId) (test result detail : Nat) (s : State) : (State.testReply id test result detail s).trunk = s.trunk := by simp [State.testReply]
@[simp] theorem State.heartbeat_trunk (seq answer : Byte) (test linkOk : Bool) (s : State) : (State.heartbeat seq answer test linkOk s).trunk = s.trunk := by
  simp only [State.heartbeat]; (repeat' split) <;> simp
@[simp] theorem State.windowClose_trunk (s : State) : (State.windowClose s).trunk = s.trunk := by simp [State.windowClose]
@[simp] theorem State.statusLeave_trunk (urgent : Bool) (s : State) : (State.statusLeave urgent s).trunk = s.trunk := by simp [State.statusLeave]
@[simp] theorem State.statusSend_trunk (s : State) : (State.statusSend s).trunk = s.trunk := by simp [State.statusSend]
@[simp] theorem State.statusChange_trunk (s : State) : (State.statusChange s).trunk = s.trunk := by simp [State.statusChange]
@[simp] theorem State.statusTake_trunk (m : StatusMsg) (s : State) : (State.statusTake m s).trunk = s.trunk := by simp [State.statusTake]
@[simp] theorem State.ensStatus_trunk (s : State) : (State.ensStatus s).trunk = s.trunk := by
  simp only [State.ensStatus]; split <;> simp
@[simp] theorem State.takeUp_trunk (f : State → State) (hf : ∀ x, (f x).trunk = x.trunk) (s : State) : (State.takeUp f s).trunk = s.trunk := by
  simp only [State.takeUp]; split <;> simp [hf]
@[simp] theorem State.ensSilent_trunk (s : State) : (State.ensSilent s).trunk = s.trunk := by simp [State.ensSilent]
@[simp] theorem State.meas_trunk (ma mv : Half) (s : State) : (State.meas ma mv s).trunk = s.trunk := by simp [State.meas]
@[simp] theorem State.oscFail_trunk (s : State) : (State.oscFail s).trunk = s.trunk := by simp [State.oscFail]
@[simp] theorem State.oscCheck_trunk (dev : Nat) (s : State) : (State.oscCheck dev s).trunk = s.trunk := by simp [State.oscCheck]
@[simp] theorem State.oscLost_trunk (s : State) : (State.oscLost s).trunk = s.trunk := by simp [State.oscLost]
@[simp] theorem State.oscTimeout_trunk (s : State) : (State.oscTimeout s).trunk = s.trunk := by simp [State.oscTimeout]
@[simp] theorem State.rtcOscOk_trunk (s : State) : (State.rtcOscOk s).trunk = s.trunk := by simp [State.rtcOscOk]
@[simp] theorem State.rtcOscStop_trunk (s : State) : (State.rtcOscStop s).trunk = s.trunk := by simp [State.rtcOscStop]
@[simp] theorem State.inputSeen_trunk (s : State) : (State.inputSeen s).trunk = s.trunk := by simp [State.inputSeen]
@[simp] theorem State.setDisc_trunk (pair : InputPair) (on : Bool) (at_ : Nat) (s : State) : (State.setDisc pair on at_ s).trunk = s.trunk := by simp [State.setDisc]
@[simp] theorem State.pairDisc_trunk (pair : InputPair) (t0 : Nat) (s : State) : (State.pairDisc pair t0 s).trunk = s.trunk := by simp [State.pairDisc]
@[simp] theorem State.filtered_trunk (k t0 : Nat) (s : State) : (State.filtered k t0 s).trunk = s.trunk := by simp [State.filtered]
@[simp] theorem State.inputDue_trunk (k : Nat) (s : State) : (State.inputDue k s).trunk = s.trunk := by simp [State.inputDue]
@[simp] theorem State.inputsDue_trunk (s : State) : (State.inputsDue s).trunk = s.trunk := by simp [State.inputsDue]
@[simp] theorem State.darkDemand_trunk (s : State) : (State.darkDemand s).trunk = s.trunk := by simp [State.darkDemand]
@[simp] theorem State.darkEnd_trunk (s : State) : (State.darkEnd s).trunk = s.trunk := by simp [State.darkEnd]
@[simp] theorem State.housingOpen_trunk (s : State) : (State.housingOpen s).trunk = s.trunk := by simp [State.housingOpen]
@[simp] theorem State.housingClosed_trunk (s : State) : (State.housingClosed s).trunk = s.trunk := by simp [State.housingClosed]
@[simp] theorem State.svcArm_trunk (s : State) : (State.svcArm s).trunk = s.trunk := by
  simp only [State.svcArm]; (repeat' split) <;> simp
@[simp] theorem State.svcDisarm_trunk (s : State) : (State.svcDisarm s).trunk = s.trunk := by simp [State.svcDisarm]
@[simp] theorem State.nearField_trunk (ch : Channel) (s : State) : (State.nearField ch s).trunk = s.trunk := by simp [State.nearField]
@[simp] theorem State.nearRelease_trunk (s : State) : (State.nearRelease s).trunk = s.trunk := by simp [State.nearRelease]
@[simp] theorem State.pulseTimeout_trunk (ch : Channel) (s : State) : (State.pulseTimeout ch s).trunk = s.trunk := by
  simp only [State.pulseTimeout]; (repeat' split) <;> simp
@[simp] theorem State.pulseSeen_trunk (k : Nat) (s : State) : (State.pulseSeen k s).trunk = s.trunk := by simp [State.pulseSeen]
@[simp] theorem State.svcRise_trunk (k : Nat) (s : State) : (State.svcRise k s).trunk = s.trunk := by simp [State.svcRise]
@[simp] theorem State.inputRise_trunk (k : Nat) (s : State) : (State.inputRise k s).trunk = s.trunk := by simp [State.inputRise]
@[simp] theorem State.inputChange_trunk (i : SafetyInput) (level : Bool) (s : State) : (State.inputChange i level s).trunk = s.trunk := by
  simp only [State.inputChange]; (repeat' split) <;> simp
@[simp] theorem State.discrepancy_trunk (pair : InputPair) (s : State) : (State.discrepancy pair s).trunk = s.trunk := by
  simp only [State.discrepancy]; (repeat' split) <;> simp
@[simp] theorem State.overcurrent_trunk (fast : Bool) (s : State) : (State.overcurrent fast s).trunk = s.trunk := by simp [State.overcurrent]
@[simp] theorem State.monitorFault_trunk (m : SwitchMonitor) (s : State) : (State.monitorFault m s).trunk = s.trunk := by simp [State.monitorFault]
@[simp] theorem State.beamTestFail_trunk (s : State) : (State.beamTestFail s).trunk = s.trunk := by
  simp only [State.beamTestFail]; (repeat' split) <;> simp
@[simp] theorem State.switchTestDone_trunk (m : SwitchMeas) (s : State) : (State.switchTestDone m s).trunk = s.trunk := by
  simp only [State.switchTestDone]
  (repeat' split) <;> simp
@[simp] theorem State.release_trunk (s : State) : (State.release s).trunk = s.trunk := by simp [State.release]
@[simp] theorem State.plausible_trunk (s : State) : (State.plausible s).trunk = s.trunk := by simp [State.plausible]
@[simp] theorem State.romCheck_trunk (ok : Bool) (s : State) : (State.romCheck ok s).trunk = s.trunk := by simp [State.romCheck]
@[simp] theorem State.pairMismatch_trunk (goff : Bool) (s : State) : (State.pairMismatch goff s).trunk = s.trunk := by simp [State.pairMismatch]
@[simp] theorem State.safetyTest_trunk (id : ReqId) (test : Nat) (s : State) : (State.safetyTest id test s).trunk = s.trunk := by
  simp only [State.safetyTest]; (repeat' split) <;> simp
@[simp] theorem State.injectEnd_trunk (s : State) : (State.injectEnd s).trunk = s.trunk := by
  simp only [State.injectEnd]; (repeat' split) <;> simp

end Sys2Proof.Machine
end

