-- ==== Sys2Proof/Laws/TrunkThermal.lean ====
section
/-! SUPPORT. What the operations of Machine/Thermal.lean leave alone: the queue and the instant, and the memory or its canonical form. -/

namespace Sys2Proof.Machine

set_option linter.all false

@[simp] theorem State.setThm_trunk (f : Thermal → Thermal) (s : State) : (State.setThm f s).trunk = s.trunk := by simp [State.setThm]
@[simp] theorem State.setCh_trunk (c : Nat) (f : ThermCh → ThermCh) (s : State) : (State.setCh c f s).trunk = s.trunk := by simp [State.setCh]
@[simp] theorem State.guidonView_trunk (s : State) : (State.guidonView s).trunk = s.trunk := by simp [State.guidonView]
@[simp] theorem State.convStart_trunk (s : State) : (State.convStart s).trunk = s.trunk := by
  simp only [State.convStart]; (repeat' split) <;> simp
@[simp] theorem State.setDband_trunk (s : State) : (State.setDband s).trunk = s.trunk := by simp [State.setDband]
@[simp] theorem State.setEband_trunk (d : Nat) (s : State) : (State.setEband d s).trunk = s.trunk := by simp [State.setEband]
@[simp] theorem State.firstWaves_trunk (s : State) : (State.firstWaves s).trunk = s.trunk := by simp [State.firstWaves]
@[simp] theorem State.retarget_trunk (s : State) : (State.retarget s).trunk = s.trunk := by simp [State.retarget]
@[simp] theorem State.relaxMark_trunk (s : State) : (State.relaxMark s).trunk = s.trunk := by simp [State.relaxMark]
@[simp] theorem State.enfDue_trunk (s : State) : (State.enfDue s).trunk = s.trunk := by simp [State.enfDue]
@[simp] theorem State.enfRelax_trunk (s : State) : (State.enfRelax s).trunk = s.trunk := by
  simp only [State.enfRelax]; (repeat' split) <;> simp
@[simp] theorem State.setTj_trunk (s : State) : (State.setTj s).trunk = s.trunk := by simp [State.setTj]
@[simp] theorem State.tjSecond_trunk (s : State) : (State.tjSecond s).trunk = s.trunk := by
  simp only [State.tjSecond]; (repeat' split) <;> simp
@[simp] theorem State.xcheck_trunk (c : Nat) (s : State) : (State.xcheck c s).trunk = s.trunk := by simp [State.xcheck]
@[simp] theorem State.gdnForce_trunk (s : State) : (State.gdnForce s).trunk = s.trunk := by
  simp only [State.gdnForce]; (repeat' split) <;> simp
@[simp] theorem State.brokenChange_trunk (c st : Nat) (was : ThermCh) (s : State) : (State.brokenChange c st was s).trunk = s.trunk := by simp [State.brokenChange]
@[simp] theorem State.rateChange_trunk (c st : Nat) (s : State) : (State.rateChange c st s).trunk = s.trunk := by simp [State.rateChange]
@[simp] theorem State.evalChannel_trunk (c st : Nat) (t : Int) (s : State) : (State.evalChannel c st t s).trunk = s.trunk := by simp [State.evalChannel]
@[simp] theorem State.gdnSense_trunk (c st : Nat) (t : Int) (s : State) : (State.gdnSense c st t s).trunk = s.trunk := by simp [State.gdnSense]
@[simp] theorem State.measureGot_trunk (c : Nat) (s : State) : (State.measureGot c s).trunk = s.trunk := by
  simp only [State.measureGot]; (repeat' split) <;> simp
@[simp] theorem State.convEnd_trunk (v : Conv) (st : Nat) (t : Int) (s : State) : (State.convEnd v st t s).trunk = s.trunk := by simp [State.convEnd]
@[simp] theorem State.convDone_trunk (raw : Nat) (temp : Int) (s : State) : (State.convDone raw temp s).trunk = s.trunk := by
  simp only [State.convDone]; (repeat' split) <;> simp
@[simp] theorem State.convTimeout_trunk (s : State) : (State.convTimeout s).trunk = s.trunk := by
  simp only [State.convTimeout]; (repeat' split) <;> simp
@[simp] theorem State.thermalMeasure_trunk (id : ReqId) (mask : Nat) (s : State) : (State.thermalMeasure id mask s).trunk = s.trunk := by simp [State.thermalMeasure]
@[simp] theorem State.policyTick_trunk (guidon : Bool) (s : State) : (State.policyTick guidon s).trunk = s.trunk := by simp [State.policyTick]

end Sys2Proof.Machine
end

