-- ==== Sys2Proof/Laws/TrunkPower.lean ====
section
/-! SUPPORT. What the operations of Machine/Power.lean leave alone: the queue and the instant, and the memory or its canonical form. -/

namespace Sys2Proof.Machine

set_option linter.all false

@[simp] theorem State.setPow_trunk (f : Power → Power) (s : State) : (State.setPow f s).trunk = s.trunk := by simp [State.setPow]
theorem State.logicReset_held {hb : Base} (s : State) (h : Held hb s.trunk) : Held hb (State.logicReset s).trunk := ⟨h.1, h.2.1, fun _ => rfl, fun _ => owed_zero⟩
theorem State.resetReply_held {hb : Base} (r : Restart) (s : State) (hk : Held hb s.trunk) : Held hb (State.resetReply r s).trunk := by
  simp only [State.resetReply]
  repeat' (first | with_reducible assumption | (with_reducible refine foldl_held _ (fun s j h => ?_) _ _ ?_) | (with_reducible refine iter_held _ (fun k s h => ?_) _ _ ?_) | split | (with_reducible apply State.abortCur_held) | simp only [State.abortAll_trunk, State.reply_trunk, State.abortWaiting_trunk, State.restart_trunk, trunk_mk, trunk_fold, ite_trunk])
theorem State.resetDrained_held {hb : Base} (s : State) (hk : Held hb s.trunk) : Held hb (State.resetDrained s).trunk := by
  simp only [State.resetDrained]
  repeat' (first | with_reducible assumption | (with_reducible refine foldl_held _ (fun s j h => ?_) _ _ ?_) | (with_reducible refine iter_held _ (fun k s h => ?_) _ _ ?_) | split | (with_reducible apply State.resetReply_held) | simp only [State.restart_trunk, trunk_mk, trunk_fold, ite_trunk])
theorem State.resetTimeout_held {hb : Base} (s : State) (hk : Held hb s.trunk) : Held hb (State.resetTimeout s).trunk := by
  simp only [State.resetTimeout]
  repeat' (first | with_reducible assumption | (with_reducible refine foldl_held _ (fun s j h => ?_) _ _ ?_) | (with_reducible refine iter_held _ (fun k s h => ?_) _ _ ?_) | split | (with_reducible apply State.resetReply_held) | simp only [State.restart_trunk, trunk_mk, trunk_fold, ite_trunk])
@[simp] theorem State.serviceOver_trunk (was : Bool) (s : State) : (State.serviceOver was s).trunk = s.trunk := by simp [State.serviceOver]
theorem State.restartDue_held {hb : Base} (s : State) (hk : Held hb s.trunk) : Held hb (State.restartDue s).trunk := by
  simp only [State.restartDue]
  repeat' (first | with_reducible assumption | (with_reducible refine foldl_held _ (fun s j h => ?_) _ _ ?_) | (with_reducible refine iter_held _ (fun k s h => ?_) _ _ ?_) | split | (with_reducible apply State.logicReset_held) | simp only [State.serviceOver_trunk, State.setPow_trunk, State.restart_trunk, trunk_mk, trunk_fold, ite_trunk])
@[simp] theorem State.resumeTimer_trunk (s : State) (cls : Nat) : (State.resumeTimer s cls).trunk = s.trunk := by simp [State.resumeTimer]
@[simp] theorem State.resetRelease_trunk (straps : BitVec 4) (s : State) : (State.resetRelease straps s).trunk = s.trunk := by simp [State.resetRelease]
@[simp] theorem State.noteReset_trunk (was : Bool) (s : State) : (State.noteReset was s).trunk = s.trunk := by simp [State.noteReset]
@[simp] theorem State.releaseRow_trunk (straps : BitVec 4) (s : State) : (State.releaseRow straps s).trunk = s.trunk := by simp [State.releaseRow]
@[simp] theorem State.inputsWake_trunk (s : State) : (State.inputsWake s).trunk = s.trunk := by simp [State.inputsWake]
@[simp] theorem State.wakeCheck_trunk (s : State) : (State.wakeCheck s).trunk = s.trunk := by simp [State.wakeCheck]
@[simp] theorem State.wakeLow_trunk (s : State) : (State.wakeLow s).trunk = s.trunk := by simp [State.wakeLow]
@[simp] theorem State.wakeHigh_trunk (s : State) : (State.wakeHigh s).trunk = s.trunk := by simp [State.wakeHigh]
@[simp] theorem State.hrxEdge_trunk (s : State) : (State.hrxEdge s).trunk = s.trunk := by simp [State.hrxEdge]
@[simp] theorem State.rtcTick_trunk (s : State) : (State.rtcTick s).trunk = s.trunk := by simp [State.rtcTick]
@[simp] theorem State.powerOn_trunk (s : State) : (State.powerOn s).trunk = s.trunk := by simp [State.powerOn]
theorem State.powerOff_held {hb : Base} (s : State) (h : Held hb s.trunk) : Held hb (State.powerOff s).trunk := by
  simp only [State.powerOff]; split
  · exact ⟨h.1, h.2.1, fun _ => rfl, fun _ => owed_zero⟩
  · exact h
@[simp] theorem State.railsUp_trunk (s : State) : (State.railsUp s).trunk = s.trunk := by simp [State.railsUp]
@[simp] theorem State.pmicOff_trunk (s : State) : (State.pmicOff s).trunk = s.trunk := by simp [State.pmicOff]
@[simp] theorem State.railsLate_trunk (s : State) : (State.railsLate s).trunk = s.trunk := by simp [State.railsLate]
@[simp] theorem State.pmicRetry_trunk (s : State) : (State.pmicRetry s).trunk = s.trunk := by
  simp only [State.pmicRetry]; (repeat' split) <;> simp
theorem State.brownOut_held {hb : Base} (rail : Rail) (s : State) (hk : Held hb s.trunk) : Held hb (State.brownOut rail s).trunk := by
  simp only [State.brownOut]
  repeat' (first | with_reducible assumption | (with_reducible refine foldl_held _ (fun s j h => ?_) _ _ ?_) | (with_reducible refine iter_held _ (fun k s h => ?_) _ _ ?_) | split | (with_reducible apply State.logicReset_held) | simp only [State.serviceOver_trunk, State.assertSafe_trunk, State.setPow_trunk, State.hwSet_trunk, State.hold_trunk, trunk_mk, trunk_fold, ite_trunk])
@[simp] theorem State.vcoreWindow_trunk (vcore : Half) (s : State) : (State.vcoreWindow vcore s).trunk = s.trunk := by simp [State.vcoreWindow]
@[simp] theorem State.sagChanged_trunk (s : State) : (State.sagChanged s).trunk = s.trunk := by simp [State.sagChanged]
@[simp] theorem State.supplyValue_trunk (c : SupplyCond) (level : Nat) (s : State) : (State.supplyValue c level s).trunk = s.trunk := by
  simp only [State.supplyValue]; (repeat' split) <;> simp
@[simp] theorem State.supply_trunk (c : SupplyCond) (enters : Bool) (level : Nat) (s : State) : (State.supply c enters level s).trunk = s.trunk := by
  simp only [State.supply]; (repeat' split) <;> simp
theorem State.drainTimeout_held {hb : Base} (s : State) (hk : Held hb s.trunk) : Held hb (State.drainTimeout s).trunk := by
  simp only [State.drainTimeout]
  repeat' (first | with_reducible assumption | (with_reducible refine foldl_held _ (fun s j h => ?_) _ _ ?_) | (with_reducible refine iter_held _ (fun k s h => ?_) _ _ ?_) | split | (with_reducible apply State.resetTimeout_held) | (with_reducible apply State.abortCur_held) | simp only [State.abortAll_trunk, State.merged_trunk, State.furlExpired_trunk, State.abortWaiting_trunk, State.sleepLife_trunk, trunk_mk, trunk_fold, ite_trunk])
theorem State.sleepPower_held {hb : Base} (s : State) (hk : Held hb s.trunk) : Held hb (State.sleepPower s).trunk := by
  simp only [State.sleepPower]
  repeat' (first | with_reducible assumption | (with_reducible refine foldl_held _ (fun s j h => ?_) _ _ ?_) | (with_reducible refine iter_held _ (fun k s h => ?_) _ _ ?_) | split | (with_reducible apply State.logicReset_held) | simp only [State.pmicOff_trunk, trunk_mk, trunk_fold, ite_trunk])
@[simp] theorem State.sleepDone_trunk (s : State) : (State.sleepDone s).trunk = s.trunk := by simp [State.sleepDone]

end Sys2Proof.Machine
end

