-- ==== Sys2Proof/Laws/TrunkBoot.lean ====
section
/-! SUPPORT. What the operations of Machine/Boot.lean leave alone: the queue and the instant, and the memory or its canonical form. -/

namespace Sys2Proof.Machine

set_option linter.all false

@[simp] theorem State.storeCleared_trunk (s : State) : (State.storeCleared s).trunk = s.trunk := by simp [State.storeCleared]
@[simp] theorem State.stepSix_trunk (s : State) : (State.stepSix s).trunk = s.trunk := by simp [State.stepSix]
@[simp] theorem State.patchDone_trunk (image : List Byte) (s : State) : (State.patchDone image s).trunk = s.trunk := by
  simp only [State.patchDone]; (repeat' split) <;> simp
@[simp] theorem State.trainLanes_trunk (s : State) : (State.trainLanes s).trunk = s.trunk := by simp [State.trainLanes]
@[simp] theorem State.hoistStep_trunk (s : State) : (State.hoistStep s).trunk = s.trunk := by simp [State.hoistStep]
@[simp] theorem State.setStep_trunk (k : Nat) (s : State) : (State.setStep k s).trunk = s.trunk := by simp [State.setStep]
@[simp] theorem State.hoistLate_trunk (s : State) : (State.hoistLate s).trunk = s.trunk := by simp [State.hoistLate]
theorem State.bringUp_held {hb : Base} (s : State) (hk : Held hb s.trunk) : Held hb (State.bringUp s).trunk := by
  simp only [State.bringUp]
  repeat' (first | with_reducible assumption | (with_reducible refine foldl_held _ (fun s j h => ?_) _ _ ?_) | (with_reducible refine iter_held _ (fun k s h => ?_) _ _ ?_) | split | (with_reducible apply State.step7Check_held) | simp)
@[simp] theorem State.timebase_trunk (id : ReqId) (source : Nat) (s : State) : (State.timebase id source s).trunk = s.trunk := by simp [State.timebase]
@[simp] theorem State.xtalGood_trunk (s : State) : (State.xtalGood s).trunk = s.trunk := by simp [State.xtalGood]
@[simp] theorem State.xtalLoss_trunk (s : State) : (State.xtalLoss s).trunk = s.trunk := by simp [State.xtalLoss]

end Sys2Proof.Machine
end

