-- ==== Sys2Proof/Laws/TrunkLink.lean ====
section
/-! SUPPORT. What the operations of Machine/Link.lean leave alone: the queue and the instant, and the memory or its canonical form. -/

namespace Sys2Proof.Machine

set_option linter.all false

@[simp] theorem State.jobSend_trunk (a : Nat) (write : Option Word) (s : State) : (State.jobSend a write s).trunk = s.trunk := by simp [State.jobSend]
@[simp] theorem State.jobWord_trunk (j : RegJob) (a : Nat) (v : Word) (t : List (Nat × Word)) (s : State) :
    (State.jobWord j a v t s).trunk = s.trunk := by
  simp only [State.jobWord]; (repeat' split) <;> simp
@[simp] theorem State.jobGo_trunk (n : Nat) (s : State) : (State.jobGo n s).trunk = s.trunk := by
  induction n generalizing s with
  | zero => rfl
  | succ n ih => simp only [State.jobGo]; (repeat' split) <;> simp [ih]
@[simp] theorem State.regTake_trunk (o : Out RegAcc) (s : State) : (State.regTake o s).trunk = s.trunk := by
  simp only [State.regTake]; (repeat' split) <;> simp
@[simp] theorem State.regAddr_trunk (s : State) : (State.regAddr s).trunk = s.trunk := by
  simp only [State.regAddr]; (repeat' split) <;> simp
@[simp] theorem State.dataTake_trunk (r : RegAcc) (s : State) : (State.dataTake r s).trunk = s.trunk := by
  simp only [State.dataTake]; (repeat' split) <;> simp
@[simp] theorem State.regData_trunk (s : State) : (State.regData s).trunk = s.trunk := by
  simp only [State.regData]; (repeat' split) <;> simp
@[simp] theorem State.respTake_trunk (v : Word) (s : State) : (State.respTake v s).trunk = s.trunk := by
  simp only [State.respTake]; (repeat' split) <;> simp
@[simp] theorem State.regResp_trunk (s : State) : (State.regResp s).trunk = s.trunk := by
  simp only [State.regResp]; (repeat' split) <;> simp
@[simp] theorem State.escalateMsg_trunk (s : State) : (State.escalateMsg s).trunk = s.trunk := by
  simp only [State.escalateMsg]; (repeat' split) <;> simp
@[simp] theorem State.serve_trunk (kind : Nat) (s : State) : (State.serve kind s).trunk = s.trunk := by
  simp only [State.serve]; (repeat' split) <;> simp
@[simp] theorem State.requestMsg_trunk (s : State) : (State.requestMsg s).trunk = s.trunk := by
  simp only [State.requestMsg]; (repeat' split) <;> simp
@[simp] theorem State.markSend_trunk (s : State) : (State.markSend s).trunk = s.trunk := by simp [State.markSend]
@[simp] theorem State.markTake_trunk (s : State) : (State.markTake s).trunk = s.trunk := by
  simp only [State.markTake]; (repeat' split) <;> simp
@[simp] theorem State.highTake_trunk (s : State) : (State.highTake s).trunk = s.trunk := by
  simp only [State.highTake]; (repeat' split) <;> simp
@[simp] theorem State.ensArrive_trunk (e : HvEvent) (s : State) : (State.ensArrive e s).trunk = s.trunk := by
  simp only [State.ensArrive]; (repeat' split) <;> simp
@[simp] theorem State.hvArrive_trunk (e : HvEvent) (s : State) : (State.hvArrive e s).trunk = s.trunk := by
  simp only [State.hvArrive]; (repeat' split) <;> simp
@[simp] theorem State.eventMsg_trunk (s : State) : (State.eventMsg s).trunk = s.trunk := by
  simp only [State.eventMsg]; (repeat' split) <;> simp
@[simp] theorem State.dropsMsg_trunk (s : State) : (State.dropsMsg s).trunk = s.trunk := by
  simp only [State.dropsMsg]; (repeat' split) <;> simp
@[simp] theorem State.ackMsg_trunk (msg : Reliable) (tag : BitVec 4) (s : State) : (State.ackMsg msg tag s).trunk = s.trunk := by
  simp only [State.ackMsg]; (repeat' split) <;> simp
@[simp] theorem State.lossDown_trunk (s : State) : (State.lossDown s).trunk = s.trunk := by simp [State.lossDown]
@[simp] theorem State.resend_trunk (msg : Reliable) (s : State) : (State.resend msg s).trunk = s.trunk := by
  simp only [State.resend]; (repeat' split) <;> simp
@[simp] theorem State.frameDiscard_trunk (dir : LinkDir) (seq : BitVec 4) (s : State) : (State.frameDiscard dir seq s).trunk = s.trunk := by
  simp only [State.frameDiscard]; (repeat' split) <;> simp
@[simp] theorem State.updateIr_trunk (code : BitVec 5) (s : State) : (State.updateIr code s).trunk = s.trunk := by simp [State.updateIr]
@[simp] theorem State.tmodeHigh_trunk (s : State) : (State.tmodeHigh s).trunk = s.trunk := by simp [State.tmodeHigh]
@[simp] theorem State.fwFault_trunk (code : Nat) (s : State) : (State.fwFault code s).trunk = s.trunk := by simp [State.fwFault]

end Sys2Proof.Machine
end

