-- ==== Sys2Proof/Laws/TrunkCommands.lean ====
section
/-! SUPPORT. What the operations of Machine/Commands.lean leave alone: the queue and the instant, and the memory or its canonical form. -/

namespace Sys2Proof.Machine

set_option linter.all false

@[simp] theorem State.regRun_trunk (id : ReqId) (op : Nat) (words : List (Nat × Word)) (mask value : Word) (s : State) : (State.regRun id op words mask value s).trunk = s.trunk := by
  simp only [State.regRun]; (repeat' split) <;> simp
theorem State.dropDef_held {hb : Base} (n : Nat) (s : State) (hk : Held hb s.trunk) : Held hb (State.dropDef n s).trunk := by
  simp only [State.dropDef]
  repeat' (first | with_reducible assumption | (with_reducible refine foldl_held _ (fun s j h => ?_) _ _ ?_) | (with_reducible refine iter_held _ (fun k s h => ?_) _ _ ?_) | split | (with_reducible apply State.abortCur_held) | simp only [trunk_mk, trunk_fold, ite_trunk])
theorem State.surfaceDefine_held {hb : Base} (id : ReqId) (n f base w h stride : Nat) (s : State) (hk : Held hb s.trunk) : Held hb (State.surfaceDefine id n f base w h stride s).trunk := by
  simp only [State.surfaceDefine]
  repeat' (first | with_reducible assumption | (with_reducible refine foldl_held _ (fun s j h => ?_) _ _ ?_) | (with_reducible refine iter_held _ (fun k s h => ?_) _ _ ?_) | split | (with_reducible apply State.dropDef_held) | simp only [State.answer_trunk, State.setSurf_trunk, trunk_mk, trunk_fold, ite_trunk])
theorem State.surfaceDelete_held {hb : Base} (id : ReqId) (n : Nat) (s : State) (hk : Held hb s.trunk) : Held hb (State.surfaceDelete id n s).trunk := by
  simp only [State.surfaceDelete]
  repeat' (first | with_reducible assumption | (with_reducible refine foldl_held _ (fun s j h => ?_) _ _ ?_) | (with_reducible refine iter_held _ (fun k s h => ?_) _ _ ?_) | split | (with_reducible apply State.dropDef_held) | simp only [State.answer_trunk, State.setSurf_trunk, trunk_mk, trunk_fold, ite_trunk])
@[simp] theorem State.safeRequest_trunk (id : ReqId) (target reason : Nat) (s : State) : (State.safeRequest id target reason s).trunk = s.trunk := by simp [State.safeRequest]
@[simp] theorem State.modeCmd_trunk (id : ReqId) (target : Nat) (s : State) : (State.modeCmd id target s).trunk = s.trunk := by
  simp only [State.modeCmd]; (repeat' split) <;> simp
theorem State.resetRun_held {hb : Base} (id : ReqId) (key : Nat) (s : State) (hk : Held hb s.trunk) : Held hb (State.resetRun id key s).trunk := by
  simp only [State.resetRun]
  repeat' (first | with_reducible assumption | (with_reducible refine foldl_held _ (fun s j h => ?_) _ _ ?_) | (with_reducible refine iter_held _ (fun k s h => ?_) _ _ ?_) | split | (with_reducible apply State.abortCur_held) | (with_reducible apply State.logicReset_held) | simp only [State.reply_trunk, State.answer_trunk, State.abortAll_trunk, State.abortWaiting_trunk, State.setPow_trunk, trunk_mk, trunk_fold, ite_trunk])
@[simp] theorem State.ok_trunk (id : ReqId) (data : List Byte) (s : State) : (State.ok id data s).trunk = s.trunk := by simp [State.ok]
@[simp] theorem State.need_trunk (id : ReqId) (c : Bool) (f : State → State) (s : State) (h : ∀ s, (f s).trunk = s.trunk) :
    (State.need id c f s).trunk = s.trunk := by
  cases c <;> simp [State.need, h]
theorem State.run_held {hb : Base} (id : ReqId) (c : Cmd) (s : State) (hk : Held hb s.trunk) : Held hb (State.run id c s).trunk := by
  simp only [State.run]
  repeat' (first | with_reducible assumption | (with_reducible refine foldl_held _ (fun s j h => ?_) _ _ ?_) | (with_reducible refine iter_held _ (fun k s h => ?_) _ _ ?_) | split | (with_reducible apply State.ceilingLoad_held) | (with_reducible apply State.evtReset_held) | (with_reducible apply State.surfaceDefine_held) | (with_reducible apply State.surfaceDelete_held) | (with_reducible apply State.resetRun_held) | simp)

end Sys2Proof.Machine
end

