-- ==== Sys2Proof/Laws/TrunkPorts.lean ====
section
/-! SUPPORT. What the operations of Machine/Ports.lean leave alone: the queue and the instant, and the memory or its canonical form. -/

namespace Sys2Proof.Machine

set_option linter.all false

@[simp] theorem State.refuse_trunk (p : Port) (op tag : Byte) (st : Nat) (s : State) : (State.refuse p op tag st s).trunk = s.trunk := by simp [State.refuse]
theorem State.startCmd_held {hb : Base} (p : Port) (a : Admitted) (s : State) (hk : Held hb s.trunk) : Held hb (State.startCmd p a s).trunk := by
  simp only [State.startCmd]
  repeat' (first | with_reducible assumption | (with_reducible refine foldl_held _ (fun s j h => ?_) _ _ ?_) | (with_reducible refine iter_held _ (fun k s h => ?_) _ _ ?_) | split | (with_reducible apply State.run_held) | simp only [State.answerFill_trunk, State.answer_trunk, trunk_mk, trunk_fold, ite_trunk])
theorem State.nextOn_held {hb : Base} (p : Port) (s s' : State) (hk : Held hb s.trunk) (h : State.nextOn p s = some s') :
    Held hb s'.trunk := by
  simp only [State.nextOn] at h
  split at h
  · cases h
  · split at h
    · cases h; apply State.startCmd_held; simpa using hk
    · cases h
@[simp] theorem State.packetBad_trunk (p : Port) (exp got : Word) (s : State) : (State.packetBad p exp got s).trunk = s.trunk := by
  simp only [State.packetBad]; (repeat' split) <;> simp
@[simp] theorem State.counted_trunk (p : Port) (s : State) : (State.counted p s).trunk = s.trunk := by
  simp only [State.counted]; (repeat' split) <;> simp
@[simp] theorem State.admitOn_trunk (p : Port) (op tag flags : Byte) (c : Cmd) (s : State) : (State.admitOn p op tag flags c s).trunk = s.trunk := by simp [State.admitOn]
theorem State.accept_held {hb : Base} (p : Port) (op tag flags : Byte) (c : Option Cmd) (s : State) (hk : Held hb s.trunk) :
    Held hb (State.accept p op tag flags c s).trunk := by
  simp only [State.accept]
  split
  · rename_i c _
    have hm : Held hb ((s.counted p).admitOn p op tag flags c).trunk := by simpa using hk
    cases hn : State.nextOn p ((s.counted p).admitOn p op tag flags c) with
    | none => exact hm
    | some s' => exact State.nextOn_held p _ _ hm hn
  · simpa using hk
  · split <;> simpa using hk
theorem State.request_held {hb : Base} (p : Port) (pkt : List Byte) (s : State) (hk : Held hb s.trunk) : Held hb (State.request p pkt s).trunk := by
  simp only [State.request]
  repeat' (first | with_reducible assumption | (with_reducible refine foldl_held _ (fun s j h => ?_) _ _ ?_) | (with_reducible refine iter_held _ (fun k s h => ?_) _ _ ?_) | split | (with_reducible apply State.accept_held) | simp only [State.discard_trunk, State.packetBad_trunk, trunk_mk, trunk_fold, ite_trunk])
theorem State.command_held {hb : Base} (p : Port) (tag flags : Byte) (c : Cmd) (s : State) (hk : Held hb s.trunk) : Held hb (State.command p tag flags c s).trunk := by
  simp only [State.command]
  repeat' (first | with_reducible assumption | (with_reducible refine foldl_held _ (fun s j h => ?_) _ _ ?_) | (with_reducible refine iter_held _ (fun k s h => ?_) _ _ ?_) | split | (with_reducible apply State.accept_held) | simp only [State.discard_trunk, State.packetBad_trunk, trunk_mk, trunk_fold, ite_trunk])
theorem State.nextHoist_held {hb : Base} (s s' : State) (hk : Held hb s.trunk) (h : State.nextHoist s = some s') :
    Held hb s'.trunk := by
  simp only [State.nextHoist] at h
  split at h
  · cases h; apply State.request_held; simpa using hk
  · cases h
theorem State.nextCommand_held {hb : Base} (s s' : State) (hk : Held hb s.trunk) (h : State.nextCommand s = some s') :
    Held hb s'.trunk := by
  rcases orElse_some h with h | h
  · exact State.nextOn_held _ _ _ hk h
  · rcases orElse_some h with h | h
    · exact State.nextOn_held _ _ _ hk h
    · rcases orElse_some h with h | h
      · exact State.nextHoist_held _ _ hk h
      · exact State.nextOn_held _ _ _ hk h
@[simp] theorem State.htxRun_trunk (s : State) : (State.htxRun s).trunk = s.trunk := by simp [State.htxRun]
theorem State.ripe_held {hb : Base} (s : State) (hk : Held hb s.trunk) : Held hb (State.ripe s).trunk := by
  simp only [State.ripe]
  repeat' (first | with_reducible assumption | (with_reducible refine foldl_held _ (fun s j h => ?_) _ _ ?_) | (with_reducible refine iter_held _ (fun k s h => ?_) _ _ ?_) | split | (with_reducible apply State.restartDue_held) | simp only [State.countdowns_trunk, State.htxRun_trunk, State.closeDue_trunk, State.hoistCount_trunk, State.inputsDue_trunk, trunk_mk, trunk_fold, ite_trunk])
theorem State.advance_held {hb : Base} (t : Nat) (s : State) (hk : Held hb (s.tick t).trunk) : Held hb (s.advance t).trunk :=
  State.ripe_held _ hk
theorem State.settle_held {hb : Base} (s : State) (hk : Held hb s.trunk) : Held hb (State.settle s).trunk := by
  simp only [State.settle]
  repeat' (first | with_reducible assumption | (with_reducible refine foldl_held _ (fun s j h => ?_) _ _ ?_) | (with_reducible refine iter_held _ (fun k s h => ?_) _ _ ?_) | split | (with_reducible apply State.bringUp_held) | (with_reducible apply State.resetDrained_held) | simp only [State.statusChange_trunk, State.convStart_trunk, State.escalateDue_trunk, State.furlDrained_trunk, State.sleepPlaced_trunk, State.sleepCheck_trunk, State.setPow_trunk, trunk_mk, trunk_fold, ite_trunk])
theorem State.pump_held {hb : Base} (n : Nat) (s : State) (hk : Held hb s.trunk) : Held hb (State.pump n s).trunk := by
  induction n generalizing s with
  | zero => exact hk
  | succ n ih =>
    simp only [State.pump]
    split
    · rename_i s' h
      exact ih _ (State.settle_held _ (State.nextCommand_held _ _ hk h))
    · exact hk
theorem State.finish_held {hb : Base} (s : State) (hk : Held hb s.trunk) : Held hb (State.finish s).trunk := by
  simp only [State.finish]
  repeat' (first | with_reducible assumption | (with_reducible refine foldl_held _ (fun s j h => ?_) _ _ ?_) | (with_reducible refine iter_held _ (fun k s h => ?_) _ _ ?_) | split | (with_reducible apply State.settle_held) | (with_reducible apply State.pump_held) | simp only [trunk_mk, trunk_fold, ite_trunk])
@[simp] theorem State.drive_trunk (p : Port) (l : List Byte) (s : State) : (State.drive p l s).trunk = s.trunk := by simp [State.drive]
theorem State.putGo_held {hb : Base} (p : Port) (n : Nat) (b : List Byte) (s : State) (hk : Held hb s.trunk) :
    Held hb (State.putGo p n b s).trunk := by
  induction n generalizing b s with
  | zero => exact hk
  | succ n ih =>
    simp only [State.putGo]
    split
    · exact hk
    · split
      · simpa using hk
      · exact ih _ _ (State.finish_held _ (State.request_held _ _ _ hk))
theorem State.put_held {hb : Base} (p : SpiPort) (bytes : List Byte) (s : State) (hk : Held hb s.trunk) : Held hb (State.put p bytes s).trunk := by
  simp only [State.put]
  repeat' (first | with_reducible assumption | (with_reducible refine foldl_held _ (fun s j h => ?_) _ _ ?_) | (with_reducible refine iter_held _ (fun k s h => ?_) _ _ ?_) | split | (with_reducible apply State.putGo_held) | simp only [State.drive_trunk, trunk_mk, trunk_fold, ite_trunk])
@[simp] theorem State.getGo_trunk (p : Port) (n : Nat) (s : State) : (State.getGo p n s).2.trunk = s.trunk := by
  induction n generalizing s with
  | zero => rfl
  | succ n ih => simp only [State.getGo]; split <;> simp [ih]
@[simp] theorem State.get_trunk (p : SpiPort) (n : Nat) (s : State) : (State.get p n s).trunk = s.trunk := by simp [State.get]
@[simp] theorem State.stat_trunk (p : SpiPort) (s : State) : (State.stat p s).trunk = s.trunk := by simp [State.stat]
@[simp] theorem State.resync_trunk (p : SpiPort) (bytes : List Byte) (s : State) : (State.resync p bytes s).trunk = s.trunk := by simp [State.resync]

end Sys2Proof.Machine
end

