-- ==== Sys2Proof/Laws/Occur.lean ====
section
/-! SUPPORT. A row as a whole: the advance to its instant, its effect and what follows keep the queue, and the memory in its form, where the
effect does. -/

namespace Sys2Proof.Machine

/-- The advance to a row's instant keeps the queue, the memory and the recorder. -/
theorem advance_held {m r : Bool} (t : Nat) (s : State) (h : Held (s.pending, s.clk.now, m, r) s.trunk) :
    Held (s.pending, max s.clk.now t, m, r) (s.advance t).trunk :=
  State.advance_held t s ⟨rfl, rfl, h.2.2.1, h.2.2.2⟩

/-- A row whose effect keeps the queue, the instant, the memory's form and the recorder's balance keeps them whole. -/
theorem occur_held {m r : Bool} {t : Nat} {f : State → State} {s u : State} (h : Held (s.pending, s.clk.now, m, r) s.trunk)
    (hf : ∀ b x, Held b x.trunk → Held b (f x).trunk) (he : occur t f s = .next u) :
    Held (s.pending, max s.clk.now t, m, r) u.trunk := by
  have e : (f (s.advance t)).finish = u := Host.Outcome.next.inj he
  rw [← e]
  exact State.finish_held _ (hf _ _ (advance_held t s h))

theorem whenOn_held {b : Base} (f : State → State) (hf : ∀ x, Held b x.trunk → Held b (f x).trunk) (s : State) (h : Held b s.trunk) : Held b (State.whenOn f s).trunk := by
  unfold State.whenOn; split
  · exact hf _ h
  · exact h
@[simp] theorem pcdivmax_trunk (v s) : (State.pcdivmax v s).trunk = s.trunk := by simp [State.pcdivmax]

end Sys2Proof.Machine
end

