-- ==== Sys2Proof/Laws/State.lean ====
section
/-! SUPPORT. Reading a field after an update: one lemma for each field and each named update. They are proved through `id` so that no proof
that uses them asks the kernel to compare two whole states. -/

namespace Sys2Proof.Machine

@[simp] theorem State.tick_pending (t : Nat) (s : State) : (s.tick t).pending = s.pending := id rfl
@[simp] theorem State.tick_mode (t : Nat) (s : State) : (s.tick t).mode = s.mode := id rfl
@[simp] theorem State.tick_pow (t : Nat) (s : State) : (s.tick t).pow = s.pow := id rfl
@[simp] theorem State.tick_rtc (t : Nat) (s : State) : (s.tick t).rtc = s.rtc := id rfl
@[simp] theorem State.tick_ports (t : Nat) (s : State) : (s.tick t).ports = s.ports := id rfl
@[simp] theorem State.tick_store (t : Nat) (s : State) : (s.tick t).store = s.store := id rfl
@[simp] theorem State.tick_bun (t : Nat) (s : State) : (s.tick t).bun = s.bun := id rfl
@[simp] theorem State.tick_mask (t : Nat) (s : State) : (s.tick t).mask = s.mask := id rfl
@[simp] theorem State.tick_tok (t : Nat) (s : State) : (s.tick t).tok = s.tok := id rfl
@[simp] theorem State.tick_scan (t : Nat) (s : State) : (s.tick t).scan = s.scan := id rfl
@[simp] theorem State.tick_fly (t : Nat) (s : State) : (s.tick t).fly = s.fly := id rfl
@[simp] theorem State.tick_eng (t : Nat) (s : State) : (s.tick t).eng = s.eng := id rfl
@[simp] theorem State.tick_gdn (t : Nat) (s : State) : (s.tick t).gdn = s.gdn := id rfl
@[simp] theorem State.tick_ens (t : Nat) (s : State) : (s.tick t).ens = s.ens := id rfl
@[simp] theorem State.tick_flt (t : Nat) (s : State) : (s.tick t).flt = s.flt := id rfl
@[simp] theorem State.tick_thm (t : Nat) (s : State) : (s.tick t).thm = s.thm := id rfl
@[simp] theorem State.tick_fab (t : Nat) (s : State) : (s.tick t).fab = s.fab := id rfl
@[simp] theorem State.tick_cal (t : Nat) (s : State) : (s.tick t).cal = s.cal := id rfl
@[simp] theorem State.tick_chk (t : Nat) (s : State) : (s.tick t).chk = s.chk := id rfl
@[simp] theorem State.tick_dl (t : Nat) (s : State) : (s.tick t).dl = s.dl := id rfl
@[simp] theorem State.tick_jtag (t : Nat) (s : State) : (s.tick t).jtag = s.jtag := id rfl
@[simp] theorem State.tick_free (t : Nat) (s : State) : (s.tick t).free = s.free := id rfl
@[simp] theorem State.tick_port (t : Nat) (s : State) (q : Port) : (s.tick t).port q = s.port q := id rfl
@[simp] theorem State.tick_surf (t : Nat) (s : State) (k : Nat) : (s.tick t).surf k = s.surf k := id rfl
@[simp] theorem State.tick_activeOf (t : Nat) (s : State) (k : Nat) : (s.tick t).activeOf k = s.activeOf k := id rfl
@[simp] theorem State.setPow_pending (f : Power → Power) (s : State) : (s.setPow f).pending = s.pending := id rfl
@[simp] theorem State.setPow_clk (f : Power → Power) (s : State) : (s.setPow f).clk = s.clk := id rfl
@[simp] theorem State.setPow_mode (f : Power → Power) (s : State) : (s.setPow f).mode = s.mode := id rfl
@[simp] theorem State.setPow_rtc (f : Power → Power) (s : State) : (s.setPow f).rtc = s.rtc := id rfl
@[simp] theorem State.setPow_ports (f : Power → Power) (s : State) : (s.setPow f).ports = s.ports := id rfl
@[simp] theorem State.setPow_regs (f : Power → Power) (s : State) : (s.setPow f).regs = s.regs := id rfl
@[simp] theorem State.setPow_store (f : Power → Power) (s : State) : (s.setPow f).store = s.store := id rfl
@[simp] theorem State.setPow_bun (f : Power → Power) (s : State) : (s.setPow f).bun = s.bun := id rfl
@[simp] theorem State.setPow_mask (f : Power → Power) (s : State) : (s.setPow f).mask = s.mask := id rfl
@[simp] theorem State.setPow_tok (f : Power → Power) (s : State) : (s.setPow f).tok = s.tok := id rfl
@[simp] theorem State.setPow_scan (f : Power → Power) (s : State) : (s.setPow f).scan = s.scan := id rfl
@[simp] theorem State.setPow_fly (f : Power → Power) (s : State) : (s.setPow f).fly = s.fly := id rfl
@[simp] theorem State.setPow_eng (f : Power → Power) (s : State) : (s.setPow f).eng = s.eng := id rfl
@[simp] theorem State.setPow_hoist (f : Power → Power) (s : State) : (s.setPow f).hoist = s.hoist := id rfl
@[simp] theorem State.setPow_gdn (f : Power → Power) (s : State) : (s.setPow f).gdn = s.gdn := id rfl
@[simp] theorem State.setPow_ens (f : Power → Power) (s : State) : (s.setPow f).ens = s.ens := id rfl
@[simp] theorem State.setPow_flt (f : Power → Power) (s : State) : (s.setPow f).flt = s.flt := id rfl
@[simp] theorem State.setPow_evt (f : Power → Power) (s : State) : (s.setPow f).evt = s.evt := id rfl
@[simp] theorem State.setPow_thm (f : Power → Power) (s : State) : (s.setPow f).thm = s.thm := id rfl
@[simp] theorem State.setPow_fab (f : Power → Power) (s : State) : (s.setPow f).fab = s.fab := id rfl
@[simp] theorem State.setPow_cal (f : Power → Power) (s : State) : (s.setPow f).cal = s.cal := id rfl
@[simp] theorem State.setPow_chk (f : Power → Power) (s : State) : (s.setPow f).chk = s.chk := id rfl
@[simp] theorem State.setPow_dl (f : Power → Power) (s : State) : (s.setPow f).dl = s.dl := id rfl
@[simp] theorem State.setPow_jtag (f : Power → Power) (s : State) : (s.setPow f).jtag = s.jtag := id rfl
@[simp] theorem State.setPow_free (f : Power → Power) (s : State) : (s.setPow f).free = s.free := id rfl
@[simp] theorem State.setPow_actW (f : Power → Power) (s : State) (a : Nat) : (s.setPow f).actW a = s.actW a := id rfl
@[simp] theorem State.setPow_act (f : Power → Power) (s : State) (a : Nat) : (s.setPow f).act a = s.act a := id rfl
@[simp] theorem State.setPow_flag (f : Power → Power) (s : State) (a i : Nat) : (s.setPow f).flag a i = s.flag a i := id rfl
@[simp] theorem State.setPow_fld (f : Power → Power) (s : State) (a hi lo : Nat) : (s.setPow f).fld a hi lo = s.fld a hi lo := id rfl
@[simp] theorem State.setPow_port (f : Power → Power) (s : State) (q : Port) : (s.setPow f).port q = s.port q := id rfl
@[simp] theorem State.setPow_surf (f : Power → Power) (s : State) (k : Nat) : (s.setPow f).surf k = s.surf k := id rfl
@[simp] theorem State.setPow_activeOf (f : Power → Power) (s : State) (k : Nat) : (s.setPow f).activeOf k = s.activeOf k := id rfl
@[simp] theorem State.setDl_pending (f : DieLink → DieLink) (s : State) : (s.setDl f).pending = s.pending := id rfl
@[simp] theorem State.setDl_clk (f : DieLink → DieLink) (s : State) : (s.setDl f).clk = s.clk := id rfl
@[simp] theorem State.setDl_mode (f : DieLink → DieLink) (s : State) : (s.setDl f).mode = s.mode := id rfl
@[simp] theorem State.setDl_pow (f : DieLink → DieLink) (s : State) : (s.setDl f).pow = s.pow := id rfl
@[simp] theorem State.setDl_rtc (f : DieLink → DieLink) (s : State) : (s.setDl f).rtc = s.rtc := id rfl
@[simp] theorem State.setDl_ports (f : DieLink → DieLink) (s : State) : (s.setDl f).ports = s.ports := id rfl
@[simp] theorem State.setDl_regs (f : DieLink → DieLink) (s : State) : (s.setDl f).regs = s.regs := id rfl
@[simp] theorem State.setDl_store (f : DieLink → DieLink) (s : State) : (s.setDl f).store = s.store := id rfl
@[simp] theorem State.setDl_bun (f : DieLink → DieLink) (s : State) : (s.setDl f).bun = s.bun := id rfl
@[simp] theorem State.setDl_mask (f : DieLink → DieLink) (s : State) : (s.setDl f).mask = s.mask := id rfl
@[simp] theorem State.setDl_tok (f : DieLink → DieLink) (s : State) : (s.setDl f).tok = s.tok := id rfl
@[simp] theorem State.setDl_scan (f : DieLink → DieLink) (s : State) : (s.setDl f).scan = s.scan := id rfl
@[simp] theorem State.setDl_fly (f : DieLink → DieLink) (s : State) : (s.setDl f).fly = s.fly := id rfl
@[simp] theorem State.setDl_eng (f : DieLink → DieLink) (s : State) : (s.setDl f).eng = s.eng := id rfl
@[simp] theorem State.setDl_hoist (f : DieLink → DieLink) (s : State) : (s.setDl f).hoist = s.hoist := id rfl
@[simp] theorem State.setDl_gdn (f : DieLink → DieLink) (s : State) : (s.setDl f).gdn = s.gdn := id rfl
@[simp] theorem State.setDl_ens (f : DieLink → DieLink) (s : State) : (s.setDl f).ens = s.ens := id rfl
@[simp] theorem State.setDl_flt (f : DieLink → DieLink) (s : State) : (s.setDl f).flt = s.flt := id rfl
@[simp] theorem State.setDl_evt (f : DieLink → DieLink) (s : State) : (s.setDl f).evt = s.evt := id rfl
@[simp] theorem State.setDl_thm (f : DieLink → DieLink) (s : State) : (s.setDl f).thm = s.thm := id rfl
@[simp] theorem State.setDl_fab (f : DieLink → DieLink) (s : State) : (s.setDl f).fab = s.fab := id rfl
@[simp] theorem State.setDl_cal (f : DieLink → DieLink) (s : State) : (s.setDl f).cal = s.cal := id rfl
@[simp] theorem State.setDl_chk (f : DieLink → DieLink) (s : State) : (s.setDl f).chk = s.chk := id rfl
@[simp] theorem State.setDl_jtag (f : DieLink → DieLink) (s : State) : (s.setDl f).jtag = s.jtag := id rfl
@[simp] theorem State.setDl_free (f : DieLink → DieLink) (s : State) : (s.setDl f).free = s.free := id rfl
@[simp] theorem State.setDl_actW (f : DieLink → DieLink) (s : State) (a : Nat) : (s.setDl f).actW a = s.actW a := id rfl
@[simp] theorem State.setDl_act (f : DieLink → DieLink) (s : State) (a : Nat) : (s.setDl f).act a = s.act a := id rfl
@[simp] theorem State.setDl_flag (f : DieLink → DieLink) (s : State) (a i : Nat) : (s.setDl f).flag a i = s.flag a i := id rfl
@[simp] theorem State.setDl_fld (f : DieLink → DieLink) (s : State) (a hi lo : Nat) : (s.setDl f).fld a hi lo = s.fld a hi lo := id rfl
@[simp] theorem State.setDl_port (f : DieLink → DieLink) (s : State) (q : Port) : (s.setDl f).port q = s.port q := id rfl
@[simp] theorem State.setDl_surf (f : DieLink → DieLink) (s : State) (k : Nat) : (s.setDl f).surf k = s.surf k := id rfl
@[simp] theorem State.setDl_activeOf (f : DieLink → DieLink) (s : State) (k : Nat) : (s.setDl f).activeOf k = s.activeOf k := id rfl
@[simp] theorem State.setEns_pending (f : Ensign → Ensign) (s : State) : (s.setEns f).pending = s.pending := id rfl
@[simp] theorem State.setEns_clk (f : Ensign → Ensign) (s : State) : (s.setEns f).clk = s.clk := id rfl
@[simp] theorem State.setEns_mode (f : Ensign → Ensign) (s : State) : (s.setEns f).mode = s.mode := id rfl
@[simp] theorem State.setEns_pow (f : Ensign → Ensign) (s : State) : (s.setEns f).pow = s.pow := id rfl
@[simp] theorem State.setEns_rtc (f : Ensign → Ensign) (s : State) : (s.setEns f).rtc = s.rtc := id rfl
@[simp] theorem State.setEns_ports (f : Ensign → Ensign) (s : State) : (s.setEns f).ports = s.ports := id rfl
@[simp] theorem State.setEns_regs (f : Ensign → Ensign) (s : State) : (s.setEns f).regs = s.regs := id rfl
@[simp] theorem State.setEns_store (f : Ensign → Ensign) (s : State) : (s.setEns f).store = s.store := id rfl
@[simp] theorem State.setEns_bun (f : Ensign → Ensign) (s : State) : (s.setEns f).bun = s.bun := id rfl
@[simp] theorem State.setEns_mask (f : Ensign → Ensign) (s : State) : (s.setEns f).mask = s.mask := id rfl
@[simp] theorem State.setEns_tok (f : Ensign → Ensign) (s : State) : (s.setEns f).tok = s.tok := id rfl
@[simp] theorem State.setEns_scan (f : Ensign → Ensign) (s : State) : (s.setEns f).scan = s.scan := id rfl
@[simp] theorem State.setEns_fly (f : Ensign → Ensign) (s : State) : (s.setEns f).fly = s.fly := id rfl
@[simp] theorem State.setEns_eng (f : Ensign → Ensign) (s : State) : (s.setEns f).eng = s.eng := id rfl
@[simp] theorem State.setEns_hoist (f : Ensign → Ensign) (s : State) : (s.setEns f).hoist = s.hoist := id rfl
@[simp] theorem State.setEns_gdn (f : Ensign → Ensign) (s : State) : (s.setEns f).gdn = s.gdn := id rfl
@[simp] theorem State.setEns_flt (f : Ensign → Ensign) (s : State) : (s.setEns f).flt = s.flt := id rfl
@[simp] theorem State.setEns_evt (f : Ensign → Ensign) (s : State) : (s.setEns f).evt = s.evt := id rfl
@[simp] theorem State.setEns_thm (f : Ensign → Ensign) (s : State) : (s.setEns f).thm = s.thm := id rfl
@[simp] theorem State.setEns_fab (f : Ensign → Ensign) (s : State) : (s.setEns f).fab = s.fab := id rfl
@[simp] theorem State.setEns_cal (f : Ensign → Ensign) (s : State) : (s.setEns f).cal = s.cal := id rfl
@[simp] theorem State.setEns_chk (f : Ensign → Ensign) (s : State) : (s.setEns f).chk = s.chk := id rfl
@[simp] theorem State.setEns_dl (f : Ensign → Ensign) (s : State) : (s.setEns f).dl = s.dl := id rfl
@[simp] theorem State.setEns_jtag (f : Ensign → Ensign) (s : State) : (s.setEns f).jtag = s.jtag := id rfl
@[simp] theorem State.setEns_free (f : Ensign → Ensign) (s : State) : (s.setEns f).free = s.free := id rfl
@[simp] theorem State.setEns_actW (f : Ensign → Ensign) (s : State) (a : Nat) : (s.setEns f).actW a = s.actW a := id rfl
@[simp] theorem State.setEns_act (f : Ensign → Ensign) (s : State) (a : Nat) : (s.setEns f).act a = s.act a := id rfl
@[simp] theorem State.setEns_flag (f : Ensign → Ensign) (s : State) (a i : Nat) : (s.setEns f).flag a i = s.flag a i := id rfl
@[simp] theorem State.setEns_fld (f : Ensign → Ensign) (s : State) (a hi lo : Nat) : (s.setEns f).fld a hi lo = s.fld a hi lo := id rfl
@[simp] theorem State.setEns_port (f : Ensign → Ensign) (s : State) (q : Port) : (s.setEns f).port q = s.port q := id rfl
@[simp] theorem State.setEns_surf (f : Ensign → Ensign) (s : State) (k : Nat) : (s.setEns f).surf k = s.surf k := id rfl
@[simp] theorem State.setEns_activeOf (f : Ensign → Ensign) (s : State) (k : Nat) : (s.setEns f).activeOf k = s.activeOf k := id rfl
@[simp] theorem State.setGdn_pending (f : Guidon → Guidon) (s : State) : (s.setGdn f).pending = s.pending := id rfl
@[simp] theorem State.setGdn_clk (f : Guidon → Guidon) (s : State) : (s.setGdn f).clk = s.clk := id rfl
@[simp] theorem State.setGdn_mode (f : Guidon → Guidon) (s : State) : (s.setGdn f).mode = s.mode := id rfl
@[simp] theorem State.setGdn_pow (f : Guidon → Guidon) (s : State) : (s.setGdn f).pow = s.pow := id rfl
@[simp] theorem State.setGdn_rtc (f : Guidon → Guidon) (s : State) : (s.setGdn f).rtc = s.rtc := id rfl
@[simp] theorem State.setGdn_ports (f : Guidon → Guidon) (s : State) : (s.setGdn f).ports = s.ports := id rfl
@[simp] theorem State.setGdn_regs (f : Guidon → Guidon) (s : State) : (s.setGdn f).regs = s.regs := id rfl
@[simp] theorem State.setGdn_store (f : Guidon → Guidon) (s : State) : (s.setGdn f).store = s.store := id rfl
@[simp] theorem State.setGdn_bun (f : Guidon → Guidon) (s : State) : (s.setGdn f).bun = s.bun := id rfl
@[simp] theorem State.setGdn_mask (f : Guidon → Guidon) (s : State) : (s.setGdn f).mask = s.mask := id rfl
@[simp] theorem State.setGdn_tok (f : Guidon → Guidon) (s : State) : (s.setGdn f).tok = s.tok := id rfl
@[simp] theorem State.setGdn_scan (f : Guidon → Guidon) (s : State) : (s.setGdn f).scan = s.scan := id rfl
@[simp] theorem State.setGdn_fly (f : Guidon → Guidon) (s : State) : (s.setGdn f).fly = s.fly := id rfl
@[simp] theorem State.setGdn_eng (f : Guidon → Guidon) (s : State) : (s.setGdn f).eng = s.eng := id rfl
@[simp] theorem State.setGdn_hoist (f : Guidon → Guidon) (s : State) : (s.setGdn f).hoist = s.hoist := id rfl
@[simp] theorem State.setGdn_ens (f : Guidon → Guidon) (s : State) : (s.setGdn f).ens = s.ens := id rfl
@[simp] theorem State.setGdn_flt (f : Guidon → Guidon) (s : State) : (s.setGdn f).flt = s.flt := id rfl
@[simp] theorem State.setGdn_evt (f : Guidon → Guidon) (s : State) : (s.setGdn f).evt = s.evt := id rfl
@[simp] theorem State.setGdn_thm (f : Guidon → Guidon) (s : State) : (s.setGdn f).thm = s.thm := id rfl
@[simp] theorem State.setGdn_fab (f : Guidon → Guidon) (s : State) : (s.setGdn f).fab = s.fab := id rfl
@[simp] theorem State.setGdn_cal (f : Guidon → Guidon) (s : State) : (s.setGdn f).cal = s.cal := id rfl
@[simp] theorem State.setGdn_chk (f : Guidon → Guidon) (s : State) : (s.setGdn f).chk = s.chk := id rfl
@[simp] theorem State.setGdn_dl (f : Guidon → Guidon) (s : State) : (s.setGdn f).dl = s.dl := id rfl
@[simp] theorem State.setGdn_jtag (f : Guidon → Guidon) (s : State) : (s.setGdn f).jtag = s.jtag := id rfl
@[simp] theorem State.setGdn_free (f : Guidon → Guidon) (s : State) : (s.setGdn f).free = s.free := id rfl
@[simp] theorem State.setGdn_actW (f : Guidon → Guidon) (s : State) (a : Nat) : (s.setGdn f).actW a = s.actW a := id rfl
@[simp] theorem State.setGdn_act (f : Guidon → Guidon) (s : State) (a : Nat) : (s.setGdn f).act a = s.act a := id rfl
@[simp] theorem State.setGdn_flag (f : Guidon → Guidon) (s : State) (a i : Nat) : (s.setGdn f).flag a i = s.flag a i := id rfl
@[simp] theorem State.setGdn_fld (f : Guidon → Guidon) (s : State) (a hi lo : Nat) : (s.setGdn f).fld a hi lo = s.fld a hi lo := id rfl
@[simp] theorem State.setGdn_port (f : Guidon → Guidon) (s : State) (q : Port) : (s.setGdn f).port q = s.port q := id rfl
@[simp] theorem State.setGdn_surf (f : Guidon → Guidon) (s : State) (k : Nat) : (s.setGdn f).surf k = s.surf k := id rfl
@[simp] theorem State.setGdn_activeOf (f : Guidon → Guidon) (s : State) (k : Nat) : (s.setGdn f).activeOf k = s.activeOf k := id rfl
@[simp] theorem State.setChk_pending (f : Checks → Checks) (s : State) : (s.setChk f).pending = s.pending := id rfl
@[simp] theorem State.setChk_clk (f : Checks → Checks) (s : State) : (s.setChk f).clk = s.clk := id rfl
@[simp] theorem State.setChk_mode (f : Checks → Checks) (s : State) : (s.setChk f).mode = s.mode := id rfl
@[simp] theorem State.setChk_pow (f : Checks → Checks) (s : State) : (s.setChk f).pow = s.pow := id rfl
@[simp] theorem State.setChk_rtc (f : Checks → Checks) (s : State) : (s.setChk f).rtc = s.rtc := id rfl
@[simp] theorem State.setChk_ports (f : Checks → Checks) (s : State) : (s.setChk f).ports = s.ports := id rfl
@[simp] theorem State.setChk_regs (f : Checks → Checks) (s : State) : (s.setChk f).regs = s.regs := id rfl
@[simp] theorem State.setChk_store (f : Checks → Checks) (s : State) : (s.setChk f).store = s.store := id rfl
@[simp] theorem State.setChk_bun (f : Checks → Checks) (s : State) : (s.setChk f).bun = s.bun := id rfl
@[simp] theorem State.setChk_mask (f : Checks → Checks) (s : State) : (s.setChk f).mask = s.mask := id rfl
@[simp] theorem State.setChk_tok (f : Checks → Checks) (s : State) : (s.setChk f).tok = s.tok := id rfl
@[simp] theorem State.setChk_scan (f : Checks → Checks) (s : State) : (s.setChk f).scan = s.scan := id rfl
@[simp] theorem State.setChk_fly (f : Checks → Checks) (s : State) : (s.setChk f).fly = s.fly := id rfl
@[simp] theorem State.setChk_eng (f : Checks → Checks) (s : State) : (s.setChk f).eng = s.eng := id rfl
@[simp] theorem State.setChk_hoist (f : Checks → Checks) (s : State) : (s.setChk f).hoist = s.hoist := id rfl
@[simp] theorem State.setChk_gdn (f : Checks → Checks) (s : State) : (s.setChk f).gdn = s.gdn := id rfl
@[simp] theorem State.setChk_ens (f : Checks → Checks) (s : State) : (s.setChk f).ens = s.ens := id rfl
@[simp] theorem State.setChk_flt (f : Checks → Checks) (s : State) : (s.setChk f).flt = s.flt := id rfl
@[simp] theorem State.setChk_evt (f : Checks → Checks) (s : State) : (s.setChk f).evt = s.evt := id rfl
@[simp] theorem State.setChk_thm (f : Checks → Checks) (s : State) : (s.setChk f).thm = s.thm := id rfl
@[simp] theorem State.setChk_fab (f : Checks → Checks) (s : State) : (s.setChk f).fab = s.fab := id rfl
@[simp] theorem State.setChk_cal (f : Checks → Checks) (s : State) : (s.setChk f).cal = s.cal := id rfl
@[simp] theorem State.setChk_dl (f : Checks → Checks) (s : State) : (s.setChk f).dl = s.dl := id rfl
@[simp] theorem State.setChk_jtag (f : Checks → Checks) (s : State) : (s.setChk f).jtag = s.jtag := id rfl
@[simp] theorem State.setChk_free (f : Checks → Checks) (s : State) : (s.setChk f).free = s.free := id rfl
@[simp] theorem State.setChk_actW (f : Checks → Checks) (s : State) (a : Nat) : (s.setChk f).actW a = s.actW a := id rfl
@[simp] theorem State.setChk_act (f : Checks → Checks) (s : State) (a : Nat) : (s.setChk f).act a = s.act a := id rfl
@[simp] theorem State.setChk_flag (f : Checks → Checks) (s : State) (a i : Nat) : (s.setChk f).flag a i = s.flag a i := id rfl
@[simp] theorem State.setChk_fld (f : Checks → Checks) (s : State) (a hi lo : Nat) : (s.setChk f).fld a hi lo = s.fld a hi lo := id rfl
@[simp] theorem State.setChk_port (f : Checks → Checks) (s : State) (q : Port) : (s.setChk f).port q = s.port q := id rfl
@[simp] theorem State.setChk_surf (f : Checks → Checks) (s : State) (k : Nat) : (s.setChk f).surf k = s.surf k := id rfl
@[simp] theorem State.setChk_activeOf (f : Checks → Checks) (s : State) (k : Nat) : (s.setChk f).activeOf k = s.activeOf k := id rfl
@[simp] theorem State.setEng_pending (f : Engine → Engine) (s : State) : (s.setEng f).pending = s.pending := id rfl
@[simp] theorem State.setEng_clk (f : Engine → Engine) (s : State) : (s.setEng f).clk = s.clk := id rfl
@[simp] theorem State.setEng_mode (f : Engine → Engine) (s : State) : (s.setEng f).mode = s.mode := id rfl
@[simp] theorem State.setEng_pow (f : Engine → Engine) (s : State) : (s.setEng f).pow = s.pow := id rfl
@[simp] theorem State.setEng_rtc (f : Engine → Engine) (s : State) : (s.setEng f).rtc = s.rtc := id rfl
@[simp] theorem State.setEng_ports (f : Engine → Engine) (s : State) : (s.setEng f).ports = s.ports := id rfl
@[simp] theorem State.setEng_regs (f : Engine → Engine) (s : State) : (s.setEng f).regs = s.regs := id rfl
@[simp] theorem State.setEng_store (f : Engine → Engine) (s : State) : (s.setEng f).store = s.store := id rfl
@[simp] theorem State.setEng_bun (f : Engine → Engine) (s : State) : (s.setEng f).bun = s.bun := id rfl
@[simp] theorem State.setEng_mask (f : Engine → Engine) (s : State) : (s.setEng f).mask = s.mask := id rfl
@[simp] theorem State.setEng_tok (f : Engine → Engine) (s : State) : (s.setEng f).tok = s.tok := id rfl
@[simp] theorem State.setEng_scan (f : Engine → Engine) (s : State) : (s.setEng f).scan = s.scan := id rfl
@[simp] theorem State.setEng_fly (f : Engine → Engine) (s : State) : (s.setEng f).fly = s.fly := id rfl
@[simp] theorem State.setEng_hoist (f : Engine → Engine) (s : State) : (s.setEng f).hoist = s.hoist := id rfl
@[simp] theorem State.setEng_gdn (f : Engine → Engine) (s : State) : (s.setEng f).gdn = s.gdn := id rfl
@[simp] theorem State.setEng_ens (f : Engine → Engine) (s : State) : (s.setEng f).ens = s.ens := id rfl
@[simp] theorem State.setEng_flt (f : Engine → Engine) (s : State) : (s.setEng f).flt = s.flt := id rfl
@[simp] theorem State.setEng_evt (f : Engine → Engine) (s : State) : (s.setEng f).evt = s.evt := id rfl
@[simp] theorem State.setEng_thm (f : Engine → Engine) (s : State) : (s.setEng f).thm = s.thm := id rfl
@[simp] theorem State.setEng_fab (f : Engine → Engine) (s : State) : (s.setEng f).fab = s.fab := id rfl
@[simp] theorem State.setEng_cal (f : Engine → Engine) (s : State) : (s.setEng f).cal = s.cal := id rfl
@[simp] theorem State.setEng_chk (f : Engine → Engine) (s : State) : (s.setEng f).chk = s.chk := id rfl
@[simp] theorem State.setEng_dl (f : Engine → Engine) (s : State) : (s.setEng f).dl = s.dl := id rfl
@[simp] theorem State.setEng_jtag (f : Engine → Engine) (s : State) : (s.setEng f).jtag = s.jtag := id rfl
@[simp] theorem State.setEng_free (f : Engine → Engine) (s : State) : (s.setEng f).free = s.free := id rfl
@[simp] theorem State.setEng_actW (f : Engine → Engine) (s : State) (a : Nat) : (s.setEng f).actW a = s.actW a := id rfl
@[simp] theorem State.setEng_act (f : Engine → Engine) (s : State) (a : Nat) : (s.setEng f).act a = s.act a := id rfl
@[simp] theorem State.setEng_flag (f : Engine → Engine) (s : State) (a i : Nat) : (s.setEng f).flag a i = s.flag a i := id rfl
@[simp] theorem State.setEng_fld (f : Engine → Engine) (s : State) (a hi lo : Nat) : (s.setEng f).fld a hi lo = s.fld a hi lo := id rfl
@[simp] theorem State.setEng_port (f : Engine → Engine) (s : State) (q : Port) : (s.setEng f).port q = s.port q := id rfl
@[simp] theorem State.setEng_surf (f : Engine → Engine) (s : State) (k : Nat) : (s.setEng f).surf k = s.surf k := id rfl
@[simp] theorem State.setEng_activeOf (f : Engine → Engine) (s : State) (k : Nat) : (s.setEng f).activeOf k = s.activeOf k := id rfl
@[simp] theorem State.setThm_pending (f : Thermal → Thermal) (s : State) : (s.setThm f).pending = s.pending := id rfl
@[simp] theorem State.setThm_clk (f : Thermal → Thermal) (s : State) : (s.setThm f).clk = s.clk := id rfl
@[simp] theorem State.setThm_mode (f : Thermal → Thermal) (s : State) : (s.setThm f).mode = s.mode := id rfl
@[simp] theorem State.setThm_pow (f : Thermal → Thermal) (s : State) : (s.setThm f).pow = s.pow := id rfl
@[simp] theorem State.setThm_rtc (f : Thermal → Thermal) (s : State) : (s.setThm f).rtc = s.rtc := id rfl
@[simp] theorem State.setThm_ports (f : Thermal → Thermal) (s : State) : (s.setThm f).ports = s.ports := id rfl
@[simp] theorem State.setThm_regs (f : Thermal → Thermal) (s : State) : (s.setThm f).regs = s.regs := id rfl
@[simp] theorem State.setThm_store (f : Thermal → Thermal) (s : State) : (s.setThm f).store = s.store := id rfl
@[simp] theorem State.setThm_bun (f : Thermal → Thermal) (s : State) : (s.setThm f).bun = s.bun := id rfl
@[simp] theorem State.setThm_mask (f : Thermal → Thermal) (s : State) : (s.setThm f).mask = s.mask := id rfl
@[simp] theorem State.setThm_tok (f : Thermal → Thermal) (s : State) : (s.setThm f).tok = s.tok := id rfl
@[simp] theorem State.setThm_scan (f : Thermal → Thermal) (s : State) : (s.setThm f).scan = s.scan := id rfl
@[simp] theorem State.setThm_fly (f : Thermal → Thermal) (s : State) : (s.setThm f).fly = s.fly := id rfl
@[simp] theorem State.setThm_eng (f : Thermal → Thermal) (s : State) : (s.setThm f).eng = s.eng := id rfl
@[simp] theorem State.setThm_hoist (f : Thermal → Thermal) (s : State) : (s.setThm f).hoist = s.hoist := id rfl
@[simp] theorem State.setThm_gdn (f : Thermal → Thermal) (s : State) : (s.setThm f).gdn = s.gdn := id rfl
@[simp] theorem State.setThm_ens (f : Thermal → Thermal) (s : State) : (s.setThm f).ens = s.ens := id rfl
@[simp] theorem State.setThm_flt (f : Thermal → Thermal) (s : State) : (s.setThm f).flt = s.flt := id rfl
@[simp] theorem State.setThm_evt (f : Thermal → Thermal) (s : State) : (s.setThm f).evt = s.evt := id rfl
@[simp] theorem State.setThm_fab (f : Thermal → Thermal) (s : State) : (s.setThm f).fab = s.fab := id rfl
@[simp] theorem State.setThm_cal (f : Thermal → Thermal) (s : State) : (s.setThm f).cal = s.cal := id rfl
@[simp] theorem State.setThm_chk (f : Thermal → Thermal) (s : State) : (s.setThm f).chk = s.chk := id rfl
@[simp] theorem State.setThm_dl (f : Thermal → Thermal) (s : State) : (s.setThm f).dl = s.dl := id rfl
@[simp] theorem State.setThm_jtag (f : Thermal → Thermal) (s : State) : (s.setThm f).jtag = s.jtag := id rfl
@[simp] theorem State.setThm_free (f : Thermal → Thermal) (s : State) : (s.setThm f).free = s.free := id rfl
@[simp] theorem State.setThm_actW (f : Thermal → Thermal) (s : State) (a : Nat) : (s.setThm f).actW a = s.actW a := id rfl
@[simp] theorem State.setThm_act (f : Thermal → Thermal) (s : State) (a : Nat) : (s.setThm f).act a = s.act a := id rfl
@[simp] theorem State.setThm_flag (f : Thermal → Thermal) (s : State) (a i : Nat) : (s.setThm f).flag a i = s.flag a i := id rfl
@[simp] theorem State.setThm_fld (f : Thermal → Thermal) (s : State) (a hi lo : Nat) : (s.setThm f).fld a hi lo = s.fld a hi lo := id rfl
@[simp] theorem State.setThm_port (f : Thermal → Thermal) (s : State) (q : Port) : (s.setThm f).port q = s.port q := id rfl
@[simp] theorem State.setThm_surf (f : Thermal → Thermal) (s : State) (k : Nat) : (s.setThm f).surf k = s.surf k := id rfl
@[simp] theorem State.setThm_activeOf (f : Thermal → Thermal) (s : State) (k : Nat) : (s.setThm f).activeOf k = s.activeOf k := id rfl
@[simp] theorem State.setCh_pending (c : Nat) (f : ThermCh → ThermCh) (s : State) : (s.setCh c f).pending = s.pending := id rfl
@[simp] theorem State.setCh_clk (c : Nat) (f : ThermCh → ThermCh) (s : State) : (s.setCh c f).clk = s.clk := id rfl
@[simp] theorem State.setCh_mode (c : Nat) (f : ThermCh → ThermCh) (s : State) : (s.setCh c f).mode = s.mode := id rfl
@[simp] theorem State.setCh_pow (c : Nat) (f : ThermCh → ThermCh) (s : State) : (s.setCh c f).pow = s.pow := id rfl
@[simp] theorem State.setCh_rtc (c : Nat) (f : ThermCh → ThermCh) (s : State) : (s.setCh c f).rtc = s.rtc := id rfl
@[simp] theorem State.setCh_ports (c : Nat) (f : ThermCh → ThermCh) (s : State) : (s.setCh c f).ports = s.ports := id rfl
@[simp] theorem State.setCh_regs (c : Nat) (f : ThermCh → ThermCh) (s : State) : (s.setCh c f).regs = s.regs := id rfl
@[simp] theorem State.setCh_store (c : Nat) (f : ThermCh → ThermCh) (s : State) : (s.setCh c f).store = s.store := id rfl
@[simp] theorem State.setCh_bun (c : Nat) (f : ThermCh → ThermCh) (s : State) : (s.setCh c f).bun = s.bun := id rfl
@[simp] theorem State.setCh_mask (c : Nat) (f : ThermCh → ThermCh) (s : State) : (s.setCh c f).mask = s.mask := id rfl
@[simp] theorem State.setCh_tok (c : Nat) (f : ThermCh → ThermCh) (s : State) : (s.setCh c f).tok = s.tok := id rfl
@[simp] theorem State.setCh_scan (c : Nat) (f : ThermCh → ThermCh) (s : State) : (s.setCh c f).scan = s.scan := id rfl
@[simp] theorem State.setCh_fly (c : Nat) (f : ThermCh → ThermCh) (s : State) : (s.setCh c f).fly = s.fly := id rfl
@[simp] theorem State.setCh_eng (c : Nat) (f : ThermCh → ThermCh) (s : State) : (s.setCh c f).eng = s.eng := id rfl
@[simp] theorem State.setCh_hoist (c : Nat) (f : ThermCh → ThermCh) (s : State) : (s.setCh c f).hoist = s.hoist := id rfl
@[simp] theorem State.setCh_gdn (c : Nat) (f : ThermCh → ThermCh) (s : State) : (s.setCh c f).gdn = s.gdn := id rfl
@[simp] theorem State.setCh_ens (c : Nat) (f : ThermCh → ThermCh) (s : State) : (s.setCh c f).ens = s.ens := id rfl
@[simp] theorem State.setCh_flt (c : Nat) (f : ThermCh → ThermCh) (s : State) : (s.setCh c f).flt = s.flt := id rfl
@[simp] theorem State.setCh_evt (c : Nat) (f : ThermCh → ThermCh) (s : State) : (s.setCh c f).evt = s.evt := id rfl
@[simp] theorem State.setCh_fab (c : Nat) (f : ThermCh → ThermCh) (s : State) : (s.setCh c f).fab = s.fab := id rfl
@[simp] theorem State.setCh_cal (c : Nat) (f : ThermCh → ThermCh) (s : State) : (s.setCh c f).cal = s.cal := id rfl
@[simp] theorem State.setCh_chk (c : Nat) (f : ThermCh → ThermCh) (s : State) : (s.setCh c f).chk = s.chk := id rfl
@[simp] theorem State.setCh_dl (c : Nat) (f : ThermCh → ThermCh) (s : State) : (s.setCh c f).dl = s.dl := id rfl
@[simp] theorem State.setCh_jtag (c : Nat) (f : ThermCh → ThermCh) (s : State) : (s.setCh c f).jtag = s.jtag := id rfl
@[simp] theorem State.setCh_free (c : Nat) (f : ThermCh → ThermCh) (s : State) : (s.setCh c f).free = s.free := id rfl
@[simp] theorem State.setCh_actW (c : Nat) (f : ThermCh → ThermCh) (s : State) (a : Nat) : (s.setCh c f).actW a = s.actW a := id rfl
@[simp] theorem State.setCh_act (c : Nat) (f : ThermCh → ThermCh) (s : State) (a : Nat) : (s.setCh c f).act a = s.act a := id rfl
@[simp] theorem State.setCh_flag (c : Nat) (f : ThermCh → ThermCh) (s : State) (a i : Nat) : (s.setCh c f).flag a i = s.flag a i := id rfl
@[simp] theorem State.setCh_fld (c : Nat) (f : ThermCh → ThermCh) (s : State) (a hi lo : Nat) : (s.setCh c f).fld a hi lo = s.fld a hi lo := id rfl
@[simp] theorem State.setCh_port (c : Nat) (f : ThermCh → ThermCh) (s : State) (q : Port) : (s.setCh c f).port q = s.port q := id rfl
@[simp] theorem State.setCh_surf (c : Nat) (f : ThermCh → ThermCh) (s : State) (k : Nat) : (s.setCh c f).surf k = s.surf k := id rfl
@[simp] theorem State.setCh_activeOf (c : Nat) (f : ThermCh → ThermCh) (s : State) (k : Nat) : (s.setCh c f).activeOf k = s.activeOf k := id rfl
@[simp] theorem State.setPort_pending (s : State) (p : Port) (x : PortState) : (s.setPort p x).pending = s.pending := id rfl
@[simp] theorem State.setPort_clk (s : State) (p : Port) (x : PortState) : (s.setPort p x).clk = s.clk := id rfl
@[simp] theorem State.setPort_mode (s : State) (p : Port) (x : PortState) : (s.setPort p x).mode = s.mode := id rfl
@[simp] theorem State.setPort_pow (s : State) (p : Port) (x : PortState) : (s.setPort p x).pow = s.pow := id rfl
@[simp] theorem State.setPort_rtc (s : State) (p : Port) (x : PortState) : (s.setPort p x).rtc = s.rtc := id rfl
@[simp] theorem State.setPort_regs (s : State) (p : Port) (x : PortState) : (s.setPort p x).regs = s.regs := id rfl
@[simp] theorem State.setPort_store (s : State) (p : Port) (x : PortState) : (s.setPort p x).store = s.store := id rfl
@[simp] theorem State.setPort_bun (s : State) (p : Port) (x : PortState) : (s.setPort p x).bun = s.bun := id rfl
@[simp] theorem State.setPort_mask (s : State) (p : Port) (x : PortState) : (s.setPort p x).mask = s.mask := id rfl
@[simp] theorem State.setPort_tok (s : State) (p : Port) (x : PortState) : (s.setPort p x).tok = s.tok := id rfl
@[simp] theorem State.setPort_scan (s : State) (p : Port) (x : PortState) : (s.setPort p x).scan = s.scan := id rfl
@[simp] theorem State.setPort_fly (s : State) (p : Port) (x : PortState) : (s.setPort p x).fly = s.fly := id rfl
@[simp] theorem State.setPort_eng (s : State) (p : Port) (x : PortState) : (s.setPort p x).eng = s.eng := id rfl
@[simp] theorem State.setPort_hoist (s : State) (p : Port) (x : PortState) : (s.setPort p x).hoist = s.hoist := id rfl
@[simp] theorem State.setPort_gdn (s : State) (p : Port) (x : PortState) : (s.setPort p x).gdn = s.gdn := id rfl
@[simp] theorem State.setPort_ens (s : State) (p : Port) (x : PortState) : (s.setPort p x).ens = s.ens := id rfl
@[simp] theorem State.setPort_flt (s : State) (p : Port) (x : PortState) : (s.setPort p x).flt = s.flt := id rfl
@[simp] theorem State.setPort_evt (s : State) (p : Port) (x : PortState) : (s.setPort p x).evt = s.evt := id rfl
@[simp] theorem State.setPort_thm (s : State) (p : Port) (x : PortState) : (s.setPort p x).thm = s.thm := id rfl
@[simp] theorem State.setPort_fab (s : State) (p : Port) (x : PortState) : (s.setPort p x).fab = s.fab := id rfl
@[simp] theorem State.setPort_cal (s : State) (p : Port) (x : PortState) : (s.setPort p x).cal = s.cal := id rfl
@[simp] theorem State.setPort_chk (s : State) (p : Port) (x : PortState) : (s.setPort p x).chk = s.chk := id rfl
@[simp] theorem State.setPort_dl (s : State) (p : Port) (x : PortState) : (s.setPort p x).dl = s.dl := id rfl
@[simp] theorem State.setPort_jtag (s : State) (p : Port) (x : PortState) : (s.setPort p x).jtag = s.jtag := id rfl
@[simp] theorem State.setPort_free (s : State) (p : Port) (x : PortState) : (s.setPort p x).free = s.free := id rfl
@[simp] theorem State.setPort_actW (s : State) (p : Port) (x : PortState) (a : Nat) : (s.setPort p x).actW a = s.actW a := id rfl
@[simp] theorem State.setPort_act (s : State) (p : Port) (x : PortState) (a : Nat) : (s.setPort p x).act a = s.act a := id rfl
@[simp] theorem State.setPort_flag (s : State) (p : Port) (x : PortState) (a i : Nat) : (s.setPort p x).flag a i = s.flag a i := id rfl
@[simp] theorem State.setPort_fld (s : State) (p : Port) (x : PortState) (a hi lo : Nat) : (s.setPort p x).fld a hi lo = s.fld a hi lo := id rfl
@[simp] theorem State.setPort_surf (s : State) (p : Port) (x : PortState) (k : Nat) : (s.setPort p x).surf k = s.surf k := id rfl
@[simp] theorem State.setPort_activeOf (s : State) (p : Port) (x : PortState) (k : Nat) : (s.setPort p x).activeOf k = s.activeOf k := id rfl
@[simp] theorem State.setAct_pending (s : State) (b : Nat) (v : Word) : (s.setAct b v).pending = s.pending := id rfl
@[simp] theorem State.setAct_clk (s : State) (b : Nat) (v : Word) : (s.setAct b v).clk = s.clk := id rfl
@[simp] theorem State.setAct_mode (s : State) (b : Nat) (v : Word) : (s.setAct b v).mode = s.mode := id rfl
@[simp] theorem State.setAct_pow (s : State) (b : Nat) (v : Word) : (s.setAct b v).pow = s.pow := id rfl
@[simp] theorem State.setAct_rtc (s : State) (b : Nat) (v : Word) : (s.setAct b v).rtc = s.rtc := id rfl
@[simp] theorem State.setAct_ports (s : State) (b : Nat) (v : Word) : (s.setAct b v).ports = s.ports := id rfl
@[simp] theorem State.setAct_store (s : State) (b : Nat) (v : Word) : (s.setAct b v).store = s.store := id rfl
@[simp] theorem State.setAct_bun (s : State) (b : Nat) (v : Word) : (s.setAct b v).bun = s.bun := id rfl
@[simp] theorem State.setAct_mask (s : State) (b : Nat) (v : Word) : (s.setAct b v).mask = s.mask := id rfl
@[simp] theorem State.setAct_tok (s : State) (b : Nat) (v : Word) : (s.setAct b v).tok = s.tok := id rfl
@[simp] theorem State.setAct_scan (s : State) (b : Nat) (v : Word) : (s.setAct b v).scan = s.scan := id rfl
@[simp] theorem State.setAct_fly (s : State) (b : Nat) (v : Word) : (s.setAct b v).fly = s.fly := id rfl
@[simp] theorem State.setAct_eng (s : State) (b : Nat) (v : Word) : (s.setAct b v).eng = s.eng := id rfl
@[simp] theorem State.setAct_hoist (s : State) (b : Nat) (v : Word) : (s.setAct b v).hoist = s.hoist := id rfl
@[simp] theorem State.setAct_gdn (s : State) (b : Nat) (v : Word) : (s.setAct b v).gdn = s.gdn := id rfl
@[simp] theorem State.setAct_ens (s : State) (b : Nat) (v : Word) : (s.setAct b v).ens = s.ens := id rfl
@[simp] theorem State.setAct_flt (s : State) (b : Nat) (v : Word) : (s.setAct b v).flt = s.flt := id rfl
@[simp] theorem State.setAct_evt (s : State) (b : Nat) (v : Word) : (s.setAct b v).evt = s.evt := id rfl
@[simp] theorem State.setAct_thm (s : State) (b : Nat) (v : Word) : (s.setAct b v).thm = s.thm := id rfl
@[simp] theorem State.setAct_fab (s : State) (b : Nat) (v : Word) : (s.setAct b v).fab = s.fab := id rfl
@[simp] theorem State.setAct_cal (s : State) (b : Nat) (v : Word) : (s.setAct b v).cal = s.cal := id rfl
@[simp] theorem State.setAct_chk (s : State) (b : Nat) (v : Word) : (s.setAct b v).chk = s.chk := id rfl
@[simp] theorem State.setAct_dl (s : State) (b : Nat) (v : Word) : (s.setAct b v).dl = s.dl := id rfl
@[simp] theorem State.setAct_jtag (s : State) (b : Nat) (v : Word) : (s.setAct b v).jtag = s.jtag := id rfl
@[simp] theorem State.setAct_free (s : State) (b : Nat) (v : Word) : (s.setAct b v).free = s.free := id rfl
@[simp] theorem State.setAct_port (s : State) (b : Nat) (v : Word) (q : Port) : (s.setAct b v).port q = s.port q := id rfl
@[simp] theorem State.setAct_surf (s : State) (b : Nat) (v : Word) (k : Nat) : (s.setAct b v).surf k = s.surf k := id rfl
@[simp] theorem State.setAct_activeOf (s : State) (b : Nat) (v : Word) (k : Nat) : (s.setAct b v).activeOf k = s.activeOf k := id rfl
@[simp] theorem State.setShd_pending (s : State) (b : Nat) (v : Word) : (s.setShd b v).pending = s.pending := id rfl
@[simp] theorem State.setShd_clk (s : State) (b : Nat) (v : Word) : (s.setShd b v).clk = s.clk := id rfl
@[simp] theorem State.setShd_mode (s : State) (b : Nat) (v : Word) : (s.setShd b v).mode = s.mode := id rfl
@[simp] theorem State.setShd_pow (s : State) (b : Nat) (v : Word) : (s.setShd b v).pow = s.pow := id rfl
@[simp] theorem State.setShd_rtc (s : State) (b : Nat) (v : Word) : (s.setShd b v).rtc = s.rtc := id rfl
@[simp] theorem State.setShd_ports (s : State) (b : Nat) (v : Word) : (s.setShd b v).ports = s.ports := id rfl
@[simp] theorem State.setShd_store (s : State) (b : Nat) (v : Word) : (s.setShd b v).store = s.store := id rfl
@[simp] theorem State.setShd_bun (s : State) (b : Nat) (v : Word) : (s.setShd b v).bun = s.bun := id rfl
@[simp] theorem State.setShd_mask (s : State) (b : Nat) (v : Word) : (s.setShd b v).mask = s.mask := id rfl
@[simp] theorem State.setShd_tok (s : State) (b : Nat) (v : Word) : (s.setShd b v).tok = s.tok := id rfl
@[simp] theorem State.setShd_scan (s : State) (b : Nat) (v : Word) : (s.setShd b v).scan = s.scan := id rfl
@[simp] theorem State.setShd_fly (s : State) (b : Nat) (v : Word) : (s.setShd b v).fly = s.fly := id rfl
@[simp] theorem State.setShd_eng (s : State) (b : Nat) (v : Word) : (s.setShd b v).eng = s.eng := id rfl
@[simp] theorem State.setShd_hoist (s : State) (b : Nat) (v : Word) : (s.setShd b v).hoist = s.hoist := id rfl
@[simp] theorem State.setShd_gdn (s : State) (b : Nat) (v : Word) : (s.setShd b v).gdn = s.gdn := id rfl
@[simp] theorem State.setShd_ens (s : State) (b : Nat) (v : Word) : (s.setShd b v).ens = s.ens := id rfl
@[simp] theorem State.setShd_flt (s : State) (b : Nat) (v : Word) : (s.setShd b v).flt = s.flt := id rfl
@[simp] theorem State.setShd_evt (s : State) (b : Nat) (v : Word) : (s.setShd b v).evt = s.evt := id rfl
@[simp] theorem State.setShd_thm (s : State) (b : Nat) (v : Word) : (s.setShd b v).thm = s.thm := id rfl
@[simp] theorem State.setShd_fab (s : State) (b : Nat) (v : Word) : (s.setShd b v).fab = s.fab := id rfl
@[simp] theorem State.setShd_cal (s : State) (b : Nat) (v : Word) : (s.setShd b v).cal = s.cal := id rfl
@[simp] theorem State.setShd_chk (s : State) (b : Nat) (v : Word) : (s.setShd b v).chk = s.chk := id rfl
@[simp] theorem State.setShd_dl (s : State) (b : Nat) (v : Word) : (s.setShd b v).dl = s.dl := id rfl
@[simp] theorem State.setShd_jtag (s : State) (b : Nat) (v : Word) : (s.setShd b v).jtag = s.jtag := id rfl
@[simp] theorem State.setShd_free (s : State) (b : Nat) (v : Word) : (s.setShd b v).free = s.free := id rfl
@[simp] theorem State.setShd_port (s : State) (b : Nat) (v : Word) (q : Port) : (s.setShd b v).port q = s.port q := id rfl
@[simp] theorem State.setShd_surf (s : State) (b : Nat) (v : Word) (k : Nat) : (s.setShd b v).surf k = s.surf k := id rfl
@[simp] theorem State.setShd_activeOf (s : State) (b : Nat) (v : Word) (k : Nat) : (s.setShd b v).activeOf k = s.activeOf k := id rfl
@[simp] theorem State.hwSet_pending (s : State) (b m : Nat) : (s.hwSet b m).pending = s.pending := id rfl
@[simp] theorem State.hwSet_clk (s : State) (b m : Nat) : (s.hwSet b m).clk = s.clk := id rfl
@[simp] theorem State.hwSet_mode (s : State) (b m : Nat) : (s.hwSet b m).mode = s.mode := id rfl
@[simp] theorem State.hwSet_pow (s : State) (b m : Nat) : (s.hwSet b m).pow = s.pow := id rfl
@[simp] theorem State.hwSet_rtc (s : State) (b m : Nat) : (s.hwSet b m).rtc = s.rtc := id rfl
@[simp] theorem State.hwSet_ports (s : State) (b m : Nat) : (s.hwSet b m).ports = s.ports := id rfl
@[simp] theorem State.hwSet_store (s : State) (b m : Nat) : (s.hwSet b m).store = s.store := id rfl
@[simp] theorem State.hwSet_bun (s : State) (b m : Nat) : (s.hwSet b m).bun = s.bun := id rfl
@[simp] theorem State.hwSet_mask (s : State) (b m : Nat) : (s.hwSet b m).mask = s.mask := id rfl
@[simp] theorem State.hwSet_tok (s : State) (b m : Nat) : (s.hwSet b m).tok = s.tok := id rfl
@[simp] theorem State.hwSet_scan (s : State) (b m : Nat) : (s.hwSet b m).scan = s.scan := id rfl
@[simp] theorem State.hwSet_fly (s : State) (b m : Nat) : (s.hwSet b m).fly = s.fly := id rfl
@[simp] theorem State.hwSet_eng (s : State) (b m : Nat) : (s.hwSet b m).eng = s.eng := id rfl
@[simp] theorem State.hwSet_hoist (s : State) (b m : Nat) : (s.hwSet b m).hoist = s.hoist := id rfl
@[simp] theorem State.hwSet_gdn (s : State) (b m : Nat) : (s.hwSet b m).gdn = s.gdn := id rfl
@[simp] theorem State.hwSet_ens (s : State) (b m : Nat) : (s.hwSet b m).ens = s.ens := id rfl
@[simp] theorem State.hwSet_flt (s : State) (b m : Nat) : (s.hwSet b m).flt = s.flt := id rfl
@[simp] theorem State.hwSet_evt (s : State) (b m : Nat) : (s.hwSet b m).evt = s.evt := id rfl
@[simp] theorem State.hwSet_thm (s : State) (b m : Nat) : (s.hwSet b m).thm = s.thm := id rfl
@[simp] theorem State.hwSet_fab (s : State) (b m : Nat) : (s.hwSet b m).fab = s.fab := id rfl
@[simp] theorem State.hwSet_cal (s : State) (b m : Nat) : (s.hwSet b m).cal = s.cal := id rfl
@[simp] theorem State.hwSet_chk (s : State) (b m : Nat) : (s.hwSet b m).chk = s.chk := id rfl
@[simp] theorem State.hwSet_dl (s : State) (b m : Nat) : (s.hwSet b m).dl = s.dl := id rfl
@[simp] theorem State.hwSet_jtag (s : State) (b m : Nat) : (s.hwSet b m).jtag = s.jtag := id rfl
@[simp] theorem State.hwSet_free (s : State) (b m : Nat) : (s.hwSet b m).free = s.free := id rfl
@[simp] theorem State.hwSet_port (s : State) (b m : Nat) (q : Port) : (s.hwSet b m).port q = s.port q := id rfl
@[simp] theorem State.hwSet_surf (s : State) (b m : Nat) (k : Nat) : (s.hwSet b m).surf k = s.surf k := id rfl
@[simp] theorem State.hwSet_activeOf (s : State) (b m : Nat) (k : Nat) : (s.hwSet b m).activeOf k = s.activeOf k := id rfl
@[simp] theorem State.hwClr_pending (s : State) (b m : Nat) : (s.hwClr b m).pending = s.pending := id rfl
@[simp] theorem State.hwClr_clk (s : State) (b m : Nat) : (s.hwClr b m).clk = s.clk := id rfl
@[simp] theorem State.hwClr_mode (s : State) (b m : Nat) : (s.hwClr b m).mode = s.mode := id rfl
@[simp] theorem State.hwClr_pow (s : State) (b m : Nat) : (s.hwClr b m).pow = s.pow := id rfl
@[simp] theorem State.hwClr_rtc (s : State) (b m : Nat) : (s.hwClr b m).rtc = s.rtc := id rfl
@[simp] theorem State.hwClr_ports (s : State) (b m : Nat) : (s.hwClr b m).ports = s.ports := id rfl
@[simp] theorem State.hwClr_store (s : State) (b m : Nat) : (s.hwClr b m).store = s.store := id rfl
@[simp] theorem State.hwClr_bun (s : State) (b m : Nat) : (s.hwClr b m).bun = s.bun := id rfl
@[simp] theorem State.hwClr_mask (s : State) (b m : Nat) : (s.hwClr b m).mask = s.mask := id rfl
@[simp] theorem State.hwClr_tok (s : State) (b m : Nat) : (s.hwClr b m).tok = s.tok := id rfl
@[simp] theorem State.hwClr_scan (s : State) (b m : Nat) : (s.hwClr b m).scan = s.scan := id rfl
@[simp] theorem State.hwClr_fly (s : State) (b m : Nat) : (s.hwClr b m).fly = s.fly := id rfl
@[simp] theorem State.hwClr_eng (s : State) (b m : Nat) : (s.hwClr b m).eng = s.eng := id rfl
@[simp] theorem State.hwClr_hoist (s : State) (b m : Nat) : (s.hwClr b m).hoist = s.hoist := id rfl
@[simp] theorem State.hwClr_gdn (s : State) (b m : Nat) : (s.hwClr b m).gdn = s.gdn := id rfl
@[simp] theorem State.hwClr_ens (s : State) (b m : Nat) : (s.hwClr b m).ens = s.ens := id rfl
@[simp] theorem State.hwClr_flt (s : State) (b m : Nat) : (s.hwClr b m).flt = s.flt := id rfl
@[simp] theorem State.hwClr_evt (s : State) (b m : Nat) : (s.hwClr b m).evt = s.evt := id rfl
@[simp] theorem State.hwClr_thm (s : State) (b m : Nat) : (s.hwClr b m).thm = s.thm := id rfl
@[simp] theorem State.hwClr_fab (s : State) (b m : Nat) : (s.hwClr b m).fab = s.fab := id rfl
@[simp] theorem State.hwClr_cal (s : State) (b m : Nat) : (s.hwClr b m).cal = s.cal := id rfl
@[simp] theorem State.hwClr_chk (s : State) (b m : Nat) : (s.hwClr b m).chk = s.chk := id rfl
@[simp] theorem State.hwClr_dl (s : State) (b m : Nat) : (s.hwClr b m).dl = s.dl := id rfl
@[simp] theorem State.hwClr_jtag (s : State) (b m : Nat) : (s.hwClr b m).jtag = s.jtag := id rfl
@[simp] theorem State.hwClr_free (s : State) (b m : Nat) : (s.hwClr b m).free = s.free := id rfl
@[simp] theorem State.hwClr_port (s : State) (b m : Nat) (q : Port) : (s.hwClr b m).port q = s.port q := id rfl
@[simp] theorem State.hwClr_surf (s : State) (b m : Nat) (k : Nat) : (s.hwClr b m).surf k = s.surf k := id rfl
@[simp] theorem State.hwClr_activeOf (s : State) (b m : Nat) (k : Nat) : (s.hwClr b m).activeOf k = s.activeOf k := id rfl
@[simp] theorem State.setLane_pending (s : State) (n : Nat) (f : Lane → Lane) : (s.setLane n f).pending = s.pending := id rfl
@[simp] theorem State.setLane_clk (s : State) (n : Nat) (f : Lane → Lane) : (s.setLane n f).clk = s.clk := id rfl
@[simp] theorem State.setLane_mode (s : State) (n : Nat) (f : Lane → Lane) : (s.setLane n f).mode = s.mode := id rfl
@[simp] theorem State.setLane_pow (s : State) (n : Nat) (f : Lane → Lane) : (s.setLane n f).pow = s.pow := id rfl
@[simp] theorem State.setLane_rtc (s : State) (n : Nat) (f : Lane → Lane) : (s.setLane n f).rtc = s.rtc := id rfl
@[simp] theorem State.setLane_ports (s : State) (n : Nat) (f : Lane → Lane) : (s.setLane n f).ports = s.ports := id rfl
@[simp] theorem State.setLane_regs (s : State) (n : Nat) (f : Lane → Lane) : (s.setLane n f).regs = s.regs := id rfl
@[simp] theorem State.setLane_store (s : State) (n : Nat) (f : Lane → Lane) : (s.setLane n f).store = s.store := id rfl
@[simp] theorem State.setLane_bun (s : State) (n : Nat) (f : Lane → Lane) : (s.setLane n f).bun = s.bun := id rfl
@[simp] theorem State.setLane_mask (s : State) (n : Nat) (f : Lane → Lane) : (s.setLane n f).mask = s.mask := id rfl
@[simp] theorem State.setLane_tok (s : State) (n : Nat) (f : Lane → Lane) : (s.setLane n f).tok = s.tok := id rfl
@[simp] theorem State.setLane_scan (s : State) (n : Nat) (f : Lane → Lane) : (s.setLane n f).scan = s.scan := id rfl
@[simp] theorem State.setLane_eng (s : State) (n : Nat) (f : Lane → Lane) : (s.setLane n f).eng = s.eng := id rfl
@[simp] theorem State.setLane_hoist (s : State) (n : Nat) (f : Lane → Lane) : (s.setLane n f).hoist = s.hoist := id rfl
@[simp] theorem State.setLane_gdn (s : State) (n : Nat) (f : Lane → Lane) : (s.setLane n f).gdn = s.gdn := id rfl
@[simp] theorem State.setLane_ens (s : State) (n : Nat) (f : Lane → Lane) : (s.setLane n f).ens = s.ens := id rfl
@[simp] theorem State.setLane_flt (s : State) (n : Nat) (f : Lane → Lane) : (s.setLane n f).flt = s.flt := id rfl
@[simp] theorem State.setLane_evt (s : State) (n : Nat) (f : Lane → Lane) : (s.setLane n f).evt = s.evt := id rfl
@[simp] theorem State.setLane_thm (s : State) (n : Nat) (f : Lane → Lane) : (s.setLane n f).thm = s.thm := id rfl
@[simp] theorem State.setLane_fab (s : State) (n : Nat) (f : Lane → Lane) : (s.setLane n f).fab = s.fab := id rfl
@[simp] theorem State.setLane_cal (s : State) (n : Nat) (f : Lane → Lane) : (s.setLane n f).cal = s.cal := id rfl
@[simp] theorem State.setLane_chk (s : State) (n : Nat) (f : Lane → Lane) : (s.setLane n f).chk = s.chk := id rfl
@[simp] theorem State.setLane_dl (s : State) (n : Nat) (f : Lane → Lane) : (s.setLane n f).dl = s.dl := id rfl
@[simp] theorem State.setLane_jtag (s : State) (n : Nat) (f : Lane → Lane) : (s.setLane n f).jtag = s.jtag := id rfl
@[simp] theorem State.setLane_free (s : State) (n : Nat) (f : Lane → Lane) : (s.setLane n f).free = s.free := id rfl
@[simp] theorem State.setLane_actW (s : State) (n : Nat) (f : Lane → Lane) (a : Nat) : (s.setLane n f).actW a = s.actW a := id rfl
@[simp] theorem State.setLane_act (s : State) (n : Nat) (f : Lane → Lane) (a : Nat) : (s.setLane n f).act a = s.act a := id rfl
@[simp] theorem State.setLane_flag (s : State) (n : Nat) (f : Lane → Lane) (a i : Nat) : (s.setLane n f).flag a i = s.flag a i := id rfl
@[simp] theorem State.setLane_fld (s : State) (n : Nat) (f : Lane → Lane) (a hi lo : Nat) : (s.setLane n f).fld a hi lo = s.fld a hi lo := id rfl
@[simp] theorem State.setLane_port (s : State) (n : Nat) (f : Lane → Lane) (q : Port) : (s.setLane n f).port q = s.port q := id rfl
@[simp] theorem State.setLane_surf (s : State) (n : Nat) (f : Lane → Lane) (k : Nat) : (s.setLane n f).surf k = s.surf k := id rfl
@[simp] theorem State.setLane_activeOf (s : State) (n : Nat) (f : Lane → Lane) (k : Nat) : (s.setLane n f).activeOf k = s.activeOf k := id rfl
@[simp] theorem State.setSurf_pending (s : State) (n : Nat) (f : Surface → Surface) : (s.setSurf n f).pending = s.pending := id rfl
@[simp] theorem State.setSurf_clk (s : State) (n : Nat) (f : Surface → Surface) : (s.setSurf n f).clk = s.clk := id rfl
@[simp] theorem State.setSurf_mode (s : State) (n : Nat) (f : Surface → Surface) : (s.setSurf n f).mode = s.mode := id rfl
@[simp] theorem State.setSurf_pow (s : State) (n : Nat) (f : Surface → Surface) : (s.setSurf n f).pow = s.pow := id rfl
@[simp] theorem State.setSurf_rtc (s : State) (n : Nat) (f : Surface → Surface) : (s.setSurf n f).rtc = s.rtc := id rfl
@[simp] theorem State.setSurf_ports (s : State) (n : Nat) (f : Surface → Surface) : (s.setSurf n f).ports = s.ports := id rfl
@[simp] theorem State.setSurf_regs (s : State) (n : Nat) (f : Surface → Surface) : (s.setSurf n f).regs = s.regs := id rfl
@[simp] theorem State.setSurf_bun (s : State) (n : Nat) (f : Surface → Surface) : (s.setSurf n f).bun = s.bun := id rfl
@[simp] theorem State.setSurf_mask (s : State) (n : Nat) (f : Surface → Surface) : (s.setSurf n f).mask = s.mask := id rfl
@[simp] theorem State.setSurf_tok (s : State) (n : Nat) (f : Surface → Surface) : (s.setSurf n f).tok = s.tok := id rfl
@[simp] theorem State.setSurf_scan (s : State) (n : Nat) (f : Surface → Surface) : (s.setSurf n f).scan = s.scan := id rfl
@[simp] theorem State.setSurf_fly (s : State) (n : Nat) (f : Surface → Surface) : (s.setSurf n f).fly = s.fly := id rfl
@[simp] theorem State.setSurf_eng (s : State) (n : Nat) (f : Surface → Surface) : (s.setSurf n f).eng = s.eng := id rfl
@[simp] theorem State.setSurf_hoist (s : State) (n : Nat) (f : Surface → Surface) : (s.setSurf n f).hoist = s.hoist := id rfl
@[simp] theorem State.setSurf_gdn (s : State) (n : Nat) (f : Surface → Surface) : (s.setSurf n f).gdn = s.gdn := id rfl
@[simp] theorem State.setSurf_ens (s : State) (n : Nat) (f : Surface → Surface) : (s.setSurf n f).ens = s.ens := id rfl
@[simp] theorem State.setSurf_flt (s : State) (n : Nat) (f : Surface → Surface) : (s.setSurf n f).flt = s.flt := id rfl
@[simp] theorem State.setSurf_evt (s : State) (n : Nat) (f : Surface → Surface) : (s.setSurf n f).evt = s.evt := id rfl
@[simp] theorem State.setSurf_thm (s : State) (n : Nat) (f : Surface → Surface) : (s.setSurf n f).thm = s.thm := id rfl
@[simp] theorem State.setSurf_fab (s : State) (n : Nat) (f : Surface → Surface) : (s.setSurf n f).fab = s.fab := id rfl
@[simp] theorem State.setSurf_cal (s : State) (n : Nat) (f : Surface → Surface) : (s.setSurf n f).cal = s.cal := id rfl
@[simp] theorem State.setSurf_chk (s : State) (n : Nat) (f : Surface → Surface) : (s.setSurf n f).chk = s.chk := id rfl
@[simp] theorem State.setSurf_dl (s : State) (n : Nat) (f : Surface → Surface) : (s.setSurf n f).dl = s.dl := id rfl
@[simp] theorem State.setSurf_jtag (s : State) (n : Nat) (f : Surface → Surface) : (s.setSurf n f).jtag = s.jtag := id rfl
@[simp] theorem State.setSurf_free (s : State) (n : Nat) (f : Surface → Surface) : (s.setSurf n f).free = s.free := id rfl
@[simp] theorem State.setSurf_actW (s : State) (n : Nat) (f : Surface → Surface) (a : Nat) : (s.setSurf n f).actW a = s.actW a := id rfl
@[simp] theorem State.setSurf_act (s : State) (n : Nat) (f : Surface → Surface) (a : Nat) : (s.setSurf n f).act a = s.act a := id rfl
@[simp] theorem State.setSurf_flag (s : State) (n : Nat) (f : Surface → Surface) (a i : Nat) : (s.setSurf n f).flag a i = s.flag a i := id rfl
@[simp] theorem State.setSurf_fld (s : State) (n : Nat) (f : Surface → Surface) (a hi lo : Nat) : (s.setSurf n f).fld a hi lo = s.fld a hi lo := id rfl
@[simp] theorem State.setSurf_port (s : State) (n : Nat) (f : Surface → Surface) (q : Port) : (s.setSurf n f).port q = s.port q := id rfl
@[simp] theorem State.setSurf_activeOf (s : State) (n : Nat) (f : Surface → Surface) (k : Nat) : (s.setSurf n f).activeOf k = s.activeOf k := id rfl
@[simp] theorem State.storePut_pending (b : Nat) (l : List Byte) (s : State) : (s.storePut b l).pending = s.pending := id rfl
@[simp] theorem State.storePut_clk (b : Nat) (l : List Byte) (s : State) : (s.storePut b l).clk = s.clk := id rfl
@[simp] theorem State.storePut_mode (b : Nat) (l : List Byte) (s : State) : (s.storePut b l).mode = s.mode := id rfl
@[simp] theorem State.storePut_pow (b : Nat) (l : List Byte) (s : State) : (s.storePut b l).pow = s.pow := id rfl
@[simp] theorem State.storePut_rtc (b : Nat) (l : List Byte) (s : State) : (s.storePut b l).rtc = s.rtc := id rfl
@[simp] theorem State.storePut_ports (b : Nat) (l : List Byte) (s : State) : (s.storePut b l).ports = s.ports := id rfl
@[simp] theorem State.storePut_regs (b : Nat) (l : List Byte) (s : State) : (s.storePut b l).regs = s.regs := id rfl
@[simp] theorem State.storePut_bun (b : Nat) (l : List Byte) (s : State) : (s.storePut b l).bun = s.bun := id rfl
@[simp] theorem State.storePut_mask (b : Nat) (l : List Byte) (s : State) : (s.storePut b l).mask = s.mask := id rfl
@[simp] theorem State.storePut_tok (b : Nat) (l : List Byte) (s : State) : (s.storePut b l).tok = s.tok := id rfl
@[simp] theorem State.storePut_scan (b : Nat) (l : List Byte) (s : State) : (s.storePut b l).scan = s.scan := id rfl
@[simp] theorem State.storePut_fly (b : Nat) (l : List Byte) (s : State) : (s.storePut b l).fly = s.fly := id rfl
@[simp] theorem State.storePut_eng (b : Nat) (l : List Byte) (s : State) : (s.storePut b l).eng = s.eng := id rfl
@[simp] theorem State.storePut_hoist (b : Nat) (l : List Byte) (s : State) : (s.storePut b l).hoist = s.hoist := id rfl
@[simp] theorem State.storePut_gdn (b : Nat) (l : List Byte) (s : State) : (s.storePut b l).gdn = s.gdn := id rfl
@[simp] theorem State.storePut_ens (b : Nat) (l : List Byte) (s : State) : (s.storePut b l).ens = s.ens := id rfl
@[simp] theorem State.storePut_flt (b : Nat) (l : List Byte) (s : State) : (s.storePut b l).flt = s.flt := id rfl
@[simp] theorem State.storePut_evt (b : Nat) (l : List Byte) (s : State) : (s.storePut b l).evt = s.evt := id rfl
@[simp] theorem State.storePut_thm (b : Nat) (l : List Byte) (s : State) : (s.storePut b l).thm = s.thm := id rfl
@[simp] theorem State.storePut_fab (b : Nat) (l : List Byte) (s : State) : (s.storePut b l).fab = s.fab := id rfl
@[simp] theorem State.storePut_cal (b : Nat) (l : List Byte) (s : State) : (s.storePut b l).cal = s.cal := id rfl
@[simp] theorem State.storePut_chk (b : Nat) (l : List Byte) (s : State) : (s.storePut b l).chk = s.chk := id rfl
@[simp] theorem State.storePut_dl (b : Nat) (l : List Byte) (s : State) : (s.storePut b l).dl = s.dl := id rfl
@[simp] theorem State.storePut_jtag (b : Nat) (l : List Byte) (s : State) : (s.storePut b l).jtag = s.jtag := id rfl
@[simp] theorem State.storePut_free (b : Nat) (l : List Byte) (s : State) : (s.storePut b l).free = s.free := id rfl
@[simp] theorem State.storePut_actW (b : Nat) (l : List Byte) (s : State) (a : Nat) : (s.storePut b l).actW a = s.actW a := id rfl
@[simp] theorem State.storePut_act (b : Nat) (l : List Byte) (s : State) (a : Nat) : (s.storePut b l).act a = s.act a := id rfl
@[simp] theorem State.storePut_flag (b : Nat) (l : List Byte) (s : State) (a i : Nat) : (s.storePut b l).flag a i = s.flag a i := id rfl
@[simp] theorem State.storePut_fld (b : Nat) (l : List Byte) (s : State) (a hi lo : Nat) : (s.storePut b l).fld a hi lo = s.fld a hi lo := id rfl
@[simp] theorem State.storePut_port (b : Nat) (l : List Byte) (s : State) (q : Port) : (s.storePut b l).port q = s.port q := id rfl
@[simp] theorem State.storePut_activeOf (b : Nat) (l : List Byte) (s : State) (k : Nat) : (s.storePut b l).activeOf k = s.activeOf k := id rfl
@[simp] theorem State.setCred_pending (c : Nat) (f : Cred → Cred) (s : State) : (s.setCred c f).pending = s.pending := id rfl
@[simp] theorem State.setCred_clk (c : Nat) (f : Cred → Cred) (s : State) : (s.setCred c f).clk = s.clk := id rfl
@[simp] theorem State.setCred_mode (c : Nat) (f : Cred → Cred) (s : State) : (s.setCred c f).mode = s.mode := id rfl
@[simp] theorem State.setCred_pow (c : Nat) (f : Cred → Cred) (s : State) : (s.setCred c f).pow = s.pow := id rfl
@[simp] theorem State.setCred_rtc (c : Nat) (f : Cred → Cred) (s : State) : (s.setCred c f).rtc = s.rtc := id rfl
@[simp] theorem State.setCred_ports (c : Nat) (f : Cred → Cred) (s : State) : (s.setCred c f).ports = s.ports := id rfl
@[simp] theorem State.setCred_regs (c : Nat) (f : Cred → Cred) (s : State) : (s.setCred c f).regs = s.regs := id rfl
@[simp] theorem State.setCred_store (c : Nat) (f : Cred → Cred) (s : State) : (s.setCred c f).store = s.store := id rfl
@[simp] theorem State.setCred_bun (c : Nat) (f : Cred → Cred) (s : State) : (s.setCred c f).bun = s.bun := id rfl
@[simp] theorem State.setCred_mask (c : Nat) (f : Cred → Cred) (s : State) : (s.setCred c f).mask = s.mask := id rfl
@[simp] theorem State.setCred_tok (c : Nat) (f : Cred → Cred) (s : State) : (s.setCred c f).tok = s.tok := id rfl
@[simp] theorem State.setCred_scan (c : Nat) (f : Cred → Cred) (s : State) : (s.setCred c f).scan = s.scan := id rfl
@[simp] theorem State.setCred_fly (c : Nat) (f : Cred → Cred) (s : State) : (s.setCred c f).fly = s.fly := id rfl
@[simp] theorem State.setCred_eng (c : Nat) (f : Cred → Cred) (s : State) : (s.setCred c f).eng = s.eng := id rfl
@[simp] theorem State.setCred_gdn (c : Nat) (f : Cred → Cred) (s : State) : (s.setCred c f).gdn = s.gdn := id rfl
@[simp] theorem State.setCred_ens (c : Nat) (f : Cred → Cred) (s : State) : (s.setCred c f).ens = s.ens := id rfl
@[simp] theorem State.setCred_flt (c : Nat) (f : Cred → Cred) (s : State) : (s.setCred c f).flt = s.flt := id rfl
@[simp] theorem State.setCred_evt (c : Nat) (f : Cred → Cred) (s : State) : (s.setCred c f).evt = s.evt := id rfl
@[simp] theorem State.setCred_thm (c : Nat) (f : Cred → Cred) (s : State) : (s.setCred c f).thm = s.thm := id rfl
@[simp] theorem State.setCred_fab (c : Nat) (f : Cred → Cred) (s : State) : (s.setCred c f).fab = s.fab := id rfl
@[simp] theorem State.setCred_cal (c : Nat) (f : Cred → Cred) (s : State) : (s.setCred c f).cal = s.cal := id rfl
@[simp] theorem State.setCred_chk (c : Nat) (f : Cred → Cred) (s : State) : (s.setCred c f).chk = s.chk := id rfl
@[simp] theorem State.setCred_dl (c : Nat) (f : Cred → Cred) (s : State) : (s.setCred c f).dl = s.dl := id rfl
@[simp] theorem State.setCred_jtag (c : Nat) (f : Cred → Cred) (s : State) : (s.setCred c f).jtag = s.jtag := id rfl
@[simp] theorem State.setCred_free (c : Nat) (f : Cred → Cred) (s : State) : (s.setCred c f).free = s.free := id rfl
@[simp] theorem State.setCred_actW (c : Nat) (f : Cred → Cred) (s : State) (a : Nat) : (s.setCred c f).actW a = s.actW a := id rfl
@[simp] theorem State.setCred_act (c : Nat) (f : Cred → Cred) (s : State) (a : Nat) : (s.setCred c f).act a = s.act a := id rfl
@[simp] theorem State.setCred_flag (c : Nat) (f : Cred → Cred) (s : State) (a i : Nat) : (s.setCred c f).flag a i = s.flag a i := id rfl
@[simp] theorem State.setCred_fld (c : Nat) (f : Cred → Cred) (s : State) (a hi lo : Nat) : (s.setCred c f).fld a hi lo = s.fld a hi lo := id rfl
@[simp] theorem State.setCred_port (c : Nat) (f : Cred → Cred) (s : State) (q : Port) : (s.setCred c f).port q = s.port q := id rfl
@[simp] theorem State.setCred_surf (c : Nat) (f : Cred → Cred) (s : State) (k : Nat) : (s.setCred c f).surf k = s.surf k := id rfl
@[simp] theorem State.setCred_activeOf (c : Nat) (f : Cred → Cred) (s : State) (k : Nat) : (s.setCred c f).activeOf k = s.activeOf k := id rfl
@[simp] theorem State.setSeg_pending (n : Nat) (f : Seg → Seg) (s : State) : (s.setSeg n f).pending = s.pending := id rfl
@[simp] theorem State.setSeg_clk (n : Nat) (f : Seg → Seg) (s : State) : (s.setSeg n f).clk = s.clk := id rfl
@[simp] theorem State.setSeg_mode (n : Nat) (f : Seg → Seg) (s : State) : (s.setSeg n f).mode = s.mode := id rfl
@[simp] theorem State.setSeg_pow (n : Nat) (f : Seg → Seg) (s : State) : (s.setSeg n f).pow = s.pow := id rfl
@[simp] theorem State.setSeg_rtc (n : Nat) (f : Seg → Seg) (s : State) : (s.setSeg n f).rtc = s.rtc := id rfl
@[simp] theorem State.setSeg_ports (n : Nat) (f : Seg → Seg) (s : State) : (s.setSeg n f).ports = s.ports := id rfl
@[simp] theorem State.setSeg_regs (n : Nat) (f : Seg → Seg) (s : State) : (s.setSeg n f).regs = s.regs := id rfl
@[simp] theorem State.setSeg_store (n : Nat) (f : Seg → Seg) (s : State) : (s.setSeg n f).store = s.store := id rfl
@[simp] theorem State.setSeg_bun (n : Nat) (f : Seg → Seg) (s : State) : (s.setSeg n f).bun = s.bun := id rfl
@[simp] theorem State.setSeg_mask (n : Nat) (f : Seg → Seg) (s : State) : (s.setSeg n f).mask = s.mask := id rfl
@[simp] theorem State.setSeg_tok (n : Nat) (f : Seg → Seg) (s : State) : (s.setSeg n f).tok = s.tok := id rfl
@[simp] theorem State.setSeg_fly (n : Nat) (f : Seg → Seg) (s : State) : (s.setSeg n f).fly = s.fly := id rfl
@[simp] theorem State.setSeg_eng (n : Nat) (f : Seg → Seg) (s : State) : (s.setSeg n f).eng = s.eng := id rfl
@[simp] theorem State.setSeg_hoist (n : Nat) (f : Seg → Seg) (s : State) : (s.setSeg n f).hoist = s.hoist := id rfl
@[simp] theorem State.setSeg_gdn (n : Nat) (f : Seg → Seg) (s : State) : (s.setSeg n f).gdn = s.gdn := id rfl
@[simp] theorem State.setSeg_ens (n : Nat) (f : Seg → Seg) (s : State) : (s.setSeg n f).ens = s.ens := id rfl
@[simp] theorem State.setSeg_flt (n : Nat) (f : Seg → Seg) (s : State) : (s.setSeg n f).flt = s.flt := id rfl
@[simp] theorem State.setSeg_evt (n : Nat) (f : Seg → Seg) (s : State) : (s.setSeg n f).evt = s.evt := id rfl
@[simp] theorem State.setSeg_thm (n : Nat) (f : Seg → Seg) (s : State) : (s.setSeg n f).thm = s.thm := id rfl
@[simp] theorem State.setSeg_fab (n : Nat) (f : Seg → Seg) (s : State) : (s.setSeg n f).fab = s.fab := id rfl
@[simp] theorem State.setSeg_cal (n : Nat) (f : Seg → Seg) (s : State) : (s.setSeg n f).cal = s.cal := id rfl
@[simp] theorem State.setSeg_chk (n : Nat) (f : Seg → Seg) (s : State) : (s.setSeg n f).chk = s.chk := id rfl
@[simp] theorem State.setSeg_dl (n : Nat) (f : Seg → Seg) (s : State) : (s.setSeg n f).dl = s.dl := id rfl
@[simp] theorem State.setSeg_jtag (n : Nat) (f : Seg → Seg) (s : State) : (s.setSeg n f).jtag = s.jtag := id rfl
@[simp] theorem State.setSeg_free (n : Nat) (f : Seg → Seg) (s : State) : (s.setSeg n f).free = s.free := id rfl
@[simp] theorem State.setSeg_actW (n : Nat) (f : Seg → Seg) (s : State) (a : Nat) : (s.setSeg n f).actW a = s.actW a := id rfl
@[simp] theorem State.setSeg_act (n : Nat) (f : Seg → Seg) (s : State) (a : Nat) : (s.setSeg n f).act a = s.act a := id rfl
@[simp] theorem State.setSeg_flag (n : Nat) (f : Seg → Seg) (s : State) (a i : Nat) : (s.setSeg n f).flag a i = s.flag a i := id rfl
@[simp] theorem State.setSeg_fld (n : Nat) (f : Seg → Seg) (s : State) (a hi lo : Nat) : (s.setSeg n f).fld a hi lo = s.fld a hi lo := id rfl
@[simp] theorem State.setSeg_port (n : Nat) (f : Seg → Seg) (s : State) (q : Port) : (s.setSeg n f).port q = s.port q := id rfl
@[simp] theorem State.setSeg_surf (n : Nat) (f : Seg → Seg) (s : State) (k : Nat) : (s.setSeg n f).surf k = s.surf k := id rfl
@[simp] theorem State.setSeg_activeOf (n : Nat) (f : Seg → Seg) (s : State) (k : Nat) : (s.setSeg n f).activeOf k = s.activeOf k := id rfl
@[simp] theorem State.setStep_pending (n : Nat) (s : State) : (s.setStep n).pending = s.pending := id rfl
@[simp] theorem State.setStep_clk (n : Nat) (s : State) : (s.setStep n).clk = s.clk := id rfl
@[simp] theorem State.setStep_pow (n : Nat) (s : State) : (s.setStep n).pow = s.pow := id rfl
@[simp] theorem State.setStep_rtc (n : Nat) (s : State) : (s.setStep n).rtc = s.rtc := id rfl
@[simp] theorem State.setStep_ports (n : Nat) (s : State) : (s.setStep n).ports = s.ports := id rfl
@[simp] theorem State.setStep_regs (n : Nat) (s : State) : (s.setStep n).regs = s.regs := id rfl
@[simp] theorem State.setStep_store (n : Nat) (s : State) : (s.setStep n).store = s.store := id rfl
@[simp] theorem State.setStep_bun (n : Nat) (s : State) : (s.setStep n).bun = s.bun := id rfl
@[simp] theorem State.setStep_mask (n : Nat) (s : State) : (s.setStep n).mask = s.mask := id rfl
@[simp] theorem State.setStep_tok (n : Nat) (s : State) : (s.setStep n).tok = s.tok := id rfl
@[simp] theorem State.setStep_scan (n : Nat) (s : State) : (s.setStep n).scan = s.scan := id rfl
@[simp] theorem State.setStep_fly (n : Nat) (s : State) : (s.setStep n).fly = s.fly := id rfl
@[simp] theorem State.setStep_eng (n : Nat) (s : State) : (s.setStep n).eng = s.eng := id rfl
@[simp] theorem State.setStep_hoist (n : Nat) (s : State) : (s.setStep n).hoist = s.hoist := id rfl
@[simp] theorem State.setStep_gdn (n : Nat) (s : State) : (s.setStep n).gdn = s.gdn := id rfl
@[simp] theorem State.setStep_ens (n : Nat) (s : State) : (s.setStep n).ens = s.ens := id rfl
@[simp] theorem State.setStep_flt (n : Nat) (s : State) : (s.setStep n).flt = s.flt := id rfl
@[simp] theorem State.setStep_evt (n : Nat) (s : State) : (s.setStep n).evt = s.evt := id rfl
@[simp] theorem State.setStep_thm (n : Nat) (s : State) : (s.setStep n).thm = s.thm := id rfl
@[simp] theorem State.setStep_fab (n : Nat) (s : State) : (s.setStep n).fab = s.fab := id rfl
@[simp] theorem State.setStep_cal (n : Nat) (s : State) : (s.setStep n).cal = s.cal := id rfl
@[simp] theorem State.setStep_chk (n : Nat) (s : State) : (s.setStep n).chk = s.chk := id rfl
@[simp] theorem State.setStep_dl (n : Nat) (s : State) : (s.setStep n).dl = s.dl := id rfl
@[simp] theorem State.setStep_jtag (n : Nat) (s : State) : (s.setStep n).jtag = s.jtag := id rfl
@[simp] theorem State.setStep_free (n : Nat) (s : State) : (s.setStep n).free = s.free := id rfl
@[simp] theorem State.setStep_actW (n : Nat) (s : State) (a : Nat) : (s.setStep n).actW a = s.actW a := id rfl
@[simp] theorem State.setStep_act (n : Nat) (s : State) (a : Nat) : (s.setStep n).act a = s.act a := id rfl
@[simp] theorem State.setStep_flag (n : Nat) (s : State) (a i : Nat) : (s.setStep n).flag a i = s.flag a i := id rfl
@[simp] theorem State.setStep_fld (n : Nat) (s : State) (a hi lo : Nat) : (s.setStep n).fld a hi lo = s.fld a hi lo := id rfl
@[simp] theorem State.setStep_port (n : Nat) (s : State) (q : Port) : (s.setStep n).port q = s.port q := id rfl
@[simp] theorem State.setStep_surf (n : Nat) (s : State) (k : Nat) : (s.setStep n).surf k = s.surf k := id rfl
@[simp] theorem State.setStep_activeOf (n : Nat) (s : State) (k : Nat) : (s.setStep n).activeOf k = s.activeOf k := id rfl

/-! What each update leaves in its own field. -/

@[simp] theorem State.setChk_chk (f : Checks → Checks) (s : State) : (s.setChk f).chk = f s.chk := id rfl
@[simp] theorem State.setPow_pow (f : Power → Power) (s : State) : (s.setPow f).pow = f s.pow := id rfl
@[simp] theorem State.setDl_dl (f : DieLink → DieLink) (s : State) : (s.setDl f).dl = f s.dl := id rfl
@[simp] theorem State.setEns_ens (f : Ensign → Ensign) (s : State) : (s.setEns f).ens = f s.ens := id rfl
@[simp] theorem State.setGdn_gdn (f : Guidon → Guidon) (s : State) : (s.setGdn f).gdn = f s.gdn := id rfl
@[simp] theorem State.setEng_eng (f : Engine → Engine) (s : State) : (s.setEng f).eng = f s.eng := id rfl
@[simp] theorem State.setThm_thm (f : Thermal → Thermal) (s : State) : (s.setThm f).thm = f s.thm := id rfl
@[simp] theorem State.setLane_fly (s : State) (n : Nat) (f : Lane → Lane) : (s.setLane n f).fly = vmod s.fly n f := id rfl
@[simp] theorem State.setSurf_mem (s : State) (n : Nat) (f : Surface → Surface) : (s.setSurf n f).store.mem = s.store.mem := id rfl
@[simp] theorem State.setSurf_surfs (s : State) (n : Nat) (f : Surface → Surface) : (s.setSurf n f).store.surfs = vmod s.store.surfs n f := id rfl
@[simp] theorem State.storePut_mem (b : Nat) (l : List Byte) (s : State) : (s.storePut b l).store.mem = memPut s.store.mem b l := id rfl
@[simp] theorem State.storePut_surfs (b : Nat) (l : List Byte) (s : State) : (s.storePut b l).store.surfs = s.store.surfs := id rfl
@[simp] theorem State.setStep_step (n : Nat) (s : State) : (s.setStep n).mode.step = n := id rfl
@[simp] theorem State.setAct_shd (s : State) (b : Nat) (v : Word) : (s.setAct b v).regs.shd = s.regs.shd := id rfl
@[simp] theorem State.tick_now (t : Nat) (s : State) : (s.tick t).clk.now = max s.clk.now t := id rfl
@[simp] theorem State.tick_dtime (t : Nat) (s : State) : (s.tick t).clk.dtime = (if s.pow.logicOn then s.clk.run (t - s.clk.now) else s.clk).dtime := id rfl
@[simp] theorem State.tick_queue (t : Nat) (s : State) : (s.tick t).evt.queue = s.evt.queue := id rfl
@[simp] theorem State.tick_evtStore (t : Nat) (s : State) : (s.tick t).evt.store = s.evt.store := id rfl
@[simp] theorem State.tick_actW (t : Nat) (s : State) (a : Nat) : (s.tick t).actW a = s.actW a := id rfl
@[simp] theorem State.tick_act (t : Nat) (s : State) (a : Nat) : (s.tick t).act a = s.act a := id rfl
@[simp] theorem State.tick_flag (t : Nat) (s : State) (a i : Nat) : (s.tick t).flag a i = s.flag a i := id rfl
@[simp] theorem State.tick_fld (t : Nat) (s : State) (a hi lo : Nat) : (s.tick t).fld a hi lo = s.fld a hi lo := id rfl
@[simp] theorem State.setPort_port_same (s : State) (p : Port) (x : PortState) : (s.setPort p x).port p = x := by
  cases p <;> simp [State.setPort, State.port, portIdx]
theorem State.setPort_port_other (s : State) (p q : Port) (x : PortState) (h : q ≠ p) : (s.setPort p x).port q = s.port q := by
  cases p <;> cases q <;> simp_all [State.setPort, State.port, portIdx]
@[simp] theorem State.setPort_setPort (s : State) (p : Port) (x y : PortState) : (s.setPort p x).setPort p y = s.setPort p y := by
  unfold State.setPort
  congr 1
  simp

/-! ### Vectors read and written by number -/

@[simp] theorem vget_vset_same {α : Type} {n : Nat} (v : Vector α (n + 1)) (i : Nat) (x : α) (h : i < n + 1) : vget (vset v i x) i = x := by
  simp [vget, vset, h]

theorem vget_vset_other {α : Type} {n : Nat} (v : Vector α (n + 1)) (i j : Nat) (x : α) (h : j ≠ i) (hj : j < n + 1) : vget (vset v i x) j = vget v j := by
  simp [vget, vset, Ne.symm h, hj]

@[simp] theorem vget_vmod_same {α : Type} {n : Nat} (v : Vector α (n + 1)) (i : Nat) (f : α → α) (h : i < n + 1) : vget (vmod v i f) i = f (vget v i) := by
  simp [vmod, h]

theorem vget_vmod_other {α : Type} {n : Nat} (v : Vector α (n + 1)) (i j : Nat) (f : α → α) (h : j ≠ i) (hj : j < n + 1) : vget (vmod v i f) j = vget v j :=
  vget_vset_other v i j _ h hj

/-! ### Register words -/

theorem wordGet_filter (l : List (Nat × Word)) (a b : Nat) (h : b ≠ a) : wordGet (l.filter (fun p => p.1 != a)) b = wordGet l b := by
  induction l with
  | nil => rfl
  | cons p t ih =>
    obtain ⟨c, w⟩ := p
    by_cases hc : c = a
    · subst hc; simp [wordGet, ih, h]
    · simp [wordGet, ih, hc]

theorem wordGet_none (l : List (Nat × Word)) (a : Nat) (h : ∀ p ∈ l, p.1 ≠ a) : wordGet l a = regReset a := by
  induction l with
  | nil => rfl
  | cons p t ih =>
    obtain ⟨c, w⟩ := p
    have h1 : a ≠ c := fun e => h (c, w) (by simp) e.symm
    simp [wordGet, h1, ih (fun q hq => h q (by simp [hq]))]

theorem wordGet_wordIns (l : List (Nat × Word)) (a b : Nat) (v : Word) (h : ∀ p ∈ l, p.1 ≠ a) :
    wordGet (wordIns a v l) b = if b = a then v else wordGet l b := by
  induction l with
  | nil => rfl
  | cons p t ih =>
    obtain ⟨c, w⟩ := p
    have h1 : c ≠ a := h (c, w) (by simp)
    simp only [wordIns]
    split
    · rfl
    · simp only [wordGet, ih (fun q hq => h q (by simp [hq]))]
      by_cases hb : b = c
      · subst hb; simp [h1]
      · simp [hb]

/-- A register word reads as it was last written, and every other word as before. -/
theorem wordGet_wordPut (l : List (Nat × Word)) (a b : Nat) (v : Word) : wordGet (wordPut l a v) b = if b = a then v else wordGet l b := by
  have hn : ∀ p ∈ l.filter (fun p => p.1 != a), p.1 ≠ a := by
    intro p hp; simpa using (List.mem_filter.mp hp).2
  unfold wordPut
  by_cases hv : v = regReset a
  · by_cases hb : b = a
    · subst hb; simp only [hv, if_true]; exact wordGet_none _ _ hn
    · simp only [hv, if_true, hb, if_false]; exact wordGet_filter l a b hb
  · simp only [hv, if_false]
    rw [wordGet_wordIns _ _ _ _ hn]
    by_cases hb : b = a
    · simp [hb]
    · simp only [hb, if_false]; exact wordGet_filter l a b hb

@[simp] theorem State.setAct_actW (s : State) (a b : Nat) (v : Word) : (s.setAct a v).actW b = if b = a then v else s.actW b := wordGet_wordPut _ _ _ _
@[simp] theorem State.setShd_shdW (s : State) (a b : Nat) (v : Word) : (s.setShd a v).shdW b = if b = a then v else s.shdW b := wordGet_wordPut _ _ _ _
@[simp] theorem State.setShd_actW (s : State) (a b : Nat) (v : Word) : (s.setShd a v).actW b = s.actW b := id rfl
@[simp] theorem State.setAct_shdW (s : State) (a b : Nat) (v : Word) : (s.setAct a v).shdW b = s.shdW b := id rfl

end Sys2Proof.Machine
end

