-- ==== Sys2Proof/Laws/Ops.lean ====
section
/-! SUPPORT. The frame of each shared operation: the fields that it leaves alone. -/

namespace Sys2Proof.Machine

@[simp] theorem State.setPend_pending (s : State) (code inst : Nat) : (s.setPend code inst).pending = s.pending := by
  unfold State.setPend; split <;> simp
@[simp] theorem State.setPend_clk (s : State) (code inst : Nat) : (s.setPend code inst).clk = s.clk := by
  unfold State.setPend; split <;> simp
@[simp] theorem State.setPend_mode (s : State) (code inst : Nat) : (s.setPend code inst).mode = s.mode := by
  unfold State.setPend; split <;> simp
@[simp] theorem State.setPend_pow (s : State) (code inst : Nat) : (s.setPend code inst).pow = s.pow := by
  unfold State.setPend; split <;> simp
@[simp] theorem State.setPend_rtc (s : State) (code inst : Nat) : (s.setPend code inst).rtc = s.rtc := by
  unfold State.setPend; split <;> simp
@[simp] theorem State.setPend_ports (s : State) (code inst : Nat) : (s.setPend code inst).ports = s.ports := by
  unfold State.setPend; split <;> simp
@[simp] theorem State.setPend_store (s : State) (code inst : Nat) : (s.setPend code inst).store = s.store := by
  unfold State.setPend; split <;> simp
@[simp] theorem State.setPend_bun (s : State) (code inst : Nat) : (s.setPend code inst).bun = s.bun := by
  unfold State.setPend; split <;> simp
@[simp] theorem State.setPend_mask (s : State) (code inst : Nat) : (s.setPend code inst).mask = s.mask := by
  unfold State.setPend; split <;> simp
@[simp] theorem State.setPend_tok (s : State) (code inst : Nat) : (s.setPend code inst).tok = s.tok := by
  unfold State.setPend; split <;> simp
@[simp] theorem State.setPend_scan (s : State) (code inst : Nat) : (s.setPend code inst).scan = s.scan := by
  unfold State.setPend; split <;> simp
@[simp] theorem State.setPend_fly (s : State) (code inst : Nat) : (s.setPend code inst).fly = s.fly := by
  unfold State.setPend; split <;> simp
@[simp] theorem State.setPend_eng (s : State) (code inst : Nat) : (s.setPend code inst).eng = s.eng := by
  unfold State.setPend; split <;> simp
@[simp] theorem State.setPend_hoist (s : State) (code inst : Nat) : (s.setPend code inst).hoist = s.hoist := by
  unfold State.setPend; split <;> simp
@[simp] theorem State.setPend_gdn (s : State) (code inst : Nat) : (s.setPend code inst).gdn = s.gdn := by
  unfold State.setPend; split <;> simp
@[simp] theorem State.setPend_ens (s : State) (code inst : Nat) : (s.setPend code inst).ens = s.ens := by
  unfold State.setPend; split <;> simp
@[simp] theorem State.setPend_flt (s : State) (code inst : Nat) : (s.setPend code inst).flt = s.flt := by
  unfold State.setPend; split <;> simp
@[simp] theorem State.setPend_evt (s : State) (code inst : Nat) : (s.setPend code inst).evt = s.evt := by
  unfold State.setPend; split <;> simp
@[simp] theorem State.setPend_thm (s : State) (code inst : Nat) : (s.setPend code inst).thm = s.thm := by
  unfold State.setPend; split <;> simp
@[simp] theorem State.setPend_fab (s : State) (code inst : Nat) : (s.setPend code inst).fab = s.fab := by
  unfold State.setPend; split <;> simp
@[simp] theorem State.setPend_cal (s : State) (code inst : Nat) : (s.setPend code inst).cal = s.cal := by
  unfold State.setPend; split <;> simp
@[simp] theorem State.setPend_chk (s : State) (code inst : Nat) : (s.setPend code inst).chk = s.chk := by
  unfold State.setPend; split <;> simp
@[simp] theorem State.setPend_dl (s : State) (code inst : Nat) : (s.setPend code inst).dl = s.dl := by
  unfold State.setPend; split <;> simp
@[simp] theorem State.setPend_jtag (s : State) (code inst : Nat) : (s.setPend code inst).jtag = s.jtag := by
  unfold State.setPend; split <;> simp
@[simp] theorem State.setPend_free (s : State) (code inst : Nat) : (s.setPend code inst).free = s.free := by
  unfold State.setPend; split <;> simp
@[simp] theorem State.setPend_port (s : State) (code inst : Nat) (q : Port) : (s.setPend code inst).port q = s.port q := by
  simp only [State.port, State.setPend_ports]
@[simp] theorem State.setPend_surf (s : State) (code inst : Nat) (k : Nat) : (s.setPend code inst).surf k = s.surf k := by
  simp only [State.surf, State.setPend_store]
@[simp] theorem State.setPend_activeOf (s : State) (code inst : Nat) (k : Nat) : (s.setPend code inst).activeOf k = s.activeOf k := by
  simp only [State.activeOf, State.setPend_flt]
@[simp] theorem State.enqueue_pending (s : State) (e : Entry) : (s.enqueue e).pending = s.pending := by
  first | exact id rfl | (simp only [State.enqueue]; (repeat' split) <;> first | exact id rfl | simp)
@[simp] theorem State.enqueue_clk (s : State) (e : Entry) : (s.enqueue e).clk = s.clk := by
  first | exact id rfl | (simp only [State.enqueue]; (repeat' split) <;> first | exact id rfl | simp)
@[simp] theorem State.enqueue_mode (s : State) (e : Entry) : (s.enqueue e).mode = s.mode := by
  first | exact id rfl | (simp only [State.enqueue]; (repeat' split) <;> first | exact id rfl | simp)
@[simp] theorem State.enqueue_pow (s : State) (e : Entry) : (s.enqueue e).pow = s.pow := by
  first | exact id rfl | (simp only [State.enqueue]; (repeat' split) <;> first | exact id rfl | simp)
@[simp] theorem State.enqueue_rtc (s : State) (e : Entry) : (s.enqueue e).rtc = s.rtc := by
  first | exact id rfl | (simp only [State.enqueue]; (repeat' split) <;> first | exact id rfl | simp)
@[simp] theorem State.enqueue_ports (s : State) (e : Entry) : (s.enqueue e).ports = s.ports := by
  first | exact id rfl | (simp only [State.enqueue]; (repeat' split) <;> first | exact id rfl | simp)
@[simp] theorem State.enqueue_regs (s : State) (e : Entry) : (s.enqueue e).regs = s.regs := by
  first | exact id rfl | (simp only [State.enqueue]; (repeat' split) <;> first | exact id rfl | simp)
@[simp] theorem State.enqueue_store (s : State) (e : Entry) : (s.enqueue e).store = s.store := by
  first | exact id rfl | (simp only [State.enqueue]; (repeat' split) <;> first | exact id rfl | simp)
@[simp] theorem State.enqueue_bun (s : State) (e : Entry) : (s.enqueue e).bun = s.bun := by
  first | exact id rfl | (simp only [State.enqueue]; (repeat' split) <;> first | exact id rfl | simp)
@[simp] theorem State.enqueue_mask (s : State) (e : Entry) : (s.enqueue e).mask = s.mask := by
  first | exact id rfl | (simp only [State.enqueue]; (repeat' split) <;> first | exact id rfl | simp)
@[simp] theorem State.enqueue_tok (s : State) (e : Entry) : (s.enqueue e).tok = s.tok := by
  first | exact id rfl | (simp only [State.enqueue]; (repeat' split) <;> first | exact id rfl | simp)
@[simp] theorem State.enqueue_scan (s : State) (e : Entry) : (s.enqueue e).scan = s.scan := by
  first | exact id rfl | (simp only [State.enqueue]; (repeat' split) <;> first | exact id rfl | simp)
@[simp] theorem State.enqueue_fly (s : State) (e : Entry) : (s.enqueue e).fly = s.fly := by
  first | exact id rfl | (simp only [State.enqueue]; (repeat' split) <;> first | exact id rfl | simp)
@[simp] theorem State.enqueue_eng (s : State) (e : Entry) : (s.enqueue e).eng = s.eng := by
  first | exact id rfl | (simp only [State.enqueue]; (repeat' split) <;> first | exact id rfl | simp)
@[simp] theorem State.enqueue_hoist (s : State) (e : Entry) : (s.enqueue e).hoist = s.hoist := by
  first | exact id rfl | (simp only [State.enqueue]; (repeat' split) <;> first | exact id rfl | simp)
@[simp] theorem State.enqueue_gdn (s : State) (e : Entry) : (s.enqueue e).gdn = s.gdn := by
  first | exact id rfl | (simp only [State.enqueue]; (repeat' split) <;> first | exact id rfl | simp)
@[simp] theorem State.enqueue_ens (s : State) (e : Entry) : (s.enqueue e).ens = s.ens := by
  first | exact id rfl | (simp only [State.enqueue]; (repeat' split) <;> first | exact id rfl | simp)
@[simp] theorem State.enqueue_flt (s : State) (e : Entry) : (s.enqueue e).flt = s.flt := by
  first | exact id rfl | (simp only [State.enqueue]; (repeat' split) <;> first | exact id rfl | simp)
@[simp] theorem State.enqueue_thm (s : State) (e : Entry) : (s.enqueue e).thm = s.thm := by
  first | exact id rfl | (simp only [State.enqueue]; (repeat' split) <;> first | exact id rfl | simp)
@[simp] theorem State.enqueue_fab (s : State) (e : Entry) : (s.enqueue e).fab = s.fab := by
  first | exact id rfl | (simp only [State.enqueue]; (repeat' split) <;> first | exact id rfl | simp)
@[simp] theorem State.enqueue_cal (s : State) (e : Entry) : (s.enqueue e).cal = s.cal := by
  first | exact id rfl | (simp only [State.enqueue]; (repeat' split) <;> first | exact id rfl | simp)
@[simp] theorem State.enqueue_chk (s : State) (e : Entry) : (s.enqueue e).chk = s.chk := by
  first | exact id rfl | (simp only [State.enqueue]; (repeat' split) <;> first | exact id rfl | simp)
@[simp] theorem State.enqueue_dl (s : State) (e : Entry) : (s.enqueue e).dl = s.dl := by
  first | exact id rfl | (simp only [State.enqueue]; (repeat' split) <;> first | exact id rfl | simp)
@[simp] theorem State.enqueue_jtag (s : State) (e : Entry) : (s.enqueue e).jtag = s.jtag := by
  first | exact id rfl | (simp only [State.enqueue]; (repeat' split) <;> first | exact id rfl | simp)
@[simp] theorem State.enqueue_free (s : State) (e : Entry) : (s.enqueue e).free = s.free := by
  first | exact id rfl | (simp only [State.enqueue]; (repeat' split) <;> first | exact id rfl | simp)
@[simp] theorem State.enqueue_actW (s : State) (e : Entry) (a : Nat) : (s.enqueue e).actW a = s.actW a := by
  simp only [State.actW, State.enqueue_regs]
@[simp] theorem State.enqueue_act (s : State) (e : Entry) (a : Nat) : (s.enqueue e).act a = s.act a := by
  simp only [State.act, State.actW, State.enqueue_regs]
@[simp] theorem State.enqueue_flag (s : State) (e : Entry) (a i : Nat) : (s.enqueue e).flag a i = s.flag a i := by
  simp only [State.flag, State.act, State.actW, State.enqueue_regs]
@[simp] theorem State.enqueue_fld (s : State) (e : Entry) (a hi lo : Nat) : (s.enqueue e).fld a hi lo = s.fld a hi lo := by
  simp only [State.fld, State.act, State.actW, State.enqueue_regs]
@[simp] theorem State.enqueue_port (s : State) (e : Entry) (q : Port) : (s.enqueue e).port q = s.port q := by
  simp only [State.port, State.enqueue_ports]
@[simp] theorem State.enqueue_surf (s : State) (e : Entry) (k : Nat) : (s.enqueue e).surf k = s.surf k := by
  simp only [State.surf, State.enqueue_store]
@[simp] theorem State.enqueue_activeOf (s : State) (e : Entry) (k : Nat) : (s.enqueue e).activeOf k = s.activeOf k := by
  simp only [State.activeOf, State.enqueue_flt]
@[simp] theorem State.startTimer_pending (s : State) (cls : Nat) : (s.startTimer cls).pending = s.pending := by
  first | exact id rfl | (simp only [State.startTimer]; (repeat' split) <;> first | exact id rfl | simp)
@[simp] theorem State.startTimer_clk (s : State) (cls : Nat) : (s.startTimer cls).clk = s.clk := by
  first | exact id rfl | (simp only [State.startTimer]; (repeat' split) <;> first | exact id rfl | simp)
@[simp] theorem State.startTimer_mode (s : State) (cls : Nat) : (s.startTimer cls).mode = s.mode := by
  first | exact id rfl | (simp only [State.startTimer]; (repeat' split) <;> first | exact id rfl | simp)
@[simp] theorem State.startTimer_pow (s : State) (cls : Nat) : (s.startTimer cls).pow = s.pow := by
  first | exact id rfl | (simp only [State.startTimer]; (repeat' split) <;> first | exact id rfl | simp)
@[simp] theorem State.startTimer_rtc (s : State) (cls : Nat) : (s.startTimer cls).rtc = s.rtc := by
  first | exact id rfl | (simp only [State.startTimer]; (repeat' split) <;> first | exact id rfl | simp)
@[simp] theorem State.startTimer_ports (s : State) (cls : Nat) : (s.startTimer cls).ports = s.ports := by
  first | exact id rfl | (simp only [State.startTimer]; (repeat' split) <;> first | exact id rfl | simp)
@[simp] theorem State.startTimer_regs (s : State) (cls : Nat) : (s.startTimer cls).regs = s.regs := by
  first | exact id rfl | (simp only [State.startTimer]; (repeat' split) <;> first | exact id rfl | simp)
@[simp] theorem State.startTimer_store (s : State) (cls : Nat) : (s.startTimer cls).store = s.store := by
  first | exact id rfl | (simp only [State.startTimer]; (repeat' split) <;> first | exact id rfl | simp)
@[simp] theorem State.startTimer_bun (s : State) (cls : Nat) : (s.startTimer cls).bun = s.bun := by
  first | exact id rfl | (simp only [State.startTimer]; (repeat' split) <;> first | exact id rfl | simp)
@[simp] theorem State.startTimer_mask (s : State) (cls : Nat) : (s.startTimer cls).mask = s.mask := by
  first | exact id rfl | (simp only [State.startTimer]; (repeat' split) <;> first | exact id rfl | simp)
@[simp] theorem State.startTimer_tok (s : State) (cls : Nat) : (s.startTimer cls).tok = s.tok := by
  first | exact id rfl | (simp only [State.startTimer]; (repeat' split) <;> first | exact id rfl | simp)
@[simp] theorem State.startTimer_scan (s : State) (cls : Nat) : (s.startTimer cls).scan = s.scan := by
  first | exact id rfl | (simp only [State.startTimer]; (repeat' split) <;> first | exact id rfl | simp)
@[simp] theorem State.startTimer_fly (s : State) (cls : Nat) : (s.startTimer cls).fly = s.fly := by
  first | exact id rfl | (simp only [State.startTimer]; (repeat' split) <;> first | exact id rfl | simp)
@[simp] theorem State.startTimer_eng (s : State) (cls : Nat) : (s.startTimer cls).eng = s.eng := by
  first | exact id rfl | (simp only [State.startTimer]; (repeat' split) <;> first | exact id rfl | simp)
@[simp] theorem State.startTimer_hoist (s : State) (cls : Nat) : (s.startTimer cls).hoist = s.hoist := by
  first | exact id rfl | (simp only [State.startTimer]; (repeat' split) <;> first | exact id rfl | simp)
@[simp] theorem State.startTimer_gdn (s : State) (cls : Nat) : (s.startTimer cls).gdn = s.gdn := by
  first | exact id rfl | (simp only [State.startTimer]; (repeat' split) <;> first | exact id rfl | simp)
@[simp] theorem State.startTimer_ens (s : State) (cls : Nat) : (s.startTimer cls).ens = s.ens := by
  first | exact id rfl | (simp only [State.startTimer]; (repeat' split) <;> first | exact id rfl | simp)
@[simp] theorem State.startTimer_evt (s : State) (cls : Nat) : (s.startTimer cls).evt = s.evt := by
  first | exact id rfl | (simp only [State.startTimer]; (repeat' split) <;> first | exact id rfl | simp)
@[simp] theorem State.startTimer_thm (s : State) (cls : Nat) : (s.startTimer cls).thm = s.thm := by
  first | exact id rfl | (simp only [State.startTimer]; (repeat' split) <;> first | exact id rfl | simp)
@[simp] theorem State.startTimer_fab (s : State) (cls : Nat) : (s.startTimer cls).fab = s.fab := by
  first | exact id rfl | (simp only [State.startTimer]; (repeat' split) <;> first | exact id rfl | simp)
@[simp] theorem State.startTimer_cal (s : State) (cls : Nat) : (s.startTimer cls).cal = s.cal := by
  first | exact id rfl | (simp only [State.startTimer]; (repeat' split) <;> first | exact id rfl | simp)
@[simp] theorem State.startTimer_chk (s : State) (cls : Nat) : (s.startTimer cls).chk = s.chk := by
  first | exact id rfl | (simp only [State.startTimer]; (repeat' split) <;> first | exact id rfl | simp)
@[simp] theorem State.startTimer_dl (s : State) (cls : Nat) : (s.startTimer cls).dl = s.dl := by
  first | exact id rfl | (simp only [State.startTimer]; (repeat' split) <;> first | exact id rfl | simp)
@[simp] theorem State.startTimer_jtag (s : State) (cls : Nat) : (s.startTimer cls).jtag = s.jtag := by
  first | exact id rfl | (simp only [State.startTimer]; (repeat' split) <;> first | exact id rfl | simp)
@[simp] theorem State.startTimer_free (s : State) (cls : Nat) : (s.startTimer cls).free = s.free := by
  first | exact id rfl | (simp only [State.startTimer]; (repeat' split) <;> first | exact id rfl | simp)
@[simp] theorem State.startTimer_actW (s : State) (cls : Nat) (a : Nat) : (s.startTimer cls).actW a = s.actW a := by
  simp only [State.actW, State.startTimer_regs]
@[simp] theorem State.startTimer_act (s : State) (cls : Nat) (a : Nat) : (s.startTimer cls).act a = s.act a := by
  simp only [State.act, State.actW, State.startTimer_regs]
@[simp] theorem State.startTimer_flag (s : State) (cls : Nat) (a i : Nat) : (s.startTimer cls).flag a i = s.flag a i := by
  simp only [State.flag, State.act, State.actW, State.startTimer_regs]
@[simp] theorem State.startTimer_fld (s : State) (cls : Nat) (a hi lo : Nat) : (s.startTimer cls).fld a hi lo = s.fld a hi lo := by
  simp only [State.fld, State.act, State.actW, State.startTimer_regs]
@[simp] theorem State.startTimer_port (s : State) (cls : Nat) (q : Port) : (s.startTimer cls).port q = s.port q := by
  simp only [State.port, State.startTimer_ports]
@[simp] theorem State.startTimer_surf (s : State) (cls : Nat) (k : Nat) : (s.startTimer cls).surf k = s.surf k := by
  simp only [State.surf, State.startTimer_store]
@[simp] theorem State.startEnsTimer_pending (s : State) (cls : Nat) : (s.startEnsTimer cls).pending = s.pending := by
  first | exact id rfl | (simp only [State.startEnsTimer]; (repeat' split) <;> first | exact id rfl | simp)
@[simp] theorem State.startEnsTimer_clk (s : State) (cls : Nat) : (s.startEnsTimer cls).clk = s.clk := by
  first | exact id rfl | (simp only [State.startEnsTimer]; (repeat' split) <;> first | exact id rfl | simp)
@[simp] theorem State.startEnsTimer_mode (s : State) (cls : Nat) : (s.startEnsTimer cls).mode = s.mode := by
  first | exact id rfl | (simp only [State.startEnsTimer]; (repeat' split) <;> first | exact id rfl | simp)
@[simp] theorem State.startEnsTimer_pow (s : State) (cls : Nat) : (s.startEnsTimer cls).pow = s.pow := by
  first | exact id rfl | (simp only [State.startEnsTimer]; (repeat' split) <;> first | exact id rfl | simp)
@[simp] theorem State.startEnsTimer_rtc (s : State) (cls : Nat) : (s.startEnsTimer cls).rtc = s.rtc := by
  first | exact id rfl | (simp only [State.startEnsTimer]; (repeat' split) <;> first | exact id rfl | simp)
@[simp] theorem State.startEnsTimer_ports (s : State) (cls : Nat) : (s.startEnsTimer cls).ports = s.ports := by
  first | exact id rfl | (simp only [State.startEnsTimer]; (repeat' split) <;> first | exact id rfl | simp)
@[simp] theorem State.startEnsTimer_regs (s : State) (cls : Nat) : (s.startEnsTimer cls).regs = s.regs := by
  first | exact id rfl | (simp only [State.startEnsTimer]; (repeat' split) <;> first | exact id rfl | simp)
@[simp] theorem State.startEnsTimer_store (s : State) (cls : Nat) : (s.startEnsTimer cls).store = s.store := by
  first | exact id rfl | (simp only [State.startEnsTimer]; (repeat' split) <;> first | exact id rfl | simp)
@[simp] theorem State.startEnsTimer_bun (s : State) (cls : Nat) : (s.startEnsTimer cls).bun = s.bun := by
  first | exact id rfl | (simp only [State.startEnsTimer]; (repeat' split) <;> first | exact id rfl | simp)
@[simp] theorem State.startEnsTimer_mask (s : State) (cls : Nat) : (s.startEnsTimer cls).mask = s.mask := by
  first | exact id rfl | (simp only [State.startEnsTimer]; (repeat' split) <;> first | exact id rfl | simp)
@[simp] theorem State.startEnsTimer_tok (s : State) (cls : Nat) : (s.startEnsTimer cls).tok = s.tok := by
  first | exact id rfl | (simp only [State.startEnsTimer]; (repeat' split) <;> first | exact id rfl | simp)
@[simp] theorem State.startEnsTimer_scan (s : State) (cls : Nat) : (s.startEnsTimer cls).scan = s.scan := by
  first | exact id rfl | (simp only [State.startEnsTimer]; (repeat' split) <;> first | exact id rfl | simp)
@[simp] theorem State.startEnsTimer_fly (s : State) (cls : Nat) : (s.startEnsTimer cls).fly = s.fly := by
  first | exact id rfl | (simp only [State.startEnsTimer]; (repeat' split) <;> first | exact id rfl | simp)
@[simp] theorem State.startEnsTimer_eng (s : State) (cls : Nat) : (s.startEnsTimer cls).eng = s.eng := by
  first | exact id rfl | (simp only [State.startEnsTimer]; (repeat' split) <;> first | exact id rfl | simp)
@[simp] theorem State.startEnsTimer_hoist (s : State) (cls : Nat) : (s.startEnsTimer cls).hoist = s.hoist := by
  first | exact id rfl | (simp only [State.startEnsTimer]; (repeat' split) <;> first | exact id rfl | simp)
@[simp] theorem State.startEnsTimer_gdn (s : State) (cls : Nat) : (s.startEnsTimer cls).gdn = s.gdn := by
  first | exact id rfl | (simp only [State.startEnsTimer]; (repeat' split) <;> first | exact id rfl | simp)
@[simp] theorem State.startEnsTimer_ens (s : State) (cls : Nat) : (s.startEnsTimer cls).ens = s.ens := by
  first | exact id rfl | (simp only [State.startEnsTimer]; (repeat' split) <;> first | exact id rfl | simp)
@[simp] theorem State.startEnsTimer_evt (s : State) (cls : Nat) : (s.startEnsTimer cls).evt = s.evt := by
  first | exact id rfl | (simp only [State.startEnsTimer]; (repeat' split) <;> first | exact id rfl | simp)
@[simp] theorem State.startEnsTimer_thm (s : State) (cls : Nat) : (s.startEnsTimer cls).thm = s.thm := by
  first | exact id rfl | (simp only [State.startEnsTimer]; (repeat' split) <;> first | exact id rfl | simp)
@[simp] theorem State.startEnsTimer_fab (s : State) (cls : Nat) : (s.startEnsTimer cls).fab = s.fab := by
  first | exact id rfl | (simp only [State.startEnsTimer]; (repeat' split) <;> first | exact id rfl | simp)
@[simp] theorem State.startEnsTimer_cal (s : State) (cls : Nat) : (s.startEnsTimer cls).cal = s.cal := by
  first | exact id rfl | (simp only [State.startEnsTimer]; (repeat' split) <;> first | exact id rfl | simp)
@[simp] theorem State.startEnsTimer_chk (s : State) (cls : Nat) : (s.startEnsTimer cls).chk = s.chk := by
  first | exact id rfl | (simp only [State.startEnsTimer]; (repeat' split) <;> first | exact id rfl | simp)
@[simp] theorem State.startEnsTimer_dl (s : State) (cls : Nat) : (s.startEnsTimer cls).dl = s.dl := by
  first | exact id rfl | (simp only [State.startEnsTimer]; (repeat' split) <;> first | exact id rfl | simp)
@[simp] theorem State.startEnsTimer_jtag (s : State) (cls : Nat) : (s.startEnsTimer cls).jtag = s.jtag := by
  first | exact id rfl | (simp only [State.startEnsTimer]; (repeat' split) <;> first | exact id rfl | simp)
@[simp] theorem State.startEnsTimer_free (s : State) (cls : Nat) : (s.startEnsTimer cls).free = s.free := by
  first | exact id rfl | (simp only [State.startEnsTimer]; (repeat' split) <;> first | exact id rfl | simp)
@[simp] theorem State.startEnsTimer_actW (s : State) (cls : Nat) (a : Nat) : (s.startEnsTimer cls).actW a = s.actW a := by
  simp only [State.actW, State.startEnsTimer_regs]
@[simp] theorem State.startEnsTimer_act (s : State) (cls : Nat) (a : Nat) : (s.startEnsTimer cls).act a = s.act a := by
  simp only [State.act, State.actW, State.startEnsTimer_regs]
@[simp] theorem State.startEnsTimer_flag (s : State) (cls : Nat) (a i : Nat) : (s.startEnsTimer cls).flag a i = s.flag a i := by
  simp only [State.flag, State.act, State.actW, State.startEnsTimer_regs]
@[simp] theorem State.startEnsTimer_fld (s : State) (cls : Nat) (a hi lo : Nat) : (s.startEnsTimer cls).fld a hi lo = s.fld a hi lo := by
  simp only [State.fld, State.act, State.actW, State.startEnsTimer_regs]
@[simp] theorem State.startEnsTimer_port (s : State) (cls : Nat) (q : Port) : (s.startEnsTimer cls).port q = s.port q := by
  simp only [State.port, State.startEnsTimer_ports]
@[simp] theorem State.startEnsTimer_surf (s : State) (cls : Nat) (k : Nat) : (s.startEnsTimer cls).surf k = s.surf k := by
  simp only [State.surf, State.startEnsTimer_store]
@[simp] theorem State.latchFault_pending (s : State) (code cls inst : Nat) : (s.latchFault code cls inst).pending = s.pending := by
  first | exact id rfl | (simp only [State.latchFault]; (repeat' split) <;> first | exact id rfl | simp)
@[simp] theorem State.latchFault_clk (s : State) (code cls inst : Nat) : (s.latchFault code cls inst).clk = s.clk := by
  first | exact id rfl | (simp only [State.latchFault]; (repeat' split) <;> first | exact id rfl | simp)
@[simp] theorem State.latchFault_mode (s : State) (code cls inst : Nat) : (s.latchFault code cls inst).mode = s.mode := by
  first | exact id rfl | (simp only [State.latchFault]; (repeat' split) <;> first | exact id rfl | simp)
@[simp] theorem State.latchFault_pow (s : State) (code cls inst : Nat) : (s.latchFault code cls inst).pow = s.pow := by
  first | exact id rfl | (simp only [State.latchFault]; (repeat' split) <;> first | exact id rfl | simp)
@[simp] theorem State.latchFault_rtc (s : State) (code cls inst : Nat) : (s.latchFault code cls inst).rtc = s.rtc := by
  first | exact id rfl | (simp only [State.latchFault]; (repeat' split) <;> first | exact id rfl | simp)
@[simp] theorem State.latchFault_ports (s : State) (code cls inst : Nat) : (s.latchFault code cls inst).ports = s.ports := by
  first | exact id rfl | (simp only [State.latchFault]; (repeat' split) <;> first | exact id rfl | simp)
@[simp] theorem State.latchFault_regs (s : State) (code cls inst : Nat) : (s.latchFault code cls inst).regs = s.regs := by
  first | exact id rfl | (simp only [State.latchFault]; (repeat' split) <;> first | exact id rfl | simp)
@[simp] theorem State.latchFault_store (s : State) (code cls inst : Nat) : (s.latchFault code cls inst).store = s.store := by
  first | exact id rfl | (simp only [State.latchFault]; (repeat' split) <;> first | exact id rfl | simp)
@[simp] theorem State.latchFault_bun (s : State) (code cls inst : Nat) : (s.latchFault code cls inst).bun = s.bun := by
  first | exact id rfl | (simp only [State.latchFault]; (repeat' split) <;> first | exact id rfl | simp)
@[simp] theorem State.latchFault_mask (s : State) (code cls inst : Nat) : (s.latchFault code cls inst).mask = s.mask := by
  first | exact id rfl | (simp only [State.latchFault]; (repeat' split) <;> first | exact id rfl | simp)
@[simp] theorem State.latchFault_tok (s : State) (code cls inst : Nat) : (s.latchFault code cls inst).tok = s.tok := by
  first | exact id rfl | (simp only [State.latchFault]; (repeat' split) <;> first | exact id rfl | simp)
@[simp] theorem State.latchFault_scan (s : State) (code cls inst : Nat) : (s.latchFault code cls inst).scan = s.scan := by
  first | exact id rfl | (simp only [State.latchFault]; (repeat' split) <;> first | exact id rfl | simp)
@[simp] theorem State.latchFault_fly (s : State) (code cls inst : Nat) : (s.latchFault code cls inst).fly = s.fly := by
  first | exact id rfl | (simp only [State.latchFault]; (repeat' split) <;> first | exact id rfl | simp)
@[simp] theorem State.latchFault_eng (s : State) (code cls inst : Nat) : (s.latchFault code cls inst).eng = s.eng := by
  first | exact id rfl | (simp only [State.latchFault]; (repeat' split) <;> first | exact id rfl | simp)
@[simp] theorem State.latchFault_hoist (s : State) (code cls inst : Nat) : (s.latchFault code cls inst).hoist = s.hoist := by
  first | exact id rfl | (simp only [State.latchFault]; (repeat' split) <;> first | exact id rfl | simp)
@[simp] theorem State.latchFault_gdn (s : State) (code cls inst : Nat) : (s.latchFault code cls inst).gdn = s.gdn := by
  first | exact id rfl | (simp only [State.latchFault]; (repeat' split) <;> first | exact id rfl | simp)
@[simp] theorem State.latchFault_ens (s : State) (code cls inst : Nat) : (s.latchFault code cls inst).ens = s.ens := by
  first | exact id rfl | (simp only [State.latchFault]; (repeat' split) <;> first | exact id rfl | simp)
@[simp] theorem State.latchFault_evt (s : State) (code cls inst : Nat) : (s.latchFault code cls inst).evt = s.evt := by
  first | exact id rfl | (simp only [State.latchFault]; (repeat' split) <;> first | exact id rfl | simp)
@[simp] theorem State.latchFault_thm (s : State) (code cls inst : Nat) : (s.latchFault code cls inst).thm = s.thm := by
  first | exact id rfl | (simp only [State.latchFault]; (repeat' split) <;> first | exact id rfl | simp)
@[simp] theorem State.latchFault_fab (s : State) (code cls inst : Nat) : (s.latchFault code cls inst).fab = s.fab := by
  first | exact id rfl | (simp only [State.latchFault]; (repeat' split) <;> first | exact id rfl | simp)
@[simp] theorem State.latchFault_cal (s : State) (code cls inst : Nat) : (s.latchFault code cls inst).cal = s.cal := by
  first | exact id rfl | (simp only [State.latchFault]; (repeat' split) <;> first | exact id rfl | simp)
@[simp] theorem State.latchFault_chk (s : State) (code cls inst : Nat) : (s.latchFault code cls inst).chk = s.chk := by
  first | exact id rfl | (simp only [State.latchFault]; (repeat' split) <;> first | exact id rfl | simp)
@[simp] theorem State.latchFault_dl (s : State) (code cls inst : Nat) : (s.latchFault code cls inst).dl = s.dl := by
  first | exact id rfl | (simp only [State.latchFault]; (repeat' split) <;> first | exact id rfl | simp)
@[simp] theorem State.latchFault_jtag (s : State) (code cls inst : Nat) : (s.latchFault code cls inst).jtag = s.jtag := by
  first | exact id rfl | (simp only [State.latchFault]; (repeat' split) <;> first | exact id rfl | simp)
@[simp] theorem State.latchFault_free (s : State) (code cls inst : Nat) : (s.latchFault code cls inst).free = s.free := by
  first | exact id rfl | (simp only [State.latchFault]; (repeat' split) <;> first | exact id rfl | simp)
@[simp] theorem State.latchFault_actW (s : State) (code cls inst : Nat) (a : Nat) : (s.latchFault code cls inst).actW a = s.actW a := by
  simp only [State.actW, State.latchFault_regs]
@[simp] theorem State.latchFault_act (s : State) (code cls inst : Nat) (a : Nat) : (s.latchFault code cls inst).act a = s.act a := by
  simp only [State.act, State.actW, State.latchFault_regs]
@[simp] theorem State.latchFault_flag (s : State) (code cls inst : Nat) (a i : Nat) : (s.latchFault code cls inst).flag a i = s.flag a i := by
  simp only [State.flag, State.act, State.actW, State.latchFault_regs]
@[simp] theorem State.latchFault_fld (s : State) (code cls inst : Nat) (a hi lo : Nat) : (s.latchFault code cls inst).fld a hi lo = s.fld a hi lo := by
  simp only [State.fld, State.act, State.actW, State.latchFault_regs]
@[simp] theorem State.latchFault_port (s : State) (code cls inst : Nat) (q : Port) : (s.latchFault code cls inst).port q = s.port q := by
  simp only [State.port, State.latchFault_ports]
@[simp] theorem State.latchFault_surf (s : State) (code cls inst : Nat) (k : Nat) : (s.latchFault code cls inst).surf k = s.surf k := by
  simp only [State.surf, State.latchFault_store]
@[simp] theorem State.present_pending (s : State) (code cls inst data : Nat) (seen : Bool) : (s.present code cls inst data seen).1.pending = s.pending := by
  first | exact id rfl | (simp only [State.present]; (repeat' split) <;> first | exact id rfl | simp)
@[simp] theorem State.present_clk (s : State) (code cls inst data : Nat) (seen : Bool) : (s.present code cls inst data seen).1.clk = s.clk := by
  first | exact id rfl | (simp only [State.present]; (repeat' split) <;> first | exact id rfl | simp)
@[simp] theorem State.present_mode (s : State) (code cls inst data : Nat) (seen : Bool) : (s.present code cls inst data seen).1.mode = s.mode := by
  first | exact id rfl | (simp only [State.present]; (repeat' split) <;> first | exact id rfl | simp)
@[simp] theorem State.present_pow (s : State) (code cls inst data : Nat) (seen : Bool) : (s.present code cls inst data seen).1.pow = s.pow := by
  first | exact id rfl | (simp only [State.present]; (repeat' split) <;> first | exact id rfl | simp)
@[simp] theorem State.present_rtc (s : State) (code cls inst data : Nat) (seen : Bool) : (s.present code cls inst data seen).1.rtc = s.rtc := by
  first | exact id rfl | (simp only [State.present]; (repeat' split) <;> first | exact id rfl | simp)
@[simp] theorem State.present_ports (s : State) (code cls inst data : Nat) (seen : Bool) : (s.present code cls inst data seen).1.ports = s.ports := by
  first | exact id rfl | (simp only [State.present]; (repeat' split) <;> first | exact id rfl | simp)
@[simp] theorem State.present_regs (s : State) (code cls inst data : Nat) (seen : Bool) : (s.present code cls inst data seen).1.regs = s.regs := by
  first | exact id rfl | (simp only [State.present]; (repeat' split) <;> first | exact id rfl | simp)
@[simp] theorem State.present_store (s : State) (code cls inst data : Nat) (seen : Bool) : (s.present code cls inst data seen).1.store = s.store := by
  first | exact id rfl | (simp only [State.present]; (repeat' split) <;> first | exact id rfl | simp)
@[simp] theorem State.present_bun (s : State) (code cls inst data : Nat) (seen : Bool) : (s.present code cls inst data seen).1.bun = s.bun := by
  first | exact id rfl | (simp only [State.present]; (repeat' split) <;> first | exact id rfl | simp)
@[simp] theorem State.present_mask (s : State) (code cls inst data : Nat) (seen : Bool) : (s.present code cls inst data seen).1.mask = s.mask := by
  first | exact id rfl | (simp only [State.present]; (repeat' split) <;> first | exact id rfl | simp)
@[simp] theorem State.present_tok (s : State) (code cls inst data : Nat) (seen : Bool) : (s.present code cls inst data seen).1.tok = s.tok := by
  first | exact id rfl | (simp only [State.present]; (repeat' split) <;> first | exact id rfl | simp)
@[simp] theorem State.present_scan (s : State) (code cls inst data : Nat) (seen : Bool) : (s.present code cls inst data seen).1.scan = s.scan := by
  first | exact id rfl | (simp only [State.present]; (repeat' split) <;> first | exact id rfl | simp)
@[simp] theorem State.present_fly (s : State) (code cls inst data : Nat) (seen : Bool) : (s.present code cls inst data seen).1.fly = s.fly := by
  first | exact id rfl | (simp only [State.present]; (repeat' split) <;> first | exact id rfl | simp)
@[simp] theorem State.present_eng (s : State) (code cls inst data : Nat) (seen : Bool) : (s.present code cls inst data seen).1.eng = s.eng := by
  first | exact id rfl | (simp only [State.present]; (repeat' split) <;> first | exact id rfl | simp)
@[simp] theorem State.present_hoist (s : State) (code cls inst data : Nat) (seen : Bool) : (s.present code cls inst data seen).1.hoist = s.hoist := by
  first | exact id rfl | (simp only [State.present]; (repeat' split) <;> first | exact id rfl | simp)
@[simp] theorem State.present_gdn (s : State) (code cls inst data : Nat) (seen : Bool) : (s.present code cls inst data seen).1.gdn = s.gdn := by
  first | exact id rfl | (simp only [State.present]; (repeat' split) <;> first | exact id rfl | simp)
@[simp] theorem State.present_ens (s : State) (code cls inst data : Nat) (seen : Bool) : (s.present code cls inst data seen).1.ens = s.ens := by
  first | exact id rfl | (simp only [State.present]; (repeat' split) <;> first | exact id rfl | simp)
@[simp] theorem State.present_evt (s : State) (code cls inst data : Nat) (seen : Bool) : (s.present code cls inst data seen).1.evt = s.evt := by
  first | exact id rfl | (simp only [State.present]; (repeat' split) <;> first | exact id rfl | simp)
@[simp] theorem State.present_thm (s : State) (code cls inst data : Nat) (seen : Bool) : (s.present code cls inst data seen).1.thm = s.thm := by
  first | exact id rfl | (simp only [State.present]; (repeat' split) <;> first | exact id rfl | simp)
@[simp] theorem State.present_fab (s : State) (code cls inst data : Nat) (seen : Bool) : (s.present code cls inst data seen).1.fab = s.fab := by
  first | exact id rfl | (simp only [State.present]; (repeat' split) <;> first | exact id rfl | simp)
@[simp] theorem State.present_cal (s : State) (code cls inst data : Nat) (seen : Bool) : (s.present code cls inst data seen).1.cal = s.cal := by
  first | exact id rfl | (simp only [State.present]; (repeat' split) <;> first | exact id rfl | simp)
@[simp] theorem State.present_chk (s : State) (code cls inst data : Nat) (seen : Bool) : (s.present code cls inst data seen).1.chk = s.chk := by
  first | exact id rfl | (simp only [State.present]; (repeat' split) <;> first | exact id rfl | simp)
@[simp] theorem State.present_dl (s : State) (code cls inst data : Nat) (seen : Bool) : (s.present code cls inst data seen).1.dl = s.dl := by
  first | exact id rfl | (simp only [State.present]; (repeat' split) <;> first | exact id rfl | simp)
@[simp] theorem State.present_jtag (s : State) (code cls inst data : Nat) (seen : Bool) : (s.present code cls inst data seen).1.jtag = s.jtag := by
  first | exact id rfl | (simp only [State.present]; (repeat' split) <;> first | exact id rfl | simp)
@[simp] theorem State.present_free (s : State) (code cls inst data : Nat) (seen : Bool) : (s.present code cls inst data seen).1.free = s.free := by
  first | exact id rfl | (simp only [State.present]; (repeat' split) <;> first | exact id rfl | simp)
@[simp] theorem State.present_actW (s : State) (code cls inst data : Nat) (seen : Bool) (a : Nat) : (s.present code cls inst data seen).1.actW a = s.actW a := by
  simp only [State.actW, State.present_regs]
@[simp] theorem State.present_act (s : State) (code cls inst data : Nat) (seen : Bool) (a : Nat) : (s.present code cls inst data seen).1.act a = s.act a := by
  simp only [State.act, State.actW, State.present_regs]
@[simp] theorem State.present_flag (s : State) (code cls inst data : Nat) (seen : Bool) (a i : Nat) : (s.present code cls inst data seen).1.flag a i = s.flag a i := by
  simp only [State.flag, State.act, State.actW, State.present_regs]
@[simp] theorem State.present_fld (s : State) (code cls inst data : Nat) (seen : Bool) (a hi lo : Nat) : (s.present code cls inst data seen).1.fld a hi lo = s.fld a hi lo := by
  simp only [State.fld, State.act, State.actW, State.present_regs]
@[simp] theorem State.present_port (s : State) (code cls inst data : Nat) (seen : Bool) (q : Port) : (s.present code cls inst data seen).1.port q = s.port q := by
  simp only [State.port, State.present_ports]
@[simp] theorem State.present_surf (s : State) (code cls inst data : Nat) (seen : Bool) (k : Nat) : (s.present code cls inst data seen).1.surf k = s.surf k := by
  simp only [State.surf, State.present_store]
@[simp] theorem State.countAct_pending (s : State) (cls : Nat) : (s.countAct cls).pending = s.pending := by
  first | exact id rfl | (simp only [State.countAct]; (repeat' split) <;> first | exact id rfl | simp)
@[simp] theorem State.countAct_clk (s : State) (cls : Nat) : (s.countAct cls).clk = s.clk := by
  first | exact id rfl | (simp only [State.countAct]; (repeat' split) <;> first | exact id rfl | simp)
@[simp] theorem State.countAct_mode (s : State) (cls : Nat) : (s.countAct cls).mode = s.mode := by
  first | exact id rfl | (simp only [State.countAct]; (repeat' split) <;> first | exact id rfl | simp)
@[simp] theorem State.countAct_pow (s : State) (cls : Nat) : (s.countAct cls).pow = s.pow := by
  first | exact id rfl | (simp only [State.countAct]; (repeat' split) <;> first | exact id rfl | simp)
@[simp] theorem State.countAct_rtc (s : State) (cls : Nat) : (s.countAct cls).rtc = s.rtc := by
  first | exact id rfl | (simp only [State.countAct]; (repeat' split) <;> first | exact id rfl | simp)
@[simp] theorem State.countAct_ports (s : State) (cls : Nat) : (s.countAct cls).ports = s.ports := by
  first | exact id rfl | (simp only [State.countAct]; (repeat' split) <;> first | exact id rfl | simp)
@[simp] theorem State.countAct_regs (s : State) (cls : Nat) : (s.countAct cls).regs = s.regs := by
  first | exact id rfl | (simp only [State.countAct]; (repeat' split) <;> first | exact id rfl | simp)
@[simp] theorem State.countAct_store (s : State) (cls : Nat) : (s.countAct cls).store = s.store := by
  first | exact id rfl | (simp only [State.countAct]; (repeat' split) <;> first | exact id rfl | simp)
@[simp] theorem State.countAct_bun (s : State) (cls : Nat) : (s.countAct cls).bun = s.bun := by
  first | exact id rfl | (simp only [State.countAct]; (repeat' split) <;> first | exact id rfl | simp)
@[simp] theorem State.countAct_mask (s : State) (cls : Nat) : (s.countAct cls).mask = s.mask := by
  first | exact id rfl | (simp only [State.countAct]; (repeat' split) <;> first | exact id rfl | simp)
@[simp] theorem State.countAct_tok (s : State) (cls : Nat) : (s.countAct cls).tok = s.tok := by
  first | exact id rfl | (simp only [State.countAct]; (repeat' split) <;> first | exact id rfl | simp)
@[simp] theorem State.countAct_scan (s : State) (cls : Nat) : (s.countAct cls).scan = s.scan := by
  first | exact id rfl | (simp only [State.countAct]; (repeat' split) <;> first | exact id rfl | simp)
@[simp] theorem State.countAct_fly (s : State) (cls : Nat) : (s.countAct cls).fly = s.fly := by
  first | exact id rfl | (simp only [State.countAct]; (repeat' split) <;> first | exact id rfl | simp)
@[simp] theorem State.countAct_eng (s : State) (cls : Nat) : (s.countAct cls).eng = s.eng := by
  first | exact id rfl | (simp only [State.countAct]; (repeat' split) <;> first | exact id rfl | simp)
@[simp] theorem State.countAct_hoist (s : State) (cls : Nat) : (s.countAct cls).hoist = s.hoist := by
  first | exact id rfl | (simp only [State.countAct]; (repeat' split) <;> first | exact id rfl | simp)
@[simp] theorem State.countAct_gdn (s : State) (cls : Nat) : (s.countAct cls).gdn = s.gdn := by
  first | exact id rfl | (simp only [State.countAct]; (repeat' split) <;> first | exact id rfl | simp)
@[simp] theorem State.countAct_ens (s : State) (cls : Nat) : (s.countAct cls).ens = s.ens := by
  first | exact id rfl | (simp only [State.countAct]; (repeat' split) <;> first | exact id rfl | simp)
@[simp] theorem State.countAct_evt (s : State) (cls : Nat) : (s.countAct cls).evt = s.evt := by
  first | exact id rfl | (simp only [State.countAct]; (repeat' split) <;> first | exact id rfl | simp)
@[simp] theorem State.countAct_thm (s : State) (cls : Nat) : (s.countAct cls).thm = s.thm := by
  first | exact id rfl | (simp only [State.countAct]; (repeat' split) <;> first | exact id rfl | simp)
@[simp] theorem State.countAct_fab (s : State) (cls : Nat) : (s.countAct cls).fab = s.fab := by
  first | exact id rfl | (simp only [State.countAct]; (repeat' split) <;> first | exact id rfl | simp)
@[simp] theorem State.countAct_cal (s : State) (cls : Nat) : (s.countAct cls).cal = s.cal := by
  first | exact id rfl | (simp only [State.countAct]; (repeat' split) <;> first | exact id rfl | simp)
@[simp] theorem State.countAct_chk (s : State) (cls : Nat) : (s.countAct cls).chk = s.chk := by
  first | exact id rfl | (simp only [State.countAct]; (repeat' split) <;> first | exact id rfl | simp)
@[simp] theorem State.countAct_dl (s : State) (cls : Nat) : (s.countAct cls).dl = s.dl := by
  first | exact id rfl | (simp only [State.countAct]; (repeat' split) <;> first | exact id rfl | simp)
@[simp] theorem State.countAct_jtag (s : State) (cls : Nat) : (s.countAct cls).jtag = s.jtag := by
  first | exact id rfl | (simp only [State.countAct]; (repeat' split) <;> first | exact id rfl | simp)
@[simp] theorem State.countAct_free (s : State) (cls : Nat) : (s.countAct cls).free = s.free := by
  first | exact id rfl | (simp only [State.countAct]; (repeat' split) <;> first | exact id rfl | simp)
@[simp] theorem State.countAct_actW (s : State) (cls : Nat) (a : Nat) : (s.countAct cls).actW a = s.actW a := by
  simp only [State.actW, State.countAct_regs]
@[simp] theorem State.countAct_act (s : State) (cls : Nat) (a : Nat) : (s.countAct cls).act a = s.act a := by
  simp only [State.act, State.actW, State.countAct_regs]
@[simp] theorem State.countAct_flag (s : State) (cls : Nat) (a i : Nat) : (s.countAct cls).flag a i = s.flag a i := by
  simp only [State.flag, State.act, State.actW, State.countAct_regs]
@[simp] theorem State.countAct_fld (s : State) (cls : Nat) (a hi lo : Nat) : (s.countAct cls).fld a hi lo = s.fld a hi lo := by
  simp only [State.fld, State.act, State.actW, State.countAct_regs]
@[simp] theorem State.countAct_port (s : State) (cls : Nat) (q : Port) : (s.countAct cls).port q = s.port q := by
  simp only [State.port, State.countAct_ports]
@[simp] theorem State.countAct_surf (s : State) (cls : Nat) (k : Nat) : (s.countAct cls).surf k = s.surf k := by
  simp only [State.surf, State.countAct_store]
@[simp] theorem State.raise0_pending (s : State) (code inst data : Nat) : (s.raise0 code inst data).pending = s.pending := by
  simp only [State.raise0]; (repeat' split) <;> simp
@[simp] theorem State.raise0_clk (s : State) (code inst data : Nat) : (s.raise0 code inst data).clk = s.clk := by
  simp only [State.raise0]; (repeat' split) <;> simp
@[simp] theorem State.raise0_mode (s : State) (code inst data : Nat) : (s.raise0 code inst data).mode = s.mode := by
  simp only [State.raise0]; (repeat' split) <;> simp
@[simp] theorem State.raise0_pow (s : State) (code inst data : Nat) : (s.raise0 code inst data).pow = s.pow := by
  simp only [State.raise0]; (repeat' split) <;> simp
@[simp] theorem State.raise0_rtc (s : State) (code inst data : Nat) : (s.raise0 code inst data).rtc = s.rtc := by
  simp only [State.raise0]; (repeat' split) <;> simp
@[simp] theorem State.raise0_ports (s : State) (code inst data : Nat) : (s.raise0 code inst data).ports = s.ports := by
  simp only [State.raise0]; (repeat' split) <;> simp
@[simp] theorem State.raise0_store (s : State) (code inst data : Nat) : (s.raise0 code inst data).store = s.store := by
  simp only [State.raise0]; (repeat' split) <;> simp
@[simp] theorem State.raise0_bun (s : State) (code inst data : Nat) : (s.raise0 code inst data).bun = s.bun := by
  simp only [State.raise0]; (repeat' split) <;> simp
@[simp] theorem State.raise0_mask (s : State) (code inst data : Nat) : (s.raise0 code inst data).mask = s.mask := by
  simp only [State.raise0]; (repeat' split) <;> simp
@[simp] theorem State.raise0_tok (s : State) (code inst data : Nat) : (s.raise0 code inst data).tok = s.tok := by
  simp only [State.raise0]; (repeat' split) <;> simp
@[simp] theorem State.raise0_scan (s : State) (code inst data : Nat) : (s.raise0 code inst data).scan = s.scan := by
  simp only [State.raise0]; (repeat' split) <;> simp
@[simp] theorem State.raise0_fly (s : State) (code inst data : Nat) : (s.raise0 code inst data).fly = s.fly := by
  simp only [State.raise0]; (repeat' split) <;> simp
@[simp] theorem State.raise0_eng (s : State) (code inst data : Nat) : (s.raise0 code inst data).eng = s.eng := by
  simp only [State.raise0]; (repeat' split) <;> simp
@[simp] theorem State.raise0_hoist (s : State) (code inst data : Nat) : (s.raise0 code inst data).hoist = s.hoist := by
  simp only [State.raise0]; (repeat' split) <;> simp
@[simp] theorem State.raise0_gdn (s : State) (code inst data : Nat) : (s.raise0 code inst data).gdn = s.gdn := by
  simp only [State.raise0]; (repeat' split) <;> simp
@[simp] theorem State.raise0_ens (s : State) (code inst data : Nat) : (s.raise0 code inst data).ens = s.ens := by
  simp only [State.raise0]; (repeat' split) <;> simp
@[simp] theorem State.raise0_thm (s : State) (code inst data : Nat) : (s.raise0 code inst data).thm = s.thm := by
  simp only [State.raise0]; (repeat' split) <;> simp
@[simp] theorem State.raise0_fab (s : State) (code inst data : Nat) : (s.raise0 code inst data).fab = s.fab := by
  simp only [State.raise0]; (repeat' split) <;> simp
@[simp] theorem State.raise0_cal (s : State) (code inst data : Nat) : (s.raise0 code inst data).cal = s.cal := by
  simp only [State.raise0]; (repeat' split) <;> simp
@[simp] theorem State.raise0_chk (s : State) (code inst data : Nat) : (s.raise0 code inst data).chk = s.chk := by
  simp only [State.raise0]; (repeat' split) <;> simp
@[simp] theorem State.raise0_dl (s : State) (code inst data : Nat) : (s.raise0 code inst data).dl = s.dl := by
  simp only [State.raise0]; (repeat' split) <;> simp
@[simp] theorem State.raise0_jtag (s : State) (code inst data : Nat) : (s.raise0 code inst data).jtag = s.jtag := by
  simp only [State.raise0]; (repeat' split) <;> simp
@[simp] theorem State.raise0_free (s : State) (code inst data : Nat) : (s.raise0 code inst data).free = s.free := by
  simp only [State.raise0]; (repeat' split) <;> simp
@[simp] theorem State.raise0_port (s : State) (code inst data : Nat) (q : Port) : (s.raise0 code inst data).port q = s.port q := by
  simp only [State.port, State.raise0_ports]
@[simp] theorem State.raise0_surf (s : State) (code inst data : Nat) (k : Nat) : (s.raise0 code inst data).surf k = s.surf k := by
  simp only [State.surf, State.raise0_store]
@[simp] theorem State.event_pending (s : State) (code : Nat) : (s.event code).pending = s.pending := by simp [State.event]
@[simp] theorem State.event_clk (s : State) (code : Nat) : (s.event code).clk = s.clk := by simp [State.event]
@[simp] theorem State.event_mode (s : State) (code : Nat) : (s.event code).mode = s.mode := by simp [State.event]
@[simp] theorem State.event_pow (s : State) (code : Nat) : (s.event code).pow = s.pow := by simp [State.event]
@[simp] theorem State.event_rtc (s : State) (code : Nat) : (s.event code).rtc = s.rtc := by simp [State.event]
@[simp] theorem State.event_ports (s : State) (code : Nat) : (s.event code).ports = s.ports := by simp [State.event]
@[simp] theorem State.event_store (s : State) (code : Nat) : (s.event code).store = s.store := by simp [State.event]
@[simp] theorem State.event_bun (s : State) (code : Nat) : (s.event code).bun = s.bun := by simp [State.event]
@[simp] theorem State.event_mask (s : State) (code : Nat) : (s.event code).mask = s.mask := by simp [State.event]
@[simp] theorem State.event_tok (s : State) (code : Nat) : (s.event code).tok = s.tok := by simp [State.event]
@[simp] theorem State.event_scan (s : State) (code : Nat) : (s.event code).scan = s.scan := by simp [State.event]
@[simp] theorem State.event_fly (s : State) (code : Nat) : (s.event code).fly = s.fly := by simp [State.event]
@[simp] theorem State.event_eng (s : State) (code : Nat) : (s.event code).eng = s.eng := by simp [State.event]
@[simp] theorem State.event_hoist (s : State) (code : Nat) : (s.event code).hoist = s.hoist := by simp [State.event]
@[simp] theorem State.event_gdn (s : State) (code : Nat) : (s.event code).gdn = s.gdn := by simp [State.event]
@[simp] theorem State.event_ens (s : State) (code : Nat) : (s.event code).ens = s.ens := by simp [State.event]
@[simp] theorem State.event_thm (s : State) (code : Nat) : (s.event code).thm = s.thm := by simp [State.event]
@[simp] theorem State.event_fab (s : State) (code : Nat) : (s.event code).fab = s.fab := by simp [State.event]
@[simp] theorem State.event_cal (s : State) (code : Nat) : (s.event code).cal = s.cal := by simp [State.event]
@[simp] theorem State.event_chk (s : State) (code : Nat) : (s.event code).chk = s.chk := by simp [State.event]
@[simp] theorem State.event_dl (s : State) (code : Nat) : (s.event code).dl = s.dl := by simp [State.event]
@[simp] theorem State.event_jtag (s : State) (code : Nat) : (s.event code).jtag = s.jtag := by simp [State.event]
@[simp] theorem State.event_free (s : State) (code : Nat) : (s.event code).free = s.free := by simp [State.event]
@[simp] theorem State.event_port (s : State) (code : Nat) (q : Port) : (s.event code).port q = s.port q := by
  simp only [State.port, State.event_ports]
@[simp] theorem State.event_surf (s : State) (code : Nat) (k : Nat) : (s.event code).surf k = s.surf k := by
  simp only [State.surf, State.event_store]
@[simp] theorem State.resolve_pending (s : State) (code inst : Nat) : (s.resolve code inst).pending = s.pending := by
  first | exact id rfl | (simp only [State.resolve]; (repeat' split) <;> first | exact id rfl | simp)
@[simp] theorem State.resolve_clk (s : State) (code inst : Nat) : (s.resolve code inst).clk = s.clk := by
  first | exact id rfl | (simp only [State.resolve]; (repeat' split) <;> first | exact id rfl | simp)
@[simp] theorem State.resolve_mode (s : State) (code inst : Nat) : (s.resolve code inst).mode = s.mode := by
  first | exact id rfl | (simp only [State.resolve]; (repeat' split) <;> first | exact id rfl | simp)
@[simp] theorem State.resolve_pow (s : State) (code inst : Nat) : (s.resolve code inst).pow = s.pow := by
  first | exact id rfl | (simp only [State.resolve]; (repeat' split) <;> first | exact id rfl | simp)
@[simp] theorem State.resolve_rtc (s : State) (code inst : Nat) : (s.resolve code inst).rtc = s.rtc := by
  first | exact id rfl | (simp only [State.resolve]; (repeat' split) <;> first | exact id rfl | simp)
@[simp] theorem State.resolve_ports (s : State) (code inst : Nat) : (s.resolve code inst).ports = s.ports := by
  first | exact id rfl | (simp only [State.resolve]; (repeat' split) <;> first | exact id rfl | simp)
@[simp] theorem State.resolve_regs (s : State) (code inst : Nat) : (s.resolve code inst).regs = s.regs := by
  first | exact id rfl | (simp only [State.resolve]; (repeat' split) <;> first | exact id rfl | simp)
@[simp] theorem State.resolve_store (s : State) (code inst : Nat) : (s.resolve code inst).store = s.store := by
  first | exact id rfl | (simp only [State.resolve]; (repeat' split) <;> first | exact id rfl | simp)
@[simp] theorem State.resolve_bun (s : State) (code inst : Nat) : (s.resolve code inst).bun = s.bun := by
  first | exact id rfl | (simp only [State.resolve]; (repeat' split) <;> first | exact id rfl | simp)
@[simp] theorem State.resolve_mask (s : State) (code inst : Nat) : (s.resolve code inst).mask = s.mask := by
  first | exact id rfl | (simp only [State.resolve]; (repeat' split) <;> first | exact id rfl | simp)
@[simp] theorem State.resolve_tok (s : State) (code inst : Nat) : (s.resolve code inst).tok = s.tok := by
  first | exact id rfl | (simp only [State.resolve]; (repeat' split) <;> first | exact id rfl | simp)
@[simp] theorem State.resolve_scan (s : State) (code inst : Nat) : (s.resolve code inst).scan = s.scan := by
  first | exact id rfl | (simp only [State.resolve]; (repeat' split) <;> first | exact id rfl | simp)
@[simp] theorem State.resolve_fly (s : State) (code inst : Nat) : (s.resolve code inst).fly = s.fly := by
  first | exact id rfl | (simp only [State.resolve]; (repeat' split) <;> first | exact id rfl | simp)
@[simp] theorem State.resolve_eng (s : State) (code inst : Nat) : (s.resolve code inst).eng = s.eng := by
  first | exact id rfl | (simp only [State.resolve]; (repeat' split) <;> first | exact id rfl | simp)
@[simp] theorem State.resolve_hoist (s : State) (code inst : Nat) : (s.resolve code inst).hoist = s.hoist := by
  first | exact id rfl | (simp only [State.resolve]; (repeat' split) <;> first | exact id rfl | simp)
@[simp] theorem State.resolve_gdn (s : State) (code inst : Nat) : (s.resolve code inst).gdn = s.gdn := by
  first | exact id rfl | (simp only [State.resolve]; (repeat' split) <;> first | exact id rfl | simp)
@[simp] theorem State.resolve_ens (s : State) (code inst : Nat) : (s.resolve code inst).ens = s.ens := by
  first | exact id rfl | (simp only [State.resolve]; (repeat' split) <;> first | exact id rfl | simp)
@[simp] theorem State.resolve_evt (s : State) (code inst : Nat) : (s.resolve code inst).evt = s.evt := by
  first | exact id rfl | (simp only [State.resolve]; (repeat' split) <;> first | exact id rfl | simp)
@[simp] theorem State.resolve_thm (s : State) (code inst : Nat) : (s.resolve code inst).thm = s.thm := by
  first | exact id rfl | (simp only [State.resolve]; (repeat' split) <;> first | exact id rfl | simp)
@[simp] theorem State.resolve_fab (s : State) (code inst : Nat) : (s.resolve code inst).fab = s.fab := by
  first | exact id rfl | (simp only [State.resolve]; (repeat' split) <;> first | exact id rfl | simp)
@[simp] theorem State.resolve_cal (s : State) (code inst : Nat) : (s.resolve code inst).cal = s.cal := by
  first | exact id rfl | (simp only [State.resolve]; (repeat' split) <;> first | exact id rfl | simp)
@[simp] theorem State.resolve_chk (s : State) (code inst : Nat) : (s.resolve code inst).chk = s.chk := by
  first | exact id rfl | (simp only [State.resolve]; (repeat' split) <;> first | exact id rfl | simp)
@[simp] theorem State.resolve_dl (s : State) (code inst : Nat) : (s.resolve code inst).dl = s.dl := by
  first | exact id rfl | (simp only [State.resolve]; (repeat' split) <;> first | exact id rfl | simp)
@[simp] theorem State.resolve_jtag (s : State) (code inst : Nat) : (s.resolve code inst).jtag = s.jtag := by
  first | exact id rfl | (simp only [State.resolve]; (repeat' split) <;> first | exact id rfl | simp)
@[simp] theorem State.resolve_free (s : State) (code inst : Nat) : (s.resolve code inst).free = s.free := by
  first | exact id rfl | (simp only [State.resolve]; (repeat' split) <;> first | exact id rfl | simp)
@[simp] theorem State.resolve_actW (s : State) (code inst : Nat) (a : Nat) : (s.resolve code inst).actW a = s.actW a := by
  simp only [State.actW, State.resolve_regs]
@[simp] theorem State.resolve_act (s : State) (code inst : Nat) (a : Nat) : (s.resolve code inst).act a = s.act a := by
  simp only [State.act, State.actW, State.resolve_regs]
@[simp] theorem State.resolve_flag (s : State) (code inst : Nat) (a i : Nat) : (s.resolve code inst).flag a i = s.flag a i := by
  simp only [State.flag, State.act, State.actW, State.resolve_regs]
@[simp] theorem State.resolve_fld (s : State) (code inst : Nat) (a hi lo : Nat) : (s.resolve code inst).fld a hi lo = s.fld a hi lo := by
  simp only [State.fld, State.act, State.actW, State.resolve_regs]
@[simp] theorem State.resolve_port (s : State) (code inst : Nat) (q : Port) : (s.resolve code inst).port q = s.port q := by
  simp only [State.port, State.resolve_ports]
@[simp] theorem State.resolve_surf (s : State) (code inst : Nat) (k : Nat) : (s.resolve code inst).surf k = s.surf k := by
  simp only [State.surf, State.resolve_store]
@[simp] theorem State.resolveAll_pending (s : State) (code : Nat) : (s.resolveAll code).pending = s.pending := by
  first | exact id rfl | (simp only [State.resolveAll]; (repeat' split) <;> first | exact id rfl | simp)
@[simp] theorem State.resolveAll_clk (s : State) (code : Nat) : (s.resolveAll code).clk = s.clk := by
  first | exact id rfl | (simp only [State.resolveAll]; (repeat' split) <;> first | exact id rfl | simp)
@[simp] theorem State.resolveAll_mode (s : State) (code : Nat) : (s.resolveAll code).mode = s.mode := by
  first | exact id rfl | (simp only [State.resolveAll]; (repeat' split) <;> first | exact id rfl | simp)
@[simp] theorem State.resolveAll_pow (s : State) (code : Nat) : (s.resolveAll code).pow = s.pow := by
  first | exact id rfl | (simp only [State.resolveAll]; (repeat' split) <;> first | exact id rfl | simp)
@[simp] theorem State.resolveAll_rtc (s : State) (code : Nat) : (s.resolveAll code).rtc = s.rtc := by
  first | exact id rfl | (simp only [State.resolveAll]; (repeat' split) <;> first | exact id rfl | simp)
@[simp] theorem State.resolveAll_ports (s : State) (code : Nat) : (s.resolveAll code).ports = s.ports := by
  first | exact id rfl | (simp only [State.resolveAll]; (repeat' split) <;> first | exact id rfl | simp)
@[simp] theorem State.resolveAll_regs (s : State) (code : Nat) : (s.resolveAll code).regs = s.regs := by
  first | exact id rfl | (simp only [State.resolveAll]; (repeat' split) <;> first | exact id rfl | simp)
@[simp] theorem State.resolveAll_store (s : State) (code : Nat) : (s.resolveAll code).store = s.store := by
  first | exact id rfl | (simp only [State.resolveAll]; (repeat' split) <;> first | exact id rfl | simp)
@[simp] theorem State.resolveAll_bun (s : State) (code : Nat) : (s.resolveAll code).bun = s.bun := by
  first | exact id rfl | (simp only [State.resolveAll]; (repeat' split) <;> first | exact id rfl | simp)
@[simp] theorem State.resolveAll_mask (s : State) (code : Nat) : (s.resolveAll code).mask = s.mask := by
  first | exact id rfl | (simp only [State.resolveAll]; (repeat' split) <;> first | exact id rfl | simp)
@[simp] theorem State.resolveAll_tok (s : State) (code : Nat) : (s.resolveAll code).tok = s.tok := by
  first | exact id rfl | (simp only [State.resolveAll]; (repeat' split) <;> first | exact id rfl | simp)
@[simp] theorem State.resolveAll_scan (s : State) (code : Nat) : (s.resolveAll code).scan = s.scan := by
  first | exact id rfl | (simp only [State.resolveAll]; (repeat' split) <;> first | exact id rfl | simp)
@[simp] theorem State.resolveAll_fly (s : State) (code : Nat) : (s.resolveAll code).fly = s.fly := by
  first | exact id rfl | (simp only [State.resolveAll]; (repeat' split) <;> first | exact id rfl | simp)
@[simp] theorem State.resolveAll_eng (s : State) (code : Nat) : (s.resolveAll code).eng = s.eng := by
  first | exact id rfl | (simp only [State.resolveAll]; (repeat' split) <;> first | exact id rfl | simp)
@[simp] theorem State.resolveAll_hoist (s : State) (code : Nat) : (s.resolveAll code).hoist = s.hoist := by
  first | exact id rfl | (simp only [State.resolveAll]; (repeat' split) <;> first | exact id rfl | simp)
@[simp] theorem State.resolveAll_gdn (s : State) (code : Nat) : (s.resolveAll code).gdn = s.gdn := by
  first | exact id rfl | (simp only [State.resolveAll]; (repeat' split) <;> first | exact id rfl | simp)
@[simp] theorem State.resolveAll_ens (s : State) (code : Nat) : (s.resolveAll code).ens = s.ens := by
  first | exact id rfl | (simp only [State.resolveAll]; (repeat' split) <;> first | exact id rfl | simp)
@[simp] theorem State.resolveAll_evt (s : State) (code : Nat) : (s.resolveAll code).evt = s.evt := by
  first | exact id rfl | (simp only [State.resolveAll]; (repeat' split) <;> first | exact id rfl | simp)
@[simp] theorem State.resolveAll_thm (s : State) (code : Nat) : (s.resolveAll code).thm = s.thm := by
  first | exact id rfl | (simp only [State.resolveAll]; (repeat' split) <;> first | exact id rfl | simp)
@[simp] theorem State.resolveAll_fab (s : State) (code : Nat) : (s.resolveAll code).fab = s.fab := by
  first | exact id rfl | (simp only [State.resolveAll]; (repeat' split) <;> first | exact id rfl | simp)
@[simp] theorem State.resolveAll_cal (s : State) (code : Nat) : (s.resolveAll code).cal = s.cal := by
  first | exact id rfl | (simp only [State.resolveAll]; (repeat' split) <;> first | exact id rfl | simp)
@[simp] theorem State.resolveAll_chk (s : State) (code : Nat) : (s.resolveAll code).chk = s.chk := by
  first | exact id rfl | (simp only [State.resolveAll]; (repeat' split) <;> first | exact id rfl | simp)
@[simp] theorem State.resolveAll_dl (s : State) (code : Nat) : (s.resolveAll code).dl = s.dl := by
  first | exact id rfl | (simp only [State.resolveAll]; (repeat' split) <;> first | exact id rfl | simp)
@[simp] theorem State.resolveAll_jtag (s : State) (code : Nat) : (s.resolveAll code).jtag = s.jtag := by
  first | exact id rfl | (simp only [State.resolveAll]; (repeat' split) <;> first | exact id rfl | simp)
@[simp] theorem State.resolveAll_free (s : State) (code : Nat) : (s.resolveAll code).free = s.free := by
  first | exact id rfl | (simp only [State.resolveAll]; (repeat' split) <;> first | exact id rfl | simp)
@[simp] theorem State.resolveAll_actW (s : State) (code : Nat) (a : Nat) : (s.resolveAll code).actW a = s.actW a := by
  simp only [State.actW, State.resolveAll_regs]
@[simp] theorem State.resolveAll_act (s : State) (code : Nat) (a : Nat) : (s.resolveAll code).act a = s.act a := by
  simp only [State.act, State.actW, State.resolveAll_regs]
@[simp] theorem State.resolveAll_flag (s : State) (code : Nat) (a i : Nat) : (s.resolveAll code).flag a i = s.flag a i := by
  simp only [State.flag, State.act, State.actW, State.resolveAll_regs]
@[simp] theorem State.resolveAll_fld (s : State) (code : Nat) (a hi lo : Nat) : (s.resolveAll code).fld a hi lo = s.fld a hi lo := by
  simp only [State.fld, State.act, State.actW, State.resolveAll_regs]
@[simp] theorem State.resolveAll_port (s : State) (code : Nat) (q : Port) : (s.resolveAll code).port q = s.port q := by
  simp only [State.port, State.resolveAll_ports]
@[simp] theorem State.resolveAll_surf (s : State) (code : Nat) (k : Nat) : (s.resolveAll code).surf k = s.surf k := by
  simp only [State.surf, State.resolveAll_store]
@[simp] theorem State.pumpUp_pending (s : State) : s.pumpUp.pending = s.pending := by
  simp only [State.pumpUp]; (repeat' split) <;> simp
@[simp] theorem State.pumpUp_clk (s : State) : s.pumpUp.clk = s.clk := by
  simp only [State.pumpUp]; (repeat' split) <;> simp
@[simp] theorem State.pumpUp_mode (s : State) : s.pumpUp.mode = s.mode := by
  simp only [State.pumpUp]; (repeat' split) <;> simp
@[simp] theorem State.pumpUp_pow (s : State) : s.pumpUp.pow = s.pow := by
  simp only [State.pumpUp]; (repeat' split) <;> simp
@[simp] theorem State.pumpUp_rtc (s : State) : s.pumpUp.rtc = s.rtc := by
  simp only [State.pumpUp]; (repeat' split) <;> simp
@[simp] theorem State.pumpUp_ports (s : State) : s.pumpUp.ports = s.ports := by
  simp only [State.pumpUp]; (repeat' split) <;> simp
@[simp] theorem State.pumpUp_regs (s : State) : s.pumpUp.regs = s.regs := by
  simp only [State.pumpUp]; (repeat' split) <;> simp
@[simp] theorem State.pumpUp_store (s : State) : s.pumpUp.store = s.store := by
  simp only [State.pumpUp]; (repeat' split) <;> simp
@[simp] theorem State.pumpUp_bun (s : State) : s.pumpUp.bun = s.bun := by
  simp only [State.pumpUp]; (repeat' split) <;> simp
@[simp] theorem State.pumpUp_mask (s : State) : s.pumpUp.mask = s.mask := by
  simp only [State.pumpUp]; (repeat' split) <;> simp
@[simp] theorem State.pumpUp_tok (s : State) : s.pumpUp.tok = s.tok := by
  simp only [State.pumpUp]; (repeat' split) <;> simp
@[simp] theorem State.pumpUp_scan (s : State) : s.pumpUp.scan = s.scan := by
  simp only [State.pumpUp]; (repeat' split) <;> simp
@[simp] theorem State.pumpUp_fly (s : State) : s.pumpUp.fly = s.fly := by
  simp only [State.pumpUp]; (repeat' split) <;> simp
@[simp] theorem State.pumpUp_eng (s : State) : s.pumpUp.eng = s.eng := by
  simp only [State.pumpUp]; (repeat' split) <;> simp
@[simp] theorem State.pumpUp_hoist (s : State) : s.pumpUp.hoist = s.hoist := by
  simp only [State.pumpUp]; (repeat' split) <;> simp
@[simp] theorem State.pumpUp_gdn (s : State) : s.pumpUp.gdn = s.gdn := by
  simp only [State.pumpUp]; (repeat' split) <;> simp
@[simp] theorem State.pumpUp_ens (s : State) : s.pumpUp.ens = s.ens := by
  simp only [State.pumpUp]; (repeat' split) <;> simp
@[simp] theorem State.pumpUp_flt (s : State) : s.pumpUp.flt = s.flt := by
  simp only [State.pumpUp]; (repeat' split) <;> simp
@[simp] theorem State.pumpUp_evt (s : State) : s.pumpUp.evt = s.evt := by
  simp only [State.pumpUp]; (repeat' split) <;> simp
@[simp] theorem State.pumpUp_thm (s : State) : s.pumpUp.thm = s.thm := by
  simp only [State.pumpUp]; (repeat' split) <;> simp
@[simp] theorem State.pumpUp_fab (s : State) : s.pumpUp.fab = s.fab := by
  simp only [State.pumpUp]; (repeat' split) <;> simp
@[simp] theorem State.pumpUp_cal (s : State) : s.pumpUp.cal = s.cal := by
  simp only [State.pumpUp]; (repeat' split) <;> simp
@[simp] theorem State.pumpUp_chk (s : State) : s.pumpUp.chk = s.chk := by
  simp only [State.pumpUp]; (repeat' split) <;> simp
@[simp] theorem State.pumpUp_jtag (s : State) : s.pumpUp.jtag = s.jtag := by
  simp only [State.pumpUp]; (repeat' split) <;> simp
@[simp] theorem State.pumpUp_free (s : State) : s.pumpUp.free = s.free := by
  simp only [State.pumpUp]; (repeat' split) <;> simp
@[simp] theorem State.pumpUp_actW (s : State) (a : Nat) : s.pumpUp.actW a = s.actW a := by
  simp only [State.actW, State.pumpUp_regs]
@[simp] theorem State.pumpUp_act (s : State) (a : Nat) : s.pumpUp.act a = s.act a := by
  simp only [State.act, State.actW, State.pumpUp_regs]
@[simp] theorem State.pumpUp_flag (s : State) (a i : Nat) : s.pumpUp.flag a i = s.flag a i := by
  simp only [State.flag, State.act, State.actW, State.pumpUp_regs]
@[simp] theorem State.pumpUp_fld (s : State) (a hi lo : Nat) : s.pumpUp.fld a hi lo = s.fld a hi lo := by
  simp only [State.fld, State.act, State.actW, State.pumpUp_regs]
@[simp] theorem State.pumpUp_port (s : State) (q : Port) : s.pumpUp.port q = s.port q := by
  simp only [State.port, State.pumpUp_ports]
@[simp] theorem State.pumpUp_surf (s : State) (k : Nat) : s.pumpUp.surf k = s.surf k := by
  simp only [State.surf, State.pumpUp_store]
@[simp] theorem State.pumpUp_activeOf (s : State) (k : Nat) : s.pumpUp.activeOf k = s.activeOf k := by
  simp only [State.activeOf, State.pumpUp_flt]
@[simp] theorem State.bufferHv_pending (s : State) (e : HvEvent) : (s.bufferHv e).pending = s.pending := by
  simp only [State.bufferHv]; (repeat' split) <;> simp
@[simp] theorem State.bufferHv_clk (s : State) (e : HvEvent) : (s.bufferHv e).clk = s.clk := by
  simp only [State.bufferHv]; (repeat' split) <;> simp
@[simp] theorem State.bufferHv_mode (s : State) (e : HvEvent) : (s.bufferHv e).mode = s.mode := by
  simp only [State.bufferHv]; (repeat' split) <;> simp
@[simp] theorem State.bufferHv_pow (s : State) (e : HvEvent) : (s.bufferHv e).pow = s.pow := by
  simp only [State.bufferHv]; (repeat' split) <;> simp
@[simp] theorem State.bufferHv_rtc (s : State) (e : HvEvent) : (s.bufferHv e).rtc = s.rtc := by
  simp only [State.bufferHv]; (repeat' split) <;> simp
@[simp] theorem State.bufferHv_ports (s : State) (e : HvEvent) : (s.bufferHv e).ports = s.ports := by
  simp only [State.bufferHv]; (repeat' split) <;> simp
@[simp] theorem State.bufferHv_regs (s : State) (e : HvEvent) : (s.bufferHv e).regs = s.regs := by
  simp only [State.bufferHv]; (repeat' split) <;> simp
@[simp] theorem State.bufferHv_store (s : State) (e : HvEvent) : (s.bufferHv e).store = s.store := by
  simp only [State.bufferHv]; (repeat' split) <;> simp
@[simp] theorem State.bufferHv_bun (s : State) (e : HvEvent) : (s.bufferHv e).bun = s.bun := by
  simp only [State.bufferHv]; (repeat' split) <;> simp
@[simp] theorem State.bufferHv_mask (s : State) (e : HvEvent) : (s.bufferHv e).mask = s.mask := by
  simp only [State.bufferHv]; (repeat' split) <;> simp
@[simp] theorem State.bufferHv_tok (s : State) (e : HvEvent) : (s.bufferHv e).tok = s.tok := by
  simp only [State.bufferHv]; (repeat' split) <;> simp
@[simp] theorem State.bufferHv_scan (s : State) (e : HvEvent) : (s.bufferHv e).scan = s.scan := by
  simp only [State.bufferHv]; (repeat' split) <;> simp
@[simp] theorem State.bufferHv_fly (s : State) (e : HvEvent) : (s.bufferHv e).fly = s.fly := by
  simp only [State.bufferHv]; (repeat' split) <;> simp
@[simp] theorem State.bufferHv_eng (s : State) (e : HvEvent) : (s.bufferHv e).eng = s.eng := by
  simp only [State.bufferHv]; (repeat' split) <;> simp
@[simp] theorem State.bufferHv_hoist (s : State) (e : HvEvent) : (s.bufferHv e).hoist = s.hoist := by
  simp only [State.bufferHv]; (repeat' split) <;> simp
@[simp] theorem State.bufferHv_gdn (s : State) (e : HvEvent) : (s.bufferHv e).gdn = s.gdn := by
  simp only [State.bufferHv]; (repeat' split) <;> simp
@[simp] theorem State.bufferHv_ens (s : State) (e : HvEvent) : (s.bufferHv e).ens = s.ens := by
  simp only [State.bufferHv]; (repeat' split) <;> simp
@[simp] theorem State.bufferHv_flt (s : State) (e : HvEvent) : (s.bufferHv e).flt = s.flt := by
  simp only [State.bufferHv]; (repeat' split) <;> simp
@[simp] theorem State.bufferHv_evt (s : State) (e : HvEvent) : (s.bufferHv e).evt = s.evt := by
  simp only [State.bufferHv]; (repeat' split) <;> simp
@[simp] theorem State.bufferHv_thm (s : State) (e : HvEvent) : (s.bufferHv e).thm = s.thm := by
  simp only [State.bufferHv]; (repeat' split) <;> simp
@[simp] theorem State.bufferHv_fab (s : State) (e : HvEvent) : (s.bufferHv e).fab = s.fab := by
  simp only [State.bufferHv]; (repeat' split) <;> simp
@[simp] theorem State.bufferHv_cal (s : State) (e : HvEvent) : (s.bufferHv e).cal = s.cal := by
  simp only [State.bufferHv]; (repeat' split) <;> simp
@[simp] theorem State.bufferHv_chk (s : State) (e : HvEvent) : (s.bufferHv e).chk = s.chk := by
  simp only [State.bufferHv]; (repeat' split) <;> simp
@[simp] theorem State.bufferHv_jtag (s : State) (e : HvEvent) : (s.bufferHv e).jtag = s.jtag := by
  simp only [State.bufferHv]; (repeat' split) <;> simp
@[simp] theorem State.bufferHv_free (s : State) (e : HvEvent) : (s.bufferHv e).free = s.free := by
  simp only [State.bufferHv]; (repeat' split) <;> simp
@[simp] theorem State.bufferHv_actW (s : State) (e : HvEvent) (a : Nat) : (s.bufferHv e).actW a = s.actW a := by
  simp only [State.actW, State.bufferHv_regs]
@[simp] theorem State.bufferHv_act (s : State) (e : HvEvent) (a : Nat) : (s.bufferHv e).act a = s.act a := by
  simp only [State.act, State.actW, State.bufferHv_regs]
@[simp] theorem State.bufferHv_flag (s : State) (e : HvEvent) (a i : Nat) : (s.bufferHv e).flag a i = s.flag a i := by
  simp only [State.flag, State.act, State.actW, State.bufferHv_regs]
@[simp] theorem State.bufferHv_fld (s : State) (e : HvEvent) (a hi lo : Nat) : (s.bufferHv e).fld a hi lo = s.fld a hi lo := by
  simp only [State.fld, State.act, State.actW, State.bufferHv_regs]
@[simp] theorem State.bufferHv_port (s : State) (e : HvEvent) (q : Port) : (s.bufferHv e).port q = s.port q := by
  simp only [State.port, State.bufferHv_ports]
@[simp] theorem State.bufferHv_surf (s : State) (e : HvEvent) (k : Nat) : (s.bufferHv e).surf k = s.surf k := by
  simp only [State.surf, State.bufferHv_store]
@[simp] theorem State.bufferHv_activeOf (s : State) (e : HvEvent) (k : Nat) : (s.bufferHv e).activeOf k = s.activeOf k := by
  simp only [State.activeOf, State.bufferHv_flt]
@[simp] theorem State.raiseHv_pending (s : State) (code inst data : Nat) : (s.raiseHv code inst data).pending = s.pending := by
  simp only [State.raiseHv]; (repeat' split) <;> simp
@[simp] theorem State.raiseHv_clk (s : State) (code inst data : Nat) : (s.raiseHv code inst data).clk = s.clk := by
  simp only [State.raiseHv]; (repeat' split) <;> simp
@[simp] theorem State.raiseHv_mode (s : State) (code inst data : Nat) : (s.raiseHv code inst data).mode = s.mode := by
  simp only [State.raiseHv]; (repeat' split) <;> simp
@[simp] theorem State.raiseHv_pow (s : State) (code inst data : Nat) : (s.raiseHv code inst data).pow = s.pow := by
  simp only [State.raiseHv]; (repeat' split) <;> simp
@[simp] theorem State.raiseHv_rtc (s : State) (code inst data : Nat) : (s.raiseHv code inst data).rtc = s.rtc := by
  simp only [State.raiseHv]; (repeat' split) <;> simp
@[simp] theorem State.raiseHv_ports (s : State) (code inst data : Nat) : (s.raiseHv code inst data).ports = s.ports := by
  simp only [State.raiseHv]; (repeat' split) <;> simp
@[simp] theorem State.raiseHv_store (s : State) (code inst data : Nat) : (s.raiseHv code inst data).store = s.store := by
  simp only [State.raiseHv]; (repeat' split) <;> simp
@[simp] theorem State.raiseHv_bun (s : State) (code inst data : Nat) : (s.raiseHv code inst data).bun = s.bun := by
  simp only [State.raiseHv]; (repeat' split) <;> simp
@[simp] theorem State.raiseHv_mask (s : State) (code inst data : Nat) : (s.raiseHv code inst data).mask = s.mask := by
  simp only [State.raiseHv]; (repeat' split) <;> simp
@[simp] theorem State.raiseHv_tok (s : State) (code inst data : Nat) : (s.raiseHv code inst data).tok = s.tok := by
  simp only [State.raiseHv]; (repeat' split) <;> simp
@[simp] theorem State.raiseHv_scan (s : State) (code inst data : Nat) : (s.raiseHv code inst data).scan = s.scan := by
  simp only [State.raiseHv]; (repeat' split) <;> simp
@[simp] theorem State.raiseHv_fly (s : State) (code inst data : Nat) : (s.raiseHv code inst data).fly = s.fly := by
  simp only [State.raiseHv]; (repeat' split) <;> simp
@[simp] theorem State.raiseHv_eng (s : State) (code inst data : Nat) : (s.raiseHv code inst data).eng = s.eng := by
  simp only [State.raiseHv]; (repeat' split) <;> simp
@[simp] theorem State.raiseHv_hoist (s : State) (code inst data : Nat) : (s.raiseHv code inst data).hoist = s.hoist := by
  simp only [State.raiseHv]; (repeat' split) <;> simp
@[simp] theorem State.raiseHv_gdn (s : State) (code inst data : Nat) : (s.raiseHv code inst data).gdn = s.gdn := by
  simp only [State.raiseHv]; (repeat' split) <;> simp
@[simp] theorem State.raiseHv_ens (s : State) (code inst data : Nat) : (s.raiseHv code inst data).ens = s.ens := by
  simp only [State.raiseHv]; (repeat' split) <;> simp
@[simp] theorem State.raiseHv_evt (s : State) (code inst data : Nat) : (s.raiseHv code inst data).evt = s.evt := by
  simp only [State.raiseHv]; (repeat' split) <;> simp
@[simp] theorem State.raiseHv_thm (s : State) (code inst data : Nat) : (s.raiseHv code inst data).thm = s.thm := by
  simp only [State.raiseHv]; (repeat' split) <;> simp
@[simp] theorem State.raiseHv_fab (s : State) (code inst data : Nat) : (s.raiseHv code inst data).fab = s.fab := by
  simp only [State.raiseHv]; (repeat' split) <;> simp
@[simp] theorem State.raiseHv_cal (s : State) (code inst data : Nat) : (s.raiseHv code inst data).cal = s.cal := by
  simp only [State.raiseHv]; (repeat' split) <;> simp
@[simp] theorem State.raiseHv_chk (s : State) (code inst data : Nat) : (s.raiseHv code inst data).chk = s.chk := by
  simp only [State.raiseHv]; (repeat' split) <;> simp
@[simp] theorem State.raiseHv_jtag (s : State) (code inst data : Nat) : (s.raiseHv code inst data).jtag = s.jtag := by
  simp only [State.raiseHv]; (repeat' split) <;> simp
@[simp] theorem State.raiseHv_free (s : State) (code inst data : Nat) : (s.raiseHv code inst data).free = s.free := by
  simp only [State.raiseHv]; (repeat' split) <;> simp
@[simp] theorem State.raiseHv_port (s : State) (code inst data : Nat) (q : Port) : (s.raiseHv code inst data).port q = s.port q := by
  simp only [State.port, State.raiseHv_ports]
@[simp] theorem State.raiseHv_surf (s : State) (code inst data : Nat) (k : Nat) : (s.raiseHv code inst data).surf k = s.surf k := by
  simp only [State.surf, State.raiseHv_store]
@[simp] theorem State.htx_pending (s : State) (cls : Nat) (cf body : List Byte) : (s.htx cls cf body).pending = s.pending := by
  first | exact id rfl | (simp only [State.htx]; (repeat' split) <;> first | exact id rfl | simp)
@[simp] theorem State.htx_clk (s : State) (cls : Nat) (cf body : List Byte) : (s.htx cls cf body).clk = s.clk := by
  first | exact id rfl | (simp only [State.htx]; (repeat' split) <;> first | exact id rfl | simp)
@[simp] theorem State.htx_mode (s : State) (cls : Nat) (cf body : List Byte) : (s.htx cls cf body).mode = s.mode := by
  first | exact id rfl | (simp only [State.htx]; (repeat' split) <;> first | exact id rfl | simp)
@[simp] theorem State.htx_pow (s : State) (cls : Nat) (cf body : List Byte) : (s.htx cls cf body).pow = s.pow := by
  first | exact id rfl | (simp only [State.htx]; (repeat' split) <;> first | exact id rfl | simp)
@[simp] theorem State.htx_rtc (s : State) (cls : Nat) (cf body : List Byte) : (s.htx cls cf body).rtc = s.rtc := by
  first | exact id rfl | (simp only [State.htx]; (repeat' split) <;> first | exact id rfl | simp)
@[simp] theorem State.htx_ports (s : State) (cls : Nat) (cf body : List Byte) : (s.htx cls cf body).ports = s.ports := by
  first | exact id rfl | (simp only [State.htx]; (repeat' split) <;> first | exact id rfl | simp)
@[simp] theorem State.htx_regs (s : State) (cls : Nat) (cf body : List Byte) : (s.htx cls cf body).regs = s.regs := by
  first | exact id rfl | (simp only [State.htx]; (repeat' split) <;> first | exact id rfl | simp)
@[simp] theorem State.htx_store (s : State) (cls : Nat) (cf body : List Byte) : (s.htx cls cf body).store = s.store := by
  first | exact id rfl | (simp only [State.htx]; (repeat' split) <;> first | exact id rfl | simp)
@[simp] theorem State.htx_bun (s : State) (cls : Nat) (cf body : List Byte) : (s.htx cls cf body).bun = s.bun := by
  first | exact id rfl | (simp only [State.htx]; (repeat' split) <;> first | exact id rfl | simp)
@[simp] theorem State.htx_mask (s : State) (cls : Nat) (cf body : List Byte) : (s.htx cls cf body).mask = s.mask := by
  first | exact id rfl | (simp only [State.htx]; (repeat' split) <;> first | exact id rfl | simp)
@[simp] theorem State.htx_tok (s : State) (cls : Nat) (cf body : List Byte) : (s.htx cls cf body).tok = s.tok := by
  first | exact id rfl | (simp only [State.htx]; (repeat' split) <;> first | exact id rfl | simp)
@[simp] theorem State.htx_scan (s : State) (cls : Nat) (cf body : List Byte) : (s.htx cls cf body).scan = s.scan := by
  first | exact id rfl | (simp only [State.htx]; (repeat' split) <;> first | exact id rfl | simp)
@[simp] theorem State.htx_fly (s : State) (cls : Nat) (cf body : List Byte) : (s.htx cls cf body).fly = s.fly := by
  first | exact id rfl | (simp only [State.htx]; (repeat' split) <;> first | exact id rfl | simp)
@[simp] theorem State.htx_eng (s : State) (cls : Nat) (cf body : List Byte) : (s.htx cls cf body).eng = s.eng := by
  first | exact id rfl | (simp only [State.htx]; (repeat' split) <;> first | exact id rfl | simp)
@[simp] theorem State.htx_gdn (s : State) (cls : Nat) (cf body : List Byte) : (s.htx cls cf body).gdn = s.gdn := by
  first | exact id rfl | (simp only [State.htx]; (repeat' split) <;> first | exact id rfl | simp)
@[simp] theorem State.htx_ens (s : State) (cls : Nat) (cf body : List Byte) : (s.htx cls cf body).ens = s.ens := by
  first | exact id rfl | (simp only [State.htx]; (repeat' split) <;> first | exact id rfl | simp)
@[simp] theorem State.htx_flt (s : State) (cls : Nat) (cf body : List Byte) : (s.htx cls cf body).flt = s.flt := by
  first | exact id rfl | (simp only [State.htx]; (repeat' split) <;> first | exact id rfl | simp)
@[simp] theorem State.htx_evt (s : State) (cls : Nat) (cf body : List Byte) : (s.htx cls cf body).evt = s.evt := by
  first | exact id rfl | (simp only [State.htx]; (repeat' split) <;> first | exact id rfl | simp)
@[simp] theorem State.htx_thm (s : State) (cls : Nat) (cf body : List Byte) : (s.htx cls cf body).thm = s.thm := by
  first | exact id rfl | (simp only [State.htx]; (repeat' split) <;> first | exact id rfl | simp)
@[simp] theorem State.htx_fab (s : State) (cls : Nat) (cf body : List Byte) : (s.htx cls cf body).fab = s.fab := by
  first | exact id rfl | (simp only [State.htx]; (repeat' split) <;> first | exact id rfl | simp)
@[simp] theorem State.htx_cal (s : State) (cls : Nat) (cf body : List Byte) : (s.htx cls cf body).cal = s.cal := by
  first | exact id rfl | (simp only [State.htx]; (repeat' split) <;> first | exact id rfl | simp)
@[simp] theorem State.htx_chk (s : State) (cls : Nat) (cf body : List Byte) : (s.htx cls cf body).chk = s.chk := by
  first | exact id rfl | (simp only [State.htx]; (repeat' split) <;> first | exact id rfl | simp)
@[simp] theorem State.htx_dl (s : State) (cls : Nat) (cf body : List Byte) : (s.htx cls cf body).dl = s.dl := by
  first | exact id rfl | (simp only [State.htx]; (repeat' split) <;> first | exact id rfl | simp)
@[simp] theorem State.htx_jtag (s : State) (cls : Nat) (cf body : List Byte) : (s.htx cls cf body).jtag = s.jtag := by
  first | exact id rfl | (simp only [State.htx]; (repeat' split) <;> first | exact id rfl | simp)
@[simp] theorem State.htx_free (s : State) (cls : Nat) (cf body : List Byte) : (s.htx cls cf body).free = s.free := by
  first | exact id rfl | (simp only [State.htx]; (repeat' split) <;> first | exact id rfl | simp)
@[simp] theorem State.htx_actW (s : State) (cls : Nat) (cf body : List Byte) (a : Nat) : (s.htx cls cf body).actW a = s.actW a := by
  simp only [State.actW, State.htx_regs]
@[simp] theorem State.htx_act (s : State) (cls : Nat) (cf body : List Byte) (a : Nat) : (s.htx cls cf body).act a = s.act a := by
  simp only [State.act, State.actW, State.htx_regs]
@[simp] theorem State.htx_flag (s : State) (cls : Nat) (cf body : List Byte) (a i : Nat) : (s.htx cls cf body).flag a i = s.flag a i := by
  simp only [State.flag, State.act, State.actW, State.htx_regs]
@[simp] theorem State.htx_fld (s : State) (cls : Nat) (cf body : List Byte) (a hi lo : Nat) : (s.htx cls cf body).fld a hi lo = s.fld a hi lo := by
  simp only [State.fld, State.act, State.actW, State.htx_regs]
@[simp] theorem State.htx_port (s : State) (cls : Nat) (cf body : List Byte) (q : Port) : (s.htx cls cf body).port q = s.port q := by
  simp only [State.port, State.htx_ports]
@[simp] theorem State.htx_surf (s : State) (cls : Nat) (cf body : List Byte) (k : Nat) : (s.htx cls cf body).surf k = s.surf k := by
  simp only [State.surf, State.htx_store]
@[simp] theorem State.htx_activeOf (s : State) (cls : Nat) (cf body : List Byte) (k : Nat) : (s.htx cls cf body).activeOf k = s.activeOf k := by
  simp only [State.activeOf, State.htx_flt]
@[simp] theorem State.sendReplies_pending (n : Nat) (s : State) : (State.sendReplies n s).pending = s.pending := by
  induction n generalizing s with
  | zero => rfl
  | succ n ih => simp only [State.sendReplies]; (repeat' split) <;> simp [ih]
@[simp] theorem State.sendReplies_clk (n : Nat) (s : State) : (State.sendReplies n s).clk = s.clk := by
  induction n generalizing s with
  | zero => rfl
  | succ n ih => simp only [State.sendReplies]; (repeat' split) <;> simp [ih]
@[simp] theorem State.sendReplies_mode (n : Nat) (s : State) : (State.sendReplies n s).mode = s.mode := by
  induction n generalizing s with
  | zero => rfl
  | succ n ih => simp only [State.sendReplies]; (repeat' split) <;> simp [ih]
@[simp] theorem State.sendReplies_pow (n : Nat) (s : State) : (State.sendReplies n s).pow = s.pow := by
  induction n generalizing s with
  | zero => rfl
  | succ n ih => simp only [State.sendReplies]; (repeat' split) <;> simp [ih]
@[simp] theorem State.sendReplies_rtc (n : Nat) (s : State) : (State.sendReplies n s).rtc = s.rtc := by
  induction n generalizing s with
  | zero => rfl
  | succ n ih => simp only [State.sendReplies]; (repeat' split) <;> simp [ih]
@[simp] theorem State.sendReplies_ports (n : Nat) (s : State) : (State.sendReplies n s).ports = s.ports := by
  induction n generalizing s with
  | zero => rfl
  | succ n ih => simp only [State.sendReplies]; (repeat' split) <;> simp [ih]
@[simp] theorem State.sendReplies_regs (n : Nat) (s : State) : (State.sendReplies n s).regs = s.regs := by
  induction n generalizing s with
  | zero => rfl
  | succ n ih => simp only [State.sendReplies]; (repeat' split) <;> simp [ih]
@[simp] theorem State.sendReplies_store (n : Nat) (s : State) : (State.sendReplies n s).store = s.store := by
  induction n generalizing s with
  | zero => rfl
  | succ n ih => simp only [State.sendReplies]; (repeat' split) <;> simp [ih]
@[simp] theorem State.sendReplies_bun (n : Nat) (s : State) : (State.sendReplies n s).bun = s.bun := by
  induction n generalizing s with
  | zero => rfl
  | succ n ih => simp only [State.sendReplies]; (repeat' split) <;> simp [ih]
@[simp] theorem State.sendReplies_mask (n : Nat) (s : State) : (State.sendReplies n s).mask = s.mask := by
  induction n generalizing s with
  | zero => rfl
  | succ n ih => simp only [State.sendReplies]; (repeat' split) <;> simp [ih]
@[simp] theorem State.sendReplies_tok (n : Nat) (s : State) : (State.sendReplies n s).tok = s.tok := by
  induction n generalizing s with
  | zero => rfl
  | succ n ih => simp only [State.sendReplies]; (repeat' split) <;> simp [ih]
@[simp] theorem State.sendReplies_scan (n : Nat) (s : State) : (State.sendReplies n s).scan = s.scan := by
  induction n generalizing s with
  | zero => rfl
  | succ n ih => simp only [State.sendReplies]; (repeat' split) <;> simp [ih]
@[simp] theorem State.sendReplies_fly (n : Nat) (s : State) : (State.sendReplies n s).fly = s.fly := by
  induction n generalizing s with
  | zero => rfl
  | succ n ih => simp only [State.sendReplies]; (repeat' split) <;> simp [ih]
@[simp] theorem State.sendReplies_eng (n : Nat) (s : State) : (State.sendReplies n s).eng = s.eng := by
  induction n generalizing s with
  | zero => rfl
  | succ n ih => simp only [State.sendReplies]; (repeat' split) <;> simp [ih]
@[simp] theorem State.sendReplies_gdn (n : Nat) (s : State) : (State.sendReplies n s).gdn = s.gdn := by
  induction n generalizing s with
  | zero => rfl
  | succ n ih => simp only [State.sendReplies]; (repeat' split) <;> simp [ih]
@[simp] theorem State.sendReplies_ens (n : Nat) (s : State) : (State.sendReplies n s).ens = s.ens := by
  induction n generalizing s with
  | zero => rfl
  | succ n ih => simp only [State.sendReplies]; (repeat' split) <;> simp [ih]
@[simp] theorem State.sendReplies_flt (n : Nat) (s : State) : (State.sendReplies n s).flt = s.flt := by
  induction n generalizing s with
  | zero => rfl
  | succ n ih => simp only [State.sendReplies]; (repeat' split) <;> simp [ih]
@[simp] theorem State.sendReplies_evt (n : Nat) (s : State) : (State.sendReplies n s).evt = s.evt := by
  induction n generalizing s with
  | zero => rfl
  | succ n ih => simp only [State.sendReplies]; (repeat' split) <;> simp [ih]
@[simp] theorem State.sendReplies_thm (n : Nat) (s : State) : (State.sendReplies n s).thm = s.thm := by
  induction n generalizing s with
  | zero => rfl
  | succ n ih => simp only [State.sendReplies]; (repeat' split) <;> simp [ih]
@[simp] theorem State.sendReplies_fab (n : Nat) (s : State) : (State.sendReplies n s).fab = s.fab := by
  induction n generalizing s with
  | zero => rfl
  | succ n ih => simp only [State.sendReplies]; (repeat' split) <;> simp [ih]
@[simp] theorem State.sendReplies_cal (n : Nat) (s : State) : (State.sendReplies n s).cal = s.cal := by
  induction n generalizing s with
  | zero => rfl
  | succ n ih => simp only [State.sendReplies]; (repeat' split) <;> simp [ih]
@[simp] theorem State.sendReplies_chk (n : Nat) (s : State) : (State.sendReplies n s).chk = s.chk := by
  induction n generalizing s with
  | zero => rfl
  | succ n ih => simp only [State.sendReplies]; (repeat' split) <;> simp [ih]
@[simp] theorem State.sendReplies_dl (n : Nat) (s : State) : (State.sendReplies n s).dl = s.dl := by
  induction n generalizing s with
  | zero => rfl
  | succ n ih => simp only [State.sendReplies]; (repeat' split) <;> simp [ih]
@[simp] theorem State.sendReplies_jtag (n : Nat) (s : State) : (State.sendReplies n s).jtag = s.jtag := by
  induction n generalizing s with
  | zero => rfl
  | succ n ih => simp only [State.sendReplies]; (repeat' split) <;> simp [ih]
@[simp] theorem State.sendReplies_free (n : Nat) (s : State) : (State.sendReplies n s).free = s.free := by
  induction n generalizing s with
  | zero => rfl
  | succ n ih => simp only [State.sendReplies]; (repeat' split) <;> simp [ih]
@[simp] theorem State.sendReplies_actW (n : Nat) (s : State) (a : Nat) : (State.sendReplies n s).actW a = s.actW a := by
  simp only [State.actW, State.sendReplies_regs]
@[simp] theorem State.sendReplies_act (n : Nat) (s : State) (a : Nat) : (State.sendReplies n s).act a = s.act a := by
  simp only [State.act, State.actW, State.sendReplies_regs]
@[simp] theorem State.sendReplies_flag (n : Nat) (s : State) (a i : Nat) : (State.sendReplies n s).flag a i = s.flag a i := by
  simp only [State.flag, State.act, State.actW, State.sendReplies_regs]
@[simp] theorem State.sendReplies_fld (n : Nat) (s : State) (a hi lo : Nat) : (State.sendReplies n s).fld a hi lo = s.fld a hi lo := by
  simp only [State.fld, State.act, State.actW, State.sendReplies_regs]
@[simp] theorem State.sendReplies_port (n : Nat) (s : State) (q : Port) : (State.sendReplies n s).port q = s.port q := by
  simp only [State.port, State.sendReplies_ports]
@[simp] theorem State.sendReplies_surf (n : Nat) (s : State) (k : Nat) : (State.sendReplies n s).surf k = s.surf k := by
  simp only [State.surf, State.sendReplies_store]
@[simp] theorem State.sendReplies_activeOf (n : Nat) (s : State) (k : Nat) : (State.sendReplies n s).activeOf k = s.activeOf k := by
  simp only [State.activeOf, State.sendReplies_flt]
@[simp] theorem State.auditReplies_pending (s : State) (p : Port) : (s.auditReplies p).pending = s.pending := by
  simp only [State.auditReplies]; (repeat' split) <;> simp
@[simp] theorem State.auditReplies_clk (s : State) (p : Port) : (s.auditReplies p).clk = s.clk := by
  simp only [State.auditReplies]; (repeat' split) <;> simp
@[simp] theorem State.auditReplies_mode (s : State) (p : Port) : (s.auditReplies p).mode = s.mode := by
  simp only [State.auditReplies]; (repeat' split) <;> simp
@[simp] theorem State.auditReplies_pow (s : State) (p : Port) : (s.auditReplies p).pow = s.pow := by
  simp only [State.auditReplies]; (repeat' split) <;> simp
@[simp] theorem State.auditReplies_rtc (s : State) (p : Port) : (s.auditReplies p).rtc = s.rtc := by
  simp only [State.auditReplies]; (repeat' split) <;> simp
@[simp] theorem State.auditReplies_ports (s : State) (p : Port) : (s.auditReplies p).ports = s.ports := by
  simp only [State.auditReplies]; (repeat' split) <;> simp
@[simp] theorem State.auditReplies_store (s : State) (p : Port) : (s.auditReplies p).store = s.store := by
  simp only [State.auditReplies]; (repeat' split) <;> simp
@[simp] theorem State.auditReplies_bun (s : State) (p : Port) : (s.auditReplies p).bun = s.bun := by
  simp only [State.auditReplies]; (repeat' split) <;> simp
@[simp] theorem State.auditReplies_mask (s : State) (p : Port) : (s.auditReplies p).mask = s.mask := by
  simp only [State.auditReplies]; (repeat' split) <;> simp
@[simp] theorem State.auditReplies_tok (s : State) (p : Port) : (s.auditReplies p).tok = s.tok := by
  simp only [State.auditReplies]; (repeat' split) <;> simp
@[simp] theorem State.auditReplies_scan (s : State) (p : Port) : (s.auditReplies p).scan = s.scan := by
  simp only [State.auditReplies]; (repeat' split) <;> simp
@[simp] theorem State.auditReplies_fly (s : State) (p : Port) : (s.auditReplies p).fly = s.fly := by
  simp only [State.auditReplies]; (repeat' split) <;> simp
@[simp] theorem State.auditReplies_eng (s : State) (p : Port) : (s.auditReplies p).eng = s.eng := by
  simp only [State.auditReplies]; (repeat' split) <;> simp
@[simp] theorem State.auditReplies_hoist (s : State) (p : Port) : (s.auditReplies p).hoist = s.hoist := by
  simp only [State.auditReplies]; (repeat' split) <;> simp
@[simp] theorem State.auditReplies_gdn (s : State) (p : Port) : (s.auditReplies p).gdn = s.gdn := by
  simp only [State.auditReplies]; (repeat' split) <;> simp
@[simp] theorem State.auditReplies_ens (s : State) (p : Port) : (s.auditReplies p).ens = s.ens := by
  simp only [State.auditReplies]; (repeat' split) <;> simp
@[simp] theorem State.auditReplies_thm (s : State) (p : Port) : (s.auditReplies p).thm = s.thm := by
  simp only [State.auditReplies]; (repeat' split) <;> simp
@[simp] theorem State.auditReplies_fab (s : State) (p : Port) : (s.auditReplies p).fab = s.fab := by
  simp only [State.auditReplies]; (repeat' split) <;> simp
@[simp] theorem State.auditReplies_cal (s : State) (p : Port) : (s.auditReplies p).cal = s.cal := by
  simp only [State.auditReplies]; (repeat' split) <;> simp
@[simp] theorem State.auditReplies_chk (s : State) (p : Port) : (s.auditReplies p).chk = s.chk := by
  simp only [State.auditReplies]; (repeat' split) <;> simp
@[simp] theorem State.auditReplies_dl (s : State) (p : Port) : (s.auditReplies p).dl = s.dl := by
  simp only [State.auditReplies]; (repeat' split) <;> simp
@[simp] theorem State.auditReplies_jtag (s : State) (p : Port) : (s.auditReplies p).jtag = s.jtag := by
  simp only [State.auditReplies]; (repeat' split) <;> simp
@[simp] theorem State.auditReplies_free (s : State) (p : Port) : (s.auditReplies p).free = s.free := by
  simp only [State.auditReplies]; (repeat' split) <;> simp
@[simp] theorem State.auditReplies_port (s : State) (p : Port) (q : Port) : (s.auditReplies p).port q = s.port q := by
  simp only [State.port, State.auditReplies_ports]
@[simp] theorem State.auditReplies_surf (s : State) (p : Port) (k : Nat) : (s.auditReplies p).surf k = s.surf k := by
  simp only [State.surf, State.auditReplies_store]
@[simp] theorem State.place_pending (s : State) (p : Port) (r : Reply) : (s.place p r).pending = s.pending := by
  unfold State.place; cases p <;> simp [apply_ite State.pending]
@[simp] theorem State.place_clk (s : State) (p : Port) (r : Reply) : (s.place p r).clk = s.clk := by
  unfold State.place; cases p <;> simp [apply_ite State.clk]
@[simp] theorem State.place_mode (s : State) (p : Port) (r : Reply) : (s.place p r).mode = s.mode := by
  unfold State.place; cases p <;> simp [apply_ite State.mode]
@[simp] theorem State.place_pow (s : State) (p : Port) (r : Reply) : (s.place p r).pow = s.pow := by
  unfold State.place; cases p <;> simp [apply_ite State.pow]
@[simp] theorem State.place_rtc (s : State) (p : Port) (r : Reply) : (s.place p r).rtc = s.rtc := by
  unfold State.place; cases p <;> simp [apply_ite State.rtc]
@[simp] theorem State.place_store (s : State) (p : Port) (r : Reply) : (s.place p r).store = s.store := by
  unfold State.place; cases p <;> simp [apply_ite State.store]
@[simp] theorem State.place_bun (s : State) (p : Port) (r : Reply) : (s.place p r).bun = s.bun := by
  unfold State.place; cases p <;> simp [apply_ite State.bun]
@[simp] theorem State.place_mask (s : State) (p : Port) (r : Reply) : (s.place p r).mask = s.mask := by
  unfold State.place; cases p <;> simp [apply_ite State.mask]
@[simp] theorem State.place_tok (s : State) (p : Port) (r : Reply) : (s.place p r).tok = s.tok := by
  unfold State.place; cases p <;> simp [apply_ite State.tok]
@[simp] theorem State.place_scan (s : State) (p : Port) (r : Reply) : (s.place p r).scan = s.scan := by
  unfold State.place; cases p <;> simp [apply_ite State.scan]
@[simp] theorem State.place_fly (s : State) (p : Port) (r : Reply) : (s.place p r).fly = s.fly := by
  unfold State.place; cases p <;> simp [apply_ite State.fly]
@[simp] theorem State.place_eng (s : State) (p : Port) (r : Reply) : (s.place p r).eng = s.eng := by
  unfold State.place; cases p <;> simp [apply_ite State.eng]
@[simp] theorem State.place_gdn (s : State) (p : Port) (r : Reply) : (s.place p r).gdn = s.gdn := by
  unfold State.place; cases p <;> simp [apply_ite State.gdn]
@[simp] theorem State.place_ens (s : State) (p : Port) (r : Reply) : (s.place p r).ens = s.ens := by
  unfold State.place; cases p <;> simp [apply_ite State.ens]
@[simp] theorem State.place_thm (s : State) (p : Port) (r : Reply) : (s.place p r).thm = s.thm := by
  unfold State.place; cases p <;> simp [apply_ite State.thm]
@[simp] theorem State.place_fab (s : State) (p : Port) (r : Reply) : (s.place p r).fab = s.fab := by
  unfold State.place; cases p <;> simp [apply_ite State.fab]
@[simp] theorem State.place_cal (s : State) (p : Port) (r : Reply) : (s.place p r).cal = s.cal := by
  unfold State.place; cases p <;> simp [apply_ite State.cal]
@[simp] theorem State.place_chk (s : State) (p : Port) (r : Reply) : (s.place p r).chk = s.chk := by
  unfold State.place; cases p <;> simp [apply_ite State.chk]
@[simp] theorem State.place_dl (s : State) (p : Port) (r : Reply) : (s.place p r).dl = s.dl := by
  unfold State.place; cases p <;> simp [apply_ite State.dl]
@[simp] theorem State.place_jtag (s : State) (p : Port) (r : Reply) : (s.place p r).jtag = s.jtag := by
  unfold State.place; cases p <;> simp [apply_ite State.jtag]
@[simp] theorem State.place_free (s : State) (p : Port) (r : Reply) : (s.place p r).free = s.free := by
  unfold State.place; cases p <;> simp [apply_ite State.free]
@[simp] theorem State.place_surf (s : State) (p : Port) (r : Reply) (k : Nat) : (s.place p r).surf k = s.surf k := by
  simp only [State.surf, State.place_store]
@[simp] theorem State.placeHeld_pending (n : Nat) (p : Port) (s : State) : (State.placeHeld n p s).pending = s.pending := by
  induction n generalizing s with
  | zero => rfl
  | succ n ih => simp only [State.placeHeld]; (repeat' split) <;> simp [ih]
@[simp] theorem State.placeHeld_clk (n : Nat) (p : Port) (s : State) : (State.placeHeld n p s).clk = s.clk := by
  induction n generalizing s with
  | zero => rfl
  | succ n ih => simp only [State.placeHeld]; (repeat' split) <;> simp [ih]
@[simp] theorem State.placeHeld_mode (n : Nat) (p : Port) (s : State) : (State.placeHeld n p s).mode = s.mode := by
  induction n generalizing s with
  | zero => rfl
  | succ n ih => simp only [State.placeHeld]; (repeat' split) <;> simp [ih]
@[simp] theorem State.placeHeld_pow (n : Nat) (p : Port) (s : State) : (State.placeHeld n p s).pow = s.pow := by
  induction n generalizing s with
  | zero => rfl
  | succ n ih => simp only [State.placeHeld]; (repeat' split) <;> simp [ih]
@[simp] theorem State.placeHeld_rtc (n : Nat) (p : Port) (s : State) : (State.placeHeld n p s).rtc = s.rtc := by
  induction n generalizing s with
  | zero => rfl
  | succ n ih => simp only [State.placeHeld]; (repeat' split) <;> simp [ih]
@[simp] theorem State.placeHeld_store (n : Nat) (p : Port) (s : State) : (State.placeHeld n p s).store = s.store := by
  induction n generalizing s with
  | zero => rfl
  | succ n ih => simp only [State.placeHeld]; (repeat' split) <;> simp [ih]
@[simp] theorem State.placeHeld_bun (n : Nat) (p : Port) (s : State) : (State.placeHeld n p s).bun = s.bun := by
  induction n generalizing s with
  | zero => rfl
  | succ n ih => simp only [State.placeHeld]; (repeat' split) <;> simp [ih]
@[simp] theorem State.placeHeld_mask (n : Nat) (p : Port) (s : State) : (State.placeHeld n p s).mask = s.mask := by
  induction n generalizing s with
  | zero => rfl
  | succ n ih => simp only [State.placeHeld]; (repeat' split) <;> simp [ih]
@[simp] theorem State.placeHeld_tok (n : Nat) (p : Port) (s : State) : (State.placeHeld n p s).tok = s.tok := by
  induction n generalizing s with
  | zero => rfl
  | succ n ih => simp only [State.placeHeld]; (repeat' split) <;> simp [ih]
@[simp] theorem State.placeHeld_scan (n : Nat) (p : Port) (s : State) : (State.placeHeld n p s).scan = s.scan := by
  induction n generalizing s with
  | zero => rfl
  | succ n ih => simp only [State.placeHeld]; (repeat' split) <;> simp [ih]
@[simp] theorem State.placeHeld_fly (n : Nat) (p : Port) (s : State) : (State.placeHeld n p s).fly = s.fly := by
  induction n generalizing s with
  | zero => rfl
  | succ n ih => simp only [State.placeHeld]; (repeat' split) <;> simp [ih]
@[simp] theorem State.placeHeld_eng (n : Nat) (p : Port) (s : State) : (State.placeHeld n p s).eng = s.eng := by
  induction n generalizing s with
  | zero => rfl
  | succ n ih => simp only [State.placeHeld]; (repeat' split) <;> simp [ih]
@[simp] theorem State.placeHeld_gdn (n : Nat) (p : Port) (s : State) : (State.placeHeld n p s).gdn = s.gdn := by
  induction n generalizing s with
  | zero => rfl
  | succ n ih => simp only [State.placeHeld]; (repeat' split) <;> simp [ih]
@[simp] theorem State.placeHeld_ens (n : Nat) (p : Port) (s : State) : (State.placeHeld n p s).ens = s.ens := by
  induction n generalizing s with
  | zero => rfl
  | succ n ih => simp only [State.placeHeld]; (repeat' split) <;> simp [ih]
@[simp] theorem State.placeHeld_thm (n : Nat) (p : Port) (s : State) : (State.placeHeld n p s).thm = s.thm := by
  induction n generalizing s with
  | zero => rfl
  | succ n ih => simp only [State.placeHeld]; (repeat' split) <;> simp [ih]
@[simp] theorem State.placeHeld_fab (n : Nat) (p : Port) (s : State) : (State.placeHeld n p s).fab = s.fab := by
  induction n generalizing s with
  | zero => rfl
  | succ n ih => simp only [State.placeHeld]; (repeat' split) <;> simp [ih]
@[simp] theorem State.placeHeld_cal (n : Nat) (p : Port) (s : State) : (State.placeHeld n p s).cal = s.cal := by
  induction n generalizing s with
  | zero => rfl
  | succ n ih => simp only [State.placeHeld]; (repeat' split) <;> simp [ih]
@[simp] theorem State.placeHeld_chk (n : Nat) (p : Port) (s : State) : (State.placeHeld n p s).chk = s.chk := by
  induction n generalizing s with
  | zero => rfl
  | succ n ih => simp only [State.placeHeld]; (repeat' split) <;> simp [ih]
@[simp] theorem State.placeHeld_dl (n : Nat) (p : Port) (s : State) : (State.placeHeld n p s).dl = s.dl := by
  induction n generalizing s with
  | zero => rfl
  | succ n ih => simp only [State.placeHeld]; (repeat' split) <;> simp [ih]
@[simp] theorem State.placeHeld_jtag (n : Nat) (p : Port) (s : State) : (State.placeHeld n p s).jtag = s.jtag := by
  induction n generalizing s with
  | zero => rfl
  | succ n ih => simp only [State.placeHeld]; (repeat' split) <;> simp [ih]
@[simp] theorem State.placeHeld_free (n : Nat) (p : Port) (s : State) : (State.placeHeld n p s).free = s.free := by
  induction n generalizing s with
  | zero => rfl
  | succ n ih => simp only [State.placeHeld]; (repeat' split) <;> simp [ih]
@[simp] theorem State.placeHeld_surf (n : Nat) (p : Port) (s : State) (k : Nat) : (State.placeHeld n p s).surf k = s.surf k := by
  simp only [State.surf, State.placeHeld_store]
@[simp] theorem State.reply_pending (s : State) (p : Port) (r : Reply) : (s.reply p r).pending = s.pending := by
  simp only [State.reply]; (repeat' split) <;> simp
@[simp] theorem State.reply_clk (s : State) (p : Port) (r : Reply) : (s.reply p r).clk = s.clk := by
  simp only [State.reply]; (repeat' split) <;> simp
@[simp] theorem State.reply_mode (s : State) (p : Port) (r : Reply) : (s.reply p r).mode = s.mode := by
  simp only [State.reply]; (repeat' split) <;> simp
@[simp] theorem State.reply_pow (s : State) (p : Port) (r : Reply) : (s.reply p r).pow = s.pow := by
  simp only [State.reply]; (repeat' split) <;> simp
@[simp] theorem State.reply_rtc (s : State) (p : Port) (r : Reply) : (s.reply p r).rtc = s.rtc := by
  simp only [State.reply]; (repeat' split) <;> simp
@[simp] theorem State.reply_store (s : State) (p : Port) (r : Reply) : (s.reply p r).store = s.store := by
  simp only [State.reply]; (repeat' split) <;> simp
@[simp] theorem State.reply_bun (s : State) (p : Port) (r : Reply) : (s.reply p r).bun = s.bun := by
  simp only [State.reply]; (repeat' split) <;> simp
@[simp] theorem State.reply_mask (s : State) (p : Port) (r : Reply) : (s.reply p r).mask = s.mask := by
  simp only [State.reply]; (repeat' split) <;> simp
@[simp] theorem State.reply_tok (s : State) (p : Port) (r : Reply) : (s.reply p r).tok = s.tok := by
  simp only [State.reply]; (repeat' split) <;> simp
@[simp] theorem State.reply_scan (s : State) (p : Port) (r : Reply) : (s.reply p r).scan = s.scan := by
  simp only [State.reply]; (repeat' split) <;> simp
@[simp] theorem State.reply_fly (s : State) (p : Port) (r : Reply) : (s.reply p r).fly = s.fly := by
  simp only [State.reply]; (repeat' split) <;> simp
@[simp] theorem State.reply_eng (s : State) (p : Port) (r : Reply) : (s.reply p r).eng = s.eng := by
  simp only [State.reply]; (repeat' split) <;> simp
@[simp] theorem State.reply_gdn (s : State) (p : Port) (r : Reply) : (s.reply p r).gdn = s.gdn := by
  simp only [State.reply]; (repeat' split) <;> simp
@[simp] theorem State.reply_ens (s : State) (p : Port) (r : Reply) : (s.reply p r).ens = s.ens := by
  simp only [State.reply]; (repeat' split) <;> simp
@[simp] theorem State.reply_thm (s : State) (p : Port) (r : Reply) : (s.reply p r).thm = s.thm := by
  simp only [State.reply]; (repeat' split) <;> simp
@[simp] theorem State.reply_fab (s : State) (p : Port) (r : Reply) : (s.reply p r).fab = s.fab := by
  simp only [State.reply]; (repeat' split) <;> simp
@[simp] theorem State.reply_cal (s : State) (p : Port) (r : Reply) : (s.reply p r).cal = s.cal := by
  simp only [State.reply]; (repeat' split) <;> simp
@[simp] theorem State.reply_chk (s : State) (p : Port) (r : Reply) : (s.reply p r).chk = s.chk := by
  simp only [State.reply]; (repeat' split) <;> simp
@[simp] theorem State.reply_dl (s : State) (p : Port) (r : Reply) : (s.reply p r).dl = s.dl := by
  simp only [State.reply]; (repeat' split) <;> simp
@[simp] theorem State.reply_jtag (s : State) (p : Port) (r : Reply) : (s.reply p r).jtag = s.jtag := by
  simp only [State.reply]; (repeat' split) <;> simp
@[simp] theorem State.reply_free (s : State) (p : Port) (r : Reply) : (s.reply p r).free = s.free := by
  simp only [State.reply]; (repeat' split) <;> simp
@[simp] theorem State.reply_surf (s : State) (p : Port) (r : Reply) (k : Nat) : (s.reply p r).surf k = s.surf k := by
  simp only [State.surf, State.reply_store]
@[simp] theorem State.answerFill_pending (s : State) (id : ReqId) (status : Nat) (fill : Fill) (data : List Byte) : (s.answerFill id status fill data).pending = s.pending := by
  simp only [State.answerFill]; (repeat' split) <;> simp
@[simp] theorem State.answerFill_clk (s : State) (id : ReqId) (status : Nat) (fill : Fill) (data : List Byte) : (s.answerFill id status fill data).clk = s.clk := by
  simp only [State.answerFill]; (repeat' split) <;> simp
@[simp] theorem State.answerFill_mode (s : State) (id : ReqId) (status : Nat) (fill : Fill) (data : List Byte) : (s.answerFill id status fill data).mode = s.mode := by
  simp only [State.answerFill]; (repeat' split) <;> simp
@[simp] theorem State.answerFill_pow (s : State) (id : ReqId) (status : Nat) (fill : Fill) (data : List Byte) : (s.answerFill id status fill data).pow = s.pow := by
  simp only [State.answerFill]; (repeat' split) <;> simp
@[simp] theorem State.answerFill_rtc (s : State) (id : ReqId) (status : Nat) (fill : Fill) (data : List Byte) : (s.answerFill id status fill data).rtc = s.rtc := by
  simp only [State.answerFill]; (repeat' split) <;> simp
@[simp] theorem State.answerFill_store (s : State) (id : ReqId) (status : Nat) (fill : Fill) (data : List Byte) : (s.answerFill id status fill data).store = s.store := by
  simp only [State.answerFill]; (repeat' split) <;> simp
@[simp] theorem State.answerFill_bun (s : State) (id : ReqId) (status : Nat) (fill : Fill) (data : List Byte) : (s.answerFill id status fill data).bun = s.bun := by
  simp only [State.answerFill]; (repeat' split) <;> simp
@[simp] theorem State.answerFill_mask (s : State) (id : ReqId) (status : Nat) (fill : Fill) (data : List Byte) : (s.answerFill id status fill data).mask = s.mask := by
  simp only [State.answerFill]; (repeat' split) <;> simp
@[simp] theorem State.answerFill_tok (s : State) (id : ReqId) (status : Nat) (fill : Fill) (data : List Byte) : (s.answerFill id status fill data).tok = s.tok := by
  simp only [State.answerFill]; (repeat' split) <;> simp
@[simp] theorem State.answerFill_scan (s : State) (id : ReqId) (status : Nat) (fill : Fill) (data : List Byte) : (s.answerFill id status fill data).scan = s.scan := by
  simp only [State.answerFill]; (repeat' split) <;> simp
@[simp] theorem State.answerFill_fly (s : State) (id : ReqId) (status : Nat) (fill : Fill) (data : List Byte) : (s.answerFill id status fill data).fly = s.fly := by
  simp only [State.answerFill]; (repeat' split) <;> simp
@[simp] theorem State.answerFill_eng (s : State) (id : ReqId) (status : Nat) (fill : Fill) (data : List Byte) : (s.answerFill id status fill data).eng = s.eng := by
  simp only [State.answerFill]; (repeat' split) <;> simp
@[simp] theorem State.answerFill_gdn (s : State) (id : ReqId) (status : Nat) (fill : Fill) (data : List Byte) : (s.answerFill id status fill data).gdn = s.gdn := by
  simp only [State.answerFill]; (repeat' split) <;> simp
@[simp] theorem State.answerFill_ens (s : State) (id : ReqId) (status : Nat) (fill : Fill) (data : List Byte) : (s.answerFill id status fill data).ens = s.ens := by
  simp only [State.answerFill]; (repeat' split) <;> simp
@[simp] theorem State.answerFill_thm (s : State) (id : ReqId) (status : Nat) (fill : Fill) (data : List Byte) : (s.answerFill id status fill data).thm = s.thm := by
  simp only [State.answerFill]; (repeat' split) <;> simp
@[simp] theorem State.answerFill_fab (s : State) (id : ReqId) (status : Nat) (fill : Fill) (data : List Byte) : (s.answerFill id status fill data).fab = s.fab := by
  simp only [State.answerFill]; (repeat' split) <;> simp
@[simp] theorem State.answerFill_cal (s : State) (id : ReqId) (status : Nat) (fill : Fill) (data : List Byte) : (s.answerFill id status fill data).cal = s.cal := by
  simp only [State.answerFill]; (repeat' split) <;> simp
@[simp] theorem State.answerFill_chk (s : State) (id : ReqId) (status : Nat) (fill : Fill) (data : List Byte) : (s.answerFill id status fill data).chk = s.chk := by
  simp only [State.answerFill]; (repeat' split) <;> simp
@[simp] theorem State.answerFill_dl (s : State) (id : ReqId) (status : Nat) (fill : Fill) (data : List Byte) : (s.answerFill id status fill data).dl = s.dl := by
  simp only [State.answerFill]; (repeat' split) <;> simp
@[simp] theorem State.answerFill_jtag (s : State) (id : ReqId) (status : Nat) (fill : Fill) (data : List Byte) : (s.answerFill id status fill data).jtag = s.jtag := by
  simp only [State.answerFill]; (repeat' split) <;> simp
@[simp] theorem State.answerFill_free (s : State) (id : ReqId) (status : Nat) (fill : Fill) (data : List Byte) : (s.answerFill id status fill data).free = s.free := by
  simp only [State.answerFill]; (repeat' split) <;> simp
@[simp] theorem State.answerFill_surf (s : State) (id : ReqId) (status : Nat) (fill : Fill) (data : List Byte) (k : Nat) : (s.answerFill id status fill data).surf k = s.surf k := by
  simp only [State.surf, State.answerFill_store]
@[simp] theorem State.answer_pending (s : State) (id : ReqId) (status : Nat) (data : List Byte) : (s.answer id status data).pending = s.pending := by
  simp only [State.answer]; (repeat' split) <;> simp
@[simp] theorem State.answer_clk (s : State) (id : ReqId) (status : Nat) (data : List Byte) : (s.answer id status data).clk = s.clk := by
  simp only [State.answer]; (repeat' split) <;> simp
@[simp] theorem State.answer_mode (s : State) (id : ReqId) (status : Nat) (data : List Byte) : (s.answer id status data).mode = s.mode := by
  simp only [State.answer]; (repeat' split) <;> simp
@[simp] theorem State.answer_pow (s : State) (id : ReqId) (status : Nat) (data : List Byte) : (s.answer id status data).pow = s.pow := by
  simp only [State.answer]; (repeat' split) <;> simp
@[simp] theorem State.answer_rtc (s : State) (id : ReqId) (status : Nat) (data : List Byte) : (s.answer id status data).rtc = s.rtc := by
  simp only [State.answer]; (repeat' split) <;> simp
@[simp] theorem State.answer_store (s : State) (id : ReqId) (status : Nat) (data : List Byte) : (s.answer id status data).store = s.store := by
  simp only [State.answer]; (repeat' split) <;> simp
@[simp] theorem State.answer_bun (s : State) (id : ReqId) (status : Nat) (data : List Byte) : (s.answer id status data).bun = s.bun := by
  simp only [State.answer]; (repeat' split) <;> simp
@[simp] theorem State.answer_mask (s : State) (id : ReqId) (status : Nat) (data : List Byte) : (s.answer id status data).mask = s.mask := by
  simp only [State.answer]; (repeat' split) <;> simp
@[simp] theorem State.answer_tok (s : State) (id : ReqId) (status : Nat) (data : List Byte) : (s.answer id status data).tok = s.tok := by
  simp only [State.answer]; (repeat' split) <;> simp
@[simp] theorem State.answer_scan (s : State) (id : ReqId) (status : Nat) (data : List Byte) : (s.answer id status data).scan = s.scan := by
  simp only [State.answer]; (repeat' split) <;> simp
@[simp] theorem State.answer_fly (s : State) (id : ReqId) (status : Nat) (data : List Byte) : (s.answer id status data).fly = s.fly := by
  simp only [State.answer]; (repeat' split) <;> simp
@[simp] theorem State.answer_eng (s : State) (id : ReqId) (status : Nat) (data : List Byte) : (s.answer id status data).eng = s.eng := by
  simp only [State.answer]; (repeat' split) <;> simp
@[simp] theorem State.answer_gdn (s : State) (id : ReqId) (status : Nat) (data : List Byte) : (s.answer id status data).gdn = s.gdn := by
  simp only [State.answer]; (repeat' split) <;> simp
@[simp] theorem State.answer_ens (s : State) (id : ReqId) (status : Nat) (data : List Byte) : (s.answer id status data).ens = s.ens := by
  simp only [State.answer]; (repeat' split) <;> simp
@[simp] theorem State.answer_thm (s : State) (id : ReqId) (status : Nat) (data : List Byte) : (s.answer id status data).thm = s.thm := by
  simp only [State.answer]; (repeat' split) <;> simp
@[simp] theorem State.answer_fab (s : State) (id : ReqId) (status : Nat) (data : List Byte) : (s.answer id status data).fab = s.fab := by
  simp only [State.answer]; (repeat' split) <;> simp
@[simp] theorem State.answer_cal (s : State) (id : ReqId) (status : Nat) (data : List Byte) : (s.answer id status data).cal = s.cal := by
  simp only [State.answer]; (repeat' split) <;> simp
@[simp] theorem State.answer_chk (s : State) (id : ReqId) (status : Nat) (data : List Byte) : (s.answer id status data).chk = s.chk := by
  simp only [State.answer]; (repeat' split) <;> simp
@[simp] theorem State.answer_dl (s : State) (id : ReqId) (status : Nat) (data : List Byte) : (s.answer id status data).dl = s.dl := by
  simp only [State.answer]; (repeat' split) <;> simp
@[simp] theorem State.answer_jtag (s : State) (id : ReqId) (status : Nat) (data : List Byte) : (s.answer id status data).jtag = s.jtag := by
  simp only [State.answer]; (repeat' split) <;> simp
@[simp] theorem State.answer_free (s : State) (id : ReqId) (status : Nat) (data : List Byte) : (s.answer id status data).free = s.free := by
  simp only [State.answer]; (repeat' split) <;> simp
@[simp] theorem State.answer_surf (s : State) (id : ReqId) (status : Nat) (data : List Byte) (k : Nat) : (s.answer id status data).surf k = s.surf k := by
  simp only [State.surf, State.answer_store]
@[simp] theorem State.discard_pending (s : State) (p : Port) : (s.discard p).pending = s.pending := by
  simp only [State.discard]; (repeat' split) <;> simp
@[simp] theorem State.discard_clk (s : State) (p : Port) : (s.discard p).clk = s.clk := by
  simp only [State.discard]; (repeat' split) <;> simp
@[simp] theorem State.discard_mode (s : State) (p : Port) : (s.discard p).mode = s.mode := by
  simp only [State.discard]; (repeat' split) <;> simp
@[simp] theorem State.discard_pow (s : State) (p : Port) : (s.discard p).pow = s.pow := by
  simp only [State.discard]; (repeat' split) <;> simp
@[simp] theorem State.discard_rtc (s : State) (p : Port) : (s.discard p).rtc = s.rtc := by
  simp only [State.discard]; (repeat' split) <;> simp
@[simp] theorem State.discard_store (s : State) (p : Port) : (s.discard p).store = s.store := by
  simp only [State.discard]; (repeat' split) <;> simp
@[simp] theorem State.discard_bun (s : State) (p : Port) : (s.discard p).bun = s.bun := by
  simp only [State.discard]; (repeat' split) <;> simp
@[simp] theorem State.discard_mask (s : State) (p : Port) : (s.discard p).mask = s.mask := by
  simp only [State.discard]; (repeat' split) <;> simp
@[simp] theorem State.discard_tok (s : State) (p : Port) : (s.discard p).tok = s.tok := by
  simp only [State.discard]; (repeat' split) <;> simp
@[simp] theorem State.discard_scan (s : State) (p : Port) : (s.discard p).scan = s.scan := by
  simp only [State.discard]; (repeat' split) <;> simp
@[simp] theorem State.discard_fly (s : State) (p : Port) : (s.discard p).fly = s.fly := by
  simp only [State.discard]; (repeat' split) <;> simp
@[simp] theorem State.discard_eng (s : State) (p : Port) : (s.discard p).eng = s.eng := by
  simp only [State.discard]; (repeat' split) <;> simp
@[simp] theorem State.discard_hoist (s : State) (p : Port) : (s.discard p).hoist = s.hoist := by
  simp only [State.discard]; (repeat' split) <;> simp
@[simp] theorem State.discard_gdn (s : State) (p : Port) : (s.discard p).gdn = s.gdn := by
  simp only [State.discard]; (repeat' split) <;> simp
@[simp] theorem State.discard_ens (s : State) (p : Port) : (s.discard p).ens = s.ens := by
  simp only [State.discard]; (repeat' split) <;> simp
@[simp] theorem State.discard_thm (s : State) (p : Port) : (s.discard p).thm = s.thm := by
  simp only [State.discard]; (repeat' split) <;> simp
@[simp] theorem State.discard_fab (s : State) (p : Port) : (s.discard p).fab = s.fab := by
  simp only [State.discard]; (repeat' split) <;> simp
@[simp] theorem State.discard_cal (s : State) (p : Port) : (s.discard p).cal = s.cal := by
  simp only [State.discard]; (repeat' split) <;> simp
@[simp] theorem State.discard_chk (s : State) (p : Port) : (s.discard p).chk = s.chk := by
  simp only [State.discard]; (repeat' split) <;> simp
@[simp] theorem State.discard_dl (s : State) (p : Port) : (s.discard p).dl = s.dl := by
  simp only [State.discard]; (repeat' split) <;> simp
@[simp] theorem State.discard_jtag (s : State) (p : Port) : (s.discard p).jtag = s.jtag := by
  simp only [State.discard]; (repeat' split) <;> simp
@[simp] theorem State.discard_free (s : State) (p : Port) : (s.discard p).free = s.free := by
  simp only [State.discard]; (repeat' split) <;> simp
@[simp] theorem State.discard_surf (s : State) (p : Port) (k : Nat) : (s.discard p).surf k = s.surf k := by
  simp only [State.surf, State.discard_store]

end Sys2Proof.Machine
end

