-- ==== Sys2Proof/Laws/PerInstr.lean ====
section
/-! SUPPORT. The family Retime of per-command statements: the instant of a command is its own operand, and no other check depends on it. -/

namespace Sys2Proof.Laws.Retime

/-- A command moved to another instant happens then, and is well formed where it was. -/
def Statement (i : Instr) : Prop := ∀ u : Nat, (i.retime u).instant = u ∧ (i.retime u).wf = i.wf

theorem nop t p tag flags : Statement (.nop t p tag flags) := fun _ => ⟨rfl, rfl⟩
theorem identify t p tag flags : Statement (.identify t p tag flags) := fun _ => ⟨rfl, rfl⟩
theorem status t p tag flags : Statement (.status t p tag flags) := fun _ => ⟨rfl, rfl⟩
theorem portStatus t p tag flags port : Statement (.portStatus t p tag flags port) := fun _ => ⟨rfl, rfl⟩
theorem regRead t p tag flags addr count : Statement (.regRead t p tag flags addr count) := fun _ => ⟨rfl, rfl⟩
theorem regWrite t p tag flags addr values : Statement (.regWrite t p tag flags addr values) := fun _ => ⟨rfl, rfl⟩
theorem regModify t p tag flags addr mask value : Statement (.regModify t p tag flags addr mask value) := fun _ => ⟨rfl, rfl⟩
theorem commit t p tag flags groups : Statement (.commit t p tag flags groups) := fun _ => ⟨rfl, rfl⟩
theorem modeSet t p tag flags target : Statement (.modeSet t p tag flags target) := fun _ => ⟨rfl, rfl⟩
theorem timebaseSelect t p tag flags source : Statement (.timebaseSelect t p tag flags source) := fun _ => ⟨rfl, rfl⟩
theorem safeRequest t p tag flags target reason : Statement (.safeRequest t p tag flags target reason) := fun _ => ⟨rfl, rfl⟩
theorem surfaceDefine t p tag flags surf format base width height stride : Statement (.surfaceDefine t p tag flags surf format base width height stride) := fun _ => ⟨rfl, rfl⟩
theorem surfaceDelete t p tag flags surf : Statement (.surfaceDelete t p tag flags surf) := fun _ => ⟨rfl, rfl⟩
theorem leaseTake t p tag flags surf crc : Statement (.leaseTake t p tag flags surf crc) := fun _ => ⟨rfl, rfl⟩
theorem leaseRelease t p tag flags surf : Statement (.leaseRelease t p tag flags surf) := fun _ => ⟨rfl, rfl⟩
theorem objlist t p tag flags listseq frag last data : Statement (.objlist t p tag flags listseq frag last data) := fun _ => ⟨rfl, rfl⟩
theorem ceilingLoad t p tag flags surf crc : Statement (.ceilingLoad t p tag flags surf crc) := fun _ => ⟨rfl, rfl⟩
theorem frameStatus t p tag flags : Statement (.frameStatus t p tag flags) := fun _ => ⟨rfl, rfl⟩
theorem dtimeRead t p tag flags : Statement (.dtimeRead t p tag flags) := fun _ => ⟨rfl, rfl⟩
theorem engineInfo t p tag flags : Statement (.engineInfo t p tag flags) := fun _ => ⟨rfl, rfl⟩
theorem engineNvRead t p tag flags seg count addr : Statement (.engineNvRead t p tag flags seg count addr) := fun _ => ⟨rfl, rfl⟩
theorem engineNvWrite t p tag flags seg addr data : Statement (.engineNvWrite t p tag flags seg addr data) := fun _ => ⟨rfl, rfl⟩
theorem keepaliveWrite t p tag flags seg surf crc : Statement (.keepaliveWrite t p tag flags seg surf crc) := fun _ => ⟨rfl, rfl⟩
theorem pixelCensus t p tag flags segmask : Statement (.pixelCensus t p tag flags segmask) := fun _ => ⟨rfl, rfl⟩
theorem lifeRead t p tag flags : Statement (.lifeRead t p tag flags) := fun _ => ⟨rfl, rfl⟩
theorem thermalMeasure t p tag flags chanmask : Statement (.thermalMeasure t p tag flags chanmask) := fun _ => ⟨rfl, rfl⟩
theorem calRun t p tag flags itemmask burn : Statement (.calRun t p tag flags itemmask burn) := fun _ => ⟨rfl, rfl⟩
theorem calRead t p tag flags record : Statement (.calRead t p tag flags record) := fun _ => ⟨rfl, rfl⟩
theorem evtRead t p tag flags count : Statement (.evtRead t p tag flags count) := fun _ => ⟨rfl, rfl⟩
theorem faultAck t p tag flags block code : Statement (.faultAck t p tag flags block code) := fun _ => ⟨rfl, rfl⟩
theorem evtReset t p tag flags : Statement (.evtReset t p tag flags) := fun _ => ⟨rfl, rfl⟩
theorem laneTest t p tag flags lanemask pattern inject duration : Statement (.laneTest t p tag flags lanemask pattern inject duration) := fun _ => ⟨rfl, rfl⟩
theorem safetyTest t p tag flags test : Statement (.safetyTest t p tag flags test) := fun _ => ⟨rfl, rfl⟩
theorem reset t p tag flags key : Statement (.reset t p tag flags key) := fun _ => ⟨rfl, rfl⟩
theorem put t p bytes : Statement (.put t p bytes) := fun _ => ⟨rfl, rfl⟩
theorem get t p n : Statement (.get t p n) := fun _ => ⟨rfl, rfl⟩
theorem stat t p : Statement (.stat t p) := fun _ => ⟨rfl, rfl⟩
theorem resync t p bytes : Statement (.resync t p bytes) := fun _ => ⟨rfl, rfl⟩
theorem registerWrite t p addr value : Statement (.registerWrite t p addr value) := fun _ => ⟨rfl, rfl⟩
theorem rcRead t p addr : Statement (.rcRead t p addr) := fun _ => ⟨rfl, rfl⟩
theorem framecntlRead t p which : Statement (.framecntlRead t p which) := fun _ => ⟨rfl, rfl⟩
theorem evtWindowRead t p : Statement (.evtWindowRead t p) := fun _ => ⟨rfl, rfl⟩
theorem rel t : Statement (.rel t) := fun _ => ⟨rfl, rfl⟩
theorem pathctlStart t deltaMa : Statement (.pathctlStart t deltaMa) := fun _ => ⟨rfl, rfl⟩
theorem pathMeasureDone t deltaUv deltaMa : Statement (.pathMeasureDone t deltaUv deltaMa) := fun _ => ⟨rfl, rfl⟩
theorem crcInjArm t unit : Statement (.crcInjArm t unit) := fun _ => ⟨rfl, rfl⟩
theorem rtcLoad t : Statement (.rtcLoad t) := fun _ => ⟨rfl, rfl⟩
theorem alarmhWrite t value : Statement (.alarmhWrite t value) := fun _ => ⟨rfl, rfl⟩
theorem refillWrite t value : Statement (.refillWrite t value) := fun _ => ⟨rfl, rfl⟩
theorem pcdivmaxWrite t value : Statement (.pcdivmaxWrite t value) := fun _ => ⟨rfl, rfl⟩
theorem vid t h surf offset data : Statement (.vid t h surf offset data) := fun _ => ⟨rfl, rfl⟩
theorem vidStoreEntry t : Statement (.vidStoreEntry t) := fun _ => ⟨rfl, rfl⟩
theorem vidWriteDone t : Statement (.vidWriteDone t) := fun _ => ⟨rfl, rfl⟩
theorem obj t h listseq frag last data : Statement (.obj t h listseq frag last data) := fun _ => ⟨rfl, rfl⟩
theorem cmd t h packet : Statement (.cmd t h packet) := fun _ => ⟨rfl, rfl⟩
theorem time t h t1 token : Statement (.time t h t1 token) := fun _ => ⟨rfl, rfl⟩
theorem hcredit t h ack0 ack1 ack2 replyAdv timeAdv : Statement (.hcredit t h ack0 ack1 ack2 replyAdv timeAdv) := fun _ => ⟨rfl, rfl⟩
theorem restartreq t h : Statement (.restartreq t h) := fun _ => ⟨rfl, rfl⟩
theorem fecGroup t lane errors heard : Statement (.fecGroup t lane errors heard) := fun _ => ⟨rfl, rfl⟩
theorem creditTimer t : Statement (.creditTimer t) := fun _ => ⟨rfl, rfl⟩
theorem creditAudit t : Statement (.creditAudit t) := fun _ => ⟨rfl, rfl⟩
theorem hoistLinkdown t lane : Statement (.hoistLinkdown t lane) := fun _ => ⟨rfl, rfl⟩
theorem capabilityRecord t record : Statement (.capabilityRecord t record) := fun _ => ⟨rfl, rfl⟩
theorem hoistTrain t lane m : Statement (.hoistTrain t lane m) := fun _ => ⟨rfl, rfl⟩
theorem hoistTrainingTimeout t : Statement (.hoistTrainingTimeout t) := fun _ => ⟨rfl, rfl⟩
theorem flipInstant t : Statement (.flipInstant t) := fun _ => ⟨rfl, rfl⟩
theorem compositionDeadline t : Statement (.compositionDeadline t) := fun _ => ⟨rfl, rfl⟩
theorem tileDone t worker : Statement (.tileDone t worker) := fun _ => ⟨rfl, rfl⟩
theorem workerHung t worker : Statement (.workerHung t worker) := fun _ => ⟨rfl, rfl⟩
theorem scanAnchor t : Statement (.scanAnchor t) := fun _ => ⟨rfl, rfl⟩
theorem passStart t : Statement (.passStart t) := fun _ => ⟨rfl, rfl⟩
theorem passLatch t : Statement (.passLatch t) := fun _ => ⟨rfl, rfl⟩
theorem tableRenderDone t which : Statement (.tableRenderDone t which) := fun _ => ⟨rfl, rfl⟩
theorem maskTableDeadline t : Statement (.maskTableDeadline t) := fun _ => ⟨rfl, rfl⟩
theorem midPassCompare t : Statement (.midPassCompare t) := fun _ => ⟨rfl, rfl⟩
theorem tokenLatch t : Statement (.tokenLatch t) := fun _ => ⟨rfl, rfl⟩
theorem readUnderrun t lane line pixel : Statement (.readUnderrun t lane line pixel) := fun _ => ⟨rfl, rfl⟩
theorem echoDeadline t : Statement (.echoDeadline t) := fun _ => ⟨rfl, rfl⟩
theorem echoLostTimeout t lane : Statement (.echoLostTimeout t lane) := fun _ => ⟨rfl, rfl⟩
theorem retrainAnchor t : Statement (.retrainAnchor t) := fun _ => ⟨rfl, rfl⟩
theorem retrainTimeout t : Statement (.retrainTimeout t) := fun _ => ⟨rfl, rfl⟩
theorem storeAccess t reqs ecc : Statement (.storeAccess t reqs ecc) := fun _ => ⟨rfl, rfl⟩
theorem bistRegionStart t : Statement (.bistRegionStart t) := fun _ => ⟨rfl, rfl⟩
theorem bistRegionDone t mismatch rerunFails : Statement (.bistRegionDone t mismatch rerunFails) := fun _ => ⟨rfl, rfl⟩
theorem leaseCheckDone t : Statement (.leaseCheckDone t) := fun _ => ⟨rfl, rfl⟩
theorem ceilingLoadDone t : Statement (.ceilingLoadDone t) := fun _ => ⟨rfl, rfl⟩
theorem ceilingCrcCheck t : Statement (.ceilingCrcCheck t) := fun _ => ⟨rfl, rfl⟩
theorem powerPlausibility t : Statement (.powerPlausibility t) := fun _ => ⟨rfl, rfl⟩
theorem drainTimeout t : Statement (.drainTimeout t) := fun _ => ⟨rfl, rfl⟩
theorem vbatPowerOn t : Statement (.vbatPowerOn t) := fun _ => ⟨rfl, rfl⟩
theorem vbatOff t : Statement (.vbatOff t) := fun _ => ⟨rfl, rfl⟩
theorem wakeNLow t : Statement (.wakeNLow t) := fun _ => ⟨rfl, rfl⟩
theorem hrx0Edge t : Statement (.hrx0Edge t) := fun _ => ⟨rfl, rfl⟩
theorem rtcTick t : Statement (.rtcTick t) := fun _ => ⟨rfl, rfl⟩
theorem railsGood t : Statement (.railsGood t) := fun _ => ⟨rfl, rfl⟩
theorem railsTimeout t : Statement (.railsTimeout t) := fun _ => ⟨rfl, rfl⟩
theorem logicResetRelease t straps : Statement (.logicResetRelease t straps) := fun _ => ⟨rfl, rfl⟩
theorem storeClearDone t : Statement (.storeClearDone t) := fun _ => ⟨rfl, rfl⟩
theorem patchCheckDone t lead sigs firmware config : Statement (.patchCheckDone t lead sigs firmware config) := fun _ => ⟨rfl, rfl⟩
theorem laneUpTimeout t lane : Statement (.laneUpTimeout t lane) := fun _ => ⟨rfl, rfl⟩
theorem xtalGood t : Statement (.xtalGood t) := fun _ => ⟨rfl, rfl⟩
theorem xtalLoss t : Statement (.xtalLoss t) := fun _ => ⟨rfl, rfl⟩
theorem modeTransitionDone t : Statement (.modeTransitionDone t) := fun _ => ⟨rfl, rfl⟩
theorem sleepPmicRelease t : Statement (.sleepPmicRelease t) := fun _ => ⟨rfl, rfl⟩
theorem sleepComplete t : Statement (.sleepComplete t) := fun _ => ⟨rfl, rfl⟩
theorem brownout t rail : Statement (.brownout t rail) := fun _ => ⟨rfl, rfl⟩
theorem vcoreWindow t vcore : Statement (.vcoreWindow t vcore) := fun _ => ⟨rfl, rfl⟩
theorem supplyThreshold t cond enters level : Statement (.supplyThreshold t cond enters level) := fun _ => ⟨rfl, rfl⟩
theorem sagInhibitEnd t : Statement (.sagInhibitEnd t) := fun _ => ⟨rfl, rfl⟩
theorem graceTimerExpiry t cls : Statement (.graceTimerExpiry t cls) := fun _ => ⟨rfl, rfl⟩
theorem ensignGraceExpiry t power : Statement (.ensignGraceExpiry t power) := fun _ => ⟨rfl, rfl⟩
theorem heartbeatSend t : Statement (.heartbeatSend t) := fun _ => ⟨rfl, rfl⟩
theorem heartbeat t seq answer test linkOk : Statement (.heartbeat t seq answer test linkOk) := fun _ => ⟨rfl, rfl⟩
theorem heartbeatWindowClose t : Statement (.heartbeatWindowClose t) := fun _ => ⟨rfl, rfl⟩
theorem ensignStatusSend t : Statement (.ensignStatusSend t) := fun _ => ⟨rfl, rfl⟩
theorem ensignStatus t : Statement (.ensignStatus t) := fun _ => ⟨rfl, rfl⟩
theorem ensignSilent t : Statement (.ensignSilent t) := fun _ => ⟨rfl, rfl⟩
theorem escalate t : Statement (.escalate t) := fun _ => ⟨rfl, rfl⟩
theorem request t : Statement (.request t) := fun _ => ⟨rfl, rfl⟩
theorem regaddr t : Statement (.regaddr t) := fun _ => ⟨rfl, rfl⟩
theorem regdata t : Statement (.regdata t) := fun _ => ⟨rfl, rfl⟩
theorem regresp t : Statement (.regresp t) := fun _ => ⟨rfl, rfl⟩
theorem timemarkSend t : Statement (.timemarkSend t) := fun _ => ⟨rfl, rfl⟩
theorem timemark t : Statement (.timemark t) := fun _ => ⟨rfl, rfl⟩
theorem timehigh t : Statement (.timehigh t) := fun _ => ⟨rfl, rfl⟩
theorem ack t msg tag : Statement (.ack t msg tag) := fun _ => ⟨rfl, rfl⟩
theorem meas t ma mv : Statement (.meas t ma mv) := fun _ => ⟨rfl, rfl⟩
theorem event t : Statement (.event t) := fun _ => ⟨rfl, rfl⟩
theorem drops t : Statement (.drops t) := fun _ => ⟨rfl, rfl⟩
theorem dieLinkResend t msg : Statement (.dieLinkResend t msg) := fun _ => ⟨rfl, rfl⟩
theorem oscCheck t deviationPermille : Statement (.oscCheck t deviationPermille) := fun _ => ⟨rfl, rfl⟩
theorem oscStartTimeout t : Statement (.oscStartTimeout t) := fun _ => ⟨rfl, rfl⟩
theorem rtcOscOk t : Statement (.rtcOscOk t) := fun _ => ⟨rfl, rfl⟩
theorem rtcOscStop t : Statement (.rtcOscStop t) := fun _ => ⟨rfl, rfl⟩
theorem darkDemand t : Statement (.darkDemand t) := fun _ => ⟨rfl, rfl⟩
theorem darkDemandEnd t : Statement (.darkDemandEnd t) := fun _ => ⟨rfl, rfl⟩
theorem housingOpen t : Statement (.housingOpen t) := fun _ => ⟨rfl, rfl⟩
theorem housingClosed t : Statement (.housingClosed t) := fun _ => ⟨rfl, rfl⟩
theorem serviceEnableArm t : Statement (.serviceEnableArm t) := fun _ => ⟨rfl, rfl⟩
theorem serviceEnableDisarm t : Statement (.serviceEnableDisarm t) := fun _ => ⟨rfl, rfl⟩
theorem nearFieldInterruption t ch : Statement (.nearFieldInterruption t ch) := fun _ => ⟨rfl, rfl⟩
theorem nearFieldRelease t : Statement (.nearFieldRelease t) := fun _ => ⟨rfl, rfl⟩
theorem nfTestPulseTimeout t ch : Statement (.nfTestPulseTimeout t ch) := fun _ => ⟨rfl, rfl⟩
theorem inputDiscrepancy t pair : Statement (.inputDiscrepancy t pair) := fun _ => ⟨rfl, rfl⟩
theorem engineOvercurrent t fast : Statement (.engineOvercurrent t fast) := fun _ => ⟨rfl, rfl⟩
theorem switchMonitorFault t monitor : Statement (.switchMonitorFault t monitor) := fun _ => ⟨rfl, rfl⟩
theorem switchTestDone t m : Statement (.switchTestDone t m) := fun _ => ⟨rfl, rfl⟩
theorem safetyTestOverrideEnd t : Statement (.safetyTestOverrideEnd t) := fun _ => ⟨rfl, rfl⟩
theorem marker t lane : Statement (.marker t lane) := fun _ => ⟨rfl, rfl⟩
theorem fstartFill t lane : Statement (.fstartFill t lane) := fun _ => ⟨rfl, rfl⟩
theorem echoMessage t lane fseq nsub crc : Statement (.echoMessage t lane fseq nsub crc) := fun _ => ⟨rfl, rfl⟩
theorem substMessage t lane fseq line cause : Statement (.substMessage t lane fseq line cause) := fun _ => ⟨rfl, rfl⟩
theorem markack t lane mseq residPs elapsedPs : Statement (.markack t lane mseq residPs elapsedPs) := fun _ => ⟨rfl, rfl⟩
theorem trainMessage t lane m : Statement (.trainMessage t lane m) := fun _ => ⟨rfl, rfl⟩
theorem flyTrainingTimeout t lane : Statement (.flyTrainingTimeout t lane) := fun _ => ⟨rfl, rfl⟩
theorem nvdata t lane seq data : Statement (.nvdata t lane seq data) := fun _ => ⟨rfl, rfl⟩
theorem nvend t lane tag status crc : Statement (.nvend t lane tag status crc) := fun _ => ⟨rfl, rfl⟩
theorem statusMessage t lane flags mslip inverted : Statement (.statusMessage t lane flags mslip inverted) := fun _ => ⟨rfl, rfl⟩
theorem prbscnt t lane errors blocks : Statement (.prbscnt t lane errors blocks) := fun _ => ⟨rfl, rfl⟩
theorem ctrlack t lane tag status data : Statement (.ctrlack t lane tag status data) := fun _ => ⟨rfl, rfl⟩
theorem backchannelDiscard t frame : Statement (.backchannelDiscard t frame) := fun _ => ⟨rfl, rfl⟩
theorem ctrlTimeout t lane tag : Statement (.ctrlTimeout t lane tag) := fun _ => ⟨rfl, rfl⟩
theorem laneTestEnd t : Statement (.laneTestEnd t) := fun _ => ⟨rfl, rfl⟩
theorem conversionDone t raw temp : Statement (.conversionDone t raw temp) := fun _ => ⟨rfl, rfl⟩
theorem conversionTimeout t : Statement (.conversionTimeout t) := fun _ => ⟨rfl, rfl⟩
theorem thermalPolicyTick t guidon : Statement (.thermalPolicyTick t guidon) := fun _ => ⟨rfl, rfl⟩
theorem enfGraceExpiry t : Statement (.enfGraceExpiry t) := fun _ => ⟨rfl, rfl⟩
theorem enfRelax t : Statement (.enfRelax t) := fun _ => ⟨rfl, rfl⟩
theorem tjSecond t : Statement (.tjSecond t) := fun _ => ⟨rfl, rfl⟩
theorem guidonThermalOverride t : Statement (.guidonThermalOverride t) := fun _ => ⟨rfl, rfl⟩
theorem marginDecrease t : Statement (.marginDecrease t) := fun _ => ⟨rfl, rfl⟩
theorem canaryMeasure t cycles : Statement (.canaryMeasure t cycles) := fun _ => ⟨rfl, rfl⟩
theorem vreqStep t : Statement (.vreqStep t) := fun _ => ⟨rfl, rfl⟩
theorem fircMeasure t error : Statement (.fircMeasure t error) := fun _ => ⟨rfl, rfl⟩
theorem fuseRowDone t : Statement (.fuseRowDone t) := fun _ => ⟨rfl, rfl⟩
theorem lifeTick t : Statement (.lifeTick t) := fun _ => ⟨rfl, rfl⟩
theorem lifeRecordDue t : Statement (.lifeRecordDue t) := fun _ => ⟨rfl, rfl⟩
theorem eventQueueExit t : Statement (.eventQueueExit t) := fun _ => ⟨rfl, rfl⟩
theorem bucketRefill t code : Statement (.bucketRefill t code) := fun _ => ⟨rfl, rfl⟩
theorem jtagUpdateIr t code : Statement (.jtagUpdateIr t code) := fun _ => ⟨rfl, rfl⟩
theorem tmodeHigh t : Statement (.tmodeHigh t) := fun _ => ⟨rfl, rfl⟩
theorem safetyInputChange t input level : Statement (.safetyInputChange t input level) := fun _ => ⟨rfl, rfl⟩
theorem dieLinkFrameDiscard t dir seq : Statement (.dieLinkFrameDiscard t dir seq) := fun _ => ⟨rfl, rfl⟩
theorem hoistTimeStale t : Statement (.hoistTimeStale t) := fun _ => ⟨rfl, rfl⟩
theorem halFwStall t : Statement (.halFwStall t) := fun _ => ⟨rfl, rfl⟩
theorem halFwTrap t : Statement (.halFwTrap t) := fun _ => ⟨rfl, rfl⟩
theorem gdnRomCheck t ok : Statement (.gdnRomCheck t ok) := fun _ => ⟨rfl, rfl⟩
theorem limpBaseLayerPass t : Statement (.limpBaseLayerPass t) := fun _ => ⟨rfl, rfl⟩
theorem prbscntTimeout t : Statement (.prbscntTimeout t) := fun _ => ⟨rfl, rfl⟩
theorem pmicRetry t : Statement (.pmicRetry t) := fun _ => ⟨rfl, rfl⟩
theorem wakeNHigh t : Statement (.wakeNHigh t) := fun _ => ⟨rfl, rfl⟩
theorem kaselPairMismatch t goff : Statement (.kaselPairMismatch t goff) := fun _ => ⟨rfl, rfl⟩

end Sys2Proof.Laws.Retime
end

