-- ==== Sys2Proof/Laws/Starts.lean ====
section
/-! SUPPORT. What a row of the table answers, and when a command packet starts at once. -/

namespace Sys2Proof.Machine

theorem occur_eq (t : Nat) (f : State → State) (s : State) : occur t f s = .next (f (s.advance t)).finish := rfl

theorem opKnown_cmdOp (c : Cmd) : opKnown (cmdOp c) = true := by cases c <;> rfl

theorem cmdOp_byte (c : Cmd) : cmdOp c % 256 = cmdOp c := by cases c <;> rfl

/-- A packet that Table 2.7 admits, and before which nothing waits, starts at its arrival. -/
theorem State.command_takes {s : State} {p : Port} {tag flags : Byte} {c : Cmd} (h : s.Takes p tag flags c) :
    s.command p tag flags c = (s.started p tag (cmdOp c)).run { port := p, tag := tag } c := by
  obtain ⟨ho, hs, hf, har, hl, ht, hfl, hp, hm, hw, hh, hj, hfe, hb⟩ := h
  have hr0 : s.mode.restart = none := by
    rw [State.portShut, Bool.or_eq_false_iff] at hs; simpa using hs.2
  have hl' : ¬ 32 ≤ (s.port p).tags.length := by omega
  have hadm : (s.counted p).admission p (BitVec.ofNat 8 (cmdOp c)) tag flags (some c) = none := by
    simp [State.admission, State.counted, hl', ht, hfl, hp, hm, opKnown_cmdOp, cmdOp_byte]
  have hst : ((s.counted p).admitOn p (BitVec.ofNat 8 (cmdOp c)) tag flags c).nextOn p
      = some ((s.started p tag (cmdOp c)).startCmd p { tag := tag, fence := flags.getLsbD 0, cmd := c }) := by
    simp [State.nextOn, State.admitOn, State.counted, State.mayStart, PortState.immHeld, hw, hh, hj, hr0, State.started]
    intro hf0
    rcases hfe with h | h
    · simp_all
    · exact h
  have hr : ∀ op, (s.started p tag (cmdOp c)).running op { port := p, tag := tag } = s.running op { port := p, tag := tag } := by
    intro op
    have ho : ∀ (z : State) (q : Port) (x : PortState), q ≠ p → (z.setPort p x).port q = z.port q := fun z q x h => State.setPort_port_other z p q x h
    cases p <;> simp [State.running, State.started, PortState.replyHeld, ho]
  have hrun : (s.started p tag (cmdOp c)).startCmd p { tag := tag, fence := flags.getLsbD 0, cmd := c }
      = (s.started p tag (cmdOp c)).run { port := p, tag := tag } c := by
    have hm' : cmdModeOk c (s.started p tag (cmdOp c)).mode.cur = true := by simpa [State.started] using hm
    simp only [State.startCmd, hm', hr]
    rcases hb with h | h | h <;> simp [h]
  simp only [State.command, ho, hs, hf, har, State.accept, hadm, hst]
  simpa using hrun

end Sys2Proof.Machine
end

