-- ==== Sys2Proof/Tests/Slice0.lean ====
section
/-! SUPPORT. Tests: ill-formed commands refused, values that the spec works out, a few single steps, and for every statement with hypotheses
a state and operands that meet them, clause by clause (`test_witness_<statement>`). -/

namespace Sys2Proof.Tests

open Sys2Proof Sys2Proof.Machine

set_option Elab.async false

/-! ### Ill-formed commands are refused, one for each check -/

def smokeHead : HoistHead := { epoch := 0, cseq := 0, hcrc := 0, bcrc := 0 }
def smokeHTrain : HoistTrainMsg :=
  { phase := 1, count := 0, rseq := 0, pre := 0, main := 0, post := 0, tapStatus := 0, flags := 0, hreq := 0, hrseq := 0,
    ready := true }

theorem test_wf_regWrite : (Instr.regWrite 0 .cspi 0 0 0 (List.replicate 255 0)).wf = false := by decide +kernel
theorem test_wf_regWrite_ok : (Instr.regWrite 0 .cspi 0 0 0 (List.replicate 254 0)).wf = true := by decide +kernel
theorem test_wf_objlist : (Instr.objlist 0 .cspi 0 0 0 0 0 (List.replicate 1021 0)).wf = false := by decide +kernel
theorem test_wf_engineNvWrite : (Instr.engineNvWrite 0 .cspi 0 0 0 0 (List.replicate 1017 0)).wf = false := by decide +kernel
theorem test_wf_put : (Instr.put 0 .cspi []).wf = false := by decide +kernel
theorem test_wf_get : (Instr.get 0 .cspi 0).wf = false := by decide +kernel
theorem test_wf_vid (d : List Byte) (h : 65536 ≤ d.length) : (Instr.vid 0 smokeHead 0 0 d).wf = false :=
  decide_eq_false (by omega)
theorem test_wf_obj (d : List Byte) (h : 65532 ≤ d.length) : (Instr.obj 0 smokeHead 0 0 0 d).wf = false :=
  decide_eq_false (by omega)
theorem test_wf_cmd (d : List Byte) (h : 65536 ≤ d.length) : (Instr.cmd 0 smokeHead d).wf = false :=
  decide_eq_false (by omega)
def smokeGroup : GroupHeard := { headers := List.replicate 30 0, lens := List.replicate 30 0, laneId := 0, mseq := 0 }
theorem test_wf_fecGroup : (Instr.fecGroup 0 0 545 smokeGroup).wf = false ∧
    (Instr.fecGroup 0 0 544 { smokeGroup with headers := List.replicate 29 1 }).wf = false ∧
    (Instr.fecGroup 0 0 544 { smokeGroup with lens := List.replicate 29 1 }).wf = false ∧ (Instr.fecGroup 0 0 544 smokeGroup).wf = true := by decide +kernel
/-- 0x01, 0x02 and 0x03 begin PUT, GET and STAT (R92). -/
theorem test_wf_resync : [0, 1, 2, 3, 4].map (fun b => (Instr.resync 0 .cspi [b]).wf) = [true, false, false, false, true] := by decide +kernel
theorem test_wf_hoistTrain : (Instr.hoistTrain 0 0 { smokeHTrain with phase := 16 }).wf = false := by decide +kernel
theorem test_wf_storeAccess :
    (Instr.storeAccess 0 [] [(3, .corrected), (3, .uncorrectable)]).wf = false := by decide +kernel
theorem test_wf_patchCheckDone (d : List Byte) (h : 262145 ≤ d.length) : (Instr.patchCheckDone 0 [] [] d []).wf = false :=
  decide_eq_false (by omega)
theorem test_wf_supplyThreshold : (Instr.supplyThreshold 0 .vbatSag true 65536).wf = false := by decide +kernel
theorem test_wf_markack : (Instr.markack 0 0 0 32768 0).wf = false := by decide +kernel
theorem test_wf_trainMessage :
    (Instr.trainMessage 0 0 { phase := 256, ahi := 0, alo := 0, flags := 0, rseq := 0, req := 0 }).wf = false := by decide +kernel
theorem test_wf_nvdata : (Instr.nvdata 0 0 0 (List.replicate 6 0)).wf = false := by decide +kernel

/-! ### Values the spec works out -/

/-- R26's example: frame 0x0003 is later than frame 0xFFFE. -/
theorem test_serial : later 16 0x0003 0xFFFE = true ∧ later 16 0xFFFE 0x0003 = false ∧ later 16 0x8000 0 = false := by decide +kernel
/-- Chapter 2: the COMMIT of tag 0x21 with GROUPMASK 1 is 5C 18 21 00 04 00 01 00 00 00, then four bytes. -/
theorem test_commit_packet : (commandPacket 7 0x21 0 (.commit 1)).take 10 = [0x5C, 0x18, 0x21, 0, 4, 0, 1, 0, 0, 0] ∧
    (commandPacket 7 0x21 0 (.commit 1)).length = 14 := by decide +kernel
/-- Chapter 3: 128 tiles of ATC-CA16 take 1,032 words; uncompressed 1,024. -/
theorem test_footprint : footWords 0x13 256 128 0 = 1032 ∧ footWords 3 256 128 1024 = 1024 := by decide +kernel
/-- Chapter 4: cubic coefficients at phase 16, and the horizontal result of layer 0. -/
theorem test_cubic : filterTaps 2 16 = [(-1, -72), (0, 888), (1, 232), (2, -24)] ∧
    filterSum (filterTaps 2 16) 500 1023 (fun c => 20000 + 400 * (c - 499)) = 20500 := by decide +kernel
theorem test_tap_position : tapOf (srcPos 1001 32768) = 500 ∧ phaseOf (srcPos 1001 32768) = 16 ∧
    tapOf (srcPos 300 32768) = 149 ∧ phaseOf (srcPos 300 32768) = 48 := by decide +kernel
/-- Table 5.7. -/
theorem test_ceiling : [255, 239, 223, 127, 15, 0].map ceilCap = [65535, 32768, 16384, 256, 2, 0] := by decide +kernel
/-- Chapter 5: the token example, before and after throttling. -/
theorem test_tokens_full : allocate (List.replicate 16 64) [40, 40, 40, 140, 100, 40, 40, 40, 40, 40, 40, 120, 90, 40, 40, 40] =
    ([40, 40, 40, 140, 100, 40, 40, 40, 40, 40, 40, 120, 90, 40, 40, 40], 94) := by decide +kernel
theorem test_tokens_short : allocate (List.replicate 16 64) [60, 60, 60, 210, 150, 60, 60, 60, 60, 60, 60, 180, 135, 60, 60, 60] =
    ([60, 60, 60, 81, 74, 60, 60, 60, 60, 60, 60, 77, 72, 60, 60, 60], 0) := by decide +kernel
theorem test_scale : scaleOf 16000 81 210 (210 * 15625000000) = 25278 ∧ scaleOf 16000 74 150 (150 * 15625000000) = 32331 ∧
    scaleOf 16000 77 180 (180 * 15625000000) = 28034 := by decide +kernel
/-- Chapter 5: the angles and the zone of the oncoming car, class 0. -/
def smokeCar : Object := { x0 := -3400, x1 := -3000, y0 := -250, y1 := 50, vx := -150, vy := 0, capofs := 0, cls := 0, margin := 5, objid := 0 }
def smokeMask : MaskCfg := State.reset.maskCfg 0
theorem test_zone_angles : zoneAngles smokeMask 340000 smokeCar 3125000 4166667 = (-3556, -2854, -350, 400) := by decide +kernel
theorem test_zone : zoneOf smokeMask 340000 smokeCar 3125000 4166667 = some { c0 := 841, c1 := 877, r0 := 235, r1 := 273, cap := 0 } := by
  decide +kernel
theorem test_guidon_cells : coarseCell [{ c0 := 841, c1 := 877, r0 := 235, r1 := 273, cap := 0 }] 105 29 = 0 ∧
    coarseCell [{ c0 := 841, c1 := 877, r0 := 235, r1 := 273, cap := 0 }] 104 29 = 255 := by decide +kernel
/-- Pass starts at 960 Hz (chapter 5). -/
theorem test_pass_times : [1, 2, 3, 4].map (passTime 0 960) = [1041667, 2083333, 3125000, 4166667] := by decide +kernel
/-- Chapter 7: OFS of lanes 3 and 11. -/
theorem test_fstart_ofs : fstartOfs 2990000 1848 = 11953 ∧ fstartOfs 2947500 4180 = 11773 := by decide +kernel
/-- Chapter 0: header 0x2D is the levels -1, +1, +3, -3, which are 1, 2, 3 and 0 in ascending order. -/
theorem test_levels : fullLevels (bitsOfBytes [0x2D]) = [1, 2, 3, 0] := by decide +kernel
/-- Chapter 9: 1,024 VID bytes cost two credits, 4,096 eight; 1 byte costs one. -/
theorem test_vid_cost : vidCost 1024 = 2 ∧ vidCost 4096 = 8 ∧ vidCost 1 = 1 := by decide +kernel
/-- Chapter 18: the shadow view of BUN.LAYER[12].SRCWH, and the reserved word after it. -/
theorem test_layer_address : addrPlain 0x8304C2 = layerAddr 12 + 2 ∧ (regInfo 0x304C2).isSome = true := by decide +kernel
def checkBytes : List Byte := [0x31, 0x32, 0x33, 0x34, 0x35, 0x36, 0x37, 0x38, 0x39]
/-- The published check values of the two CRCs: 123456789 gives CBF43926 and E3069283 under a seed of 0. -/
theorem test_crcs : crc32 0 checkBytes = 0xCBF43926#32 ∧ crc32c 0 checkBytes = 0xE3069283#32 := by decide +kernel
/-- Chapter 17: a thermistor of 10 kΩ and 3,435 K reads about 333 Ω at 150 °C and 248 kΩ at -40 °C. -/
theorem test_ntc : ntcTemp 333 10000 3435 = 2399 ∧ ntcTemp 248000 10000 3435 = -640 ∧ ntcTemp 10000 10000 3435 = 400 := by decide +kernel
/-- FIPS 180-4's example for "abc", and twice the base point of P-256. -/
theorem test_sha256 : sha256 [0x61, 0x62, 0x63] = 0xba7816bf8f01cfea414140de5dae2223b00361a396177a9cb410ff61f20015ad := by decide +kernel
theorem test_p256 : pointMul 2 (some p256G) 256 = some (0x7CF27B188D034F7E8A52380304B51AC3C08969E277F21B35A60B48FC47669978,
    0x07775510DB8ED040293D9AC69F7430DBBA7DADE63CE982299E04B79D227873D1) := by decide +kernel
/-- R384: 34 bytes of parity; a group of zeros has none. -/
theorem test_rs : (rsParity (List.replicate 4 0)) = List.replicate 34 0 ∧ rsParity [1] = rsGenerator := by decide +kernel
/-- R383: a lane's slots 30 and 31 of a group are parity, slot 8,192 a marker. -/
theorem test_slots : ([29, 30, 31, 32, 8191, 8192, 8193].map slotData) = [true, false, false, true, false, false, true] := by decide +kernel
/-- The table gives no row bits. -/
theorem test_no_words : decodeTableWord 8 0 = none ∧ decodeTableWord 32 0xFFFFFFFF = none := by decide

/-! ### States that meet the statements' hypotheses -/

/-- Some state, advanced to some instant, is as the statement asks. -/
abbrev Meets (P : State → Prop) : Prop := ∃ (s : State) (t : Nat) (x : State), x = s.advance t ∧ P x

theorem meets {P : State → Prop} (s : State) (h : P (s.advance 0)) : Meets P := ⟨s, 0, _, rfl, h⟩

/-- READY 10 s after the wake: the logic die runs, bring-up is over, the lanes are at FULL, the engine is known, the host link is bonded. -/
def on : State :=
  { State.reset with
    clk := { Clock.reset with now := 10000000000, dtime := 10000000000 }
    mode := { ModeState.reset with cur := .ready, step := 11, readySeen := true }
    pow := { Power.reset with vbat := true, pmicEn := true, railsGood := true, logicOn := true }
    store := { Store.reset with clrDone := true }
    eng := { Engine.reset with step7 := .done, engId := true, laneMap := 0xFFFF, burgee0 := List.replicate 128 0 }
    fly := Vector.replicate 16 { Lane.reset with st := .idle, full := true, up := true, bclock := true }
    hoist := { Hoist.reset with st := .bonded }
    thm := { Thermal.reset with waveSent := 0xFF } }

def inMode (m : Mode) : State := { on with mode := { on.mode with cur := m } }
/-- The logic die in reset, the rails not good yet: the wake. -/
def waking : State :=
  { on with mode := { ModeState.reset with cur := .boot }, pow := { on.pow with railsGood := false, logicOn := false } }
def sleeping : State :=
  { State.reset with
    clk := { Clock.reset with now := 10000000000 }
    mode := { ModeState.reset with cur := .sleep }
    pow := { Power.reset with vbat := true } }
def withLane (l : Lane) : State := { on with fly := Vector.replicate 16 l }
def withHoist (h : Hoist) : State := { on with hoist := h }
def withEns (e : Ensign) : State := { on with ens := e }
def scanning : Scan := { Scan.reset with run := true, anchor := 0, k := 5, flipK := 6 }
def withScan (c : Scan) : State := { inMode .beam with scan := c }
def withTags (n : Nat) : State := on.setPort .cspi { PortState.reset with tags := (List.range n).map (fun k => { tag := BitVec.ofNat 8 k, op := 0x20 }) }

/-! ### The machine -/

theorem test_witness_StepRunsFront : { State.reset with pending := [.storeClearDone 0, .rel 1] }.pending = .storeClearDone 0 :: [.rel 1] := rfl
theorem test_witness_IdleStep : State.reset.pending = [] := rfl
def busyStore : State :=
  { on with pending := [.eventQueueExit 10000000001], store := { on.store with mem := [(0, 1), (0x7FFFFFF, 255)] } }
theorem test_witness_StepKeepsMemory : ∃ u, busyStore.memOk = true ∧ step busyStore = .next u := ⟨_, by decide +kernel, rfl⟩
theorem test_witness_RecorderBalanced : ∃ u, busyStore.evt.balanced = true ∧ step busyStore = .next u := ⟨_, by decide +kernel, rfl⟩
theorem test_witness_QueueAndInstant : ∃ u, exec (.xtalGood 5) on = .next u := ⟨_, rfl⟩
theorem test_witness_ParseOfParams : cmdFits (.regWrite 0 (List.replicate 254 0)) = true ∧ cmdFits (.engineNvWrite 0 0 (List.replicate 1016 0)) = true ∧
    cmdFits (.objlist 0 0 0 (List.replicate 1020 0)) = true := by decide +kernel
theorem test_witness_PutIsCommand : Meets fun x => x.portOpen (spiPort .wspi) = true ∧ cmdFits (.commit 0xFF) = true :=
  meets on (by decide +kernel)

theorem test_witness_AdmissionRefusals :
    (Meets fun x => x.portOpen .cspi = true ∧ x.portShut .cspi = false ∧ x.portArmed .cspi = false ∧ (List.replicate 1024 (0 : Byte)).length ≤ 1024 ∧
      32 ≤ (x.port .cspi).tags.length) ∧
    (Meets fun x => x.portOpen .cspi = true ∧ x.portShut .cspi = false ∧ x.portArmed .cspi = false ∧ (x.port .cspi).tags.length < 32 ∧
      (x.port .cspi).tags.any (fun u => u.tag == 30) = true) ∧
    (Meets fun x => x.portOpen .cspi = true ∧ x.portShut .cspi = false ∧ x.portArmed .cspi = false ∧ (x.port .cspi).tags.length < 32 ∧
      (x.port .cspi).tags.any (fun u => u.tag == 31) = false ∧ opKnown 0x04 = false ∧ opKnown 0x00 = true ∧ parseCmd 0x00 [0] = none) ∧
    (Meets fun x => x.portOpen .wspi = true ∧ x.portShut .wspi = false ∧ x.portArmed .wspi = false ∧ (x.port .wspi).tags.length < 32 ∧
      (x.port .wspi).tags.any (fun u => u.tag == 0) = false ∧ opKnown 0x18 = true ∧ parseCmd 0x18 [0, 0, 0, 0] = some (.commit 0) ∧
      (2#8 &&& 0xFE#8) ≠ 0#8 ∧ (1#8 &&& 0xFE#8) = 0#8 ∧ opPort 0x18 .wspi = false) ∧
    (Meets fun x => x.portOpen .cspi = true ∧ x.portShut .cspi = false ∧ (x.port .cspi).tags.length < 32 ∧
      x.portArmed .cspi = false ∧ (x.port .cspi).tags.any (fun u => u.tag == 0) = false ∧ opKnown 0x70 = true ∧
      parseCmd 0x70 [0, 0, 0, 0, 1, 0] = some (.laneTest 0 0 0 1) ∧ (0#8 &&& 0xFE#8) = 0#8 ∧ opPort 0x70 .cspi = true ∧
      cmdModeOk (.laneTest 0 0 0 1) x.mode.cur = false) :=
  ⟨meets (withTags 32) (by decide +kernel), meets (withTags 31) (by decide +kernel), meets (withTags 31) (by decide +kernel),
    meets on (by decide +kernel), meets on (by decide +kernel)⟩

def filled (n : Nat) : State := on.setPort .cspi { PortState.reset with buf := List.replicate n 0 }
theorem test_witness_AnswerPlaces :
    ((filled 3062).port .cspi).held = [] ∧ ((filled 3062).port .cspi).carry = [] ∧ ((filled 3062).port .cspi).rbFull .cspi = false ∧
    ((filled 3063).port .cspi).held = [] ∧ ((filled 3063).port .cspi).carry = [] ∧ ((filled 3063).port .cspi).rbFull .cspi = true := by
  decide +kernel
theorem test_witness_SerialOrder : 2 ^ 15 ≤ ((0x8000#16 : BitVec 16) - 0#16).toNat ∧ 2 ^ 15 ≤ ((0xFFFF#16 : BitVec 16) - 0#16).toNat := by decide
theorem test_calm (s : State) (h : (∀ k, k < 7 → (vget s.flt.timers k).waits = false) ∧ s.flt.ensP.waits = false ∧ s.flt.ensI.waits = false ∧
    s.pow.ignoreRtc = false ∧ (∀ n, n < 16 → (vget s.fly n).furlDue = none) ∧ s.mode.restart = none ∧ s.mode.sleep = .none ∧
    (s.mode.step < 6 ∨ (s.mode.step = 11 ∧ s.eng.step7 = .done ∧ s.thm.waveSent = 0xFF ∧
      (s.scan.run = true ∨ (s.mode.cur ≠ .limp ∧ s.mode.cur ≠ .ready)) ∧ (s.hoist.st ≠ .limp ∨ s.hoist.gaveUp = true))) ∧
    (s.thm.conv.isSome = true ∨ (s.thm.pendHost ||| s.thm.pendPol ||| s.thm.pendGdn = 0 ∧ s.cal.run = none)) ∧
    ((s.port .cspi).waiting = [] ∧ (s.port .wspi).waiting = [] ∧ (s.port .hcmd).waiting = []) ∧ s.hoist.ingress = [] ∧
    (s.ensOn && s.pow.logicOn && s.statusStale) = false) : s.Calm := by
  obtain ⟨a, b, c, d, j, l, e, f, g, ⟨p, q, r⟩, i⟩ := h
  exact ⟨a, b, c, d, j, l, e, f, g, fun k => by cases k <;> assumption, i⟩
theorem test_witness_CalmFinish : State.reset.Calm ∧ (withScan scanning).Calm :=
  ⟨test_calm _ (by decide +kernel), test_calm _ (by decide +kernel)⟩

/-! ### Command packets -/

theorem test_witness_StatusCommands :
    (Meets fun x => x.Takes .cspi 0 1 .nop) ∧ (Meets fun x => x.Takes .wspi 0 0 .identify) ∧ (Meets fun x => x.Takes .hcmd 255 0 .status) ∧
    (Meets fun x => x.Takes .cspi 0 0 (.portStatus 3) ∧ 3 ≤ (3#8).toNat) ∧
    (Meets fun x => x.Takes .cspi 0 0 (.portStatus 2) ∧ (portIdx .hcmd).val = (2#8).toNat) ∧
    (Meets fun x => x.Takes .cspi 0 0 .frameStatus) ∧ (Meets fun x => x.Takes .cspi 0 0 .dtimeRead) ∧
    (Meets fun x => x.Takes .cspi 0 0 .engineInfo ∧ x.eng.engId = true) ∧ (Meets fun x => x.Takes .cspi 0 0 .lifeRead) ∧
    (Meets fun x => x.Takes .cspi 0 0 (.calRead 31)) ∧ (Meets fun x => x.Takes .cspi 0 0 (.calRead 32)) := by
  refine ⟨meets on ?_, meets on ?_, meets on ?_, meets on ?_, meets on ?_, meets on ?_, meets on ?_, meets on ?_, meets on ?_, meets on ?_,
    meets on ?_⟩ <;> unfold State.Takes <;> decide +kernel

theorem test_witness_RegisterCommands :
    (Meets fun x => x.Takes .cspi 0 0 (.regRead 0x120000 1) ∧ regInfo 0x120000 = none) ∧
    (Meets fun x => x.Takes .wspi 0 0 (.regRead 0x00000 1) ∧ regInfo 0x00000 ≠ none ∧ regHv 0x00000 = false) ∧
    (Meets fun x => x.Takes .cspi 0 0 (.regWrite 0x00001 [1]) ∧ (x.started .cspi 0 0x11).regCheck .cspi true 0x00001 = none ∧
      regHv 0x00001 = false) ∧
    (Meets fun x => x.Takes .hcmd 0 0 (.regModify 0x00001 1 1) ∧ (x.started .hcmd 0 0x12).regCheck .hcmd true 0x00001 = none ∧
      regHv 0x00001 = false) := by
  refine ⟨meets on ?_, meets on ?_, meets on ?_, meets on ?_⟩ <;> unfold State.Takes <;> decide +kernel

def withSurf (n : Nat) (u : Surface) : State := on.setSurf n (fun _ => u)
def mapSurface : Surface :=
  { st := .leased, format := 1, base := 0, width := 2048, height := 512, stride := 2048, fill := 1048576, req := none, crc := 0, flipN := false }
theorem test_witness_SurfaceCommands :
    (Meets fun x => (127#8).toNat < 128 ∧ x.hoist.cur = none ∧ x.Takes .cspi 0 0 (.surfaceDefine 127 1 0 2048 512 2048) ∧
      geometryOk 1 0 2048 512 2048 = true ∧ (x.started .cspi 0 0x30).overlaps 127 0 (footWords 1 2048 512 2048) = false ∧
      (x.started .cspi 0 0x30).surfInUse 127 = false) ∧
    (Meets fun x => x.hoist.cur = none ∧ x.Takes .cspi 0 0 (.surfaceDelete 0) ∧ ((x.started .cspi 0 0x31).surf 0).st ≠ .undefined ∧
      (x.started .cspi 0 0x31).surfInUse 0 = false) ∧
    (Meets fun x => x.hoist.cur = none ∧ x.Takes .cspi 0 0 (.leaseTake 0 0) ∧ ((x.started .cspi 0 0x32).surf 0).st = .complete ∧
      (x.started .cspi 0 0x32).leases + (x.started .cspi 0 0x32).store.checkQ.length < 128) ∧
    (Meets fun x => x.hoist.cur = none ∧ x.Takes .cspi 0 0 (.leaseRelease 0) ∧ ((x.started .cspi 0 0x33).surf 0).st = .leased ∧
      (x.started .cspi 0 0x33).scan.run = true) := by
  refine ⟨meets on ?_, meets (withSurf 0 { mapSurface with st := .complete }) ?_, meets (withSurf 0 { mapSurface with st := .complete }) ?_,
    meets { withSurf 0 mapSurface with scan := scanning } ?_⟩ <;> unfold State.Takes <;> decide +kernel

theorem test_witness_ListCommands :
    (Meets fun x => (List.replicate 1020 (0 : Byte)).length = 1020 ∧ x.Takes .cspi 0 0 (.objlist 0xFFFF 0 0 (List.replicate 1020 0))) ∧
    (Meets fun x => x.Takes .cspi 0 0 (.ceilingLoad 127 5) ∧ ((x.started .cspi 0 0x35).surf 127).st = .leased ∧
      ((x.started .cspi 0 0x35).surf 127).format = 1 ∧ ((x.started .cspi 0 0x35).surf 127).width = 2048 ∧
      ((x.started .cspi 0 0x35).surf 127).height = 512) := by
  refine ⟨meets on ?_, meets (withSurf 127 mapSurface) ?_⟩ <;> unfold State.Takes <;> decide +kernel

/-- A fault with a condition, raised 1 ms ago, or now. -/
def faulty (ago : Nat) : State :=
  { ({ on with clk := { on.clk with now := 10000000000 - ago, dtime := 10000000000 - ago } } : State).raise0 0x205 1 0 with clk := on.clk }
def acking (x : State) : State := (x.started .cspi 0 0x61).expireFirst
theorem test_witness_RecorderCommands :
    (Meets fun x => x.Takes .cspi 0 0 (.evtRead 63) ∧ 1 ≤ (63#8).toNat ∧ (63#8).toNat ≤ 63) ∧
    (Meets fun x => x.Takes .cspi 0 0 .evtReset) ∧
    (Meets fun x => x.Takes .cspi 0 0 (.faultAck 0x11 0x2C1) ∧ (17#8).toNat ≤ 0x11 ∧ (acking x).activeOf 0x2C1 = none) ∧
    (Meets fun x => x.Takes .cspi 0 0 (.faultAck 0x00 0x205) ∧ ((acking x).activeOf 0x205).isSome = true ∧ srcBlock 0x205 ≠ 0) ∧
    (Meets fun x => x.Takes .cspi 0 0 (.faultAck 0x08 0x205) ∧ ((acking x).activeOf 0x205).any (fun a => a.born == (acking x).clk.now) = true) ∧
    (Meets fun x => x.Takes .cspi 0 0 (.faultAck 0x08 0x205) ∧
      ((acking x).activeOf 0x205).any (fun a => a.born != (acking x).clk.now && !(acking x).resolved (a.before (acking x).clk.now)) = true ∧
      (vget (acking x).flt.latch 8).valid = true ∧ srcBlock 0x205 = 8 ∧ (vget (acking x).flt.latch 8).idx = srcIdx 0x205) ∧
    (Meets fun x => x.Takes .cspi 0 0 (.faultAck 0x08 0x205) ∧
      ((acking x).activeOf 0x205).any (fun a => a.born != (acking x).clk.now && (acking x).resolved (a.before (acking x).clk.now)) = true ∧
      (vget (acking x).flt.latch 8).valid = true ∧ srcBlock 0x205 = 8 ∧ (vget (acking x).flt.latch 8).idx = srcIdx 0x205) := by
  refine ⟨meets on ?_, meets on ?_, meets on ?_, meets (faulty 1000000) ?_, meets (faulty 0) ?_, meets (faulty 1000000) ?_,
    meets ((faulty 1000000).resolve 0x205 1) ?_⟩ <;> unfold State.Takes <;> decide +kernel

theorem test_blank_level (x : State) (u : Surface) (a b : Nat) (h : x.store.mem = []) : x.y8 u a b = 0 := by
  simp [State.y8, State.storeByte, h, sparseGet]
def withMap : State :=
  { withSurf 3 mapSurface with mode := { on.mode with cur := .service }, mask := { Mask.reset with ceilOk := true, ceilLoaded := true } }
theorem test_blank_fits (x : State) (u : Surface) (h : x.store.mem = []) (he : x.eng.engId = true) (hc : x.mask.ceilOk = true)
    (hb : halfBurgee x.eng.burgee0 = false) (hu : u.st = .leased ∧ u.format = 1 ∧ u.width = 2048 ∧ u.height = 512) :
    x.kaSurface u = true := by
  simp [State.kaSurface, test_blank_level x u _ _ h, he, hc, hb, hu]
theorem test_blank_under (x : State) (u : Surface) (n : Nat) (h : x.store.mem = []) : x.kaUnder u n = true := by
  simp [State.kaUnder, State.kaLevel, test_blank_level x u _ _ h]

theorem test_witness_EngineCommands :
    (Meets fun x => x.Takes .cspi 0 0 (.engineNvRead 15 1024 0x2FC00) ∧ (15#8).toNat < 16 ∧ (x.started .cspi 0 0x49).mapped 15 = true ∧
      1 ≤ (1024#16).toNat ∧ (1024#16).toNat ≤ 1024 ∧ (0x2FC00#32).toNat + (1024#16).toNat ≤ 0x30000) ∧
    (Meets fun x => x.Takes .cspi 0 0 (.engineNvWrite 0 0x1FC0C (List.replicate 1012 7)) ∧ (x.started .cspi 0 0x4A).mapped 0 = true ∧
      (List.replicate 1012 (7 : Byte)) ≠ [] ∧ (List.replicate 1012 (7 : Byte)).length ≤ 1012 ∧
      (0x1FC0C#32).toNat + (List.replicate 1012 (7 : Byte)).length ≤ 0x20000) ∧
    (Meets fun x => ∃ crc, x.Takes .cspi 0 0 (.keepaliveWrite 15 3 crc) ∧ (x.started .cspi 0 0x4B).injects 20 = false ∧ (x.started .cspi 0 0x4B).mapped 15 = true ∧ (3#8).toNat < 128 ∧
      (x.started .cspi 0 0x4B).kaSurface ((x.started .cspi 0 0x4B).surf 3) = true ∧
      (x.started .cspi 0 0x4B).kaUnder ((x.started .cspi 0 0x4B).surf 3) 15 = true ∧
      crc32 0x20000#32 ((x.started .cspi 0 0x4B).kaPattern ((x.started .cspi 0 0x4B).surf 3) 15) = crc) ∧
    (Meets fun x => x.Takes .cspi 0 0 (.pixelCensus 0xFFFF) ∧ (x.started .cspi 0 0x4C).eng.laneMap ≠ 0) ∧
    (Meets fun x => x.Takes .cspi 0 0 (.laneTest 0x8001 2 0 10000) ∧ (2#8).toNat ≤ 2 ∧ 1 ≤ (10000#16).toNat ∧ (10000#16).toNat ≤ 10000 ∧
      ∀ n, n < 16 → (0x8001#16).getLsbD n = true → (vget (x.started .cspi 0 0x70).fly n).up = true) := by
  refine ⟨meets on ?_, meets (inMode .service) ?_, meets withMap ⟨_, ?_, ?_, ?_, ?_, ?_, ?_, rfl⟩, meets (inMode .service) ?_,
    meets (inMode .service) ?_⟩
  · unfold State.Takes; decide +kernel
  · unfold State.Takes; decide +kernel
  · exact ⟨by decide +kernel, by decide +kernel, rfl, by decide +kernel, by decide +kernel, by decide +kernel, by decide +kernel,
      by decide +kernel, by decide +kernel, by decide +kernel, by decide +kernel, by decide +kernel, Or.inl (by decide +kernel),
      Or.inr (Or.inr (by decide +kernel))⟩
  · decide +kernel
  · decide +kernel
  · decide
  · exact test_blank_fits _ _ (by decide +kernel) (by decide +kernel) (by decide +kernel) (by decide +kernel) (by decide +kernel)
  · exact test_blank_under _ _ _ (by decide +kernel)
  · unfold State.Takes; decide +kernel
  · unfold State.Takes; decide +kernel

theorem test_witness_MeasureCommands :
    (Meets fun x => x.Takes .cspi 0 0 (.thermalMeasure 0)) ∧
    (Meets fun x => x.Takes .cspi 0 0 (.thermalMeasure 0x3FFF) ∧ (0x3FFF#16 ≠ 0) ∧ (0x3FFF#16).toNat < 0x4000) ∧
    (Meets fun x => x.Takes .cspi 0 0 (.thermalMeasure 0x4000) ∧ 0x4000 ≤ (0x4000#16).toNat) ∧
    (Meets fun x => x.Takes .cspi 0 0 (.calRun 15 1) ∧ 15#8 ≠ 0 ∧ (15#8).toNat < 16 ∧ (1#8).toNat ≤ 1) ∧
    (Meets fun x => x.Takes .cspi 0 0 (.calRun 16 0) ∧ 16 ≤ (16#8).toNat) ∧
    (Meets fun x => x.Takes .cspi 0 0 (.calRun 1 2) ∧ 1 < (2#8).toNat) := by
  refine ⟨meets on ?_, meets on ?_, meets on ?_, meets on ?_, meets on ?_, meets on ?_⟩ <;> unfold State.Takes <;> decide +kernel

def onXtal : State := { on with clk := { on.clk with xtalOk := true, tbXtal := true } }
def stagedPower : State := { withScan scanning with regs := { RegFile.reset with staged := 0x40 } }
def latchedPower : State := { stagedPower with scan := { scanning with flipLatched := true } }
/-- A refresh of 0 is staged. -/
def stagedTiming : State := { on with regs := { RegFile.reset with staged := 0x10, shd := wordPut [] 0x50000 0 } }
def toService : Trans := { target := .service, since := 0, owner := none, merged := [] }
def heading : State := { on with mode := { on.mode with trans := some toService } }
def wakeHeld : State :=
  { on with pow := { on.pow with wakeN := false }, regs := { RegFile.reset with act := wordPut [] 0x00002 (BitVec.ofNat 32 10) } }
def restartOf (a : Option Nat) : Restart := { id := ⟨.cspi, 0⟩, since := 9999500000, replied := a }
def restarting (a : Option Nat) : State := { on with mode := { on.mode with restart := some (restartOf a) } }
theorem test_witness_ControlCommands :
    ((Meets fun x => x.Takes .cspi 0 0 (.modeSet 1)) ∧ (Meets fun x => x.Takes .cspi 0 0 (.modeSet 0)) ∧
      (Meets fun x => x.Takes .cspi 0 0 (.modeSet 255) ∧ 8 ≤ (255#8).toNat) ∧
      (Meets fun x => x.Takes .cspi 0 0 (.modeSet 6) ∧ targetMode 6 = some .safeDark ∧ Mode.safeDark.isSafe = true) ∧
      (Meets fun x => x.Takes .cspi 0 0 (.modeSet 2) ∧ targetMode 2 = some .ready ∧ Mode.ready.isSafe = false ∧
        (x.started .cspi 0 0x20).mode.trans = none ∧ (x.started .cspi 0 0x20).busy = false ∧ (x.started .cspi 0 0x20).mode.cur = .ready) ∧
      (Meets fun x => x.Takes .cspi 0 0 (.modeSet 4) ∧ targetMode 4 = some .service ∧ Mode.service.isSafe = false ∧
        (x.started .cspi 0 0x20).mode.trans = none ∧ (x.started .cspi 0 0x20).busy = false ∧
        (x.started .cspi 0 0x20).mode.cur ≠ .service ∧ (x.started .cspi 0 0x20).modeRefusal .service = none) ∧
      (Meets fun x => x.Takes .cspi 0 0 (.modeSet 3) ∧ targetMode 3 = some .beam ∧ Mode.beam.isSafe = false ∧
        (x.started .cspi 0 0x20).mode.trans = none ∧ (x.started .cspi 0 0x20).busy = false ∧
        (x.started .cspi 0 0x20).mode.cur ≠ .beam ∧ (x.started .cspi 0 0x20).modeRefusal .beam = some stModeDenied) ∧
      (Meets fun x => x.Takes .cspi 0 0 (.modeSet 7) ∧ targetMode 7 = some .sleep ∧ Mode.sleep.isSafe = false ∧
        (x.started .cspi 0 0x20).mode.trans = none ∧ (x.started .cspi 0 0x20).busy = false ∧
        (x.started .cspi 0 0x20).modeRefusal .sleep = some stWakeActive) ∧
      (Meets fun x => x.Takes .cspi 0 0 (.modeSet 4) ∧ targetMode 4 = some .service ∧ (x.started .cspi 0 0x20).mode.trans = some toService) ∧
      (Meets fun x => x.Takes .cspi 0 0 (.modeSet 3) ∧ targetMode 3 = some .beam ∧ (x.started .cspi 0 0x20).mode.trans = some toService ∧
        toService.target ≠ .beam ∧ (x.started .cspi 0 0x20).mode.queue = none) ∧
      (Meets fun x => x.Takes .wspi 0 0 (.safeRequest 5 0xFFFF)) ∧ (Meets fun x => x.Takes .cspi 0 0 (.safeRequest 4 0)) ∧
      (Meets fun x => x.Takes .cspi 0 0 (.timebaseSelect 0)) ∧
      (Meets fun x => x.Takes .cspi 0 0 (.timebaseSelect 1) ∧ (x.started .cspi 0 0x21).clk.xtalOk = false) ∧
      (Meets fun x => x.Takes .cspi 0 0 (.timebaseSelect 1) ∧ (x.started .cspi 0 0x21).clk.xtalOk = true ∧
        (x.started .cspi 0 0x21).clk.tbXtal = true) ∧
      (Meets fun x => x.Takes .cspi 0 0 (.timebaseSelect 1) ∧ (x.started .cspi 0 0x21).clk.xtalOk = true ∧
        (x.started .cspi 0 0x21).clk.tbXtal = false) ∧
      (Meets fun x => x.Takes .cspi 0 0 (.commit 256) ∧ 256 ≤ (256#32).toNat) ∧
      (Meets fun x => x.Takes .cspi 0 0 (.commit 255) ∧ (255#32).toNat < 256 ∧
        BitVec.ofNat 8 255 &&& (x.started .cspi 0 0x18).regs.staged = 0) ∧
      (Meets fun x => x.Takes .cspi 0 0 (.commit 0x50) ∧ BitVec.ofNat 8 0x50 &&& (x.started .cspi 0 0x18).regs.staged ≠ 0 ∧
        (x.started .cspi 0 0x18).scan.run = true ∧ (x.started .cspi 0 0x18).scan.flipLatched = true ∧ (0x50#32).getLsbD grpTiming = true) ∧
      (Meets fun x => x.Takes .cspi 0 0 (.commit 0x10) ∧ BitVec.ofNat 8 0x10 &&& (x.started .cspi 0 0x18).regs.staged ≠ 0 ∧
        (x.started .cspi 0 0x18).scan.run = false ∧
        ((x.started .cspi 0 0x18).checkGroups 0x10 ((x.started .cspi 0 0x18).viewWord 0x10 ((x.started .cspi 0 0x18).snapOf 0x10))).isSome = true) ∧
      (Meets fun x => x.Takes .cspi 0 0 (.commit 0x40) ∧ (0x40#32).toNat < 256 ∧ (x.started .cspi 0 0x18).scan.flipLatched = false ∧
        BitVec.ofNat 8 0x40 &&& (x.started .cspi 0 0x18).regs.staged ≠ 0 ∧ (x.started .cspi 0 0x18).scan.run = true ∧
        (x.started .cspi 0 0x18).checkGroups 0x40 ((x.started .cspi 0 0x18).viewWord 0x40 ((x.started .cspi 0 0x18).snapOf 0x40)) = none)) ∧
    ((Meets fun x => x.Takes .cspi 0 0 (.safetyTest 1)) ∧ (Meets fun x => x.Takes .cspi 0 0 (.safetyTest 2)) ∧
      (Meets fun x => x.Takes .cspi 0 0 (.safetyTest 3)) ∧ (Meets fun x => x.Takes .cspi 0 0 (.safetyTest 4)) ∧
      (Meets fun x => x.Takes .cspi 0 0 (.safetyTest 5) ∧ 5 ≤ (5#8).toNat) ∧ (Meets fun x => x.Takes .cspi 0 0 (.safetyTest 0)) ∧
      (Meets fun x => x.Takes .cspi 0 0 (.reset 0xA55B) ∧ 0xA55B#16 ≠ 0xA55A) ∧ (Meets fun x => x.Takes .cspi 0 0 (.reset 0xA55A))) ∧
    ((restarting none).inFlight = false ∧ (∀ i, i < 7 → (vget (restarting none).flt.timers i).waits = false) ∧
      (restarting none).flt.ensP.waits = false ∧ (restarting none).flt.ensI.waits = false ∧ (restarting none).pow.ignoreRtc = false ∧
      (∀ n, n < 16 → (vget (restarting none).fly n).furlDue = none) ∧
      ∃ z : State, z = ((((((restarting (some 9999900000)).tick 0).inputsDue).closeDue).htxRun).countdowns).hoistCount ∧
        z.mode.restart = some (restartOf (some 9999900000)) ∧ 9999900000 + 100000 ≤ z.clk.dtime ∧ z.hoist.quiet z.clk.dtime = true) := by
  refine ⟨⟨meets on ?_, meets on ?_, meets on ?_, meets on ?_, meets on ?_, meets on ?_, meets on ?_, meets wakeHeld ?_, meets heading ?_,
    meets heading ?_, meets on ?_, meets on ?_, meets on ?_, meets on ?_, meets onXtal ?_, meets { on with clk := { on.clk with xtalOk := true } } ?_,
    meets on ?_, meets on ?_, meets latchedPower ?_, meets stagedTiming ?_, meets stagedPower ?_⟩,
    ⟨meets on ?_, meets on ?_, meets on ?_, meets (inMode .service) ?_, meets on ?_, meets on ?_, meets on ?_, meets on ?_⟩,
    ?_, ?_, ?_, ?_, ?_, ?_, _, rfl, ?_, ?_, ?_⟩ <;> (try unfold State.Takes) <;> decide +kernel

/-! ### SPI transactions and register accesses -/

theorem test_witness_GetReturnsBuffer :
    Meets fun x => x.portOpen .cspi = true ∧ (x.port .cspi).held = [] ∧ (x.port .cspi).carry = [] ∧ (x.port .cspi).buf.length = 3063 :=
  meets (filled 3063) (by decide +kernel)
theorem test_witness_StatAndResync : (Meets fun x => x.portOpen .wspi = true) ∧ ([0x04#8, 0xC2#8].take 2 ≠ [0x04, 0xC3]) ∧ Port.hcmd ≠ Port.cspi :=
  ⟨meets on (by decide +kernel), by decide, by decide⟩
theorem test_witness_FrameClassWrite :
    Meets fun x => x.pow.logicOn = true ∧ Port.hcmd ≠ .wspi ∧ (regInfo 0x304C2).isSome = true ∧ x.regBusy 0x304C2 = false ∧
      regInfo (addrPlain 0x304C2) = regInfo 0x304C2 ∧ (regInfo 0x304C2).bind (·.grp) = some 0 := meets on (by decide +kernel)
theorem test_witness_RegisterRows :
    (Meets fun x => x.pow.logicOn = true ∧ Port.cspi ≠ .wspi ∧ x.evt.cursor < x.evt.store.length) ∧
    (Meets fun x => x.pow.logicOn = true ∧ x.evt.store.length ≤ x.evt.cursor ∧ x.pow.padHeld = true) ∧
    (Meets fun x => x.pow.logicOn = true ∧ x.mode.cur = .ready ∧ x.mode.trans = none ∧ x.eng.pathBusy = false) ∧
    (Meets fun x => x.pow.logicOn = true ∧ x.mode.cur ≠ .ready) ∧
    (Meets fun x => x.pow.logicOn = true ∧ x.mode.cur = .ready ∧ x.eng.pathBusy = true ∧ 50 ≤ 50 ∧ 50 / 50 < 65536 ∧
      50 / 50 ≤ x.fld 0x70008 31 16) ∧
    (Meets fun x => x.pow.logicOn = true ∧ x.mode.cur = .ready ∧ x.eng.pathBusy = true ∧ 50 * 65535 / 50 < 65536 ∧
      x.fld 0x70008 31 16 < 50 * 65535 / 50) ∧
    (Meets fun x => x.pow.logicOn = true ∧ x.mode.cur = .service) ∧
    (Meets fun x => x.pow.logicOn = true ∧ x.rtcFirst.act 0x100005 * 2 ^ 32 + x.rtcFirst.act 0x100004 < x.rtcFirst.rtc.count) ∧
    (Meets fun x => x.pow.logicOn = true ∧ x.rtcFirst.rtc.count ≤ x.rtcFirst.act 0x100005 * 2 ^ 32 + x.rtcFirst.act 0x100004) ∧
    (Meets fun x => x.pow.logicOn = true ∧ x.pending.contains (.rtcTick x.clk.now) = true ∧ x.rtcDue = true) ∧
    (Meets fun x => x.pow.logicOn = true ∧ x.pending.contains (.rtcTick x.clk.now) = false) ∧
    (Meets fun x => x.pow.logicOn = true ∧ x.scan.run = true ∧ x.scan.stopping = false ∧ min 0 2 < x.scan.pcdiv) := by
  refine ⟨meets { on with evt := { Recorder.reset with store := [on.entry 0x340 0 0] } } ?_, meets on ?_, meets on ?_, meets (inMode .beam) ?_,
    meets { on with eng := { on.eng with pathBusy := true } } ?_, meets { on with eng := { on.eng with pathBusy := true } } ?_,
    meets (inMode .service) ?_, meets { on with rtc := { on.rtc with count := 1 } } ?_, meets on ?_,
    meets { on with pending := [.rtcTick 10000000000] } ?_, meets on ?_, meets (withScan { scanning with pcdiv := 1 }) ?_⟩ <;> decide +kernel

/-! ### Supplies, wake, bring-up and SLEEP -/

def inSleep (p : Power) : State := { sleeping with pow := { p with vbat := true } }
def pinWake : RegFile := { RegFile.reset with act := wordPut [] 0x00002 (BitVec.ofNat 32 6) }
theorem test_witness_PowerAndRelease :
    ((Meets fun x => x.pow.vbat = false) ∧
      (Meets fun x => x.pow.vbat = true ∧ x.mode.cur ≠ .sleep) ∧
      (Meets fun x => x.pow.vbat = true ∧ x.pow.logicOn = false ∧ x.mode.cur = .sleep ∧ x.mode.sleep = .none ∧ x.flag 0x00002 1 = true ∧ x.pow.ignoreWakeN = false) ∧
      (Meets fun x => x.pow.vbat = true ∧ x.flag 0x00002 2 = true ∧ x.mode.cur = .sleep ∧ x.mode.sleep = .released ∧
        x.clk.now + 91600 < x.pow.pmicAt + 20000000) ∧
      (Meets fun x => x.pow.vbat = true ∧ x.rtc.since + 950000000 ≤ x.clk.now)) ∧
    ((Meets fun x => x.pow.pmicEn = true ∧ x.pow.logicOn = false ∧ x.mode.cur = .boot) ∧ (Meets fun x => x.pow.pmicEn = true ∧ x.pow.railsGood = false ∧ x.pow.logicOn = false ∧ x.mode.cur = .boot ∧
        x.pow.pmicAt + 20000000 ≤ x.clk.now ∧ x.pow.retried = false) ∧
      (Meets fun x => x.pow.pmicEn = true ∧ x.pow.railsGood = false ∧ x.pow.logicOn = false ∧ x.mode.cur = .boot ∧
        x.pow.pmicAt + 20000000 ≤ x.clk.now ∧ x.pow.retried = true) ∧
      (Meets fun x => x.pow.retryDue = some 10000000000 ∧ 10000000000 ≤ x.clk.now) ∧
      (Meets fun x => x.pow.railsGood = true ∧ x.pow.logicOn = false ∧ x.mode.cur = .boot ∧ x.pow.railsAt + 200000 ≤ x.clk.now ∧
        x.pow.strapsKept = false)) := by
  refine ⟨⟨meets State.reset ?_, meets on ?_, meets { sleeping with regs := pinWake } ?_,
    meets { inSleep { Power.reset with pmicAt := 9980091601 } with regs := pinWake, mode := { sleeping.mode with sleep := .released } } ?_,
    meets { on with rtc := { on.rtc with since := 9050000000 } } ?_⟩,
    meets waking ?_, meets { waking with pow := { waking.pow with pmicAt := 9980000000 } } ?_,
    meets { waking with pow := { waking.pow with pmicAt := 9980000000, retried := true } } ?_,
    meets { waking with pow := { waking.pow with retryDue := some 10000000000 } } ?_,
    meets { waking with pow := { waking.pow with railsGood := true, railsAt := 9999800000 } } ?_⟩ <;> decide +kernel

def booting : State := { on with mode := { ModeState.reset with cur := .boot, step := 4 } }
/-- A transition that the MODE_SET of tag 0 asked for. -/
def asked (m : Mode) : Trans := { target := m, since := 0, owner := some { id := ⟨.cspi, 0⟩, viaSafe := false }, merged := [] }
def going (cur : Mode) (m : Mode) : State := { on with mode := { on.mode with cur := cur, trans := some (asked m) } }
theorem test_witness_BringUpRows :
    (Meets fun x => x.pow.logicOn = true ∧ x.store.clrDone = false) ∧
    (Meets fun x => x.pow.logicOn = true ∧ x.store.clrDone = true ∧ x.mode.cur = .boot ∧ x.pow.straps.getLsbD 0 = false ∧
      x.inputDemand = false ∧ x.ens.safe = none ∧ x.mode.bootSafe = none) ∧
    (Meets fun x => x.pow.logicOn = true ∧ x.clk.tbXtal = true) ∧ (Meets fun x => x.pow.logicOn = true ∧ x.clk.tbXtal = false) ∧
    (Meets fun x => x.pow.logicOn = true ∧ x.mode.trans = some (asked .service) ∧ x.mode.queue = none) ∧
    (Meets fun x => x.pow.logicOn = true ∧ x.mode.trans = some (asked .beam) ∧ x.mode.queue = none ∧ x.scan.frontValid = true) ∧
    (Meets fun x => x.pow.logicOn = true ∧ x.mode.trans = some (asked .ready) ∧ x.mode.queue = none ∧ x.mode.cur.isSafe = true ∧ x.ens.ovr = false) ∧
    (Meets fun x => x.pow.logicOn = true ∧ x.mode.trans = some (asked .ready) ∧ x.mode.queue = none ∧ x.mode.cur.isSafe = false ∧
      x.scan.run = false ∧ x.scan.settleAt = none ∧ x.scan.retrain = none) ∧
    (Meets fun x => x.pow.logicOn = true ∧ x.mode.trans = some (asked .safeDark) ∧ x.mode.queue = none) := by
  refine ⟨meets { booting with store := Store.reset } ?_, meets booting ?_, meets onXtal ?_, meets on ?_,
    meets (going .ready .service) ?_, meets { going .ready .beam with scan := { Scan.reset with frontValid := true } } ?_,
    meets (going .safeBeam .ready) ?_, meets (going .beam .ready) ?_, meets (going .ready .safeDark) ?_⟩ <;> decide +kernel

def leaving (g : SleepStage) (at0 : Nat) : State := { on with mode := { on.mode with sleep := g, sleepAt := at0 } }
theorem test_witness_SleepRows :
    (Meets fun x => x.mode.sleep = .draining ∧ x.mode.sleepAt + 500000 ≤ x.clk.dtime ∧ x.mode.restart = none ∧
      (∀ n, n < 16 → (vget x.fly n).furlDue = none) ∧ x.mode.trans = some { toService with target := .sleep }) ∧
    (Meets fun x => x.mode.sleep = .none ∧ x.mode.restart = some (restartOf none) ∧ (restartOf none).since + 500000 ≤ x.clk.dtime ∧
      ∀ n, n < 16 → (vget x.fly n).furlDue = none) ∧
    (Meets fun x => x.mode.sleep = .none ∧ x.mode.restart = none ∧ (vget x.fly 15).furlDue = some 10000000000 ∧ 10000000000 ≤ x.clk.dtime ∧
      ∀ m, m < 16 → m ≠ 15 → (vget x.fly m).furlDue = none) ∧
    (Meets fun x => x.mode.sleep = .replied ∧ x.mode.sleepAt + 2000000 ≤ x.clk.dtime ∧ x.hoist.quiet x.clk.dtime = true) ∧
    (Meets fun x => x.mode.sleep = .replied ∧ x.mode.sleepAt + 2000000 ≤ x.clk.dtime ∧ x.hoistUp = false) ∧
    (Meets fun x => x.mode.cur = .sleep ∧ x.mode.sleep = .released ∧ x.pow.pmicAt + 20000000 ≤ x.clk.now ∧ x.wakeBits = 0) ∧
    (Meets fun x => x.mode.cur = .sleep ∧ x.mode.sleep = .released ∧ x.pow.pmicAt + 20000000 ≤ x.clk.now ∧ x.wakeBits ≠ 0 ∧ x.pow.vbat = true ∧ x.pow.logicOn = false) := by
  refine ⟨meets { leaving .draining 9999500000 with
      mode := { (leaving .draining 9999500000).mode with trans := some { toService with target := .sleep } } } ?_,
    meets (restarting none) ?_, meets { on with fly := vmod on.fly 15 (fun l => { l with furlDue := some 10000000000 }) } ?_, meets (leaving .replied 9998000000) ?_,
    meets { leaving .replied 9998000000 with hoist := Hoist.reset } ?_,
    meets { inSleep { Power.reset with pmicAt := 9980000000 } with mode := { sleeping.mode with sleep := .released } } ?_,
    meets { inSleep { Power.reset with pmicAt := 9980000000, wakeN := false } with
      mode := { sleeping.mode with sleep := .released }, regs := pinWake } ?_⟩ <;> decide +kernel

def supplied (p : Power) : State := { on with pow := p }
theorem test_witness_SupplyRows :
    (Meets fun x => x.pow.logicOn = false) ∧
    (Meets fun x => x.pow.logicOn = true ∧ x.ens.safe = none ∧ x.ens.hsgOpen = false) ∧
    (Meets fun x => x.pow.logicOn = true ∧ ∀ e ∈ x.fab.drivenBy x.clk.dtime, e.2 = x.fab.vcode) ∧
    (Meets fun x => x.pow.logicOn = true ∧ x.vcoreGood 7399 = false) ∧ (Meets fun x => x.pow.logicOn = true ∧ x.vcoreGood 7400 = true) ∧
    (Meets fun x => x.pow.vbat = true ∧ x.pow.vbatHigh = false ∧ x.pow.vbatSag = false ∧ x.pow.vbatCrank = false ∧ x.pow.vioSag = false ∧
      x.pow.vledUv = false ∧ x.pow.vledOv = false) ∧
    (Meets fun x => x.pow.vbat = true ∧ x.pow.vbatHigh = true ∧ x.pow.vbatSag = true ∧ x.pow.vbatCrank = true ∧ x.pow.vioSag = true ∧
      x.pow.vledUv = true ∧ x.pow.vledOv = true) ∧
    (supplyPast .vbatHigh true 20000 = false ∧ supplyPast .vbatHigh false 19000 = false ∧ supplyPast .vbatSag true 9000 = false ∧
      supplyPast .vbatSag false 9199 = false ∧ supplyPast .vbatCrank true 6000 = false ∧ supplyPast .vbatCrank false 6499 = false ∧
      supplyPast .vio18Sag true 1710 = false ∧ supplyPast .vio18Sag false 1729 = false ∧ supplyPast .vledUnder true 7500 = false ∧
      supplyPast .vledUnder false 7999 = false ∧ supplyPast .vledOver true 52000 = false ∧ supplyPast .vledOver false 50000 = false) ∧
    (Meets fun x => x.cal.clearAt = some 9999000000 ∧ 9999000000 + 1000000 ≤ x.clk.now) := by
  refine ⟨meets waking ?_, meets on ?_, meets on ?_, meets on ?_, meets on ?_, meets on ?_,
    meets (supplied { on.pow with vbatHigh := true, vbatSag := true, vbatCrank := true, vioSag := true, vledUv := true, vledOv := true }) ?_, ?_,
    meets { on with cal := { on.cal with clearAt := some 9999000000 } } ?_⟩ <;> decide +kernel

/-! ### Escalation, the channels, the safety inputs and the switches -/

def timing (k : Nat) (t : Timer) : State := { on with flt := { on.flt with timers := vset on.flt.timers k t } }
def graceOf (k : Nat) : Nat := 10000000000 - on.grace k
theorem test_witness_SafeAndGrace :
    (State.reset.mode.cur = .off ∧ sleeping.mode.cur = .sleep ∧
      ((inMode .safeDark).pow.logicOn = true ∧ (inMode .safeDark).mode.cur = .safeDark ∧ (inMode .safeDark).mode.trans = none ∧ (inMode .safeDark).mode.sleep = .none) ∧
      ((inMode .safeBeam).pow.logicOn = true ∧ (inMode .safeBeam).mode.cur = .safeBeam ∧ (inMode .safeBeam).mode.trans = none ∧ (inMode .safeBeam).mode.sleep = .none) ∧
      (booting.pow.logicOn = true ∧ booting.mode.cur = .boot ∧ booting.mode.bootSafe = none ∧ booting.mode.sleep = .none)) ∧
    (Meets fun x => (vget x.flt.timers 6).start = some (graceOf 6) ∧ (vget x.flt.timers 6).expired = false ∧
      x.grace 6 ≤ x.clk.dtime - graceOf 6) ∧
    (Meets fun x => (vget x.flt.timers 0).start = some (graceOf 0 + 1) ∧ (vget x.flt.timers 0).expired = false ∧
      x.clk.dtime - (graceOf 0 + 1) < x.grace 0) ∧
    (Meets fun x => (vget x.flt.timers 3).expired = true) ∧
    (Meets fun x => x.flt.ensP.start = some (graceOf clsP) ∧ x.flt.ensP.expired = false ∧ x.ensGrace clsP ≤ x.clk.now - graceOf clsP) ∧
    (Meets fun x => x.flt.ensI.start = some (graceOf clsI) ∧ x.flt.ensI.expired = false ∧ x.ensGrace clsI ≤ x.clk.now - graceOf clsI) := by
  refine ⟨by decide +kernel, meets (timing 6 { start := some (graceOf 6), expired := false, due := false }) ?_,
    meets (timing 0 { start := some (graceOf 0 + 1), expired := false, due := false }) ?_,
    meets (timing 3 { start := none, expired := true, due := false }) ?_,
    meets { on with flt := { on.flt with ensP := { start := some (graceOf clsP), expired := false, due := false } } } ?_,
    meets { on with flt := { on.flt with ensI := { start := some (graceOf clsI), expired := false, due := false } } } ?_⟩ <;> decide +kernel

def beating : State :=
  { on with
    gdn := { Guidon.reset with hbRun := true, hbAt := 9999000000, ensAt := 9999000000 }
    ens := { Ensign.reset with hbSeq := some 255, winAt := 9999250000, statusAt := 9999900000 } }
theorem test_witness_HeartbeatRows :
    (Meets fun x => x.pow.logicOn = true ∧ x.ensOn = true ∧ x.gdn.hbRun = true ∧ x.gdn.test = none ∧ x.gdn.hbAt + 1000000 ≤ x.clk.now) ∧
    (Meets fun x => x.pow.logicOn = true ∧ x.ensOn = true ∧ x.dl.seqDown = x.dl.rxDown ∧ x.ens.hbSeq = none) ∧
    (Meets fun x => x.dl.seqDown = x.dl.rxDown ∧ x.gdn.test = some (⟨.cspi, 0⟩, 2)) ∧ (Meets fun x => x.dl.seqDown ≠ x.dl.rxDown) ∧
    (Meets fun x => x.dl.seqUp = x.dl.rxUp ∧ x.gdn.capSeen = (x.dl.statusOut.getD (x.statusNow false)).inst.getLsbD 5) ∧
    (Meets fun x => x.dl.seqUp ≠ x.dl.rxUp) ∧
    (Meets fun x => x.ens.hbSeq = some 255 ∧ (0 : Byte) = 255 + 1 ∧ x.dl.seqDown = x.dl.rxDown ∧ x.ens.winAt + 750000 ≤ x.clk.now ∧ x.clk.now ≤ x.ens.winAt + 1250000) ∧
    (Meets fun x => x.ens.hbSeq = some 255 ∧ x.clk.now < x.ens.winAt + 750000) ∧
    (Meets fun x => x.ens.hbSeq = some 255 ∧ x.ens.winAt + 1250000 < x.clk.now) ∧
    (Meets fun x => x.ens.hbSeq.isSome = true ∧ x.ens.winAt + 1250000 ≤ x.clk.now) ∧
    (Meets fun x => x.ens.statusAt + 100000 ≤ x.clk.now) ∧
    (Meets fun x => x.gdn.hbRun = true ∧ x.gdn.ensAt + 1000000 ≤ x.clk.now) ∧
    (on.ens.badRun = 0 ∧ (on.ens.wins.take 15).filter id = []) ∧
    (1 ≤ { Ensign.reset with badRun := 1 }.badRun ∧ { Ensign.reset with badRun := 1 }.safe = none) := by
  refine ⟨meets beating ?_, meets on ?_, meets { on with gdn := { Guidon.reset with test := some (⟨.cspi, 0⟩, 2) } } ?_,
    meets { on with dl := { DieLink.reset with rxDown := 15 } } ?_, meets on ?_, meets { on with dl := { DieLink.reset with rxUp := 15 } } ?_,
    meets beating ?_, meets { beating with ens := { beating.ens with winAt := 9999250001 } } ?_,
    meets { beating with ens := { beating.ens with winAt := 9998749999 } } ?_,
    meets { beating with ens := { beating.ens with winAt := 9998750000 } } ?_, meets beating ?_, meets beating ?_, ?_, ?_⟩ <;>
    decide +kernel

def rtcOk (e : Ensign) : State := { on with ens := e, rtc := { on.rtc with oscOk := true } }
theorem test_witness_ChannelChecks :
    (Meets fun x => x.pow.logicOn = true ∧ x.ensOn = true ∧ x.rtc.oscOk = true) ∧
    (Meets fun x => x.pow.logicOn = true ∧ x.ensOn = true ∧ x.rtc.oscOk = true ∧ x.ens.oscPassed = false) ∧
    (Meets fun x => x.pow.logicOn = true ∧ x.ensOn = true ∧ 50 < 51 ∧ x.rtc.oscOk = true ∧ x.ens.oscPassed = true ∧ x.ens.oscBad = false) ∧
    (Meets fun x => x.pow.logicOn = true ∧ x.ensOn = true ∧ x.rtc.oscOk = false ∧ x.ens.powerOnAt + 1500000000 ≤ x.clk.now) ∧
    (Meets fun x => x.pow.logicOn = true ∧ x.ensOn = true ∧ x.mode.cur = .beam ∧ x.gdn.winAt + 4000000 ≤ x.clk.dtime ∧ x.pow.vledUv = false ∧
      x.pow.vledUvLeft = none ∧ x.gdn.winTime = 0 ∧
      3 * x.gdn.expect + 4000 < 2 * (x.gdn.vled.toNat * x.gdn.imeas.toNat / 1000)) ∧
    (Meets fun x => x.mode.cur = .beam ∧ x.gdn.winAt + 4000000 ≤ x.clk.dtime ∧ x.gdn.winTime = 0 ∧
      2 * (x.gdn.vled.toNat * x.gdn.imeas.toNat / 1000) ≤ 3 * x.gdn.expect + 4000 ∧
      x.gdn.expect ≤ 2 * (x.gdn.vled.toNat * x.gdn.imeas.toNat / 1000) + 2000) ∧
    (Meets fun x => x.mode.cur = .beam ∧ x.gdn.winAt + 4000000 ≤ x.clk.dtime ∧ x.pow.vledUv = true) ∧
    (Meets fun x => x.mode.cur = .beam ∧ x.gdn.winAt + 4000000 ≤ x.clk.dtime ∧ x.pow.vledUvLeft = some 9900000001 ∧
      x.clk.now < 9900000001 + 100000000) ∧
    (Meets fun x => x.mode.cur = .beam ∧ x.gdn.winAt + 4000000 ≤ x.clk.dtime ∧ x.pow.vledUv = false ∧ x.pow.vledUvLeft = some 9900000000 ∧
      9900000000 + 100000000 ≤ x.clk.now ∧ x.gdn.winTime = 4000000 ∧ 2000 < x.gdn.winEnergy / x.gdn.winTime / 1000000000 ∧
      2 * (x.gdn.vled.toNat * x.gdn.imeas.toNat / 1000) + 2000 < x.gdn.winEnergy / x.gdn.winTime / 1000000000) := by
  refine ⟨meets (rtcOk Ensign.reset) ?_, meets (rtcOk Ensign.reset) ?_, meets (rtcOk { Ensign.reset with oscPassed := true }) ?_,
    meets (withEns { Ensign.reset with powerOnAt := 8500000000 }) ?_,
    meets { inMode .beam with gdn := { Guidon.reset with winAt := 9996000000, vled := 12000, imeas := 167 } } ?_,
    meets { inMode .beam with gdn := { Guidon.reset with winAt := 9996000000, vled := 10000, imeas := 200 } } ?_,
    meets { inMode .beam with gdn := { Guidon.reset with winAt := 9996000000 }, pow := { on.pow with vledUv := true } } ?_,
    meets { inMode .beam with gdn := { Guidon.reset with winAt := 9996000000 }, pow := { on.pow with vledUvLeft := some 9900000001 } } ?_,
    meets { inMode .beam with
      gdn := { Guidon.reset with winAt := 9996000000, winTime := 4000000, winEnergy := 4000000 * 2001000000000 }
      pow := { on.pow with vledUvLeft := some 9900000000 } } ?_⟩ <;> decide +kernel

/-- The inputs show `filt` and are at `raw`, each for 5 ms. -/
def inputs (raw filt : BitVec 8) : Ensign := { Ensign.reset with raw := raw, filt := filt, rawAt := Vector.replicate 8 9995000001 }
def rising (a : Nat) : Ensign := { inputs 0x30 0x30 with svcFirst := some a, rawAt := Vector.replicate 8 10000000000 }
def pulsed : RegFile := { RegFile.reset with act := wordPut [] 0xA0000 (BitVec.ofNat 32 0x6401) }
theorem test_witness_InputRows :
    (Meets fun x => x.ensOn = true ∧ x.ens.filt.getLsbD 0 = true ∧ x.ens.filt.getLsbD 1 = false) ∧
    (Meets fun x => x.ensOn = true ∧ x.ens.darkReq = true ∧ x.ens.filt.getLsbD 0 = false ∧ x.ens.filt.getLsbD 1 = true) ∧
    (Meets fun x => x.ensOn = true ∧ x.ens.hsgOpen = false ∧ x.ens.filt.getLsbD 2 = true ∧ (x.ens.svcMode = false ∨ x.ens.svcArm = false)) ∧
    (Meets fun x => x.ensOn = true ∧ x.ens.hsgOpen = false ∧ x.ens.filt.getLsbD 3 = true ∧ x.ens.svcMode = true ∧ x.ens.svcArm = true) ∧
    (Meets fun x => x.ensOn = true ∧ x.ens.hsgOpen = true ∧ x.ens.filt.getLsbD 2 = false ∧ x.ens.filt.getLsbD 3 = false) ∧
    (Meets fun x => x.ensOn = true ∧ x.ens.filt.getLsbD 4 = true ∧ x.ens.filt.getLsbD 5 = true ∧ x.ens.svcArm = false ∧ x.ens.svcLock = false ∧
      x.ens.svcFirst = some 9500000000 ∧ max (vget x.ens.rawAt 4) (vget x.ens.rawAt 5) ≤ 9500000000 + 500000000) ∧
    (Meets fun x => x.ensOn = true ∧ x.ens.filt.getLsbD 4 = true ∧ x.ens.filt.getLsbD 5 = true ∧ x.ens.svcArm = false ∧ x.ens.svcLock = false ∧
      x.ens.svcFirst = some 9499999999 ∧ 9499999999 + 500000000 < max (vget x.ens.rawAt 4) (vget x.ens.rawAt 5)) ∧
    (Meets fun x => x.ensOn = true ∧ x.ens.svcArm = true ∧ x.ens.filt.getLsbD 4 = false ∧ x.ens.hsgOpen = false) ∧
    (Meets fun x => x.ensOn = true ∧ x.ens.svcArm = true ∧ x.ens.filt.getLsbD 5 = false ∧ x.ens.hsgOpen = true ∧ x.ens.svcMode = true) ∧
    (Meets fun x => x.ensOn = true ∧ x.ens.nfInt = false ∧ x.ens.raw.getLsbD 6 = false ∧ x.ens.raw.getLsbD 7 = false ∧
      vget x.ens.rawAt 6 + 600000 ≤ x.clk.now ∧ vget x.ens.rawAt 7 + 600000 ≤ x.clk.now) ∧
    (Meets fun x => x.ensOn = true ∧ x.ens.nfInt = true ∧
      (∀ k, k < 8 → 6 ≤ k → x.ens.raw.getLsbD k = true ∧ vget x.ens.rawAt k + x.fld 0xA0000 23 16 * 1000000 ≤ x.clk.now)) ∧
    (Meets fun x => x.ensOn = true ∧ x.ens.running = true ∧ x.flag 0xA0000 0 = true ∧ x.ens.discNf = none ∧
      x.ens.pulseA + x.fld 0xA0000 15 8 * 1000000 ≤ x.clk.now ∧ x.ens.pulseB + x.fld 0xA0000 15 8 * 1000000 ≤ x.clk.now) ∧
    (Meets fun x => x.ensOn = true ∧ x.ens.discDark = some 9950000000 ∧ 9950000000 + 50000000 ≤ x.clk.now ∧
      (x.ens.seen x.clk.now 0).1 = (x.ens.seen x.clk.now 1).1) ∧
    (Meets fun x => x.ensOn = true ∧ x.ens.discHsg = some 9500000000 ∧ 9500000000 + 500000000 ≤ x.clk.now ∧
      (x.ens.seen x.clk.now 2).1 ≠ (x.ens.seen x.clk.now 3).1) ∧
    (Meets fun x => x.ensOn = true ∧ x.ens.discNf = some 9900000000 ∧ 9900000000 + 100000000 ≤ x.clk.now ∧
      (x.ens.seen x.clk.now 6).1 ≠ (x.ens.seen x.clk.now 7).1) ∧
    (Meets fun x => x.ensOn = true ∧ x.ens.discNf = some 9900000000 ∧ 9900000000 + 100000000 ≤ x.clk.now ∧ x.pulseGone = true) ∧
    (Meets fun x => x.ensOn = true ∧ x.pow.vbat = true ∧ x.ens.raw.getLsbD (inputBit .nfB) = true) ∧
    (Meets fun x => x.ensOn = true ∧ x.pow.vbat = true ∧ x.ens.raw.getLsbD 2 = false ∧ x.clk.now - vget x.ens.rawAt 2 = 49999) ∧
    (Meets fun x => x.ensOn = true ∧ (true, 9995000001) = x.ens.seen x.clk.now 2 ∧ true ≠ x.ens.filt.getLsbD 2 ∧
      x.clk.now < 9995000001 + inputFilter 2) := by
  refine ⟨meets (withEns (inputs 1 1)) ?_, meets (withEns { inputs 2 2 with darkReq := true }) ?_, meets (withEns (inputs 4 4)) ?_,
    meets (withEns { inputs 8 8 with svcMode := true, svcArm := true }) ?_, meets (withEns { Ensign.reset with hsgOpen := true }) ?_,
    meets (withEns (rising 9500000000)) ?_, meets (withEns (rising 9499999999)) ?_,
    meets (withEns { Ensign.reset with svcArm := true }) ?_,
    meets (withEns { Ensign.reset with svcArm := true, hsgOpen := true, svcMode := true }) ?_, meets on ?_,
    meets (withEns { inputs 0xC0 0xC0 with nfInt := true, rawAt := Vector.replicate 8 0 }) ?_,
    meets { withEns { Ensign.reset with running := true } with regs := pulsed } ?_,
    meets (withEns { Ensign.reset with discDark := some 9950000000 }) ?_,
    meets (withEns { inputs 4 4 with discHsg := some 9500000000 }) ?_,
    meets (withEns { inputs 0x40 0x40 with discNf := some 9900000000 }) ?_,
    meets { withEns { Ensign.reset with running := true, noPulseB := true, discNf := some 9900000000 } with regs := pulsed } ?_,
    meets (withEns (inputs 0x80 0x80)) ?_, meets (withEns { Ensign.reset with rawAt := Vector.replicate 8 9999950001 }) ?_,
    meets (withEns (inputs 4 0)) ?_⟩ <;> decide +kernel

def upLane : Lane := { Lane.reset with st := .active, full := true, up := true, bclock := true }
def ctrlOf (u : CtrlUse) (n : Nat) : Ctrl := { tag := 3, use := u, addr := 0, count := n, due := 0, sentAt := some 9990000000 }
def closedSw : Ensign := { Ensign.reset with hsOn := true, lsOn := true }
def goodMeas : SwitchMeas := { startMa := 50, highMa := 19, lowMa := 19, highVdsMv := 199, lowVdsMv := 199 }
theorem test_witness_SwitchRows :
    (Meets fun x => x.ensOn = true ∧ ((x.ens.hsOn || x.ens.lsOn) && x.progOut) = false ∧ x.ens.swTest = some (.beamEntry, 0) ∧
      x.testResult goodMeas = 0) ∧
    (Meets fun x => x.ensOn = true ∧ ((x.ens.hsOn || x.ens.lsOn) && x.progOut) = false ∧ x.ens.swTest = some (.safetyTest ⟨.cspi, 0⟩, 0) ∧
      x.testResult { goodMeas with highMa := 20 } = 1) ∧
    (Meets fun x => x.ensOn = true ∧ x.ens.hsOn = true ∧ x.progOut = true) ∧
    (Meets fun x => x.ensOn = true ∧ x.ens.hsOn = false ∧ x.ens.lsOn = false ∧ x.pow.vbatCrank = true ∧ x.pow.meas0.toNat % 65536 < 4500) ∧
    (Meets fun x => x.ensOn = true ∧ x.ens.injectAt = some (⟨.cspi, 0⟩, 9992000000) ∧ 9992000000 + 8000000 ≤ x.clk.now ∧
      x.ens.safe = none ∧ x.laneEn 0 = true) ∧
    (Meets fun x => x.ensOn = true ∧ x.ens.injectAt = some (⟨.cspi, 0⟩, 9992000000) ∧ 9992000000 + 8000000 ≤ x.clk.now ∧
      x.ens.safe ≠ none) := by
  refine ⟨meets (withEns { closedSw with swTest := some (.beamEntry, 0) }) ?_,
    meets (withEns { closedSw with swTest := some (.safetyTest ⟨.cspi, 0⟩, 0) }) ?_,
    meets { withLane { upLane with ctrl := [ctrlOf .pageProg 0] } with ens := closedSw } ?_,
    meets (supplied { on.pow with vbatCrank := true }) ?_,
    meets (withEns { Ensign.reset with ovr := true, injectAt := some (⟨.cspi, 0⟩, 9992000000) }) ?_,
    meets (withEns { Ensign.reset with ovr := true, safe := some .safeBeam, injectAt := some (⟨.cspi, 0⟩, 9992000000) }) ?_⟩ <;> decide +kernel

/-! ### The die link, the test port and Halyard -/

def withDl (d : DieLink) : State := { on with dl := d }
def outOf {α : Type} (b : α) : Out α := { body := b, tag := 15, resends := 8, sentAt := 9999990000 }
def readAcc : RegAcc := { offset := 0, block := 0x10, write := none }
def readJob : RegJob := { id := ⟨.cspi, 0⟩, op := 0, todo := [(0x100000, 0)], acc := [], mask := 0, value := 0 }
def escal : Escal := { code := 0, cls := 0, block := 0, dark := true }
def everyDown : DieLink :=
  { DieLink.reset with
    escOut := some (outOf escal), reqOut := some (outOf (3, 0)), highOut := some (outOf 4095), regOut := some (outOf readAcc)
    regWait := some { readAcc with write := some 1 } }
theorem test_witness_ReliableOnce :
    (Meets fun x => x.dl.seqDown ≠ x.dl.rxDown ∧ x.dl.escOut.isSome = true ∧ x.dl.reqOut.isSome = true ∧ x.dl.highOut.isSome = true ∧
      x.dl.regOut.isSome = true ∧ x.dl.regWait.isSome = true) ∧
    ((Meets fun x => x.dl.seqDown = x.dl.rxDown ∧ x.dl.escOut = some (outOf escal) ∧ x.dl.escTag = some 15) ∧
      (Meets fun x => x.dl.seqDown = x.dl.rxDown ∧ x.dl.escOut = some (outOf escal) ∧ x.dl.escTag ≠ some 15) ∧
      (Meets fun x => x.dl.seqDown = x.dl.rxDown ∧ x.dl.reqOut = some (outOf (3, 0)) ∧ x.dl.reqTag = some 15) ∧
      (Meets fun x => x.dl.seqDown = x.dl.rxDown ∧ x.dl.reqOut = some (outOf (3, 0)) ∧ x.dl.reqTag ≠ some 15 ∧ x.ensHeld = true ∧
        x.mode.cur.isSafe = true ∧ x.mode.trans = some (asked .ready)) ∧
      (Meets fun x => x.dl.reqOut = some (outOf (1, 0)) ∧ x.dl.reqTag ≠ some 15) ∧
      (Meets fun x => x.dl.reqOut = some (outOf (5, 0)) ∧ x.dl.reqTag ≠ some 15) ∧
      (Meets fun x => x.dl.highOut = some (outOf 4095) ∧ x.dl.highTag ≠ some 15)) ∧
    ((Meets fun x => x.dl.regOut = some (outOf { readAcc with block := 0 }) ∧ x.dl.regTag ≠ some 15 ∧ regHv (0 * 65536 + 0) = false) ∧
      (Meets fun x => x.dl.regOut = some (outOf { readAcc with write := some 1 }) ∧ x.dl.regTag ≠ some 15 ∧ regHv (0x10 * 65536 + 0) = true) ∧
      (Meets fun x => x.dl.regOut = some (outOf readAcc) ∧ x.dl.regTag ≠ some 15 ∧ regHv (0x10 * 65536 + 0) = true ∧
        x.dl.regJob = some readJob) ∧
      (Meets fun x => x.dl.regWait = some { readAcc with write := some 1 })) ∧
    ((Meets fun x => x.dl.seqUp = x.dl.rxUp ∧ x.dl.statusOut.any (fun m => m.urgent) = false ∧ x.dl.resp = some 7 ∧
        x.dl.regOut = some (outOf readAcc) ∧ x.dl.regJob = some readJob) ∧
      (Meets fun x => x.dl.seqUp ≠ x.dl.rxUp ∧ x.dl.statusOut.any (fun m => m.urgent) = false ∧ x.dl.resp = some 7 ∧
        x.dl.regOut = some (outOf readAcc) ∧ x.dl.regJob = some readJob)) := by
  refine ⟨meets (withDl { everyDown with rxDown := 15 }) ?_,
    ⟨meets (withDl { everyDown with escTag := some 15 }) ?_,
    meets (withDl everyDown) ?_, meets (withDl { everyDown with reqTag := some 15 }) ?_,
    meets { going .safeBeam .ready with dl := everyDown, ens := { Ensign.reset with ocTrip := true } } ?_,
    meets (withDl { everyDown with reqOut := some (outOf (1, 0)) }) ?_, meets (withDl { everyDown with reqOut := some (outOf (5, 0)) }) ?_,
    meets (withDl everyDown) ?_⟩,
    ⟨meets (withDl { everyDown with regOut := some (outOf { readAcc with block := 0 }) }) ?_,
    meets (withDl { everyDown with regOut := some (outOf { readAcc with write := some 1 }) }) ?_,
    meets (withDl { everyDown with regJob := some readJob }) ?_, meets (withDl everyDown) ?_⟩,
    meets (withDl { everyDown with resp := some 7, regJob := some readJob }) ?_,
    meets (withDl { everyDown with resp := some 7, regJob := some readJob, rxUp := 15 }) ?_⟩ <;> decide +kernel

def hvEvent (code : Nat) : HvEvent := { code := code, inst := 0, data := 0, act := false, esc := false, pended := false }
def urgentMsg : StatusMsg := { StatusMsg.reset with urgent := true }
def ensFault (x : State) : State :=
  { (x.present 0x287 clsI 0 0 false).1 with dl := { DieLink.reset with evOut := some (outOf { hvEvent 0x287 with act := true }) } }
theorem test_witness_DieLinkTraffic :
    ((Meets fun x => x.pow.logicOn = true ∧ x.dl.highOut.isSome = true) ∧
      (Meets fun x => x.pow.logicOn = true ∧ x.dl.highOut = none ∧ x.clk.highSent = some (x.clk.dtime / 2 ^ 52)) ∧
      (Meets fun x => x.pow.logicOn = true ∧ x.dl.highOut = none ∧ x.clk.highSent ≠ some (x.clk.dtime / 2 ^ 52)) ∧
      (Meets fun x => x.clk.markWord = some 9536 ∧ x.dl.seqDown = x.dl.rxDown) ∧
      (Meets fun x => x.clk.markWord = some 9536 ∧ x.dl.seqDown ≠ x.dl.rxDown)) ∧
    ((Meets fun x => x.pow.logicOn = true ∧ x.dl.statusOut.any (fun m => m.urgent) = false ∧ x.dl.seqUp = x.dl.rxUp ∧
        x.dl.evOut = some (outOf (hvEvent 0x28D)) ∧ x.dl.evTag ≠ some 15 ∧ isEns 0x28D = true) ∧
      (Meets fun x => x.pow.logicOn = true ∧ x.dl.statusOut.any (fun m => m.urgent) = false ∧ x.dl.seqUp = x.dl.rxUp ∧
        x.dl.evOut = some (outOf { hvEvent 0x287 with act := true }) ∧ x.dl.evTag ≠ some 15 ∧ isEns 0x287 = true ∧
        ((x.passUp.setDl (fun d => { d with evTag := some 15 })).activeOf 0x287).isSome = true) ∧
      (Meets fun x => x.pow.logicOn = true ∧ x.dl.statusOut.any (fun m => m.urgent) = false ∧ x.dl.seqUp = x.dl.rxUp ∧
        x.dl.evOut = some (outOf (hvEvent 0x400)) ∧ x.dl.evTag ≠ some 15 ∧ isEns 0x400 = false ∧ faultClass 0x400 = none) ∧
      (Meets fun x => x.pow.logicOn = true ∧ x.dl.dropOut = some (outOf 65536) ∧ x.dl.dropTag ≠ some 15) ∧
      (Meets fun x => x.pow.logicOn = true ∧ x.pow.vbat = true)) ∧
    (Meets fun x => x.pow.logicOn = true ∧ x.dl.statusOut = some urgentMsg ∧ urgentMsg.urgent = true ∧ x.dl.seqUp = x.dl.rxUp ∧
      x.gdn.capSeen = urgentMsg.inst.getLsbD 5 ∧ x.dl.dropOut = some (outOf 3) ∧ x.dl.dropTag = some (outOf 3).tag) := by
  refine ⟨⟨meets (withDl { DieLink.reset with highOut := some (outOf 0) }) ?_, meets { on with clk := { on.clk with highSent := some 0 } } ?_,
    meets on ?_, meets { on with clk := { on.clk with markWord := some 9536 } } ?_,
    meets { on with clk := { on.clk with markWord := some 9536 }, dl := { DieLink.reset with rxDown := 1 } } ?_⟩,
    ⟨meets (withDl { DieLink.reset with evOut := some (outOf (hvEvent 0x28D)) }) ?_, meets (ensFault on) ?_,
    meets (withDl { DieLink.reset with evOut := some (outOf (hvEvent 0x400)) }) ?_,
    meets (withDl { DieLink.reset with dropOut := some (outOf 65536) }) ?_, meets on ?_⟩,
    meets (withDl { DieLink.reset with statusOut := some urgentMsg, dropOut := some (outOf 3), dropTag := some 15 }) ?_⟩ <;> decide +kernel

theorem test_witness_LinkRepair :
    (Meets fun x => x.dl.highOut = some (outOf 1) ∧ (outOf 1).tag = 15 ∧ x.dl.highTag = some 15 ∧
      x.dl.statusOut.any (fun m => m.urgent) = false ∧ x.dl.seqUp = x.dl.rxUp) ∧
    (Meets fun x => x.dl.evOut = some (outOf (hvEvent 0x28D)) ∧ (outOf 1).tag = 15 ∧ x.dl.evTag = some 15 ∧ x.dl.seqDown = x.dl.rxDown) ∧
    (Meets fun x => x.pow.logicOn = true ∧ x.dl.highOut = some { outOf 1 with resends := 7 } ∧ (outOf 1).sentAt + 10000 ≤ x.clk.now ∧ 7 < 8) ∧
    (Meets fun x => x.pow.logicOn = true ∧ x.dl.highOut = some (outOf 1) ∧ (outOf 1).sentAt + 10000 ≤ x.clk.now ∧ 8 ≤ (outOf 1).resends) := by
  refine ⟨meets (withDl { DieLink.reset with highOut := some (outOf 1), highTag := some 15 }) ?_,
    meets (withDl { DieLink.reset with evOut := some (outOf (hvEvent 0x28D)), evTag := some 15 }) ?_,
    meets (withDl { DieLink.reset with highOut := some { outOf 1 with resends := 7 } }) ?_,
    meets (withDl { DieLink.reset with highOut := some (outOf 1) }) ?_⟩ <;> decide +kernel
theorem test_witness_PortAndFirmware : (Meets fun x => x.pow.logicOn = true) ∧ testCode 31 = false ∧ testCode 0 = true ∧ testCode 4 = true :=
  ⟨meets on (by decide +kernel), by decide +kernel, by decide +kernel, by decide +kernel⟩

/-! ### The engine link and the light engine -/

theorem test_witness_LaneBlocks :
    (Meets fun x => x.laneOn 15 = true ∧ (vget x.fly 15).baseAt + 8192 * (vget x.fly 15).blockPs ≤ 1000 * x.clk.dtime) ∧
    (Meets fun x => x.laneOn 15 = true ∧ 1000 * x.clk.dtime < (vget x.fly 15).baseAt + 8192 * (vget x.fly 15).blockPs) ∧
    (Meets fun x => x.laneOn 15 = true ∧ (vget x.fly 15).runs = true ∧ (vget x.fly 15).fstartAt + 1000000 ≤ x.clk.dtime ∧ x.scan.run = true) ∧
    (Meets fun x => x.laneOn 15 = true ∧ (vget x.fly 15).runs = true ∧ (vget x.fly 15).fstartAt + 1000000 ≤ x.clk.dtime ∧
      x.scan.run = false ∧ x.mode.sleep ≠ .none) ∧
    (Meets fun x => x.laneOn 15 = true ∧ (vget x.fly 15).runs = true ∧ (vget x.fly 15).fstartAt + 1000000 ≤ x.clk.dtime ∧
      x.scan.run = false ∧ x.mode.sleep = .none) ∧
    (Meets fun x => x.laneOn 0 = true ∧ (vget x.fly 0).runs = true ∧ (vget x.fly 0).up = false ∧ (vget x.fly 0).down = false ∧
      (vget x.fly 0).startedAt + (vget x.fly 0).upBound ≤ x.clk.dtime) := by
  refine ⟨meets on ?_, meets (withLane { upLane with baseAt := 10000000000000 }) ?_, meets { withLane { upLane with fstartAt := 9999000000 } with scan := scanning } ?_,
    meets { leaving .draining 0 with fly := Vector.replicate 16 { upLane with fstartAt := 9999000000 } } ?_,
    meets (withLane { upLane with fstartAt := 9999000000 }) ?_,
    meets (withLane { Lane.reset with st := .idle, startedAt := 9980000000 }) ?_⟩ <;> decide +kernel

def awaiting (dl : Nat) : State :=
  withScan { scanning with segs := Vector.replicate 16 { Seg.reset with wait := some (9, 0xABCD, dl), goodAt := some 5 } }
theorem test_witness_BackchannelMessages :
    ((Meets fun x => x.backOn 15 = true ∧ (0 : Byte) ≠ 1 ∧ (vget (x.backHeard 15).fly 15).crcOut = false) ∧
      (Meets fun x => x.backOn 3 = true ∧ (vget (x.backHeard 3).fly 3).read = some { seq := 255, data := [] } ∧
        (List.replicate 7 (0 : Byte)).length = 7 ∧
        (vget (x.backHeard 3).fly 3).ctrl.find? (fun c => c.use.isRead) = some (ctrlOf .hostRead 7))) ∧
    (Meets fun x => x.backOn 15 = true ∧ (vget (x.backHeard 15).scan.segs 15).wait = some (9, 0xABCD, 10000000000) ∧
      (x.backHeard 15).clk.dtime ≤ 10000000000) := by
  refine ⟨⟨meets on ?_, meets (withLane { upLane with read := some { seq := 255, data := [] }, ctrl := [ctrlOf .hostRead 7] }) ?_⟩, meets (awaiting 10000000000) ?_⟩ <;>
    decide +kernel

def trainLane (ph : Nat) : Lane := { Lane.reset with st := .training, phase := ph, phaseDue := 10000000000, rseq := 1 }
def counting : Lane := { trainLane 1 with acked := true, countAt := some 10000000000000 }
/-- PHASE 1 at LIMP, of which the block with COUNT 0 leaves at `c` ps. -/
def counted (c : Nat) : Lane := { trainLane 1 with countAt := some c, phaseDue := 10000009000 }
theorem test_witness_LaneTraining :
    (Meets fun x => x.laneOn 7 = true ∧ (vget x.fly 7).st = .training ∧ (vget x.fly 7).phase = 1 ∧
      (vget x.fly 7).countAt = some 10000005000000 ∧ 1000 * x.clk.dtime + (vget x.fly 7).blockPs < 10000005000000) ∧
    (Meets fun x => x.laneOn 7 = true ∧ (vget x.fly 7).st = .training ∧ (vget x.fly 7).phase = 1 ∧
      (vget x.fly 7).countAt = some 10000000010000 ∧ 10000000010000 ≤ 1000 * x.clk.dtime + (vget x.fly 7).blockPs) ∧
    (Meets fun x => x.laneOn 7 = true ∧ (vget x.fly 7).st = .training ∧ (vget x.fly 7).phase = 2 ∧ (vget x.fly 7).rseq = 1 ∧
      x.flag (laneAddr 7) 2 = false ∧ (1#8).getLsbD 0 = true ∧ (3#8).getLsbD 1 = true ∧ (3#8).getLsbD 2 = false) ∧
    (Meets fun x => x.laneOn 7 = true ∧ (vget x.fly 7).st = .training ∧ (vget x.fly 7).phase = 2 ∧ x.flag (laneAddr 7) 2 = true ∧
      (7#8).getLsbD 0 = true ∧ (7#8).getLsbD 1 = true ∧ (7#8).getLsbD 2 = true) ∧
    (Meets fun x => x.laneOn 7 = true ∧ (vget x.fly 7).st = .training ∧ (vget x.fly 7).phase = 4 ∧ 0 < (1#16).toNat ∧
      (1#16).toNat ≤ (1#16).toNat ∧ (vget x.fly 7).phaseDue ≤ x.clk.dtime ∧ (vget x.fly 7).attempt < 3) ∧
    (Meets fun x => x.laneOn 7 = true ∧ (vget x.fly 7).st = .training ∧ (vget x.fly 7).phaseDue ≤ x.clk.dtime ∧ 3 ≤ (vget x.fly 7).attempt) ∧
    ((withLane counting).ens.ovr = false ∧ (vget (withLane counting).fly 7).st = .training ∧ (vget (withLane counting).fly 7).phase = 1 ∧
      (vget (withLane counting).fly 7).acked = true ∧ (vget (withLane counting).fly 7).countAt = some 10000000000000 ∧
      10000000000000 ≤ 1000 * (withLane counting).clk.dtime) := by
  refine ⟨meets (withLane (counted 10000005000000)) ?_, meets (withLane (counted 10000000010000)) ?_,
    meets { withLane (trainLane 2) with regs := { RegFile.reset with act := wordPut [] (laneAddr 7) 1 } } ?_,
    meets { withLane (trainLane 2) with regs := { RegFile.reset with act := wordPut [] (laneAddr 7) 5 } } ?_,
    meets (withLane (trainLane 4)) ?_, meets (withLane { trainLane 2 with attempt := 3 }) ?_, ?_⟩ <;> decide +kernel
def goodFrame : List Byte := [0xB5, 0] ++ List.replicate 8 0 ++ le 2 (backCrc 8 0 (List.replicate 8 0)).toNat
def badFrame : List Byte := List.replicate 12 0
/-- A frame of a reserved type with a good CRC. -/
def reservedFrame : List Byte := [0xB5, 255] ++ List.replicate 8 0 ++ le 2 (backCrc 8 255 (List.replicate 8 0)).toNat
/-- A lane that has had three bad messages within 960 ns. -/
def failing (l : Lane) : Lane := { l with badRun := 3, runFrom := 9999999041 }
theorem test_witness_LaneStatus :
    (Meets fun x => x.backOn 8 = true ∧ (vget x.fly 8).runs = true ∧ (vget x.fly 8).up = true ∧ (vget x.fly 8).mis = false ∧ x.ens.ovr = false) ∧
    ((backParse 8 goodFrame).isSome = true ∧ (backParse 9 goodFrame).isSome = false ∧ (backParse 8 reservedFrame).isSome = false ∧
      backCrcOk 8 reservedFrame = true ∧ backCrcOk 8 badFrame = false ∧ Lane.polarity 8 goodFrame { upLane with full := false } = false ∧
      Lane.polarity 8 (flipBytes goodFrame) { upLane with full := false } = true ∧ Lane.polarity 8 badFrame upLane = false) ∧
    (Meets fun x => x.backOn 8 = true ∧ (vget x.fly 8).bclock = true ∧
      (if x.clk.dtime < (vget x.fly 8).runFrom + 960 then (vget x.fly 8).badRun + 1 else 1) = 1) ∧
    (Meets fun x => x.backOn 8 = true ∧ (vget x.fly 8).bclock = true ∧ x.ens.ovr = true ∧
      (if x.clk.dtime < (vget x.fly 8).runFrom + 960 then (vget x.fly 8).badRun + 1 else 1) = 4) ∧
    (Meets fun x => x.backOn 8 = true ∧ (vget x.fly 8).bclock = true ∧ x.ens.ovr = false ∧ (vget x.fly 8).st ≠ .training ∧ (vget x.fly 8).up = true ∧
      (if x.clk.dtime < (vget x.fly 8).runFrom + 960 then (vget x.fly 8).badRun + 1 else 1) = 4) ∧
    (Meets fun x => x.backOn 8 = true ∧ (vget x.fly 8).bclock = true ∧ x.ens.ovr = false ∧ (vget x.fly 8).st ≠ .training ∧ (vget x.fly 8).up = false ∧
      (if x.clk.dtime < (vget x.fly 8).runFrom + 960 then (vget x.fly 8).badRun + 1 else 1) = 4) ∧
    (Meets fun x => x.backOn 8 = true ∧ (vget x.fly 8).bclock = true ∧ x.ens.ovr = false ∧ (vget x.fly 8).st = .training ∧ (vget x.fly 8).full = true ∧
      (if x.clk.dtime < (vget x.fly 8).runFrom + 960 then (vget x.fly 8).badRun + 1 else 1) = 4) ∧
    (Meets fun x => x.backOn 8 = true ∧ (vget x.fly 8).bclock = true ∧ x.ens.ovr = false ∧ (vget x.fly 8).st = .training ∧ (vget x.fly 8).full = false ∧
      (if x.clk.dtime < (vget x.fly 8).runFrom + 960 then (vget x.fly 8).badRun + 1 else 1) = 4) := by
  refine ⟨meets on ?_, ?_, meets (withLane { upLane with badRun := 3, runFrom := 9999999040 }) ?_,
    meets { withLane (failing upLane) with ens := { Ensign.reset with ovr := true } } ?_, meets (withLane (failing upLane)) ?_,
    meets (withLane (failing { upLane with up := false })) ?_, meets (withLane (failing { trainLane 2 with full := true, bclock := true })) ?_,
    meets (withLane (failing { counted 10000005000000 with bclock := true })) ?_⟩ <;> decide +kernel

def testing (due : Nat) (done : Bool) (l : Lane) : State :=
  { withLane l with eng := { on.eng with laneTest := some (⟨.cspi, 0⟩, 0x8000, due, done) } }
theorem test_witness_LaneTestAndLife :
    ((Meets fun x => x.eng.laneTest = some (⟨.cspi, 0⟩, 0x8000, 10000000000, false) ∧ 10000000000 ≤ x.clk.dtime ∧
        ∃ n, n < 16 ∧ (0x8000#16).getLsbD n = true ∧ (vget x.fly n).prbs = none) ∧
      (Meets fun x => x.eng.laneTest = some (⟨.cspi, 0⟩, 0x8000, 10000000000, false) ∧ 10000000000 ≤ x.clk.dtime ∧
        ∀ n, n < 16 → (0x8000#16).getLsbD n = true → (vget x.fly n).prbs ≠ none) ∧
      (Meets fun x => (x.backHeard 15).eng.laneTest = some (⟨.cspi, 0⟩, 0x8000, 10000000001, false) ∧ (0x8000#16).getLsbD 15 = true ∧
        x.backOn 15 = true) ∧
      (Meets fun x => (x.backHeard 15).eng.laneTest = some (⟨.cspi, 0⟩, 0xC000, 9999900000, true) ∧ (0xC000#16).getLsbD 15 = true ∧
        x.backOn 15 = true ∧ (0xC000#16).getLsbD 14 = true ∧ (vget (x.backHeard 15).fly 14).prbs = none) ∧
      (Meets fun x => (x.backHeard 15).eng.laneTest = some (⟨.cspi, 0⟩, 0x8000, 9999900000, true) ∧ x.backOn 15 = true ∧
        ∀ m, m < 16 → m ≠ 15 → (0x8000#16).getLsbD m = false) ∧
      (Meets fun x => x.eng.laneTest = some (⟨.cspi, 0⟩, 0x8000, 9999000000, true) ∧ 9999000000 + 1000000 ≤ x.clk.dtime)) ∧
    ((Meets fun x => x.keepShown = some true ∧ x.eng.lifeTickAt + 1000000 ≤ x.clk.dtime) ∧
      (Meets fun x => x.mode.cur = .beam ∧ x.eng.markNs + 600000000000 ≤ x.beamTime ∧ x.eng.engId = true) ∧
      (Meets fun x => x.mode.cur = .beam ∧ x.eng.markNs + 600000000000 ≤ x.beamTime ∧ x.eng.engId = false ∧ x.mode.sleep = .none)) := by
  refine ⟨⟨meets (testing 10000000000 false upLane) ⟨by decide +kernel, by decide +kernel, 15, by decide +kernel⟩,
    meets (testing 10000000000 false { upLane with prbs := some 0 }) ?_, meets (testing 10000000001 false upLane) ?_,
    meets { on with eng := { on.eng with laneTest := some (⟨.cspi, 0⟩, 0xC000, 9999900000, true) } } ?_,
    meets (testing 9999900000 true upLane) ?_, meets (testing 9999000000 true upLane) ?_⟩,
    meets { inMode .safeBeam with eng := { on.eng with lifeTickAt := 9999000000 } } ?_,
    meets { inMode .beam with eng := { on.eng with beamSec := 600 } } ?_,
    meets { inMode .beam with eng := { Engine.reset with beamSec := 600 } } ?_⟩ <;> decide +kernel

/-- A lane whose last MARKER was sent 1 ns ago. -/
def markedLane : Lane := { upLane with baseAt := 9999999999000 }
theorem test_witness_EngineAnswers :
    (Meets fun x => x.backOn 0 = true ∧ (vget (x.backHeard 0).fly 0).ctrl = [ctrlOf .wave 0] ∧ (3#2).toNat = (3#8).toNat ∧
      (ctrlOf .wave 0).use = .wave) ∧
    (Meets fun x => x.backOn 0 = true ∧ (vget (x.backHeard 0).fly 0).ctrl = [ctrlOf .hostRead 7] ∧ (vget (x.backHeard 0).fly 0).ctrlQ = [] ∧
      (vget (x.backHeard 0).fly 0).read = some { seq := 1, data := [1, 2, 3, 4, 5, 6, 7] } ∧ (ctrlOf .hostRead 7).count ≤ 7 ∧
      (x.backHeard 0).eng.nvRead = some (⟨.cspi, 0⟩, 0) ∧ (x.backHeard 0).injects 20 = false) ∧
    (Meets fun x => (vget x.fly 0).ctrl = [ctrlOf .hostRead 7] ∧ (vget x.fly 0).ctrlQ = [] ∧
      Lane.leftAt (vget x.fly 0) ((vget x.fly 0).slotsBy x.clk.dtime) (ctrlOf .hostRead 7) = some 9990000000 ∧
      9990000000 + 10000000 ≤ x.clk.dtime ∧ x.eng.nvRead = some (⟨.cspi, 0⟩, 0)) ∧
    (Meets fun x => (vget x.fly 0).ctrl = [{ ctrlOf .hostRead 7 with sentAt := none }] ∧
      Lane.leftAt (vget x.fly 0) ((vget x.fly 0).slotsBy x.clk.dtime) { ctrlOf .hostRead 7 with sentAt := none } = none) := by
  refine ⟨meets (withLane { markedLane with ctrl := [ctrlOf .wave 0] }) ?_,
    meets { withLane { markedLane with ctrl := [ctrlOf .hostRead 7], read := some { seq := 1, data := [1, 2, 3, 4, 5, 6, 7] } } with
      eng := { on.eng with nvRead := some (⟨.cspi, 0⟩, 0) } } ?_,
    meets { withLane { markedLane with ctrl := [ctrlOf .hostRead 7] } with eng := { on.eng with nvRead := some (⟨.cspi, 0⟩, 0) } } ?_,
    meets (withLane { markedLane with ctrl := [{ ctrlOf .hostRead 7 with sentAt := none }] }) ?_⟩ <;> decide +kernel

/-! ### The host link -/

def headOf (cls : Nat) (cf body : List Byte) : HoistHead :=
  { epoch := 0, cseq := 0, hcrc := hcrcOf cls 0 0 body.length cf, bcrc := bcrcOf (hcrcOf cls 0 0 body.length cf) body }
def credit (adv : Half) : Hoist := { Hoist.reset with st := .bonded, cred := Vector.replicate 4 { Cred.reset with adv := adv } }
def listBody : List Byte := le 2 7 ++ [0, 0] ++ List.replicate 1020 0
theorem test_witness_HoistChecks :
    (Meets fun x => x.HoistGood (headOf 2 [] [1, 2]) 2 1 [] [1, 2]) ∧ (Meets fun x => x.hoistUp = false) ∧
    (Meets fun x => x.hoistUp = true ∧ x.chk.armed = none ∧ 0#32 ≠ hcrcOf 2 0 0 2 [] ∧ x.hoist.waitEpoch = true) ∧
    (Meets fun x => x.hoistUp = true ∧ x.chk.armed = none ∧ 0#32 ≠ hcrcOf 2 0 0 2 [] ∧ x.hoist.waitEpoch = false) ∧
    (Meets fun x => x.hoistUp = true ∧ x.chk.armed = none ∧ (1#8) ≠ x.hoist.epoch) ∧
    (Meets fun x => x.hoistUp = true ∧ x.chk.armed = none ∧ (0#8) = x.hoist.epoch ∧
      later 16 ((vget x.hoist.cred 2).cons.toNat + 1) (vget x.hoist.cred 2).adv.toNat = true) ∧
    (Meets fun x => x.hoistUp = true ∧ later 16 ((vget x.hoist.cred 2).cons.toNat + 1) (vget x.hoist.cred 2).adv.toNat = false ∧
      later 16 (1#16).toNat (vget x.hoist.inNext 2).toNat = true) ∧
    (Meets fun x => x.hoistUp = true ∧ later 16 ((vget x.hoist.cred 2).cons.toNat + 1) (vget x.hoist.cred 2).adv.toNat = false ∧
      (0xFFFF#16) ≠ vget x.hoist.inNext 2 ∧ later 16 (0xFFFF#16).toNat (vget x.hoist.inNext 2).toNat = false) ∧
    (Meets fun x => x.hoistUp = true ∧ later 16 ((vget x.hoist.cred 2).cons.toNat + 1) (vget x.hoist.cred 2).adv.toNat = false ∧
      (0#16) = vget x.hoist.inNext 2 ∧ ([1] : List Byte) ≠ [] ∧ 0#32 ≠ bcrcOf (hcrcOf 2 0 0 1 []) [1]) := by
  refine ⟨meets (withHoist (credit 1)) ?_, meets (withHoist Hoist.reset) ?_, meets (withHoist { credit 1 with waitEpoch := true }) ?_, meets on ?_,
    meets on ?_, meets (withHoist (credit 0)) ?_,
    meets (withHoist (credit 1)) ?_, meets (withHoist (credit 1)) ?_, meets (withHoist (credit 1)) ?_⟩
  · unfold State.HoistGood; decide +kernel
  all_goals decide +kernel
set_option maxRecDepth 20000 in
theorem test_witness_HoistMessages :
    ((Meets fun x => x.mode.sleep = .none ∧ x.mode.restart = none ∧ x.HoistGood (headOf 0 [5, 0, 0, 0, 0, 0] (List.replicate 513 1)) 0 (vidCost 513)
        ([5, 0] ++ le 4 (0#32).toNat) (List.replicate 513 1)) ∧
      (Meets fun x => x.HoistGood (headOf 1 [] listBody) 1 1 [] listBody) ∧
      (Meets fun x => x.HoistGood (headOf 3 [] (le 8 5 ++ le 4 6 ++ le 4 0)) 3 1 [] (le 8 5 ++ le 4 6 ++ le 4 0) ∧ x.hoist.timeQ = [] ∧
        creditLeft x.hoist.timeAdv x.hoist.timeSent = true) ∧
      (Meets fun x => x.HoistGood (headOf 3 [] (le 8 5 ++ le 4 6 ++ le 4 0)) 3 1 [] (le 8 5 ++ le 4 6 ++ le 4 0) ∧ x.hoist.timeQ = [] ∧
        creditLeft x.hoist.timeAdv x.hoist.timeSent = false) ∧
      (Meets fun x => x.HoistGood (headOf 4 [] (hcreditBody 0 0 0 8 8)) 4 0 [] (hcreditBody 0 0 0 8 8) ∧ x.hoist.timeQ = [] ∧
        x.hoist.replyQ = []) ∧
      (Meets fun x => x.HoistGood (headOf 5 [] []) 5 0 [] [])) ∧
    on.hoistUp = true := by
  refine ⟨⟨meets (withHoist (credit 2)) ?_, meets (withHoist (credit 1)) ?_, meets (withHoist { credit 1 with timeAdv := 1 }) ?_,
    meets (withHoist (credit 1)) ?_, meets (withHoist (credit 0)) ?_, meets (withHoist (credit 0)) ?_⟩, by decide +kernel⟩
  · exact ⟨by decide +kernel, by decide +kernel, by decide +kernel, by decide +kernel, rfl, rfl, by decide +kernel, by decide +kernel, Or.inr rfl⟩
  · exact ⟨by decide +kernel, by decide +kernel, rfl, rfl, by decide +kernel, by decide +kernel, Or.inr rfl⟩
  all_goals unfold State.HoistGood; decide +kernel

def storing (u : Surface) (w : Xfer) : State := { withSurf 127 u with hoist := { on.hoist with cur := some w } }
def filling : Surface := { mapSurface with st := .incomplete, fill := 128 }
def xferAt (off len : Nat) : Xfer := { surf := 127, offset := off, data := List.replicate len 1 }
theorem test_witness_TransferRows :
    (Meets fun x => x.hoist.cur = none ∧ x.store.clrDone = true ∧ x.hoist.ingress = [.vid 127 128 (List.replicate 128 1)] ∧
      x.vidRefusal 127 128 128 = none) ∧
    (Meets fun x => x.hoist.cur = none ∧ x.store.clrDone = true ∧ x.hoist.ingress = [.vid 128 0 [1]] ∧ (x.vidRefusal 128 0 1).isSome = true) ∧
    (Meets fun x => x.hoist.cur = some (xferAt 1048448 128) ∧ (x.surf 127).st = .incomplete ∧ 1048448 ≤ (x.surf 127).fill ∧
      (x.surf 127).fill < 1048448 + 128) ∧
    (Meets fun x => x.hoist.cur = some (xferAt 129 16) ∧ (x.surf 127).st = .incomplete ∧ (x.surf 127).fill < 129) ∧
    (Meets fun x => x.hoist.cur = some (xferAt 0 128) ∧ 0 + 128 ≤ (x.surf 127).fill) ∧
    (Meets fun x => x.hoist.cur = some (xferAt 0 16) ∧ (x.surf 127).st ≠ .incomplete) ∧
    (Meets fun x => x.mode.sleep = .none ∧ x.hoistUp = false) := by
  refine ⟨meets { withSurf 127 filling with hoist := { on.hoist with ingress := [.vid 127 128 (List.replicate 128 1)] } } ?_,
    meets { on with hoist := { on.hoist with ingress := [.vid 128 0 [1]] } } ?_, meets (storing { filling with fill := 1048448 } (xferAt 1048448 128)) ?_,
    meets (storing filling (xferAt 129 16)) ?_, meets (storing filling (xferAt 0 128)) ?_,
    meets (storing { filling with st := .complete } (xferAt 0 16)) ?_, meets (withHoist Hoist.reset) ?_⟩ <;> decide +kernel

def balanced : Hoist :=
  { Hoist.reset with st := .bonded, cred := #v[{ Cred.reset with free := hoistCap 0 }, { Cred.reset with free := hoistCap 1 },
    { Cred.reset with free := hoistCap 2 }, { Cred.reset with free := hoistCap 3 }] }
def hTraining (k : Nat) : Hoist := { Hoist.reset with st := .training, phase := 1, phaseDue := 10000000000, attempt := k }
def hostRecord : CapRecord := { version := 1, lanes := 4, rates := 3, prec := 0, tstamp := 0, id := 0 }
theorem test_witness_HoistLinkRows :
    on.pow.logicOn = true ∧ 6 ≤ on.mode.step ∧
    (Meets fun x => x.hrxFull = true) ∧ (Meets fun x => x.hrxFull = false ∧ (0 : Fin 4).val = 0) ∧
    (Meets fun x => x.hoist.st = .bonded ∧ x.hrxFull = true ∧ (vget x.hoist.lanes 3).lock = true ∧
      (HLane.group (List.replicate 30 0) (vget x.hoist.lanes 3)).lock = false) ∧ (Meets fun x => x.hoist.st = .bonded) ∧
    (Meets fun x => x.hoistUp = true ∧ x.hoist.creditAt + 100000 ≤ x.clk.dtime) ∧
    (Meets fun x => ∀ c, c < 4 → x.credBalanced c = true) ∧
    (Meets fun x => x.credBalanced 1 = false ∧ ∀ c, c < 4 → c ≠ 1 → x.credBalanced c = true) ∧
    (Meets fun x => x.hoist.st = .down ∧ x.hoist.attempt = 0 ∧ x.mode.step < 8 ∧ 6 ≤ x.mode.step) ∧
    (Meets fun x => x.hoist.st = .down ∧ x.hoist.attempt ≠ 0 ∧ x.hoist.retryDue.isSome = true ∧ x.flag 0x80000 0 = true ∧
      hostRecord.version = 1 ∧ hostRecord.lanes = 4 ∧ hostRecord.rates.getLsbD 1 = true) ∧
    (Meets fun x => x.hoist.st = .training ∧ x.hoist.phase = 1 ∧ smokeHTrain.phase = 1 ∧ x.hoist.countAt = some 10000000001 ∧
      x.clk.dtime < 10000000001) ∧
    (Meets fun x => x.hoist.st = .training ∧ x.hoist.phaseDue ≤ x.clk.dtime) ∧
    (Meets fun x => x.hoist.timeAt = some 9000000000 ∧ 9000000000 + 1000000000 ≤ x.clk.dtime) ∧
    ((hTraining 2).attempt < 3 ∧ 3 ≤ (hTraining 3).attempt ∧ (hTraining 2).st = .training ∧ (hTraining 2).phase = 1 ∧
      { hTraining 2 with acked := true, countAt := some 10000000000 }.acked = true ∧ 10000000000 ≤ on.clk.dtime) := by
  refine ⟨rfl, by decide, meets on ?_, meets (withHoist Hoist.reset) ?_,
    meets (withHoist { balanced with lanes := vmod balanced.lanes 3 (fun l => { l with lock := true }) }) ?_, meets on ?_, meets (withHoist { balanced with creditAt := 9999900000 }) ?_,
    meets (withHoist balanced) ?_, meets (withHoist { balanced with cred := vmod balanced.cred 1 (fun c => { c with occ := 1 }) }) ?_,
    meets { inMode .limp with mode := { ModeState.reset with cur := .limp, step := 7 }, hoist := Hoist.reset } ?_,
    meets (withHoist { Hoist.reset with attempt := 2, retryDue := some 10001000000 }) ?_,
    meets (withHoist { hTraining 2 with countAt := some 10000000001 }) ?_, meets (withHoist (hTraining 2)) ?_,
    meets (withHoist { balanced with timeAt := some 9000000000 }) ?_, ?_⟩ <;> decide +kernel

/-! ### Composition, masks and scan-out -/

def composing (done : Option FrameInfo) : State := { withScan scanning with bun := { Bunting.reset with done := done } }
theorem test_witness_FlipInstant :
    (Meets fun x => x.flipDue = true ∧ x.bun.done = none) ∧ (Meets fun x => x.flipDue = true ∧ x.bun.done = some FrameInfo.reset) :=
  ⟨meets (composing none) (by decide +kernel), meets (composing (some FrameInfo.reset)) (by decide +kernel)⟩

def compOf (due t0 : Nat) : Comp :=
  { start := 0, deadline := due, regs := [], steps := Vector.replicate 64 (65536, 65536), surfs := Vector.replicate 128 Surface.reset,
    excl := [], zones := some [], vofs := 0, mono := false, back := true, next := 1, reissue := [],
    workers := vset (Vector.replicate 32 none) 31 (some (0, t0)), tiles := 0, lastWrite := 0, dead := false, info := FrameInfo.reset }
def composer (c : Comp) : State := { withScan scanning with bun := { Bunting.reset with comp := some c } }
theorem test_witness_CompositionRows :
    (Meets fun x => x.bun.comp = some (compOf 10000000000 0) ∧ (compOf 10000000000 0).dead = false ∧ x.bun.done = none ∧
      (compOf 10000000000 0).deadline ≤ x.clk.dtime) ∧
    (Meets fun x => x.bun.comp = some (compOf 10000000000 9999000000) ∧
      vget (compOf 10000000000 9999000000).workers 31 = some (0, 9999000000) ∧ (compOf 10000000000 9999000000).zones = some [] ∧
      x.clk.dtime ≤ (compOf 10000000000 9999000000).deadline ∧ x.bun.hungTiles = [] ∧
      (x.writeTile { compOf 10000000000 9999000000 with workers := vset (compOf 10000000000 9999000000).workers 31 none } [] 31 0).1.tiles ≠ 256) ∧
    (Meets fun x => x.bun.comp = some (compOf 10000000000 8999999999) ∧
      vget (compOf 10000000000 8999999999).workers 31 = some (0, 8999999999) ∧ 8999999999 + 1000000 < x.clk.dtime) := by
  refine ⟨meets (composer (compOf 10000000000 0)) ?_, meets (composer (compOf 10000000000 9999000000)) ?_,
    meets (composer (compOf 10000000000 8999999999)) ?_⟩ <;> decide +kernel

def toBeam : Trans := { target := .beam, since := 0, owner := none, merged := [] }
def retraining (opened : Bool) (flip : Nat) (doneAt : Option Nat) : State :=
  withScan { scanning with retrain := some { flipAt := flip, ts := 1000000, opened := opened, doneAt := doneAt, failed := false } }
theorem test_witness_ScanRows :
    (Meets fun x => x.mode.trans = some toBeam ∧ x.mode.tested = true ∧ x.scan.settleAt = some 9999950000 ∧ x.fab.vcode = x.vaim ∧
      9999950000 + 50000 ≤ x.clk.dtime) ∧
    (Meets fun x => x.mode.trans = none ∧ x.mode.cur = .service ∧ x.scan.settleAt = some 9999950000 ∧ x.fab.vcode = x.vaim ∧
      9999950000 + 50000 ≤ x.clk.dtime) ∧
    (Meets fun x => x.mode.trans = none ∧ x.scan.settleAt = none ∧ x.mode.cur = .service ∧ x.scan.run = false) ∧
    (Meets fun x => x.scan.run = true ∧ x.passAt x.scan.k ≤ x.clk.dtime ∧ x.scan.retrain = none ∧ x.scan.stopping = false ∧
      x.scan.k ≠ x.scan.flipK) ∧
    (Meets fun x => x.scan.run = true ∧ x.passAt x.scan.k ≤ x.clk.dtime ∧ x.scan.retrain = none ∧ x.scan.stopping = true) ∧
    (Meets fun x => x.scan.run = true ∧ x.passAt x.scan.k ≤ x.clk.dtime ∧ x.scan.stopping = false ∧ x.scan.retrain.any (fun r => !r.opened && decide (r.flipAt < x.passAt x.scan.k)) = true) ∧
    (Meets fun x => x.scan.run = true ∧
      x.scan.retrain.any (fun r => !r.failed && r.doneAt == some 9999800000 && decide (9999800000 + 200000 ≤ x.clk.dtime)) = true) ∧
    (Meets fun x => x.scan.retrain.any (fun r => !r.failed && r.doneAt.isNone && decide (r.flipAt + r.ts + 30000000 ≤ x.clk.dtime)) = true) ∧
    Scan.reset.frontValid = false := by
  refine ⟨meets { withScan { Scan.reset with settleAt := some 9999950000 } with
      mode := { on.mode with trans := some toBeam, tested := true }, fab := { Fabric.reset with vcode := 40 } } ?_,
    meets { inMode .service with scan := { Scan.reset with settleAt := some 9999950000 }, fab := { Fabric.reset with vcode := 40 } } ?_,
    meets (inMode .service) ?_, meets (withScan scanning) ?_, meets (withScan { scanning with stopping := true }) ?_, meets (retraining false 41666666 none) ?_,
    meets (retraining true 0 (some 9999800000)) ?_, meets (retraining true 9969000000 none) ?_, ?_⟩ <;> decide +kernel

def withMask (m : Mask) : State := { withScan scanning with mask := m }
theorem test_witness_MaskRows :
    (Meets fun x => x.scan.run = true ∧ x.scan.stopping = false ∧ x.scan.k ≠ x.scan.flipK) ∧
    (Meets fun x => x.mask.rendPass = some [] ∧ x.clk.dtime ≤ x.mask.tableDue ∧ x.mask.coarseFresh = false ∧ x.mask.lateNow = true) ∧
    (Meets fun x => x.mask.rendPass = some [] ∧ x.clk.dtime ≤ x.mask.tableDue ∧ x.mask.coarseFresh = false ∧ x.mask.lateNow = false) ∧
    (Meets fun x => x.mask.rendComp = some [] ∧ x.bun.comp = none) ∧
    (Meets fun x => x.mask.rendCoarse = some [] ∧ x.clk.dtime ≤ x.mask.tableDue ∧ x.mask.passFresh = false) ∧
    (Meets fun x => x.mask.rendPass = none ∧ x.mask.rendCoarse = some [] ∧ x.mask.tableDue ≤ x.clk.dtime ∧ x.mask.glate = 0) ∧
    (Meets fun x => x.mask.rendPass = none ∧ x.mask.rendCoarse = some [] ∧ x.mask.tableDue ≤ x.clk.dtime ∧ 1 ≤ x.mask.glate) ∧
    (Meets fun x => x.mask.rendPass = some [] ∧ x.mask.tableDue ≤ x.clk.dtime ∧ x.mask.rendCoarse = none ∧ x.mask.lateNow = true) ∧
    (Meets fun x => x.scan.run = true ∧ x.scan.refresh = 120 ∧ 0 < x.scan.k ∧ x.scan.retrain.all (fun r => !r.opened) = true) := by
  refine ⟨meets (withScan scanning) ?_, meets (withMask { Mask.reset with rendPass := some [], lateNow := true, tableDue := 10000000000 }) ?_,
    meets (withMask { Mask.reset with rendPass := some [], lateNow := false, tableDue := 10000000000 }) ?_,
    meets (withMask { Mask.reset with rendComp := some [] }) ?_,
    meets (withMask { Mask.reset with rendCoarse := some [], tableDue := 10000000000 }) ?_,
    meets (withMask { Mask.reset with rendCoarse := some [], tableDue := 10000000000 }) ?_,
    meets (withMask { Mask.reset with rendCoarse := some [], glate := 1, tableDue := 10000000000 }) ?_,
    meets (withMask { Mask.reset with rendPass := some [], lateNow := true, tableDue := 10000000000 }) ?_,
    meets (withScan { scanning with k := 1 }) ?_⟩ <;> decide +kernel
theorem test_witness_TokenLatch :
    Meets fun x => x.scan.run = true ∧ x.scan.stopping = false ∧ ((List.range 16).map (fun n => x.fld (0xF0010 + n) 10 0)).sum = 1024 :=
  meets (withScan scanning) (by decide +kernel)
def baseLayer (l : Option (Nat × Nat)) : State :=
  { withSurf 0 { mapSurface with st := .complete } with
    mode := { on.mode with cur := .limp }, mask := { Mask.reset with ceilOk := true }, scan := { Scan.reset with limp := l }
    regs := { RegFile.reset with act := wordPut [] 0x00001 (BitVec.ofNat 32 2) } }
theorem test_witness_PassFaultRows :
    (Meets fun x => x.scan.run = true ∧ x.scan.curOn = true ∧ x.scan.curRead.getLsbD 15 = true) ∧
    (Meets fun x => (vget x.scan.segs 15).wait = some (9, 0xABCD, 10000000000) ∧ 10000000000 ≤ x.clk.dtime) ∧
    (Meets fun x => (vget x.scan.segs 15).wait = some (9, 0xABCD, 10000000001) ∧ x.clk.dtime < 10000000001) ∧
    (Meets fun x => (vget x.scan.segs 3).goodAt = some 5 ∧ x.scan.run = true ∧ x.scan.retrain = none ∧ x.laneEn 3 = true ∧
      5 + max 12000000 (2 * (x.passAt (x.scan.k + 1) - x.passAt x.scan.k) + 1000000) < x.clk.dtime) ∧
    (Meets fun x => x.limpBase = true ∧ x.ens.ovr = false ∧ x.laneReady 15 = true ∧ x.scan.limp.getD (x.clk.dtime, 0) = (10000000000, 0) ∧
      passTime 10000000000 60 0 ≤ x.clk.dtime) ∧
    (Meets fun x => x.limpBase = true ∧ x.ens.ovr = false ∧ x.scan.limp.getD (x.clk.dtime, 0) = (10000000000, 1) ∧
      x.clk.dtime < passTime 10000000000 60 1) := by
  refine ⟨meets (withScan { scanning with curOn := true, curRead := 0x8000 }) ?_, meets (awaiting 10000000000) ?_,
    meets (awaiting 10000000001) ?_, meets (awaiting 10000000001) ?_,
    meets (baseLayer none) ?_, meets (baseLayer (some (10000000000, 1))) ?_⟩ <;> decide +kernel

/-! ### The policies, the recorder and the store -/

def withThm (h : Thermal) : State := { on with thm := h }
def convOf (ch dur : Nat) : Conv := { ch := ch, startAt := 9999000000, dur := dur, host := false, policy := true, gdn := false, terms := none }
def warm : Vector ThermCh 14 := vset Thermal.reset.ch 1 { ThermCh.reset with temp := 160, convAt := some 0 }
def sensing (k : Int) (st : Nat) : ThermCh := on.sensed Thermal.reset.ch 0 st k
theorem test_witness_ThermalRows :
    ((Meets fun x => x.thm.conv = some (convOf 13 1000) ∧ 12 ≤ (convOf 13 1000).ch ∧ (convOf 13 1000).ch < 14 ∧ x.pow.logicOn = true ∧
        x.thm.pendHost = 0 ∧ x.thm.pendPol = BitVec.ofNat 14 (2 ^ 13) ∧ x.thm.pendGdn = 0 ∧ x.cal.run = none ∧
        (vget x.thm.ch 13).broken = false ∧ (vget x.thm.ch 13).disagree < x.fld 0xC0002 17 16) ∧
      (Meets fun x => x.thm.conv = some (convOf 14 500000) ∧ (convOf 14 500000).startAt + 2 * (convOf 14 500000).dur ≤ x.clk.now) ∧
      (Meets fun x => x.mode.cur = .ready ∧ x.pow.logicOn = true ∧ x.thm.policyAt + 100000000 ≤ x.clk.dtime)) ∧
    ((Meets fun x => x.thm.enf < x.heldLevel) ∧ (Meets fun x => x.heldLevel ≤ x.thm.enf) ∧
      (Meets fun x => x.thm.belowAt = some 0 ∧ max 0 x.thm.enfAt + x.fld 0xC0000 13 8 * 1000000000 ≤ x.clk.dtime ∧ x.thm.floor = none ∧
        1 < x.thm.enf) ∧
      (Meets fun x => x.thm.tjAt = some 9000000000 ∧ 9000000000 + 1000000000 ≤ x.clk.dtime ∧ x.thm.tjHot = true) ∧
      (Meets fun x => x.thm.gdnLagAt = some 0 ∧ 0 + x.guidonView.enfGrace + 1000000000 ≤ x.clk.dtime)) ∧
    on.thermalBudget = { on.tok with thbud := on.thermalBudget }.thbud ∧ on.thermalBudget ≠ { on.tok with thbud := on.thermalBudget + 1 }.thbud ∧
    ((sensing 16 3).broken = true ∧ on.goodNeighbours Thermal.reset.ch 0 = [] ∧ maxInt? (on.goodNeighbours warm 0) = some 160 ∧
      (sensing 1439 0).rateHot = false ∧ (sensing 1439 0).temp < on.tstart 0 ∧ on.tstart 0 ≤ (sensing 1440 0).temp ∧
      (sensing 1440 0).temp < on.tlim 0 ∧ on.tlim 0 ≤ (sensing 1760 0).temp ∧ (sensing 1760 0).rateHot = false ∧
      median (on.goodNeighbours warm 0) = some 160 ∧ ((400 : Int) - 160).natAbs ≤ 16 * on.fld 0xC0002 7 0 ∧ 0 < on.fld 0xC0002 17 16) := by
  refine ⟨⟨meets (withThm { Thermal.reset with conv := some (convOf 13 1000), pendPol := 0x2000 }) ?_,
    meets (withThm { Thermal.reset with conv := some (convOf 14 500000) }) ?_, meets (withThm { Thermal.reset with policyAt := 9900000000 }) ?_⟩,
    ⟨meets (withThm { Thermal.reset with levelAt := vset Thermal.reset.levelAt 7 (some (10000000000 - on.enfGrace)) }) ?_, meets on ?_,
    meets (withThm { Thermal.reset with belowAt := some 0, enf := 2 }) ?_,
    meets (withThm { Thermal.reset with tjAt := some 9000000000, tjHot := true }) ?_,
    meets (withThm { Thermal.reset with gdnLagAt := some 0 }) ?_⟩, rfl, ?_, ?_⟩ <;> decide +kernel

def burnRun (row record : Nat) (ended : Bool) : CalRun :=
  { id := ⟨.cspi, 0⟩, items := 1, burn := true, convs := 0, shorts := 0, results := [], row := some row, record := record,
    bytes := List.replicate 32 1, ended := ended }
def burning (row record : Nat) (ended : Bool) : State := { on with cal := { Cal.reset with run := some (burnRun row record ended) } }
theorem test_witness_FabricRows :
    ((Meets fun x => x.fab.marginAt = some 9900000000 ∧ 9900000000 + 100000000 ≤ x.clk.dtime) ∧
      (Meets fun x => x.pow.logicOn = true ∧ x.fab.stepAt + 50000 ≤ x.clk.dtime ∧ x.fab.vcode < x.vaim) ∧
      (Meets fun x => x.pow.logicOn = true ∧ x.fab.stepAt + 50000 ≤ x.clk.dtime ∧ x.vaim < x.fab.vcode) ∧
      (Meets fun x => x.clk.tbXtal = true) ∧ (Meets fun x => x.auto = false)) ∧
    (Meets fun x => x.cal.ending.any (fun r => r.row == some 6 && decide (r.record < 32)) = true) ∧
    ((Meets fun x => x.cal.ending = none ∧ x.cal.run.any (fun r => r.row == some 6 && decide (r.record < 32)) = true) ∧
      (Meets fun x => x.cal.run.any (fun r => r.row == some 7 && decide (r.record < 32) && r.ended) = true)) := by
  refine ⟨⟨meets { on with fab := { Fabric.reset with marginAt := some 9900000000 } } ?_,
    meets { on with fab := { Fabric.reset with vcode := 39, stepAt := 9999950000 } } ?_,
    meets { on with fab := { Fabric.reset with vcode := 41, stepAt := 9999950000 } } ?_, meets onXtal ?_,
    meets { on with regs := { RegFile.reset with act := wordPut [] 0x10200 (BitVec.ofNat 32 0x003C1E) } } ?_⟩,
    meets { on with cal := { Cal.reset with ending := some (burnRun 6 31 true) } } ?_, ⟨meets (burning 6 31 true) ?_, meets (burning 7 31 true) ?_⟩⟩ <;> decide +kernel

def withEvt (e : Recorder) : State := { on with evt := e }
def plain : Entry := on.entry 0x340 0 0
theorem test_witness_QueueRows :
    (Meets fun x => x.evt.queue = []) ∧ (Meets fun x => x.evt.queue = [plain] ∧ x.evt.full = true) ∧
    (Meets fun x => x.evt.queue = [plain] ∧ x.evt.full = false ∧ plain.free = false ∧ x.evt.tokens plain.code = 0) ∧
    (Meets fun x => x.evt.queue = [plain] ∧ x.evt.full = false ∧ plain.free = false ∧ 0 < x.evt.tokens plain.code) ∧
    (Meets fun x => x.evt.buckets = [{ code := 0xFFF, tokens := 2, since := 10000000000 - x.refillNs }] ∧ x.refillNs ≤ x.clk.dtime) ∧
    (Meets fun x => x.evt.buckets = [{ code := 0xFFF, tokens := 3, since := 10000000000 - x.refillNs }] ∧ x.refillNs ≤ x.clk.dtime) := by
  refine ⟨meets on ?_, meets (withEvt { Recorder.reset with queue := [plain], full := true }) ?_,
    meets (withEvt { Recorder.reset with queue := [plain], buckets := [{ code := 0x340, tokens := 0, since := 0 }] }) ?_,
    meets (withEvt { Recorder.reset with queue := [plain] }) ?_,
    meets (withEvt { Recorder.reset with buckets := [{ code := 0xFFF, tokens := 2, since := 10000000000 - on.refillNs }] }) ?_,
    meets (withEvt { Recorder.reset with buckets := [{ code := 0xFFF, tokens := 3, since := 10000000000 - on.refillNs }] }) ?_⟩ <;>
    decide +kernel
theorem test_witness_BalanceChecked : Meets fun x => x.evt.queue = [plain, plain] :=
  meets (withEvt { Recorder.reset with queue := [plain, plain] }) (by decide +kernel)

def reqBy (w : Requester) (wr : Bool) : StoreReq := { who := w, write := wr, word := 0x3FFFF, mask := 1, data := 0xFF }
theorem test_witness_StoreAccessRows :
    (∃ r, r ∈ [reqBy .hoist true, reqBy .scan true] ∧ (r.write = true ∧ (r.who = .scan ∨ r.who = .flyLine) ∨ r.write = false ∧ r.who = .hoist)) ∧
    (∃ r, r ∈ [reqBy .hoist false] ∧ (r.write = true ∧ (r.who = .scan ∨ r.who = .flyLine) ∨ r.write = false ∧ r.who = .hoist)) ∧
    (Meets fun x => wrongAccess [reqBy .hoist true] = false ∧ x.store.clrDone = false) ∧
    (Meets fun x => x.memOk = true ∧ x.store.clrDone = true ∧ (reqBy .hoist true).who = .hoist ∧ (reqBy .hoist true).write = true) ∧
    (Meets fun x => x.store.clrDone = true ∧ (reqBy .halyard false).who = .halyard ∧ (reqBy .halyard false).write = false ∧
      vget x.store.arb.grants 4 < 8) ∧
    (Meets fun x => x.store.clrDone = true ∧ (reqBy .background true).write = true ∧ x.inTest (reqBy .background true) = true ∧ x.store.scrub = []) ∧ ((15 : Fin 16), EccResult.uncorrectable) ∈ [((0 : Fin 16), EccResult.corrected), (15, .uncorrectable)] :=
  ⟨⟨reqBy .scan true, List.mem_cons_of_mem _ (List.mem_singleton.mpr rfl), Or.inl ⟨rfl, Or.inl rfl⟩⟩,
    ⟨reqBy .hoist false, List.mem_singleton.mpr rfl, Or.inr ⟨rfl, rfl⟩⟩, meets { booting with store := Store.reset } (by decide +kernel), meets on (by decide +kernel), meets on (by decide +kernel),
    meets { on with store := { on.store with bistActive := true, bistRegion := 8191 } } (by decide +kernel), by decide⟩

def checking (f : Surface) : State :=
  { withSurf 127 { f with st := .checking, req := some ⟨.cspi, 0⟩ } with
    store := { (withSurf 127 { f with st := .checking, req := some ⟨.cspi, 0⟩ }).store with checkQ := [127] } }
theorem test_differs (w : Word) : w ≠ w + 1 := by bv_omega
theorem test_iter_same {α : Type} (f : Nat → α → α) (x : α) : ∀ n, (∀ k, k < n → f k x = x) → iter f n x = x
  | 0, _ => rfl
  | n + 1, h => by
    show f n (iter f n x) = x
    rw [test_iter_same f x n (fun k hk => h k (by omega)), h n (by omega)]
/-- Nothing of the inputs, the lanes, the host link, the switches or a RESET is due: the instant passes in the store and the mask as in `tick`. -/
theorem test_nothing_due (s : State) (h : (∀ k, k < 8 → (s.ens.seen s.clk.now k).1 = s.ens.filt.getLsbD k) ∧ s.ens.closeAt = none ∧
    (∀ n, n < 16 → (vget s.fly n).countAt = none) ∧ s.hoist.countAt = none ∧
    s.hoist.htxWait = [] ∧ s.mode.restart = none) : s.ripe.store = s.store ∧ s.ripe.mask = s.mask ∧ s.ripe.mode = s.mode := by
  have hi : s.inputsDue = s := by
    simp only [State.inputsDue]
    split
    · exact test_iter_same _ _ 8 (fun k hk => by simp [State.inputDue, h.1 k hk])
    · rfl
  have hc : s.closeDue = s := by simp [State.closeDue, h.2.1]
  have hl : s.htxRun.countdowns = s.htxRun := by
    simp only [State.countdowns]
    split
    · rfl
    · exact test_iter_same _ _ 16 (fun n hn => by simp [State.htxRun, h.2.2.1 n hn])
  have hk : s.htxRun.hoistCount = s.htxRun := by simp [State.hoistCount, State.htxRun, Hoist.upTo, Hoist.begun, h.2.2.2.1, h.2.2.2.2.1]
  have hr : s.htxRun.restartDue = s.htxRun := by simp [State.restartDue, State.htxRun, h.2.2.2.2.2]
  rw [State.ripe, hi, hc, hl, hk, hr]
  exact ⟨rfl, rfl, rfl⟩
theorem test_ceil {s x : State} {w : Word} (h : x.store.mem = s.store.mem) (hw : s.ceilCrcNow = w) : x.ceilCrcNow = w := by
  rw [← hw]; simp only [State.ceilCrcNow, h]
theorem test_ceil_not {s x : State} (h : x.store.mem = s.store.mem) : x.ceilCrcNow ≠ s.ceilCrcNow + 1 := by
  rw [test_ceil h rfl]; exact test_differs _
def tiny (crc : Word) : Surface :=
  { st := .checking, format := 1, base := 0, width := 128, height := 1, stride := 128, fill := 128, req := none, crc := crc, flipN := false }
def loading (c : Word) : State := { on with mask := { Mask.reset with ceilRun := some ⟨.cspi, 0⟩, ceilCrc := c } }
def loaded (c : Word) : State := { inMode .service with mask := { Mask.reset with ceilLoaded := true, ceilCrc := c } }
theorem test_on_due : (∀ k, k < 8 → ((on.tick 0).ens.seen (on.tick 0).clk.now k).1 = (on.tick 0).ens.filt.getLsbD k) ∧ (on.tick 0).ens.closeAt = none ∧ (∀ n, n < 16 → (vget (on.tick 0).fly n).countAt = none) ∧
    (on.tick 0).hoist.countAt = none ∧ (on.tick 0).hoist.htxWait = [] ∧ (on.tick 0).mode.restart = none := by decide +kernel
theorem test_loading (c : Word) : ((loading c).advance 0).store = on.store ∧ ((loading c).advance 0).mask = (loading c).mask := by
  have h := test_nothing_due ((loading c).tick 0) test_on_due
  exact ⟨h.1, h.2.1⟩
theorem test_loaded (c : Word) : ((loaded c).advance 0).store = on.store ∧ ((loaded c).advance 0).mask = (loaded c).mask ∧
    ((loaded c).advance 0).mode = (inMode .service).mode := by
  have h := test_nothing_due ((loaded c).tick 0) test_on_due
  exact ⟨h.1, h.2.1, h.2.2⟩
set_option maxRecDepth 20000 in
theorem test_checking (c : Word) : ((checking (tiny c)).advance 0).store = (checking (tiny c)).store :=
  (test_nothing_due ((checking (tiny c)).tick 0) test_on_due).1
theorem test_tiny_surf (c : Word) : ((checking (tiny c)).advance 0).surf 127 = { tiny c with req := some ⟨.cspi, 0⟩ } := by
  rw [State.surf, test_checking]
  show vget (vset on.store.surfs 127 _) 127 = _
  rw [vget_vset_same _ _ _ (by decide)]; exact id rfl
theorem test_tiny (c : Word) : (((checking (tiny c)).advance 0).surf 127).crc = c ∧
    crc32 (BitVec.ofNat 32 (((checking (tiny c)).advance 0).surf 127).base) (sparseBytes (((checking (tiny c)).advance 0).memSeen 4)
      (128 * (((checking (tiny c)).advance 0).surf 127).base) (((checking (tiny c)).advance 0).surf 127).bytes) =
        crc32 0 (sparseBytes [] 0 128) := by
  have hm : ((checking (tiny c)).advance 0).memSeen 4 = [] := by rw [State.memSeen, test_checking]; exact id rfl
  have hb : Surface.bytes { tiny c with req := some ⟨.cspi, 0⟩ } = 128 := by simp [Surface.bytes, Surface.words, footWords, fmtAtc, tiny]
  rw [test_tiny_surf, hm, hb]; exact ⟨id rfl, id rfl⟩
theorem test_witness_StoreCheckRows :
    (Meets fun x => x.bistRuns = true ∧ x.store.bistActive = false) ∧ (Meets fun x => x.store.bistActive = true) ∧
    (Meets fun x => x.store.checkQ = [127] ∧ x.hoist.cur = none ∧ x.chk.armed = none ∧ (x.surf 127).req = some ⟨.cspi, 0⟩ ∧
      (x.surf 127).crc = crc32 (BitVec.ofNat 32 (x.surf 127).base) (sparseBytes (x.memSeen 4) (128 * (x.surf 127).base) (x.surf 127).bytes)) ∧
    (Meets fun x => x.store.checkQ = [127] ∧ x.hoist.cur = none ∧ x.chk.armed = none ∧ (x.surf 127).req = some ⟨.cspi, 0⟩ ∧
      (x.surf 127).crc ≠ crc32 (BitVec.ofNat 32 (x.surf 127).base) (sparseBytes (x.memSeen 4) (128 * (x.surf 127).base) (x.surf 127).bytes)) ∧
    (∃ crc, Meets fun x => x.mask.ceilRun = some ⟨.cspi, 0⟩ ∧ x.ceilCrcNow = crc ∧ x.mask.ceilCrc = crc) ∧
    (∃ crc, Meets fun x => x.mask.ceilRun = some ⟨.cspi, 0⟩ ∧ x.ceilCrcNow ≠ crc ∧ x.mask.ceilCrc = crc) ∧
    (∃ crc, Meets fun x => x.mode.cur = .service ∧ x.mask.ceilLoaded = true ∧ x.mask.ceilRun = none ∧ x.ceilCrcNow = crc ∧ x.mask.ceilCrc = crc) ∧
    (∃ crc, Meets fun x => x.mode.cur = .service ∧ x.mask.ceilLoaded = true ∧ x.mask.ceilRun = none ∧ x.ceilCrcNow ≠ crc ∧ x.mask.ceilCrc = crc) := by
  refine ⟨meets on ?_, meets { on with store := { on.store with bistActive := true } } ?_,
    meets (checking (tiny (crc32 0 (sparseBytes [] 0 128)))) ⟨?_, ?_, ?_, ?_, (test_tiny _).1.trans (test_tiny _).2.symm⟩,
    meets (checking (tiny (crc32 0 (sparseBytes [] 0 128) + 1))) ⟨?_, ?_, ?_, ?_, ?_⟩,
    ⟨on.ceilCrcNow, meets (loading on.ceilCrcNow) ?_⟩, ⟨on.ceilCrcNow + 1, meets (loading (on.ceilCrcNow + 1)) ?_⟩,
    ⟨on.ceilCrcNow, meets (loaded on.ceilCrcNow) ?_⟩, ⟨on.ceilCrcNow + 1, meets (loaded (on.ceilCrcNow + 1)) ?_⟩⟩
  rotate_left 10
  · rw [(test_tiny _).1, (test_tiny _).2]; exact fun h => test_differs _ h.symm
  · rw [(test_loading _).2, test_ceil (congrArg Store.mem (test_loading _).1) rfl]; exact ⟨rfl, rfl, rfl⟩
  · rw [(test_loading _).2]; exact ⟨rfl, test_ceil_not (congrArg Store.mem (test_loading _).1), rfl⟩
  · rw [(test_loaded _).2.1, (test_loaded _).2.2, test_ceil (congrArg Store.mem (test_loaded _).1) rfl]; exact ⟨rfl, rfl, rfl, rfl, rfl⟩
  · rw [(test_loaded _).2.1, (test_loaded _).2.2]; exact ⟨rfl, rfl, rfl, test_ceil_not (congrArg Store.mem (test_loaded _).1), rfl⟩
  all_goals decide +kernel


def bisting (hard : List Nat) : State :=
  { on with store := { on.store with bistActive := true, bistRegion := 8191, bistHard := hard } }
theorem test_witness_BistMismatch :
    (Meets fun x => x.store.bistActive = true ∧ x.flag 0x20004 23 = false) ∧
    (Meets fun x => x.store.bistActive = true ∧ ∃ k, k ∈ x.store.bistHard ∧ k ≠ x.store.bistRegion) ∧
    (Meets fun x => x.store.bistActive = true ∧ ∀ k, k ∈ x.store.bistHard → k = x.store.bistRegion) :=
  ⟨meets (bisting []) (by decide +kernel), meets (bisting [3]) ⟨by decide +kernel, 3, by decide +kernel⟩,
    meets (bisting [8191]) (by decide +kernel)⟩

/-! ### Single steps -/

/-- What `f` reads of the state after a step; none where it stops. -/
def after {α : Type} (f : State → α) : Host.Outcome State Fault Refusal → Option α
  | .next u => some (f u)
  | .fault _ => none
  | .refused _ => none
def stops : Host.Outcome State Fault Refusal → Bool
  | .next _ => false
  | .fault _ => true
  | .refused _ => true

/-- R602: from OFF the supply takes the machine to SLEEP. -/
theorem test_power_on : after (fun u => u.mode.cur) (step { State.reset with pending := [.vbatPowerOn 0] }) = some .sleep := by decide +kernel
/-- Table 2.1: the reply to NOP is C5, OK, its tag, flags, LEN 0 and four bytes of CRC. -/
theorem test_nop_reply : after (fun u => ((u.port .cspi).buf.length, (u.port .cspi).buf.take 6, (u.port .cspi).tags))
    (exec (.put 0 .cspi (commandPacket 0 0x33 0 .nop)) on) = some (10, [0xC5, 0, 0x33, 0, 0, 0], []) := by decide +kernel
/-- R88, R9: a packet whose CRC was made under another sequence is discarded and counted. -/
theorem test_wrong_sequence : after (fun u => ((u.port .cspi).discard, (u.port .cspi).buf)) (exec (.put 0 .cspi (commandPacket 1 0x33 0 .nop)) on) =
    some (1, []) := by decide +kernel
/-- Table 3.2: scan-out only reads. -/
theorem test_reader_writes : stops (exec (.storeAccess 0 [reqBy .scan true] []) on) = true := by decide +kernel
/-- A byte that a masked write selects changes and no other does. -/
theorem test_store_write : after (fun u => (u.storeByte (128 * 0x3FFFF), u.storeByte (128 * 0x3FFFF + 1)))
    (exec (.storeAccess 0 [reqBy .hoist true] []) on) =
    some (0xFF, 0) := by decide +kernel
/-- Table 10.4: a dark demand opens both switches and holds override and gate disable. -/
theorem test_dark_demand : after (fun u => (u.ens.safe, u.ens.hsOn, u.ens.lsOn, u.ens.ovr, u.ens.gdis)) (exec (.darkDemand 0) (withEns { inputs 1 1 with hsOn := true, lsOn := true })) =
    some (some .safeDark, false, false, true, true) := by decide +kernel
/-- Chapter 18: the RTC counts modulo 2^40. -/
theorem test_rtc_wraps : after (fun u => u.rtc.count) (exec (.rtcTick 0) { on with rtc := { on.rtc with oscOk := true, count := 2 ^ 40 - 1 } }) =
    some 0 := by decide +kernel
/-- The heartbeat sequence wraps: heartbeat 0 follows 255. -/
theorem test_heartbeat_sequence : after (fun u => (u.gdn.hbSeq, u.dl.beatOut.map (·.1)))
    (exec (.heartbeatSend 0) { beating with gdn := { beating.gdn with hbSeq := 255 } }) =
    some (0, some 0) := by decide +kernel
/-- R307: a MARKER reseeds the scrambler with bit 30, the marker sequence and the lane. -/
theorem test_marker_seed : after (fun u => ((vget u.fly 11).lfsr, (vget u.fly 11).slots, (vget u.fly 3).mseq)) (exec (.marker 0 11) on) =
    some (0x4000001B#31, 8192, 0) := by decide +kernel
/-- R503: an entry that leaves the queue is stored. -/
theorem test_queue_exit : after (fun u => (u.evt.queue, u.evt.store.map (·.code)))
    (exec (.eventQueueExit 0) (withEvt { Recorder.reset with queue := [plain], raised := 1 })) =
    some ([], [0x340]) := by decide +kernel
/-- R18: a write of a class F word stages its group and leaves the word in force. -/
theorem test_stage : after (fun u => (u.regs.staged, u.act 0x50000, (u.shdW 0x50000).toNat)) (exec (.registerWrite 0 .cspi 0x50000 960) on) =
    some (0x10, 120, 960) := by decide +kernel
/-- R447: an open housing in BEAM forces SAFE-DARK. -/
theorem test_housing : after (fun u => (u.ens.safe, u.ens.hsgOpen)) (exec (.housingOpen 0) { inMode .beam with ens := inputs 4 4 }) = some (some .safeDark, true) := by decide +kernel

end Sys2Proof.Tests
end

section
/-! The recorder's balance over every row. -/

namespace Sys2Proof.Machine

/-- The balance of R506 says that the recorder's counters owe nothing. -/
theorem Recorder.balanced_iff (r : Recorder) : r.balanced = true ↔ owed r.raised r.rlimit r.fulldrop r.qovf r.store r.queue = 0 := by
  rw [owed, Recorder.balanced, decide_eq_true_iff, BitVec.sub_eq_iff_eq_add]
  simp only [BitVec.ofNat_eq_ofNat, BitVec.zero_add]

/-- An effect that leaves the trunk alone keeps every claim about it. -/
theorem keeps_of_trunk {f : State → State} (hf : ∀ x, (f x).trunk = x.trunk) (b : Base) (x : State) (h : Held b x.trunk) :
    Held b (f x).trunk := by
  rw [hf]; exact h

theorem State.whenOn_trunk {f : State → State} (hf : ∀ x, (f x).trunk = x.trunk) (s : State) : (State.whenOn f s).trunk = s.trunk := by
  unfold State.whenOn; split
  · exact hf s
  · rfl

/-- Every row keeps the queue, moves the instant by its own alone, and keeps the memory's form and the recorder's balance. The
commands and the rows that write the store or put parts of the machine at reset have their own lemma; every other row leaves the trunk alone. -/
theorem exec_held {m r : Bool} {i : Instr} {s u : State} (h : Held (s.pending, s.clk.now, m, r) s.trunk) (he : exec i s = .next u) :
    ∃ t, Held (s.pending, max s.clk.now t, m, r) u.trunk := by
  cases i with
  | nop | identify | status | frameStatus | dtimeRead | engineInfo | lifeRead | evtReset | portStatus | regRead | regWrite | regModify | commit | modeSet
  | timebaseSelect | safeRequest | surfaceDefine | surfaceDelete | leaseTake | leaseRelease | objlist | ceilingLoad | engineNvRead | engineNvWrite
  | keepaliveWrite | pixelCensus | thermalMeasure | calRun | calRead | evtRead | faultAck | laneTest | safetyTest | reset =>
    exact ⟨_, occur_held h (fun _ _ => State.command_held _ _ _ _ _) he⟩
  | put => exact ⟨_, occur_held h (fun _ _ => State.put_held _ _ _) he⟩
  | storeAccess t reqs ecc =>
    simp only [exec, execStoreAccess] at he
    split at he
    · cases he
    · exact ⟨_, occur_held h (fun _ _ => State.storeAccess_held _ _ _) he⟩
  | bistRegionStart => exact ⟨_, occur_held h (fun _ _ => State.bistStart_held _) he⟩
  | bistRegionDone => exact ⟨_, occur_held h (fun _ _ => State.bistDone_held _ _ _) he⟩
  | vidWriteDone => exact ⟨_, occur_held h (fun _ _ => State.vidDone_held _) he⟩
  | tileDone => exact ⟨_, occur_held h (fun _ _ => State.tileDone_held _ _) he⟩
  | ctrlTimeout => exact ⟨_, occur_held h (fun _ _ => State.ctrlTimeout_held _ _ _) he⟩
  | nvend => exact ⟨_, occur_held h (fun _ _ => State.nvEnd_held _ _ _ _ _) he⟩
  | ctrlack => exact ⟨_, occur_held h (fun _ _ => State.ctrlAck_held _ _ _ _ _) he⟩
  | drainTimeout => exact ⟨_, occur_held h (fun _ _ => State.drainTimeout_held _) he⟩
  | vbatOff => exact ⟨_, occur_held h (fun _ _ => State.powerOff_held _) he⟩
  | sleepPmicRelease => exact ⟨_, occur_held h (fun _ _ => State.sleepPower_held _) he⟩
  | brownout => exact ⟨_, occur_held h (fun _ _ => State.brownOut_held _ _) he⟩
  | registerWrite | rcRead | framecntlRead | evtWindowRead | rel | pathctlStart | crcInjArm | rtcLoad | alarmhWrite | refillWrite | pcdivmaxWrite =>
    exact ⟨_, occur_held h (keeps_of_trunk (State.whenOn_trunk (by simp))) he⟩
  | bucketRefill t code => exact ⟨_, occur_held h (keeps_of_trunk (fun x => State.refill_trunk x code.toNat)) he⟩
  | _ => exact ⟨_, occur_held h (keeps_of_trunk (by simp)) he⟩

/-- A step keeps the recorder's balance, from every state where it holds. -/
theorem step_balanced {s u : State} (hb : s.evt.balanced = true) (hs : step s = .next u) : u.evt.balanced = true := by
  unfold step at hs
  split at hs
  · cases hs; exact hb
  · rename_i c rest _
    have h : Held (rest, s.clk.now, false, true) ({ s with pending := rest } : State).trunk :=
      ⟨by simp, by simp, nofun, fun _ => by simpa using (Recorder.balanced_iff _).mp hb⟩
    obtain ⟨t, -, -, -, hu⟩ := exec_held h hs
    exact (Recorder.balanced_iff _).mpr (hu rfl)

/-- Settles O4: every row's effect, what time brings before it and what follows at its end owe the recorder nothing (R506). -/
theorem recorderBalanced : Obligations.RecorderBalanced := fun _ _ => step_balanced

end Sys2Proof.Machine
end

section
/-! The order of sequence numbers, and one word of class F. -/

namespace Sys2Proof.Machine

/-- Serial comparison of two numbers is decided by their difference alone. -/
theorem later_eq_sub {n : Nat} (a b : BitVec n) :
    later n a.toNat b.toNat = (decide (1 ≤ (a - b).toNat) && decide ((a - b).toNat < 2 ^ (n - 1))) := by
  have hb := b.isLt
  have hd : (a.toNat + 2 ^ n - b.toNat % 2 ^ n) % 2 ^ n = (a - b).toNat := by
    rw [BitVec.toNat_sub, Nat.mod_eq_of_lt hb]; congr 1; omega
  rw [later, hd]

/-- Settles O11: the three cases of R26 by the difference modulo 2^n. -/
theorem serialOrder : Obligations.SerialOrder := by
  intro n a b
  refine ⟨by simp [later_eq_sub], ⟨fun h => by simp [h], fun h => ?_⟩, fun h => ?_⟩
  · have hz : a - b = 0#n := BitVec.eq_of_toNat_eq (h.trans BitVec.toNat_zero.symm)
    rw [← BitVec.sub_add_cancel a b, hz, BitVec.zero_add]
  · rw [later_eq_sub, decide_eq_false (Nat.not_lt.mpr h), Bool.and_false]

/-- A write to a word of class F goes to the shadow and stages the word's group (R18). -/
theorem State.writePlain_shadow {a g : Nat} {r : RegInfo} (hr : regInfo a = some r) (hg : r.grp = some g) (v : Word) (s : State) :
    s.writePlain a v = s.writeShadow a g v r := by
  simp [State.writePlain, hr, hg]

/-- A word that is mapped and free is written by every port but WSPI (R110). -/
theorem State.regWrite_free {p : Port} {a : Nat} {r : RegInfo} {s : State} (hp : p ≠ .wspi) (hr : regInfo a = some r) (hb : s.regBusy a = false)
    (v : Word) : s.regWrite p a v = s.writeWord a v := by
  simp [State.regWrite, State.regCheck, hr, hp, hb]

/-- Settles O23: the access passes R110, and its word has a commit group, so it lands in the shadow. -/
theorem frameClassWrite : Obligations.FrameClassWrite := by
  rintro t p addr v g r s x rfl hon hp hr hb hr' hg a w rfl rfl
  have he : (s.advance t).whenOn (State.regWrite p addr.toNat v) = (s.advance t).writeShadow (addrPlain addr.toNat) g v r := by
    rw [State.whenOn, if_pos hon, State.regWrite_free hp hr hb, State.writeWord, State.writePlain_shadow hr' hg]
  rw [exec, execRegisterWrite, occur_eq, he]
  rfl

end Sys2Proof.Machine
end

section
/-! The SPI transactions STAT and RESYNC, and the discard of a request. -/

namespace Sys2Proof.Machine

@[simp] theorem State.enqueue_raised (s : State) (e : Entry) : (s.enqueue e).evt.raised = s.evt.raised + 1 := by
  simp only [State.enqueue]; split <;> rfl

/-- Every raise is counted once (R500). -/
@[simp] theorem State.raise0_raised (s : State) (code inst data : Nat) : (s.raise0 code inst data).evt.raised = s.evt.raised + 1 := by
  unfold State.raise0
  split
  · simp
  · simp only
    split <;> simp

/-- STAT on a port that answers only drives what it reads (Table 2.4). -/
theorem State.stat_open {s : State} {p : SpiPort} (ho : s.portOpen (spiPort p) = true) :
    s.stat p = s.drive (spiPort p)
      (le 2 (s.port (spiPort p)).buf.length ++ le 1 (32 - (s.port (spiPort p)).tags.length) ++
        le 1 (b2n ((s.port (spiPort p)).rbFull (spiPort p)) + 2 * b2n (s.flag (0x10000 + 4 * (portIdx (spiPort p)).val) 9)) ++
        le 2 (s.port (spiPort p)).reqSeq.toNat ++ le 2 (s.port (spiPort p)).discard.toNat) := by
  simp [State.stat, ho, PortState.free, b2m, Nat.mul_comm]

/-- The guard byte behind 0x04 restarts both sequences (R94). -/
theorem State.resync_guarded {s : State} {p : SpiPort} (ho : s.portOpen (spiPort p) = true) (l : List Byte) :
    s.resync p (0x04 :: 0xC3 :: l) =
      ((s.setPort (spiPort p) { s.port (spiPort p) with miso := [], reqSeq := 0, repSeq := 0 }).hwSet
        (0x10000 + 4 * (portIdx (spiPort p)).val) 0x200).raise0 0x042 (portIdx (spiPort p)).val 0 := by
  simp [State.resync, ho, State.drive]

/-- Any other bytes are a framing failure (R87). -/
theorem State.resync_unguarded {s : State} {p : SpiPort} (ho : s.portOpen (spiPort p) = true) {l : List Byte} (hl : l.take 2 ≠ [0x04#8, 0xC3#8]) :
    s.resync p l = (s.setPort (spiPort p) { s.port (spiPort p) with miso := [] }).discard (spiPort p) := by
  simp [State.resync, ho, State.drive, hl]

/-- A discard changes DISCARD of its own port, and no other port (R9). -/
theorem State.discard_port_same (s : State) (p : Port) :
    (s.discard p).port p = { s.port p with discard := satAdd (s.port p).discard 1 } := by
  simp [State.discard]

theorem State.discard_port_other (s : State) {p q : Port} (h : q ≠ p) : (s.discard p).port q = s.port q := by
  simp [State.discard, State.setPort_port_other _ _ _ _ h]

theorem State.discard_raised (s : State) (p : Port) : (s.discard p).evt.raised = s.evt.raised + 1 := by
  simp [State.discard, State.setPort]

/-- Settles O22: the two transactions of Table 2.4, and what a discard counts. -/
theorem statAndResync : Obligations.StatAndResync := by
  refine ⟨?_, fun s p => ?_⟩
  · rintro t p s x q a rfl rfl ho rfl
    refine ⟨?_, fun l => ?_, fun l hl => ?_⟩
    · rw [exec, execStat, occur_eq, State.stat_open ho]
    · rw [exec, execResync, occur_eq, State.resync_guarded ho]
    · rw [exec, execResync, occur_eq, State.resync_unguarded ho hl]
  · simp only [State.discard_port_same, true_and]
    exact ⟨fun q hq => s.discard_port_other hq, s.discard_store p, rfl, s.discard_raised p⟩

end Sys2Proof.Machine
end

section
/-! The commands that change mode, timebase and commit groups, SAFETY_TEST and RESET. -/

namespace Sys2Proof.Machine

/-- A command packet that starts at once runs on the state in which it has been accepted (R101, R102). -/
theorem occur_takes {t : Nat} {p : Port} {tag flags : Byte} {c : Cmd} {s : State} (h : (s.advance t).Takes p tag flags c) :
    occur t (State.command p tag flags c) s = .next ((((s.advance t).started p tag (cmdOp c)).run ⟨p, tag⟩ c).finish) := by
  rw [occur_eq, State.command_takes h]

section
variable {t : Nat} {p : Port} {tag flags : Byte} {s : State}

theorem exec_modeSet_takes {k : Byte} (h : (s.advance t).Takes p tag flags (.modeSet k)) :
    exec (.modeSet t p tag flags k) s = .next (((s.advance t).started p tag 0x20).modeCmd ⟨p, tag⟩ k.toNat).finish := occur_takes h

theorem exec_safeRequest_takes {k : Byte} {r : Half} (h : (s.advance t).Takes p tag flags (.safeRequest k r)) :
    exec (.safeRequest t p tag flags k r) s =
      .next (((s.advance t).started p tag 0x24).safeRequest ⟨p, tag⟩ k.toNat r.toNat).finish := occur_takes h

theorem exec_timebaseSelect_takes {k : Byte} (h : (s.advance t).Takes p tag flags (.timebaseSelect k)) :
    exec (.timebaseSelect t p tag flags k) s = .next (((s.advance t).started p tag 0x21).timebase ⟨p, tag⟩ k.toNat).finish := occur_takes h

theorem exec_commit_takes {g : Word} (h : (s.advance t).Takes p tag flags (.commit g)) :
    exec (.commit t p tag flags g) s = .next (((s.advance t).started p tag 0x18).commit ⟨p, tag⟩ g).finish := occur_takes h

theorem exec_safetyTest_takes {k : Byte} (h : (s.advance t).Takes p tag flags (.safetyTest k)) :
    exec (.safetyTest t p tag flags k) s = .next (((s.advance t).started p tag 0x78).safetyTest ⟨p, tag⟩ k.toNat).finish := occur_takes h

theorem exec_reset_takes {k : Half} (h : (s.advance t).Takes p tag flags (.reset k)) :
    exec (.reset t p tag flags k) s = .next (((s.advance t).started p tag 0x7F).resetRun ⟨p, tag⟩ k.toNat).finish := occur_takes h

end

/-! ### MODE_SET and SAFE_REQUEST -/

/-- A byte is a number below 256 when its value is. -/
theorem byte_eq_iff {k : Byte} {n : Nat} (h : n < 256) : k = BitVec.ofNat 8 n ↔ k.toNat = n := by
  rw [← BitVec.toNat_inj, BitVec.toNat_ofNat, Nat.mod_eq_of_lt h]

theorem targetMode_eq_none {v : Nat} (h : v = 0 ∨ 8 ≤ v) : targetMode v = none := by
  rcases h with rfl | h
  · rfl
  · obtain ⟨n, rfl⟩ := Nat.exists_eq_add_of_le' h
    rfl

theorem targetMode_safeDark {v : Nat} {m : Mode} (h : targetMode v = some m) : m = .safeDark ↔ v = 6 := by
  unfold targetMode at h
  split at h <;> cases h <;> decide

/-- A number that names a mode asks for it (R41). -/
theorem State.modeCmd_some {id : ReqId} {v : Nat} {m : Mode} (h : targetMode v = some m) (s : State) :
    s.modeCmd id v = s.modeSet m { id := id, viaSafe := false } := by
  simp [State.modeCmd, h]

/-- A number that names a safe state enters it, with cause 9 (R41, Table 10.5a). -/
theorem State.modeCmd_safe {id : ReqId} {k : Byte} {m : Mode} (h : targetMode k.toNat = some m) (hm : m.isSafe = true) (s : State) :
    s.modeCmd id k.toNat =
      s.enterSafe (decide (k = 6)) { src := 9, cls := 0, code := 0, logic := true } (some { id := id, viaSafe := false }) := by
  have hd : m = .safeDark ↔ k = 6 := (targetMode_safeDark h).trans (byte_eq_iff (by decide)).symm
  rw [State.modeCmd_some h, State.modeSet, if_pos hm, decide_eq_decide.mpr hd]

/-- Any other mode is asked for by the rules of R41 to R45. -/
theorem State.modeCmd_go {id : ReqId} {v : Nat} {m : Mode} (h : targetMode v = some m) (hm : m.isSafe = false) (s : State) :
    s.modeCmd id v = s.modeGo m { id := id, viaSafe := false } := by
  rw [State.modeCmd_some h, State.modeSet, hm, if_neg Bool.false_ne_true]

/-- TARGET 1 is refused in every mode (R30). -/
theorem State.modeCmd_limp {id : ReqId} {k : Byte} (h : k = 1) (s : State) :
    s.modeCmd id k.toNat = (s.modeAnswer stModeDenied 0 s.mode.cur.code { id := id, viaSafe := false }).event 0x00C := by
  subst h; rfl

theorem State.modeCmd_none {id : ReqId} {v : Nat} (h : v = 0 ∨ 8 ≤ v) (s : State) :
    s.modeCmd id v = s.modeAnswer stBadParam 0 s.mode.cur.code { id := id, viaSafe := false } := by
  have h1 : v ≠ 1 := by omega
  simp [State.modeCmd, targetMode_eq_none h, h1]

/-- A request with no transition in progress and bring-up over (R29 to R35). -/
theorem State.modeGo_here {m : Mode} {s : State} (ht : s.mode.trans = none) (hb : s.busy = false) (hm : s.mode.cur = m) (r : ModeReq) :
    s.modeGo m r = s.modeAnswer stOk 2 m.code r := by
  simp [State.modeGo, ht, hb, hm]

theorem State.modeGo_begin {m : Mode} {s : State} (ht : s.mode.trans = none) (hb : s.busy = false) (hm : s.mode.cur ≠ m) (r : ModeReq) :
    s.modeGo m r = s.modeBegin m r [] := by
  simp [State.modeGo, ht, hb, hm]

theorem State.modeBegin_permitted {m : Mode} {s : State} (h : s.modeRefusal m = none) (r : ModeReq) : s.modeBegin m r [] = s.startTrans m r [] := by
  simp [State.modeBegin, h]

theorem State.modeBegin_denied {m : Mode} {s : State} (h : s.modeRefusal m = some stModeDenied) (r : ModeReq) :
    s.modeBegin m r [] = ((s.modeAnswer stModeDenied 0 s.mode.cur.code r).event 0x00C).queueTarget := by
  simp [State.modeBegin, h, State.modeAnswers, stModeDenied, stWakeActive]

theorem State.modeBegin_wake {m : Mode} {s : State} (h : s.modeRefusal m = some stWakeActive) (r : ModeReq) :
    s.modeBegin m r [] = ((s.modeAnswer stWakeActive 0 s.mode.cur.code r).event 0x00D).queueTarget := by
  simp [State.modeBegin, h, State.modeAnswers]

/-- A request during a transition joins it or is queued (R42, R44). -/
theorem State.modeGo_joins {m : Mode} {tr : Trans} {s : State} (ht : s.mode.trans = some tr) (hm : tr.target = m) (r : ModeReq) :
    s.modeGo m r = { s with mode := { s.mode with trans := some { tr with merged := tr.merged ++ [r] } } } := by
  simp [State.modeGo, ht, hm]

theorem State.modeGo_queues {m : Mode} {tr : Trans} {s : State} (ht : s.mode.trans = some tr) (hm : tr.target ≠ m) (hq : s.mode.queue = none)
    (r : ModeReq) :
    s.modeGo m r = ({ s with mode := { s.mode with queue := some { target := m, owner := r, merged := [] } } } : State).queueTarget := by
  simp [State.modeGo, ht, hm, State.modeQueue, hq]

/-- SAFE_REQUEST takes the two safe states alone (R117). -/
theorem State.safeRequest_safe {id : ReqId} {k : Byte} (h : k = 5 ∨ k = 6) (r : Nat) (s : State) :
    s.safeRequest id k.toNat r = (s.raise0 0x045 0 r).enterSafe (decide (k = 6))
      { src := if id.port = .wspi then 8 else 9, cls := 0, code := 0, logic := true } (some { id := id, viaSafe := true }) := by
  have h6 : k.toNat = 6 ↔ k = 6 := (byte_eq_iff (by decide)).symm
  have hn : ¬ (k.toNat ≠ 5 ∧ k.toNat ≠ 6) := fun ⟨h5, h6⟩ => h.elim (mt (byte_eq_iff (by decide)).mp h5) (mt (byte_eq_iff (by decide)).mp h6)
  rw [State.safeRequest, if_neg hn, decide_eq_decide.mpr h6]

theorem State.safeRequest_other {id : ReqId} {k : Byte} (h5 : k ≠ 5) (h6 : k ≠ 6) (r : Nat) (s : State) :
    s.safeRequest id k.toNat r = s.answer id stBadParam [] := by
  have h5' : k.toNat ≠ 5 := mt (byte_eq_iff (by decide)).mpr h5
  have h6' : k.toNat ≠ 6 := mt (byte_eq_iff (by decide)).mpr h6
  rw [State.safeRequest, if_pos ⟨h5', h6'⟩]

/-! ### COMMIT -/

theorem State.commit_high {id : ReqId} {g : Word} (h : 256 ≤ g.toNat) (s : State) :
    s.commit id g = s.answer id stBadParam (commitData 0 0 0xFFFF 0) := by
  simp [State.commit, h]

/-- A COMMIT that names TIMING or LANES from a flip's pass latch on is put off (R290). -/
theorem State.commit_defers {id : ReqId} {g : Word} {s : State} (h : g.toNat < 256) (he : BitVec.ofNat 8 g.toNat &&& s.regs.staged ≠ 0)
    (hr : s.scan.run = true) (hf : s.scan.flipLatched = true) (hg : g.getLsbD grpTiming = true ∨ g.getLsbD grpLanes = true) :
    s.commit id g = { s with regs := { s.regs with deferred := s.regs.deferred ++ [(id, g)] } } := by
  rw [State.commit, if_neg (Nat.not_le.mpr h), if_pos]
  simpa only [hr, hf, Bool.true_and, Bool.and_eq_true, Bool.or_eq_true, decide_eq_true_eq] using ⟨hg, he⟩

/-- Any other is validated at once. -/
theorem State.commit_runs {id : ReqId} {g : Word} {s : State} (h : g.toNat < 256)
    (hd : BitVec.ofNat 8 g.toNat &&& s.regs.staged = 0 ∨ s.scan.run = false ∨ s.scan.flipLatched = false ∨
      g.getLsbD grpTiming = false ∧ g.getLsbD grpLanes = false) :
    s.commit id g = s.commitRun id g := by
  rw [State.commit, if_neg (Nat.not_le.mpr h), if_neg]
  rcases hd with hd | hd | hd | ⟨hd, hd'⟩
  · simp only [hd, ne_eq, not_true_eq_false, decide_false, Bool.and_false, Bool.false_eq_true, not_false_eq_true]
  · simp [hd]
  · simp [hd]
  · simp [hd, hd']

theorem State.commitRun_empty {id : ReqId} {g : Word} {s : State} (he : BitVec.ofNat 8 g.toNat &&& s.regs.staged = 0) :
    s.commitRun id g = s.answerFill id stOk .frame (commitData 2 0 0xFFFF s.scan.framecnt) := by
  simp only [State.commitRun, he, if_true]

theorem State.commitRun_refused {id : ReqId} {g : Word} {s : State} {c i : Nat} (he : BitVec.ofNat 8 g.toNat &&& s.regs.staged ≠ 0)
    (hc : s.checkGroups (BitVec.ofNat 8 g.toNat) (s.viewWord (BitVec.ofNat 8 g.toNat &&& s.regs.staged)
      (s.snapOf (BitVec.ofNat 8 g.toNat &&& s.regs.staged))) = some (c, i)) :
    s.commitRun id g = s.answer id stCommitRefused (commitData 0 c i 0) := by
  simp only [State.commitRun, he, if_false, hc]

/-- `s` with a validated COMMIT of the groups `e` pending (R22, R116). -/
def State.commitPending (s : State) (id : ReqId) (e : BitVec 8) : State :=
  { s with regs := { s.regs with commits := s.regs.commits ++ [{ id := id, groups := e, snap := s.snapOf e }], staged := s.regs.staged &&& ~~~e } }

theorem State.commitRun_passes {id : ReqId} {g : Word} {s : State} (he : BitVec.ofNat 8 g.toNat &&& s.regs.staged ≠ 0)
    (hc : s.checkGroups (BitVec.ofNat 8 g.toNat) (s.viewWord (BitVec.ofNat 8 g.toNat &&& s.regs.staged)
      (s.snapOf (BitVec.ofNat 8 g.toNat &&& s.regs.staged))) = none) :
    s.commitRun id g = if s.scan.run then s.commitPending id (BitVec.ofNat 8 g.toNat &&& s.regs.staged)
      else (s.commitPending id (BitVec.ofNat 8 g.toNat &&& s.regs.staged)).applyIdle.releaseIdle := by
  simp only [State.commitRun, he, if_false, hc]
  rfl

/-! ### What follows of itself -/

/-- Effects that leave the state alone, one for each number. -/
theorem iter_id {f : Nat → State → State} {n : Nat} {s : State} (h : ∀ k, k < n → f k s = s) : iter f n s = s := by
  induction n with
  | zero => rfl
  | succ n ih => rw [iter, ih fun k hk => h k (Nat.lt_succ_of_lt hk), h n (Nat.lt_succ_self n)]

theorem foldl_id {β : Type} {f : State → β → State} {l : List β} {s : State} (h : ∀ b ∈ l, f s b = s) : l.foldl f s = s := by
  induction l with
  | nil => rfl
  | cons b t ih => rw [List.foldl_cons, h b (by simp), ih fun c hc => h c (by simp [hc])]

/-- No class waits for its escalation: nothing escalates (R493). -/
theorem State.escalateDue_quiet {s : State} (hc : ∀ k, k < 7 → (vget s.flt.timers k).waits = false) (hp : s.flt.ensP.waits = false)
    (hi : s.flt.ensI.waits = false) : s.escalateDue = s := by
  have hl : (List.range 7).foldl (fun s k =>
      let t := vget s.flt.timers k
      if t.due && !t.expired && t.start.isSome then s.escalate k else s) s = s :=
    foldl_id fun k hk => if_neg (by simpa [Timer.waits] using hc k (List.mem_range.mp hk))
  unfold Timer.waits at hp hi
  simp only [State.escalateDue, hl, hp, hi, Bool.false_eq_true, if_false]

/-- No lane is to be furled. -/
theorem State.furlDrained_none {s : State} (h : ∀ n, n < 16 → (vget s.fly n).furlDue = none) : s.furlDrained = s :=
  iter_id fun n hn => by simp [h n hn]

/-! ### RESET -/

/-- While a RESET is under way no port takes a request (R122). -/
theorem State.portShut_of_restart {s : State} {r : Restart} (h : s.mode.restart = some r) (p : Port) : s.portShut p = true := by
  simp [State.portShut, h]

/-- With nothing in flight a RESET replies in what follows its acceptance (R77, R122). -/
theorem State.settle_reset {s : State} {r : Restart} (hr : s.mode.restart = some r) (hn : r.replied = none) (hf : s.inFlight = false)
    (hc : ∀ k, k < 7 → (vget s.flt.timers k).waits = false) (hp : s.flt.ensP.waits = false) (hi : s.flt.ensI.waits = false)
    (hg : s.pow.ignoreRtc = false) (hl : ∀ n, n < 16 → (vget s.fly n).furlDue = none) :
    s.settle = (((((s.resetReply r).sleepPlaced).bringUp).sleepCheck).convStart).statusChange := by
  have hd : s.resetDrained = s.resetReply r := by simp [State.resetDrained, hr, hn, hf]
  simp only [State.settle, State.escalateDue_quiet hc hp hi, hg, Bool.false_and, Bool.false_eq_true, if_false, State.furlDrained_none hl, hd]

/-! ### A raise of the HV die leaves the shadow words and the activation counts alone -/

@[simp] theorem State.hwSet_shd (s : State) (a m : Nat) : (s.hwSet a m).regs.shd = s.regs.shd := rfl
@[simp] theorem State.hwSet_staged (s : State) (a m : Nat) : (s.hwSet a m).regs.staged = s.regs.staged := rfl
@[simp] theorem State.setPend_shd (s : State) (code inst : Nat) : (s.setPend code inst).regs.shd = s.regs.shd := by
  unfold State.setPend; split <;> simp
@[simp] theorem State.setPend_staged (s : State) (code inst : Nat) : (s.setPend code inst).regs.staged = s.regs.staged := by
  unfold State.setPend; split <;> simp
@[simp] theorem State.raiseHv_shd (s : State) (code inst data : Nat) : (s.raiseHv code inst data).regs.shd = s.regs.shd := by
  simp only [State.raiseHv]; (repeat' split) <;> simp
@[simp] theorem State.raiseHv_staged (s : State) (code inst data : Nat) : (s.raiseHv code inst data).regs.staged = s.regs.staged := by
  simp only [State.raiseHv]; (repeat' split) <;> simp
@[simp] theorem State.present_acts (s : State) (code cls inst data : Nat) (seen : Bool) :
    (s.present code cls inst data seen).1.flt.acts = s.flt.acts := by
  simp only [State.present]; split <;> simp [State.latchFault]
@[simp] theorem State.startEnsTimer_acts (s : State) (cls : Nat) : (s.startEnsTimer cls).flt.acts = s.flt.acts := by
  simp only [State.startEnsTimer]; (repeat' split) <;> rfl
@[simp] theorem State.raiseHv_acts (s : State) (code inst data : Nat) : (s.raiseHv code inst data).flt.acts = s.flt.acts := by
  simp only [State.raiseHv]; (repeat' split) <;> simp

/-! ### The restart -/

/-- What a safe entry of the Ensign reaches while the logic die is in reset: the switches and lines of the HV die, its cause and its event. -/
structure SameLogic (s u : State) : Prop where
  mode : u.mode = s.mode
  pow : u.pow = s.pow
  store : u.store = s.store
  fly : u.fly = s.fly
  shd : u.regs.shd = s.regs.shd
  staged : u.regs.staged = s.regs.staged
  acts : u.flt.acts = s.flt.acts

theorem State.hold_off {s : State} (hp : s.pow.logicOn = false) (dark : Bool) : SameLogic s (s.hold dark) := by
  simp only [State.hold, hp, Bool.and_false, Bool.false_eq_true, if_false]
  constructor <;> rfl

theorem State.latchEns_same (s : State) (src : Nat) : SameLogic s (s.latchEns src) := by
  unfold State.latchEns
  constructor <;> split <;> simp

/-- In BOOT with the logic die in reset an entry by the Ensign asserts what the HV die drives, and begins no transition (R435, R436). -/
theorem State.ensEnter_off {s : State} (hm : s.mode.cur = .boot) (hp : s.pow.logicOn = false) (dark : Bool) (src code : Nat) :
    s.ensEnter dark src code = (s.hold dark).latchEns src := by
  have hq : ((s.hold dark).latchEns src).pow.logicOn = false := by
    rw [(State.latchEns_same _ _).pow, (State.hold_off hp _).pow, hp]
  simp [State.ensEnter, State.enterSafe, hm, hp, State.assertSafe, State.assertLines, hq]

theorem SameLogic.refl (s : State) : SameLogic s s := ⟨rfl, rfl, rfl, rfl, rfl, rfl, rfl⟩

theorem SameLogic.trans {s u v : State} (h : SameLogic s u) (k : SameLogic u v) : SameLogic s v :=
  ⟨k.mode.trans h.mode, k.pow.trans h.pow, k.store.trans h.store, k.fly.trans h.fly, k.shd.trans h.shd, k.staged.trans h.staged,
    k.acts.trans h.acts⟩

theorem State.serviceOver_off {s : State} (hm : s.mode.cur = .boot) (hp : s.pow.logicOn = false) (was : Bool) :
    SameLogic s (s.serviceOver was) := by
  unfold State.serviceOver
  split
  · rw [State.ensEnter_off hm hp]
    exact (State.hold_off hp _).trans (State.latchEns_same _ _)
  · exact .refl s

/-- The logic die in reset after a RESET, the SPI ports with what they keep (R65, R123). -/
def State.restarted (s : State) : State :=
  ({ s.logicReset with ports := (s.logicReset.ports.set 0 (s.keptPort .cspi)).set 1 (s.keptPort .wspi) } : State).setPow
    (fun p => { p with viaReset := true })

/-- 100 µs after its reply, HTX having sent all, a RESET restarts the logic die (R412). -/
theorem State.restartDue_now {s : State} {r : Restart} {t0 : Nat} (hr : s.mode.restart = some r) (hd : r.replied = some t0)
    (ht : t0 + 100000 ≤ s.clk.dtime) (hq : s.hoistUp = false ∨ s.hoist.quiet s.clk.dtime = true) :
    s.restartDue = s.restarted.serviceOver s.ens.svcMode := by
  obtain ⟨id, since, replied⟩ := r
  subst hd
  have hc : (decide (t0 + 100000 ≤ s.clk.dtime) && (!s.hoistUp || s.hoist.quiet s.clk.dtime)) = true := by
    rcases hq with h | h <;> simp [ht, h]
  simp only [State.restartDue, hr, hc, if_true]
  rfl

theorem State.restarted_same (s : State) : SameLogic s.restarted (s.restarted.serviceOver s.ens.svcMode) := State.serviceOver_off rfl rfl _

/-- A port of a logic die in reset answers no STAT. -/
theorem State.stat_off {s : State} (h : s.pow.logicOn = false) (p : SpiPort) : s.stat p = s := by
  simp [State.stat, State.portOpen, h]

/-! ### TIMEBASE_SELECT and SAFETY_TEST -/

/-- `s` on the crystal after a step of `d` ns, with one free value drawn (R68). -/
def State.onCrystal (s : State) (d : Nat) : State :=
  { s.fresh.2 with clk := { s.clk with tbXtal := true, dtime := s.clk.dtime + d, part := 0 }, fab := { s.fab with fircOk := false } }

section
variable {id : ReqId} {k : Byte} {s : State}

theorem State.timebase_other (h : k ≠ 1) : s.timebase id k.toNat = s.answer id stBadParam [] := by
  rw [State.timebase, if_pos (mt (byte_eq_iff (by decide)).mpr h)]

theorem State.timebase_early (h : k = 1) (hx : s.clk.xtalOk = false) : s.timebase id k.toNat = s.answer id stXtalNotReady [] := by
  subst h; simp [State.timebase, hx]

theorem State.timebase_there (h : k = 1) (hx : s.clk.xtalOk = true) (hb : s.clk.tbXtal = true) :
    s.timebase id k.toNat = s.answer id stOk (le 2 0) := by
  subst h; simp [State.timebase, hx, hb]

theorem State.timebase_steps (h : k = 1) (hx : s.clk.xtalOk = true) (hb : s.clk.tbXtal = false) :
    s.timebase id k.toNat = ((s.onCrystal (s.fresh.1 % 11)).event 0x004).answer id stOk (le 2 (s.fresh.1 % 11)) := by
  subst h
  simp only [State.timebase, hx, hb, ne_eq, Bool.not_true, Bool.false_eq_true, if_false]
  rfl

theorem State.safetyTest_other (h : k = 0 ∨ 5 ≤ k.toNat) : s.safetyTest id k.toNat = s.answer id stBadParam [] := by
  rcases h with rfl | h
  · rfl
  · obtain ⟨n, hn⟩ := Nat.exists_eq_add_of_le' h
    rw [hn]
    rfl

theorem State.safetyTest_switch (h : k = 1) : s.safetyTest id k.toNat = s.startSwTest (.safetyTest id) := by
  subst h; rfl

theorem State.safetyTest_heartbeat (h : k = 2) : s.safetyTest id k.toNat = s.setGdn (fun g => { g with test := some (id, 2) }) := by
  subst h; rfl

/-- Test 3 answers a free measurement of 1 to 0xFFFF (assumption 42). -/
theorem State.safetyTest_measure (h : k = 3) : ∃ (d : Nat) (u : State), 1 ≤ d ∧ d ≤ 0xFFFF ∧ u.ports = s.ports ∧ u.store = s.store ∧
    u.ens = s.ens ∧ s.safetyTest id k.toNat = u.testReply id 3 0 d := by
  subst h
  exact ⟨1 + s.fresh.1 % 0xFFFF, s.fresh.2, Nat.le_add_right 1 _, by omega, rfl, rfl, rfl, rfl⟩

/-- `s` in the override of a keep-alive injection, with its event (Table 10.12). -/
def State.injecting (s : State) (id : ReqId) : State :=
  (s.setEns (fun e => { e with ovr := true, injectAt := some (id, s.clk.now) })).event 0x18B

theorem State.safetyTest_inject (h : k = 4) (hm : s.mode.cur = .service) :
    s.safetyTest id k.toNat = { s.injecting id with fly := (s.injecting id).fly.map (fun l => { l.suspend with kaShown := false }) } := by
  subst h
  simp only [State.safetyTest, hm, ne_eq, not_true_eq_false, if_false]
  rfl

end

/-- The injection changes the Ensign's override and its instant, and nothing of the ports, the store or the lanes. -/
theorem State.injecting_frame (s : State) (id : ReqId) :
    (s.injecting id).ens = { s.ens with ovr := true, injectAt := some (id, s.clk.now) } ∧ (s.injecting id).ports = s.ports ∧
      (s.injecting id).store = s.store ∧ (s.injecting id).fly = s.fly := by
  simp only [State.injecting, State.event_ens, State.event_ports, State.event_store, State.event_fly, State.setEns_ens,
    State.setEns_ports, State.setEns_store, State.setEns_fly, and_self]

/-- Test 4 starts in SERVICE alone (Table 10.12). -/
theorem State.Takes.service {s : State} {p : Port} {tag flags : Byte} (h : s.Takes p tag flags (.safetyTest 4)) (op : Nat) :
    (s.started p tag op).mode.cur = .service := by
  obtain ⟨-, -, -, -, -, -, -, -, hm, -⟩ := h
  simpa [cmdModeOk, State.started] using hm

theorem State.resetRun_other {id : ReqId} {k : Half} (h : k ≠ 0xA55A) (s : State) : s.resetRun id k.toNat = s.answer id stBadParam [] := by
  have hk : k.toNat ≠ 0xA55A := fun e => h (BitVec.eq_of_toNat_eq e)
  rw [State.resetRun, if_pos hk]

/-- `s` with a RESET under way. -/
def State.resetting (s : State) (r : Restart) : State := { s with mode := { s.mode with restart := some r } }

theorem State.resetRun_starts {id : ReqId} {k : Half} (h : k = 0xA55A) (s : State) :
    s.resetRun id k.toNat = s.resetting { id := id, since := s.clk.dtime, replied := none } := by
  subst h; rfl

/-- Settles O20: MODE_SET, SAFE_REQUEST, TIMEBASE_SELECT and COMMIT; SAFETY_TEST and the acceptance of RESET; the restart. -/
theorem controlCommands : Obligations.ControlCommands := by
  refine ⟨?_, ?_, ?_⟩
  · rintro t p tag flags s x rfl
    refine ⟨?_, ?_, ?_, ?_⟩
    · rintro k hT y r rfl rfl
      rw [exec_modeSet_takes hT]
      refine ⟨fun hk => ?_, fun hk => ?_, fun m hm hs => ?_, fun m hm hs => ?_⟩
      · rw [State.modeCmd_limp hk]
      · rw [State.modeCmd_none (hk.imp_left (byte_eq_iff (by decide)).mp)]
      · rw [State.modeCmd_safe hm hs]
      · rw [State.modeCmd_go hm hs]
        refine ⟨fun ht hb => ⟨fun he => ?_, fun he hr => ?_, fun he hr => ?_, fun he hr => ?_⟩, fun tr ht he => ?_, fun tr ht he hq => ?_⟩
        · rw [State.modeGo_here ht hb he]
        · rw [State.modeGo_begin ht hb he, State.modeBegin_permitted hr]
        · rw [State.modeGo_begin ht hb he, State.modeBegin_denied hr]
        · rw [State.modeGo_begin ht hb he, State.modeBegin_wake hr]
        · rw [State.modeGo_joins ht he]
        · rw [State.modeGo_queues ht he hq]
    · rintro k r hT y rfl
      rw [exec_safeRequest_takes hT]
      exact ⟨fun hk => by rw [State.safeRequest_safe hk], fun h5 h6 => by rw [State.safeRequest_other h5 h6]⟩
    · rintro k hT y rfl
      rw [exec_timebaseSelect_takes hT]
      refine ⟨fun hk => ?_, fun hk hx => ?_, fun hk hx hb => ?_, fun hk hx hb => ?_⟩
      · rw [State.timebase_other hk]
      · rw [State.timebase_early hk hx]
      · rw [State.timebase_there hk hx hb]
      · rw [State.timebase_steps hk hx hb]
        exact ⟨_, State.onCrystal _ _, Nat.le_of_lt_succ (Nat.mod_lt _ (by decide)), rfl, rfl, rfl, rfl, rfl⟩
    · rintro g hT y rfl
      rw [exec_commit_takes hT]
      refine ⟨fun hg => by rw [State.commit_high hg], ?_⟩
      rintro hg e z rfl
      refine ⟨fun he => ?_, fun he hr hf hn => ?_, fun he hn => ⟨fun c i hc => ?_, fun hc hz => ?_⟩⟩
      · rw [State.commit_runs hg (.inl he), State.commitRun_empty he]
      · rw [State.commit_defers hg he hr hf hn]
      · rw [State.commit_runs hg (.inr hn), State.commitRun_refused he hc]
      · rw [State.commit_runs hg (.inr hn), State.commitRun_passes he hc, hz]
        rfl
  · rintro t p tag flags s x rfl
    refine ⟨?_, ?_⟩
    · rintro k hT y rfl
      rw [exec_safetyTest_takes hT]
      refine ⟨fun hk => ?_, fun hk => ?_, fun hk => ?_, ?_, fun hk => ?_⟩
      · rw [State.safetyTest_switch hk]
      · rw [State.safetyTest_heartbeat hk]
      · obtain ⟨d, u, h1, hd, hp, hs, he, hr⟩ := State.safetyTest_measure hk
        exact ⟨d, u, h1, hd, hp, hs, he, by rw [hr]⟩
      · rintro rfl z rfl
        exact ⟨by rw [State.safetyTest_inject rfl (State.Takes.service hT _), State.injecting], State.injecting_frame _ _⟩
      · rw [State.safetyTest_other hk]
    · rintro k hT y rfl
      rw [exec_reset_takes hT]
      refine ⟨fun hk => by rw [State.resetRun_other hk], ?_⟩
      rintro hk r z rfl rfl
      rw [State.resetRun_starts hk]
      exact ⟨rfl, State.portShut_of_restart rfl, State.settle_reset rfl rfl⟩
  · rintro t p s z u r t0 rfl hr hd ht hq rfl
    have hu := State.restartDue_now hr hd ht hq
    have hs := State.restarted_same (((((s.tick t).inputsDue).closeDue).htxRun).countdowns).hoistCount
    rw [← hu] at hs
    have hoff : (s.advance t).pow.logicOn = false := congrArg Power.logicOn hs.pow
    refine ⟨?_, hs.mode, congrArg Power.logicOn hs.pow, congrArg Power.viaReset hs.pow, hs.store, hs.fly, hs.shd, hs.staged, hs.acts⟩
    rw [exec, execStat, occur_eq, State.stat_off hoff]
    rfl

end Sys2Proof.Machine
end

section
/-! The host link: groups, restarts, credits, starts and training. -/

namespace Sys2Proof.Machine

/-! ### Frames -/

/-- What each of a run of effects leaves alone, the run does. -/
theorem iter_proj {α : Type} (p : State → α) {f : Nat → State → State} (h : ∀ k s, p (f k s) = p s) (n : Nat) (s : State) :
    p (iter f n s) = p s := by
  induction n with
  | zero => rfl
  | succ n ih => rw [iter, h, ih]

/-- A part of a vector's entries that each change leaves alone. -/
theorem vget_iter_vmod {α β : Type} {n : Nat} (p : α → β) {f : Nat → α → α} (h : ∀ k a, p (f k a) = p a) (v : Vector α (n + 1)) (k : Nat)
    {j : Nat} (hj : j < n + 1) : p (vget (iter (fun i v => vmod v i (f i)) k v) j) = p (vget v j) := by
  induction k with
  | zero => rfl
  | succ k ih =>
    rw [iter]
    by_cases hk : j = k
    · subst hk; rw [vget_vmod_same _ _ _ hj, h, ih]
    · rw [vget_vmod_other _ _ _ _ hk hj, ih]

/-- The parts of the machine in which the claims about a received group speak of a restart. -/
structure LinkView where
  store : Store
  ports : Vector PortState 3
  epoch : Byte
  ue : Half
  corr : Half
  rxInv : BitVec 4
  lanes : Vector HLane 5

def State.linkView (s : State) : LinkView :=
  { store := s.store, ports := s.ports, epoch := s.hoist.epoch, ue := s.hoist.ue, corr := s.hoist.corr, rxInv := s.hoist.rxInv,
    lanes := s.hoist.lanes }

@[simp] theorem State.raise0_linkView (s : State) (code inst data : Nat) : (s.raise0 code inst data).linkView = s.linkView := by
  simp [State.linkView]
@[simp] theorem State.event_linkView (s : State) (code : Nat) : (s.event code).linkView = s.linkView := by
  simp [State.linkView]
@[simp] theorem State.setCred_linkView (c : Nat) (f : Cred → Cred) (s : State) : (s.setCred c f).linkView = s.linkView := rfl
@[simp] theorem State.htx_linkView (s : State) (cls : Nat) (cf body : List Byte) : (s.htx cls cf body).linkView = s.linkView := by
  simp only [State.htx]; split <;> rfl

/-- The messages that a restart sends again. -/
theorem foldl_hand_eq (now : Nat) (l : List HtxMsg) (h : Hoist) :
    l.foldl (fun h m => h.hand now m) h = { h with htxWait := h.htxWait ++ l.map (fun m => { due := 1000 * now, msg := m }) } := by
  induction l generalizing h with
  | nil => simp
  | cons m t ih => rw [List.foldl_cons, ih]; simp [Hoist.hand]

/-- A data-layer restart begins the next epoch; the counters and lanes of the link stay (R396). -/
theorem State.restart_linkView (s : State) : s.restart.linkView = { s.linkView with epoch := s.hoist.epoch + 1 } := by
  have hr (x : State) : (iter (fun c s => if s.credBalanced c then s.resolve 0x205 c else s) 4 x).linkView = x.linkView :=
    iter_proj (f := fun c s => if s.credBalanced c then s.resolve 0x205 c else s) State.linkView (fun k s => by split <;> rfl) 4 x
  have hc (x : State) : (iter (fun c s => s.setCred c (Cred.newEpoch (hoistCap c))) 4 x).linkView = x.linkView :=
    iter_proj State.linkView (fun k s => State.setCred_linkView k _ s) 4 x
  have hs (x : State) (l : List HtxMsg) :
      ({ x with hoist := { l.foldl (fun h m => h.hand x.clk.dtime m) x.hoist with sent := x.hoist.sent ++ l } } : State).linkView = x.linkView := by
    rw [foldl_hand_eq]; rfl
  simp only [State.restart, State.event_linkView, hr]
  split
  · rw [hs, State.htx_linkView, hc]; rfl
  · rw [State.htx_linkView, hc]; rfl

/-! ### FEC groups (R385) -/

/-- Alignment notes the lanes' skew alone. -/
theorem State.align_eq (s : State) : ∃ L : Vector HLane 5,
    s.align = { s with hoist := { s.hoist with lanes := L } } ∧ ∀ j, j < 5 → (vget L j).mseq = (vget s.hoist.lanes j).mseq := by
  simp only [State.align]
  split
  · refine ⟨_, rfl, fun j hj => vget_iter_vmod HLane.mseq ?_ _ _ hj⟩
    exact fun _ _ => rfl
  · exact ⟨s.hoist.lanes, rfl, fun _ _ => rfl⟩

/-- Classing a group moves its blocks to the lanes' classes and the receiver of messages on. -/
theorem State.classGroup_eq (s : State) : ∃ (L : Vector HLane 5) (b : Nat × Bool),
    s.classGroup = { s with hoist := { s.hoist with lanes := L, body := b } } ∧ ∀ j, j < 5 → (vget L j).mseq = (vget s.hoist.lanes j).mseq := by
  simp only [State.classGroup]
  generalize (if s.hrxFull then 4 else 1) = k
  split
  · refine ⟨_, _, rfl, fun j hj => vget_iter_vmod HLane.mseq ?_ _ _ hj⟩
    exact fun _ _ => rfl
  · exact ⟨s.hoist.lanes, s.hoist.body, rfl, fun _ _ => rfl⟩

/-- `s` with a group of k byte errors corrected on lane n. -/
def State.corrected (n k : Nat) (g : GroupHeard) (s : State) : State :=
  { s with hoist := { s.hoist with corr := satAdd s.hoist.corr k, lanes := vmod s.hoist.lanes n (HLane.blocksOf s.clk.dtime g) } }

/-- `s` with a lost group counted. -/
def State.lossCounted (s : State) : State := { s with hoist := { s.hoist with ue := satAdd s.hoist.ue 1 } }

/-- `s` with a lost group counted, and the message under way dropped with it. -/
def State.groupDropped (s : State) : State := { s with hoist := { s.hoist with ue := satAdd s.hoist.ue 1, body := (0, false) } }

/-- The polarity that a group on lane n is taken with (R633). -/
def State.heardInv (n : Nat) (heard : GroupHeard) (s : State) : Bool :=
  hrxPolarity n (s.hrxFull && decide (n = 0)) (s.hoist.rxInv.getLsbD n) heard

/-- The group as the receiver of lane n takes it. -/
def State.heardAs (n : Nat) (heard : GroupHeard) (s : State) : GroupHeard := if s.heardInv n heard then heardFlip heard else heard

/-- The machine once the headers of a group have been heard on lane n (R306). -/
def State.heardOn (n : Nat) (heard : GroupHeard) (s : State) : State :=
  { s with hoist := { s.hoist with
    rxInv := if s.heardInv n heard then s.hoist.rxInv ||| BitVec.ofNat 4 (2 ^ n) else s.hoist.rxInv &&& ~~~(BitVec.ofNat 4 (2 ^ n))
    lanes := vmod s.hoist.lanes n (HLane.group (s.heardAs n heard).headers) } }

/-- What is heard of headers says nothing of markers. -/
theorem HLane.group_mseq (headers : List Byte) (l : HLane) : (HLane.group headers l).mseq = l.mseq := by
  have h (hs : List Byte) (l : HLane) : (hs.foldl HLane.header l).mseq = l.mseq := by
    induction hs generalizing l with
    | nil => rfl
    | cons b t ih => rw [List.foldl_cons, ih]; rfl
  exact h headers _

theorem HLane.blocksOf_mseq (now : Nat) (g : GroupHeard) (l : HLane) :
    (HLane.blocksOf now g l).mseq = if headerClass hoistTypes (heardFirst g) = some .marker then some g.mseq else l.mseq := by
  simp only [HLane.blocksOf]; split <;> rfl

/-- A corrected group is aligned at FULL, and its blocks are classed: the lanes' markers stay. -/
theorem State.arranged_eq (s : State) : ∃ (L : Vector HLane 5) (b : Nat × Bool),
    (if s.hrxFull then s.align else s).classGroup = { s with hoist := { s.hoist with lanes := L, body := b } } ∧
      ∀ j, j < 5 → (vget L j).mseq = (vget s.hoist.lanes j).mseq := by
  split
  · obtain ⟨L, ha, hL⟩ := s.align_eq
    obtain ⟨L', b, hc, hL'⟩ := s.align.classGroup_eq
    refine ⟨L', b, by rw [hc, ha], fun j hj => ?_⟩
    rw [hL' j hj, ha, hL j hj]
  · exact s.classGroup_eq

section
variable {n k : Nat} {heard : GroupHeard} {s : State}

/-- A group on a lane that is received, from bring-up step 6 on: it unlocks a bonded lane, or is corrected, or is lost (R385, R388). -/
theorem State.fecGroup_eq (hp : s.pow.logicOn = true) (hm : 6 ≤ s.mode.step) (hf : s.hrxFull = true ∨ n = 0) :
    s.fecGroup n k heard =
      if (vget s.hoist.lanes n).lock && !(vget (s.heardOn n heard).hoist.lanes n).lock && decide (s.hoist.st = .bonded) then
        (if k ≤ 17 then (s.heardOn n heard).hoistDown n
         else ((s.heardOn n heard).hoistDown n).lossCounted.raise0 0x206 n 0)
      else if k ≤ 17 then
        (if ((s.heardOn n heard).corrected n k (s.heardAs n heard)).hrxFull then ((s.heardOn n heard).corrected n k (s.heardAs n heard)).align
         else (s.heardOn n heard).corrected n k (s.heardAs n heard)).classGroup
      else (if s.hoistUp then (s.heardOn n heard).groupDropped.restart else (s.heardOn n heard).groupDropped).raise0 0x206 n 0 := by
  have hgate : (!s.pow.logicOn || decide (s.mode.step < 6) || !(s.hrxFull || decide (n = 0))) = false := by
    rcases hf with h | h <;> simp [hp, h, hm]
  rw [State.fecGroup, hgate, if_neg Bool.false_ne_true]
  rfl

/-- The headers of a group leave the lane's marker as it was. -/
theorem State.heardOn_mseq (hn : n < 5) : (vget (s.heardOn n heard).hoist.lanes n).mseq = (vget s.hoist.lanes n).mseq := by
  simp only [State.heardOn, vget_vmod_same _ _ _ hn, HLane.group_mseq]

/-- Losing lock on a bonded lane takes the link down (R388). -/
theorem State.fecGroup_unlocks (hp : s.pow.logicOn = true) (hm : 6 ≤ s.mode.step) (hf : s.hrxFull = true ∨ n = 0) (hb : s.hoist.st = .bonded)
    (hl : (vget s.hoist.lanes n).lock = true) (hl' : (vget (s.heardOn n heard).hoist.lanes n).lock = false) (hk : k ≤ 17) :
    s.fecGroup n k heard = ((s.heardOn n heard).hoistBlind 0).raise0 0x202 n 0 := by
  have hd : (s.heardOn n heard).hoistDown n = ((s.heardOn n heard).hoistBlind 0).raise0 0x202 n 0 := if_pos hb
  rw [State.fecGroup_eq hp hm hf, if_pos (by simp [hl, hl', hb]), if_pos hk, hd]

/-- The lane keeps what bonds it: the link is not bonded, or the lane had no lock, or has it still. -/
theorem keeps_lock {bonded : Prop} [Decidable bonded] {was now : Bool} (h : ¬ bonded ∨ was = false ∨ now = true) :
    (was && !now && decide bonded) = false := by
  rcases h with h | h | h <;> simp [h]

/-- A group of up to 17 byte errors counts in CORR; a MARKER in its first block gives the lane its MSEQ (R385, R387). -/
theorem State.fecGroup_corrects (hp : s.pow.logicOn = true) (hm : 6 ≤ s.mode.step) (hf : s.hrxFull = true ∨ n = 0)
    (hl : s.hoist.st ≠ .bonded ∨ (vget s.hoist.lanes n).lock = false ∨ (vget (s.heardOn n heard).hoist.lanes n).lock = true) (hk : k ≤ 17)
    (hn : n < 5) :
    (s.fecGroup n k heard).store = s.store ∧ (s.fecGroup n k heard).ports = s.ports ∧ (s.fecGroup n k heard).evt = s.evt ∧
      (s.fecGroup n k heard).hoist.rxInv = (s.heardOn n heard).hoist.rxInv ∧ (s.fecGroup n k heard).hoist.corr = satAdd s.hoist.corr k ∧
      (s.fecGroup n k heard).hoist.ue = s.hoist.ue ∧ (s.fecGroup n k heard).hoist.epoch = s.hoist.epoch ∧
      (vget (s.fecGroup n k heard).hoist.lanes n).mseq =
        if headerClass hoistTypes (heardFirst (s.heardAs n heard)) = some .marker then some (s.heardAs n heard).mseq
        else (vget s.hoist.lanes n).mseq := by
  obtain ⟨L, b, hu, hL⟩ := ((s.heardOn n heard).corrected n k (s.heardAs n heard)).arranged_eq
  have hmseq : (vget L n).mseq = _ := hL n hn
  rw [State.fecGroup_eq hp hm hf, keeps_lock hl, if_neg Bool.false_ne_true, if_pos hk, hu]
  refine ⟨rfl, rfl, rfl, rfl, rfl, rfl, rfl, hmseq.trans ?_⟩
  simp only [State.corrected, vget_vmod_same _ _ _ hn, HLane.blocksOf_mseq, State.heardOn_mseq hn]

/-- A group of more byte errors is lost: it counts in UE, and where messages are received the next epoch begins (R385, R396). -/
theorem State.fecGroup_loses (hp : s.pow.logicOn = true) (hm : 6 ≤ s.mode.step) (hf : s.hrxFull = true ∨ n = 0)
    (hl : s.hoist.st ≠ .bonded ∨ (vget s.hoist.lanes n).lock = false ∨ (vget (s.heardOn n heard).hoist.lanes n).lock = true) (hk : 17 < k)
    (hn : n < 5) :
    (s.fecGroup n k heard).store = s.store ∧ (s.fecGroup n k heard).ports = s.ports ∧
      (s.fecGroup n k heard).hoist.rxInv = (s.heardOn n heard).hoist.rxInv ∧ (s.fecGroup n k heard).hoist.ue = satAdd s.hoist.ue 1 ∧
      (s.fecGroup n k heard).hoist.corr = s.hoist.corr ∧ (vget (s.fecGroup n k heard).hoist.lanes n).mseq = (vget s.hoist.lanes n).mseq ∧
      (s.fecGroup n k heard).hoist.epoch = if s.hoistUp then s.hoist.epoch + 1 else s.hoist.epoch := by
  have hv : (s.fecGroup n k heard).linkView = { (s.heardOn n heard).linkView with
      ue := satAdd s.hoist.ue 1, epoch := if s.hoistUp then s.hoist.epoch + 1 else s.hoist.epoch } := by
    rw [State.fecGroup_eq hp hm hf, keeps_lock hl, if_neg Bool.false_ne_true, if_neg (Nat.not_le.mpr hk), State.raise0_linkView]
    split
    · rw [State.restart_linkView]; rfl
    · rfl
  have hL : (s.fecGroup n k heard).hoist.lanes = (s.heardOn n heard).hoist.lanes := congrArg LinkView.lanes hv
  refine ⟨congrArg LinkView.store hv, congrArg LinkView.ports hv, congrArg LinkView.rxInv hv, congrArg LinkView.ue hv, congrArg LinkView.corr hv,
    ?_, congrArg LinkView.epoch hv⟩
  rw [hL, State.heardOn_mseq hn]

end

/-! ### Credits (R399, R402) -/

@[simp] theorem State.raise0_credBalanced (s : State) (code inst data c : Nat) : (s.raise0 code inst data).credBalanced c = s.credBalanced c := by
  simp [State.credBalanced]

theorem State.creditTimer_due {s : State} (hu : s.hoistUp = true) (hd : s.hoist.creditAt + 100000 ≤ s.clk.dtime) : s.creditTimer = s.sendCredit := by
  simp [State.creditTimer, hu, hd]

section
variable {s : State} (hp : s.pow.logicOn = true) (hm : 6 ≤ s.mode.step)
include hp hm

theorem State.creditAudit_eq : s.creditAudit = iter (fun c s => if s.credBalanced c then s else s.raise0 0x205 c 0) 4 s := by
  simp [State.creditAudit, hp, hm]

theorem State.creditAudit_balanced (h : ∀ c, c < 4 → s.credBalanced c = true) : s.creditAudit = s := by
  rw [State.creditAudit_eq hp hm]
  exact iter_id fun c hc => if_pos (h c hc)

theorem State.creditAudit_objects (h1 : s.credBalanced 1 = false) (h : ∀ c, c < 4 → c ≠ 1 → s.credBalanced c = true) :
    s.creditAudit = s.raise0 0x205 1 0 := by
  rw [State.creditAudit_eq hp hm]
  simp [iter, h1, h 0 (by decide) (by decide), h 2 (by decide) (by decide), h 3 (by decide) (by decide)]

end

/-! ### Words that a raise leaves alone -/

theorem State.hwSet_actW_other {a b : Nat} (h : b ≠ a) (m : Nat) (s : State) : (s.hwSet a m).actW b = s.actW b :=
  (State.setAct_actW s a b _).trans (if_neg h)

/-- A raise sets bits of the source's PEND word and of its EVT register, and of no other word (R495). -/
theorem State.setPend_actW_other {code inst a : Nat} (hp : a ≠ pendAddr code) (he : ∀ b m, evtBit code inst = some (b, m) → a ≠ b) (s : State) :
    (s.setPend code inst).actW a = s.actW a := by
  unfold State.setPend
  split
  · rename_i b m h
    rw [State.hwSet_actW_other (he b m h), State.hwSet_actW_other hp]
  · rw [State.hwSet_actW_other hp]

theorem State.raise0_actW_other {code inst a : Nat} (hp : a ≠ pendAddr code) (he : ∀ b m, evtBit code inst = some (b, m) → a ≠ b) (data : Nat)
    (s : State) : (s.raise0 code inst data).actW a = s.actW a := by
  simp only [State.raise0]
  (repeat' split) <;> simp [State.setPend_actW_other hp he]

/-! ### The record and the training attempts (R389 to R392) -/

/-- `s` up at LIMP with the host's record, and its event (R389). -/
def State.recorded (s : State) (c : CapRecord) : State :=
  ({ s with hoist := { s.hoist with st := .limp, caps := some c } } : State).event 0x209

theorem State.recorded_hoist (s : State) (c : CapRecord) : (s.recorded c).hoist = { s.hoist with st := .limp, caps := some c } := by
  simp [State.recorded]

theorem State.recorded_flag (s : State) (c : CapRecord) (i : Nat) : (s.recorded c).flag 0x80000 i = s.flag 0x80000 i := by
  have hw : (s.recorded c).actW 0x80000 = s.actW 0x80000 :=
    State.raise0_actW_other (code := 0x209) (inst := 0) (by decide) (fun b m h => absurd (h : (none : Option (Nat × Nat)) = some (b, m)) nofun) 0 _
  rw [State.flag, State.act, hw]; rfl

/-- A record before step 8 brings the link up. -/
theorem State.hoistCaps_first {s : State} (hst : s.hoist.st = .down) (ha : s.hoist.attempt = 0) (h6 : 6 ≤ s.mode.step) (h8 : s.mode.step < 8)
    (c : CapRecord) : s.hoistCaps c = s.recorded c := by
  have hn : ¬ (s.hoist.st = .training ∨ s.hoist.st = .bonded ∨ s.mode.step < 6) := by simp [hst, h6]
  have h8' : ¬ 8 ≤ (s.recorded c).mode.step := by simpa [State.recorded] using h8
  rw [State.hoistCaps, if_neg hn]
  refine (if_neg (by simp [ha])).trans (if_neg h8')

/-- One after a failed attempt begins the next where the record and HOIST.CFG allow it. -/
theorem State.hoistCaps_again {s : State} (hst : s.hoist.st = .down) (ha : s.hoist.attempt ≠ 0) (hr : s.hoist.retryDue.isSome = true)
    (h6 : 6 ≤ s.mode.step) (hf : s.flag 0x80000 0 = true) {c : CapRecord} (hv : c.version = 1) (hl : c.lanes = 4) (hc : c.rates.getLsbD 1 = true) :
    s.hoistCaps c = ({ s.recorded c with hoist := { (s.recorded c).hoist with retryDue := none } } : State).hoistAttempt := by
  have hn : ¬ (s.hoist.st = .training ∨ s.hoist.st = .bonded ∨ s.mode.step < 6) := by simp [hst, h6]
  have hcan : ({ s.recorded c with hoist := { (s.recorded c).hoist with retryDue := none } } : State).hoistCan = true := by
    have hf' : ({ s.recorded c with hoist := { (s.recorded c).hoist with retryDue := none } } : State).flag 0x80000 0 = true :=
      (s.recorded_flag c 0).trans hf
    rw [State.hoistCan, hf']
    simp [State.recorded_hoist, hv, hl, hc]
  rw [State.hoistCaps, if_neg hn]
  refine (if_pos (by simp [hst, ha])).trans ?_
  have hr' : (s.recorded c).hoist.retryDue.isSome = true := by simpa [State.recorded_hoist] using hr
  exact (if_pos hr').trans (if_pos hcan)

/-- What a TRAIN block on lane 0 reports, and a new request for the HTX taps, leave of the attempt. -/
theorem State.reported_eq (m : HoistTrainMsg) (s : State) : ∃ h : Hoist,
    ({ s with hoist := s.hoist.report 0 m } : State).htxAnswer m = { s with hoist := h } ∧ h.st = s.hoist.st ∧ h.phase = s.hoist.phase ∧
      h.countAt = s.hoist.countAt := by
  simp only [State.htxAnswer]
  split
  · exact ⟨_, rfl, rfl, rfl, rfl⟩
  · exact ⟨_, rfl, rfl, rfl, rfl⟩

/-- Before the lanes are equalised no tap request of the device is answered. -/
theorem State.hrxAnswer_early {s : State} (h : s.hoist.phase ≠ 3) (n : Nat) (rseq : Byte) : s.hrxAnswer n rseq = s := by
  simp [State.hrxAnswer, h]

/-- The host acknowledges PHASE 1 while the countdown runs (Table 9.5 step 1). -/
theorem State.hoistTrain_acks {s : State} {m : HoistTrainMsg} {c : Nat} (hst : s.hoist.st = .training) (hph : s.hoist.phase = 1)
    (hm : m.phase = 1) (hc : s.hoist.countAt = some c) (hd : s.clk.dtime < c) :
    (s.hoistTrain 0 m).hoist.acked = true ∧ (s.hoistTrain 0 m).hoist.phase = 1 ∧ (s.hoistTrain 0 m).hoist.st = .training ∧
      (s.hoistTrain 0 m).hoist.countAt = some c := by
  obtain ⟨h, hx, hst', hph', hc'⟩ := State.reported_eq m s
  have hn : ¬ s.hoist.st ≠ .training := fun h => h hst
  have hm5 : ¬ m.phase = 5 := by omega
  have hp : ({ s with hoist := h } : State).hoist.phase ≠ 3 := by rw [hph', hph]; decide
  simp only [State.hoistTrain, if_neg hn, if_neg hm5, if_true, hx, State.hrxAnswer_early hp]
  simp [hm, hst', hph', hc', hst, hph, hc, hd]

/-- A phase past its bound fails the attempt (R391). -/
theorem State.hoistTimeout_late {s : State} (hst : s.hoist.st = .training) (hd : s.hoist.phaseDue ≤ s.clk.dtime) : s.hoistTimeout = s.hoistFail := by
  simp [State.hoistTimeout, hst, hd]

/-- 1 s without TIME (R416). -/
theorem State.timeStale_due {s : State} {t0 : Nat} (ht : s.hoist.timeAt = some t0) (hd : t0 + 1000000000 ≤ s.clk.dtime) :
    s.timeStale = ({ s with hoist := { s.hoist with timeAt := some s.clk.dtime } } : State).event 0x208 := by
  simp [State.timeStale, ht, hd]

/-- A failed attempt leaves the link down at its count; before the third the link has 2 ms to come up, after it there is no other (R391, R392). -/
theorem State.hoistFail_hoist (s : State) : s.hoistFail.hoist.st = .down ∧ s.hoistFail.hoist.attempt = s.hoist.attempt ∧
    (s.hoist.attempt < 3 → s.hoistFail.hoist.retryDue = some (s.clk.dtime + 2000000) ∧ s.hoistFail.hoist.gaveUp = false) ∧
    (3 ≤ s.hoist.attempt → s.hoistFail.hoist.gaveUp = true) := by
  by_cases hk : s.hoist.attempt < 3
  · simp [State.hoistFail, State.hoistBlind, Hoist.start, hk, Nat.not_le.mpr hk]
  · simp [State.hoistFail, State.hoistGiveUp, State.hoistBlind, Hoist.start, hk]

/-- At COUNT 0 of an acknowledged PHASE 1 the link goes on at FULL (Table 9.5 step 2). -/
theorem State.hoistCount_full {s : State} {c : Nat} (hst : s.hoist.st = .training) (hph : s.hoist.phase = 1) (ha : s.hoist.acked = true)
    (hc : s.hoist.countAt = some c) (hd : c ≤ s.clk.dtime) : s.hoistCount = s.hoistFull c := by
  simp [State.hoistCount, hst, hph, ha, hc, hd]

/-- The receiver of a lane in training at FULL. -/
theorem State.hoistFull_hrxFull {s : State} (hst : s.hoist.st = .training) (c : Nat) : (s.hoistFull c).hrxFull = true := by
  simp [State.hrxFull, State.hoistFull, Hoist.start, hst]

/-- Settles O47: groups by whether they decode, credits, the ways down, the record, training, and the failed attempt. -/
theorem hoistLinkRows : Obligations.HoistLinkRows := by
  refine ⟨?_, fun s => ?_⟩
  · rintro t s x rfl hp hm
    refine ⟨?_, ?_, ?_, ?_, ?_, ?_, ?_, ?_, ?_, ?_⟩
    · intro n k heard g i z hf hi hg hz
      obtain rfl : i = (s.advance t).heardInv n heard := hi
      obtain rfl : g = (s.advance t).heardAs n heard := hg
      obtain rfl : z = (s.advance t).heardOn n heard := hz
      refine ⟨fun hl => ⟨(s.advance t).fecGroup n k heard, rfl, ?_⟩, fun hb hl hl' hk => ?_⟩
      · by_cases hk : k ≤ 17
        · obtain ⟨hst, hpo, hev, hrx, hco, hue, hep, hms⟩ := State.fecGroup_corrects hp hm hf hl hk (by omega)
          exact ⟨hst, hpo, hrx, fun _ => ⟨hco, hue, hep, hev, hms⟩, fun h => absurd hk (Nat.not_le.mpr h)⟩
        · obtain ⟨hst, hpo, hrx, hue, hco, hms, hep⟩ := State.fecGroup_loses hp hm hf hl (Nat.lt_of_not_le hk) (by omega)
          exact ⟨hst, hpo, hrx, fun h => absurd h hk, fun _ =>
            ⟨hue, hco, hms, fun h => hep.trans (if_pos h), fun h => hep.trans (if_neg (by simp [h]))⟩⟩
      · rw [exec, execFecGroup, occur_eq, State.fecGroup_unlocks hp hm hf hb hl hl' hk]
    · intro hu hd
      rw [exec, execCreditTimer, occur_eq, State.creditTimer_due hu hd]
    · intro h
      rw [exec, execCreditAudit, occur_eq, State.creditAudit_balanced hp hm h]
    · intro h1 h
      rw [exec, execCreditAudit, occur_eq, State.creditAudit_objects hp hm h1 h]
    · intro n hb
      rw [exec, execHoistLinkdown, occur_eq, State.hoistDown, if_pos hb]
    · intro c hst ha h8
      rw [exec, execCapabilityRecord, occur_eq, State.hoistCaps_first hst ha hm h8, State.recorded]
    · intro c hst ha hr hf hv hl hc
      refine ⟨_, by rw [exec, execCapabilityRecord, occur_eq, State.hoistCaps_again hst ha hr hm hf hv hl hc], rfl, rfl, ?_, ?_, ?_⟩
      · simp [State.hoistAttempt, State.recorded_hoist]
      · simp [State.hoistAttempt, State.recorded]
      · simp [State.hoistAttempt, State.recorded_hoist]
    · intro m c hst hph hm hc hd
      exact ⟨_, rfl, State.hoistTrain_acks hst hph hm hc hd⟩
    · intro hst hd
      rw [exec, execHoistTrainingTimeout, occur_eq, State.hoistTimeout_late hst hd]
    · intro t0 ht hd
      rw [exec, execHoistTimeStale, occur_eq, State.timeStale_due ht hd]
  · obtain ⟨hd, ha, hr, hg⟩ := s.hoistFail_hoist
    refine ⟨hd, ha, hr, hg, fun c hst hph hk hc hn => ?_⟩
    rw [State.hoistCount_full hst hph hk hc hn]
    exact ⟨rfl, rfl, rfl, rfl, State.hoistFull_hrxFull hst c⟩

end Sys2Proof.Machine
end

section
/-! The frame store's canonical form over every row. -/

namespace Sys2Proof.Machine

/-- A step keeps the frame store's list in canonical form, from every state where it is. -/
theorem step_memOk {s u : State} (hm : s.memOk = true) (hs : step s = .next u) : u.memOk = true := by
  unfold step at hs
  split at hs
  · cases hs; exact hm
  · rename_i c rest _
    have h : Held (rest, s.clk.now, true, false) ({ s with pending := rest } : State).trunk :=
      ⟨by simp, by simp, fun _ => hm, nofun⟩
    obtain ⟨t, -, -, hu, -⟩ := exec_held h hs
    exact hu rfl

/-- Settles O3: every row that writes the store does so by writes that keep its list canonical, every other leaves it alone (R125, R126). -/
theorem stepKeepsMemory : Obligations.StepKeepsMemory := fun _ _ => step_memOk

end Sys2Proof.Machine
end

section
/-! The surface commands: define, delete, take, release. -/

namespace Sys2Proof.Machine

section
variable {t : Nat} {p : Port} {tag flags n : Byte} {s : State}

theorem exec_surfaceDefine_takes {f : Byte} {b st : Word} {w h : Half} (hc : (s.advance t).Takes p tag flags (.surfaceDefine n f b w h st)) :
    exec (.surfaceDefine t p tag flags n f b w h st) s =
      .next (((s.advance t).started p tag 0x30).surfaceDefine ⟨p, tag⟩ n.toNat f.toNat b.toNat w.toNat h.toNat st.toNat).finish :=
  occur_takes hc

theorem exec_surfaceDelete_takes (hc : (s.advance t).Takes p tag flags (.surfaceDelete n)) :
    exec (.surfaceDelete t p tag flags n) s = .next (((s.advance t).started p tag 0x31).surfaceDelete ⟨p, tag⟩ n.toNat).finish := occur_takes hc

theorem exec_leaseTake_takes {crc : Word} (hc : (s.advance t).Takes p tag flags (.leaseTake n crc)) :
    exec (.leaseTake t p tag flags n crc) s = .next (((s.advance t).started p tag 0x32).leaseTake ⟨p, tag⟩ n.toNat crc).finish := occur_takes hc

theorem exec_leaseRelease_takes (hc : (s.advance t).Takes p tag flags (.leaseRelease n)) :
    exec (.leaseRelease t p tag flags n) s = .next (((s.advance t).started p tag 0x33).leaseRelease ⟨p, tag⟩ n.toNat).finish := occur_takes hc

end

section
variable {id : ReqId} {n : Nat} {s : State}

/-- With no transfer in progress there is none to abort (R140). -/
theorem State.dropDef_none (h : s.hoist.cur = none) : s.dropDef n = s := by
  simp [State.dropDef, h]

/-- A surface of good geometry, free of the others and not in use, is defined (R137, R141). -/
theorem State.surfaceDefine_free {f b w h st : Nat} (hn : n < 128) (hg : geometryOk f b w h st = true)
    (ho : s.overlaps n b (footWords f w h st) = false) (hu : s.surfInUse n = false) (hc : s.hoist.cur = none) :
    s.surfaceDefine id n f b w h st =
      (s.setSurf n (fun _ =>
        { st := .incomplete, format := f, base := b, width := w, height := h, stride := st, fill := 0, req := none, crc := 0,
          flipN := false })).answer id stOk [] := by
  have hp : ¬ (128 ≤ n ∨ (!geometryOk f b w h st) = true ∨ s.overlaps n b (footWords f w h st) = true) := by
    rw [hg, ho]; exact fun hb => hb.elim (Nat.not_le.mpr hn) nofun
  rw [State.surfaceDefine, if_neg hp, hu, if_neg Bool.false_ne_true, State.dropDef_none hc]
  rfl

/-- A defined surface that is not in use is deleted (R139). -/
theorem State.surfaceDelete_free (hn : n < 128) (hd : (s.surf n).st ≠ .undefined) (hu : s.surfInUse n = false) (hc : s.hoist.cur = none) :
    s.surfaceDelete id n = (s.setSurf n (fun _ => Surface.reset)).answer id stOk [] := by
  rw [State.surfaceDelete, decide_eq_false (Nat.not_le.mpr hn), decide_eq_false hd, Bool.or_false, if_neg Bool.false_ne_true, hu,
    if_neg Bool.false_ne_true, State.dropDef_none hc]

/-- A COMPLETE surface that a lease is left for awaits its content check (R145). -/
theorem State.leaseTake_complete {crc : Word} (hn : n < 128) (hs : (s.surf n).st = .complete) (hl : s.leases + s.store.checkQ.length < 128) :
    s.leaseTake id n crc =
      (let z := s.setSurf n (fun u => { u with st := .checking, req := some id, crc := crc })
       { z with store := { z.store with checkQ := z.store.checkQ ++ [Fin.ofNat 128 n] } }) := by
  simp [State.leaseTake, hs, Nat.not_le.mpr hn, Nat.not_le.mpr hl]

/-- While scan-out runs a release waits for its flips (R149, R150). -/
theorem State.leaseRelease_scanning (hn : n < 128) (hs : (s.surf n).st = .leased) (hr : s.scan.run = true) :
    s.leaseRelease id n = s.setSurf n (fun u => { u with st := .releasing, req := some id, flipN := false }) := by
  have hl : decide ((s.surf n).st ≠ .leased) = false := decide_eq_false fun h => h hs
  rw [State.leaseRelease, decide_eq_false (Nat.not_le.mpr hn), hl, Bool.or_false, if_neg Bool.false_ne_true, State.releaseIdle,
    State.setSurf_scan, hr, if_pos rfl]

end

/-- An accepted packet leaves the host link alone. -/
@[simp] theorem State.started_hoist (s : State) (p : Port) (tag : Byte) (op : Nat) : (s.started p tag op).hoist = s.hoist := rfl

/-- Settles O15: each of the four commands on the surface that its rule lets it take. -/
theorem surfaceCommands : Obligations.SurfaceCommands := by
  rintro t p tag flags n s x rfl hn hc
  refine ⟨?_, ?_, ?_, ?_⟩
  · rintro f b w h st hk y rfl hg ho hu
    rw [exec_surfaceDefine_takes hk, State.surfaceDefine_free hn hg ho hu hc]
  · rintro hk y rfl hd hu
    rw [exec_surfaceDelete_takes hk, State.surfaceDelete_free hn hd hu hc]
  · rintro crc hk y rfl hs hl z rfl
    rw [exec_leaseTake_takes hk, State.leaseTake_complete hn hs hl]
  · rintro hk y rfl hs hr
    rw [exec_leaseRelease_takes hk, State.leaseRelease_scanning hn hs hr]

end Sys2Proof.Machine
end

section
/-! Surface writes from the host. -/

namespace Sys2Proof.Machine

/-! ### The transfer at the head of the ingress buffer -/

section
variable {s : State} {n : Byte} {off : Nat} {d : List Byte} {rest : List Ingress}

/-- What is left of the ingress buffer when its oldest transfer is taken. -/
def State.ingressLeft (s : State) (rest : List Ingress) : State := { s with hoist := { s.hoist with ingress := rest } }

theorem State.ingressLeft_vidRefusal (s : State) (rest : List Ingress) (k o l : Nat) :
    (s.ingressLeft rest).vidRefusal k o l = s.vidRefusal k o l := rfl

/-- The transfer at the head reaches the port where R404 allows it (R144, R405); else it is refused: its credits are freed, and it is
counted, raised and reported (R143). -/
theorem State.vidEntry_head (hc : s.hoist.cur = none) (hd : s.store.clrDone = true) (hi : s.hoist.ingress = .vid n off d :: rest) :
    s.vidEntry = (s.vidRefusal n.toNat off d.length).elim
      (let z := s.ingressLeft rest
       { z with hoist := { z.hoist with cur := some { surf := n.toNat, offset := off, data := d } } })
      (fun st =>
        let y := (s.ingressLeft rest).freeCred 0 (vidCost d.length)
        ((({ y with store := { y.store with wrefused := satAdd y.store.wrefused 1 } } : State).raise0 0x082 0 0).raise0 0x204 0 0).xstat
          n.toNat st off) := by
  rw [State.vidEntry, if_neg (by simp [hc, hd]), hi, ← State.ingressLeft_vidRefusal s rest]
  simp only [List.find?, takeFirst, Ingress.isVid, if_true, State.ingressLeft]
  split
  · rename_i hr; rw [hr]; rfl
  · rename_i hr; rw [hr]; rfl

end

/-! ### The last word of a transfer -/

/-- A transfer that leaves no gap extends FILL, and makes its surface COMPLETE when it is full (R141). -/
theorem State.xferWritten_fills {s : State} {w : Xfer} (hi : (s.surf w.surf).st = .incomplete) (hg : w.offset ≤ (s.surf w.surf).fill)
    (hf : (s.surf w.surf).fill < w.offset + w.data.length) :
    s.xferWritten w = (s.storePut (128 * (s.surf w.surf).base + w.offset) w.data).setSurf w.surf (fun v =>
      { v with fill := w.offset + w.data.length, st := if w.offset + w.data.length = v.bytes then .complete else .incomplete }) :=
  if_pos ⟨hi, hg, hf⟩

/-- Any other leaves the surface as it was (R142). -/
theorem State.xferWritten_keeps {s : State} {w : Xfer} (h : (s.surf w.surf).st ≠ .incomplete ∨ (s.surf w.surf).fill < w.offset ∨
      w.offset + w.data.length ≤ (s.surf w.surf).fill) :
    s.xferWritten w = s.storePut (128 * (s.surf w.surf).base + w.offset) w.data := by
  refine if_neg fun ⟨hi, hg, hf⟩ => ?_
  rcases h with h | h | h
  · exact h hi
  · omega
  · omega

/-- The written transfer frees its credits and is reported OK (R401, R406). -/
theorem State.vidDone_written {s : State} {w : Xfer} (hc : s.hoist.cur = some w) :
    s.vidDone = ((({ s.xferWritten w with hoist := { (s.xferWritten w).hoist with cur := none } } : State).freeCred 0
      (vidCost w.data.length)).xstat w.surf stOk w.offset) := by
  rw [State.vidDone, hc]

/-- Without a message layer nothing is received (R395). -/
theorem State.vidMsg_down {s : State} (hu : s.hoistUp = false) (h : HoistHead) (n : Byte) (off : Word) (d : List Byte) :
    s.vidMsg h n off d = s := by
  simp [State.vidMsg, State.hoistCheck, hu]

/-- Settles O46: the head of the ingress buffer at the store port, and the last word of a transfer. -/
theorem transferRows : Obligations.TransferRows := by
  rintro t s x rfl
  refine ⟨?_, ?_, ?_⟩
  · rintro n off d rest z hc hd hi rfl
    refine ⟨fun hr => ?_, fun st y hy hr => ?_⟩
    · rw [exec, execVidStoreEntry, occur_eq, State.vidEntry_head hc hd hi, hr]
      rfl
    · subst hy
      rw [exec, execVidStoreEntry, occur_eq, State.vidEntry_head hc hd hi, hr]
      rfl
  · rintro w f e z hc - rfl rfl rfl
    refine ⟨fun y hy hi hg hf => ?_, fun h => ?_⟩
    · subst hy
      rw [exec, execVidWriteDone, occur_eq, State.vidDone_written hc, State.xferWritten_fills hi hg hf]
    · rw [exec, execVidWriteDone, occur_eq, State.vidDone_written hc, State.xferWritten_keeps h]
  · intro h n off d hu
    rw [exec, execVid, occur_eq, State.vidMsg_down hu]

end Sys2Proof.Machine
end

section
/-! The background test: a region's start, its end and its mismatches. -/

namespace Sys2Proof.Machine

/-! ### The start of a region -/

/-- A region starts from a copy of what requester 5 reads of it (R161, R163). -/
theorem State.bistStart_runs {s : State} (hr : s.bistRuns = true) (ha : s.store.bistActive = false) :
    s.bistStart =
      (let m := memPut s.store.mem (4096 * s.store.bistRegion) (sparseBytes (s.memSeen 5) (4096 * s.store.bistRegion) 4096)
       { s with store := { s.store with
          bistActive := true, bistAt := s.clk.dtime, mem := m, bistSave := regionCells m s.store.bistRegion
          bistArr := regionCells m s.store.bistRegion
          zeroed := s.store.zeroed.filter (fun p => !(p.1 == 5 && inRegion s.store.bistRegion (8 * p.2))) } }) := by
  rw [State.bistStart, if_pos (by simp [hr, ha])]

/-! ### Words and faults that a raise sets -/

/-- A bit that hardware sets reads as set. -/
theorem State.hwSet_flag_set (s : State) (a : Nat) {m i : Nat} (hm : m.testBit i = true) (hi : i < 32) : (s.hwSet a m).flag a i = true := by
  have hw : (s.hwSet a m).actW a = s.actW a ||| BitVec.ofNat 32 m := (State.setAct_actW s a a _).trans (if_pos rfl)
  have hb : ((s.actW a ||| BitVec.ofNat 32 m).toNat).testBit i = true := by
    rw [BitVec.toNat_or, BitVec.toNat_ofNat, Nat.testBit_or, Nat.testBit_mod_two_pow, hm, decide_eq_true hi, Bool.and_true, Bool.or_true]
  rw [State.flag, State.act, hw]
  simpa [bit, Nat.testBit_eq_decide_div_mod_eq] using hb

/-- A raise leaves the bits of every word but the source's PEND word and its EVT register. -/
theorem State.raise0_flag_other {code inst a : Nat} (hp : a ≠ pendAddr code) (he : ∀ b m, evtBit code inst = some (b, m) → a ≠ b)
    (data i : Nat) (s : State) : (s.raise0 code inst data).flag a i = s.flag a i := by
  rw [State.flag, State.act, State.raise0_actW_other hp he, State.flag, State.act]

/-- A fault that is presented is active with a condition (R482). -/
theorem State.present_active (s : State) (code cls inst data : Nat) (seen : Bool) :
    ∃ a, a ∈ (s.present code cls inst data seen).1.flt.active ∧ a.code = code ∧ a.conds ≠ [] := by
  unfold State.present
  split
  · rename_i a ha
    have hc : a.code = code := by simpa using List.find?_some ha
    refine ⟨_, List.mem_map_of_mem (List.mem_of_find?_eq_some ha), ?_, ?_⟩
    · rw [if_pos hc]; exact hc
    · rw [if_pos hc]
      show (if a.conds.contains inst then a.conds else a.conds ++ [inst]) ≠ []
      split
      · rename_i h; exact List.ne_nil_of_mem (List.contains_iff_mem.mp h)
      · simp
  · exact ⟨_, List.mem_append_right _ (List.mem_singleton_self _), rfl, List.cons_ne_nil _ _⟩

@[simp] theorem State.startTimer_active (s : State) (cls : Nat) : (s.startTimer cls).flt.active = s.flt.active := by
  unfold State.startTimer; split <;> rfl

@[simp] theorem State.countAct_active (s : State) (cls : Nat) : (s.countAct cls).flt.active = s.flt.active := rfl

/-- So is one whose source raises. -/
theorem State.raise0_active {code cls : Nat} (hc : faultClass code = some cls) (inst data : Nat) (s : State) :
    ∃ a, a ∈ (s.raise0 code inst data).flt.active ∧ a.code = code ∧ a.conds ≠ [] := by
  obtain ⟨a, ha, hk⟩ := (s.setPend code inst).present_active code cls inst data true
  refine ⟨a, ?_, hk⟩
  simp only [State.raise0, hc]
  split
  · simpa using ha
  · simpa using ha

/-- A fault resolved throughout has no condition left. -/
theorem State.resolveAll_conds (s : State) (code : Nat) {a : Active} (ha : a ∈ (s.resolveAll code).flt.active) (hc : a.code = code) :
    a.conds = [] := by
  obtain ⟨b, -, hb⟩ := List.mem_map.mp ha
  by_cases h : b.code = code
  · rw [if_pos h] at hb; rw [← hb]
  · rw [if_neg h] at hb; exact absurd (hb ▸ hc) h

/-! ### The end of a region -/

/-- `s` with the region under test restored from the save buffer, and the next one to come (R161, R163). -/
def State.bistRestored (s : State) : State :=
  { s with store := { s.store with
      mem := memPut s.store.mem (4096 * s.store.bistRegion) (sparseBytes s.store.bistSave (4096 * s.store.bistRegion) 4096)
      bistActive := false, bistSave := [], bistArr := [], bistRegion := (s.store.bistRegion + 1) % 8192
      scrub := s.store.scrub.filter (fun p => !wordHit (4096 * s.store.bistRegion) 4096 p.1)
      bistPass := if s.store.bistRegion = 8191 then satAdd s.store.bistPass 1 else s.store.bistPass } }

/-- The word w and group g of region r that a hard failure latches (R164, Table 3.11). -/
def bistFailWord (r w g : Nat) : Word := BitVec.ofNat 32 (32 * r + w + 2 ^ 18 * g + 2 ^ 22)

/-- `s` with failure v latched where none is yet. -/
def State.bistLatched (v : Word) (s : State) : State :=
  if s.flag 0x20004 23 then s else ({ s with store := { s.store with bistFail := v } } : State).hwSet 0x20004 0x800000

/-- Region r fails hard (R164). -/
def State.bistHardened (r : Nat) (s : State) : State :=
  { s with store := { s.store with
      bistHard := if s.store.bistHard.contains r then s.store.bistHard else s.store.bistHard ++ [r] } }

section
variable {s : State} (ha : s.store.bistActive = true)
include ha

theorem State.bistDone_passes (b : Bool) : s.bistDone none b = s.bistRestored.bistGood s.store.bistRegion := by
  rw [State.bistDone, if_neg (by simp [ha])]; rfl

theorem State.bistDone_transient (w : Fin 32) (g : Fin 16) :
    s.bistDone (some (w, g)) false = (s.bistRestored.bistGood s.store.bistRegion).event 0x083 := by
  rw [State.bistDone, if_neg (by simp [ha])]; rfl

theorem State.bistDone_fails (w : Fin 32) (g : Fin 16) :
    s.bistDone (some (w, g)) true =
      ((s.bistRestored.bistLatched (bistFailWord s.store.bistRegion w.val g.val)).bistHardened s.store.bistRegion).raise0 0x084 0 0 := by
  rw [State.bistDone, if_neg (by simp [ha])]; rfl

end

/-- The restored region leaves the register words, the faults and what is latched of failures. -/
@[simp] theorem State.bistRestored_flag (s : State) (a i : Nat) : s.bistRestored.flag a i = s.flag a i := rfl
@[simp] theorem State.bistRestored_flt (s : State) : s.bistRestored.flt = s.flt := rfl
@[simp] theorem State.bistRestored_bistActive (s : State) : s.bistRestored.store.bistActive = false := rfl
@[simp] theorem State.bistRestored_bistFail (s : State) : s.bistRestored.store.bistFail = s.store.bistFail := rfl
@[simp] theorem State.bistRestored_bistHard (s : State) : s.bistRestored.store.bistHard = s.store.bistHard := rfl

/-- A good pass of region r takes it from the regions that fail hard, and changes nothing else of the store (R164). -/
@[simp] theorem State.bistGood_store (r : Nat) (s : State) :
    (s.bistGood r).store = { s.store with bistHard := s.store.bistHard.filter (· != r) } := by
  simp only [State.bistGood]; split
  · exact State.resolveAll_store _ _
  · rfl

/-- While another region fails hard the memory fault stays as it is. -/
theorem State.bistGood_flt {s : State} {r k : Nat} (hk : k ∈ s.store.bistHard) (hr : k ≠ r) : (s.bistGood r).flt = s.flt := by
  have hl : k ∈ s.store.bistHard.filter (· != r) := List.mem_filter.mpr ⟨hk, by simpa using hr⟩
  have he : (s.store.bistHard.filter (· != r)).isEmpty = false := by simpa using List.ne_nil_of_mem hl
  simp [State.bistGood, he]

/-- Once none does its condition is absent. -/
theorem State.bistGood_resolves {s : State} {r : Nat} (h : ∀ k, k ∈ s.store.bistHard → k = r) {a : Active}
    (ha : a ∈ (s.bistGood r).flt.active) (hc : a.code = 0x084) : a.conds = [] := by
  have he : (s.store.bistHard.filter (· != r)).isEmpty = true := by simpa using h
  simp only [State.bistGood, he, if_true] at ha
  exact State.resolveAll_conds _ _ ha hc

/-- After a hard failure a word is latched: the one found, where none was (Table 3.11). -/
theorem State.bistLatched_flag (v : Word) (s : State) : (s.bistLatched v).flag 0x20004 23 = true := by
  unfold State.bistLatched
  split
  · assumption
  · exact State.hwSet_flag_set _ _ (by decide) (by decide)

theorem State.bistLatched_bistFail {s : State} (h : s.flag 0x20004 23 = false) (v : Word) : (s.bistLatched v).store.bistFail = v := by
  rw [State.bistLatched, if_neg (by simp [h])]; rfl

@[simp] theorem State.bistLatched_bistActive (v : Word) (s : State) : (s.bistLatched v).store.bistActive = s.store.bistActive := by
  unfold State.bistLatched
  split
  · rfl
  · rw [State.hwSet_store]

@[simp] theorem State.bistHardened_flag (r : Nat) (s : State) (a i : Nat) : (s.bistHardened r).flag a i = s.flag a i := rfl
@[simp] theorem State.bistHardened_bistActive (r : Nat) (s : State) : (s.bistHardened r).store.bistActive = s.store.bistActive := rfl
@[simp] theorem State.bistHardened_bistFail (r : Nat) (s : State) : (s.bistHardened r).store.bistFail = s.store.bistFail := rfl

theorem State.bistHardened_mem (r : Nat) (s : State) : r ∈ (s.bistHardened r).store.bistHard := by
  show r ∈ if s.store.bistHard.contains r then s.store.bistHard else s.store.bistHard ++ [r]
  split
  · rename_i h; exact List.contains_iff_mem.mp h
  · exact List.mem_append_right _ (List.mem_singleton_self r)

/-- The raise of the memory fault leaves the latched word's register alone. -/
theorem State.raise0_bistFlag (s : State) : (s.raise0 0x084 0 0).flag 0x20004 23 = s.flag 0x20004 23 :=
  State.raise0_flag_other (code := 0x084) (inst := 0) (by decide) (fun b m h => absurd (h : (none : Option (Nat × Nat)) = some (b, m)) nofun) 0 23 s

/-- Settles O60: the end of the region by whether the re-run passes, and a good pass by what fails hard (R164, Table 3.11). -/
theorem bistMismatch : Obligations.BistMismatch := by
  rintro t s x r rfl ha rfl
  refine ⟨fun w g => ?_, fun w g => ?_, fun b => ?_⟩
  · exact ⟨_, by rw [exec, execBistRegionDone, occur_eq, State.bistDone_transient ha], by simp⟩
  · refine ⟨_, by rw [exec, execBistRegionDone, occur_eq, State.bistDone_fails ha], ?_, ?_, fun hv => ?_, ?_⟩
    · rw [State.raise0_store]; exact State.bistHardened_mem _ _
    · rw [State.raise0_bistFlag, State.bistHardened_flag]; exact State.bistLatched_flag _ _
    · rw [State.raise0_store, State.bistHardened_bistFail]
      exact State.bistLatched_bistFail ((State.bistRestored_flag _ _ _).trans hv) _
    · exact State.raise0_active rfl 0 0 _
  · refine ⟨(s.advance t).bistRestored.bistGood _, by rw [exec, execBistRegionDone, occur_eq, State.bistDone_passes ha], ?_, ?_⟩
    · rintro ⟨k, hk, hr⟩
      exact (State.bistGood_flt ((State.bistRestored_bistHard _).symm ▸ hk) hr).trans (State.bistRestored_flt _)
    · intro h a hm hc
      exact State.bistGood_resolves (by simpa using h) hm hc

end Sys2Proof.Machine
end

section
/-! The checks of content: leases and the ceiling map. -/

namespace Sys2Proof.Machine

/-! ### A check by a unit that no injection falls on -/

theorem State.injects_unarmed {s : State} (h : s.chk.armed = none) (u : Nat) : s.injects u = false := by
  simp [State.injects, h]

/-- Without an injection a check passes just where the two values agree (R597). -/
theorem State.unitCheck_fst {s : State} (h : s.chk.armed = none) (u data : Nat) (exp got : Word) :
    (s.unitCheck u data exp got).1 = decide (exp = got) := by
  simp only [State.unitCheck, State.injects_unarmed h, Bool.false_eq_true, if_false]
  split
  · rename_i he; exact (decide_eq_true he).symm
  · rename_i he; exact (decide_eq_false he).symm

@[simp] theorem State.unitCheck_store (s : State) (u data : Nat) (exp got : Word) : (s.unitCheck u data exp got).2.store = s.store := by
  simp only [State.unitCheck]
  (repeat' split) <;> simp

/-! ### The end of a lease check -/

@[simp] theorem State.auditLeases_store (s : State) : s.auditLeases.store = s.store := by
  unfold State.auditLeases; split <;> simp

/-- The reader's groups alone change when it is done. -/
@[simp] theorem State.readOver_surf (reader a n : Nat) (s : State) (k : Nat) : (s.readOver reader a n).surf k = s.surf k := rfl
@[simp] theorem State.readOver_mem (reader a n : Nat) (s : State) : (s.readOver reader a n).store.mem = s.store.mem := rfl
@[simp] theorem State.readOver_granted (reader a n : Nat) (s : State) : (s.readOver reader a n).store.granted = s.store.granted := rfl

@[simp] theorem State.endCheck_mem (n : Nat) (st : SurfState) (s : State) : (s.endCheck n st).store.mem = s.store.mem := rfl
@[simp] theorem State.endCheck_granted (n : Nat) (st : SurfState) (s : State) : (s.endCheck n st).store.granted = s.store.granted := rfl
theorem State.endCheck_surf {n : Nat} (hn : n < 128) (st : SurfState) (s : State) :
    (s.endCheck n st).surf n = { s.surf n with st := st, req := none } :=
  vget_vmod_same s.store.surfs n _ hn

/-- `s` after the check of surface n's content, whatever it found (R147, R599). -/
def State.leaseRead (n : Nat) (s : State) : State :=
  (s.unitCheck 19 (s.surf n).base (s.surf n).crc (crc32 (BitVec.ofNat 32 (s.surf n).base)
    (sparseBytes (s.memSeen 4) (128 * (s.surf n).base) (s.surf n).bytes))).2.readOver 4 (128 * (s.surf n).base) (s.surf n).bytes

@[simp] theorem State.leaseRead_mem (n : Nat) (s : State) : (s.leaseRead n).store.mem = s.store.mem := by
  simp [State.leaseRead]
@[simp] theorem State.leaseRead_granted (n : Nat) (s : State) : (s.leaseRead n).store.granted = s.store.granted := by
  simp [State.leaseRead]

/-- A granted lease: the surface is LEASED, the lease counted, the request answered, the leases audited (R147, R148, R151). -/
def State.leaseGranted (n : Nat) (id : ReqId) (s : State) : State :=
  let z := s.endCheck n .leased
  let z : State := { z with store := { z.store with granted := z.store.granted + 1 } }
  (z.answer id stOk (le 1 z.leases)).auditLeases

section
variable {s : State} {n : Fin 128} {q : List (Fin 128)} {id : ReqId}

/-- A check with no transfer in progress grants the lease or refuses it by the CRC that was declared (R146, R147). -/
theorem State.leaseCheckDone_eq (hq : s.store.checkQ = n :: q) (hc : s.hoist.cur = none) (ha : s.chk.armed = none)
    (hr : (s.surf n.val).req = some id) :
    s.leaseCheckDone =
      if (s.surf n.val).crc = crc32 (BitVec.ofNat 32 (s.surf n.val).base)
          (sparseBytes (s.memSeen 4) (128 * (s.surf n.val).base) (s.surf n.val).bytes) then
        (s.leaseRead n.val).leaseGranted n.val id
      else (((s.leaseRead n.val).endCheck n.val .complete).event 0x086).answer id stCrcMismatch [] := by
  simp only [State.leaseCheckDone, hq, hc, hr, State.unitCheck_fst ha, decide_eq_true_eq]
  rfl

end

/-- A granted lease is out, and the store's bytes are as they were. -/
theorem State.leaseGranted_lease {n : Nat} (hn : n < 128) (id : ReqId) (s : State) :
    ((s.leaseGranted n id).surf n).st = .leased ∧ ((s.leaseGranted n id).surf n).req = none ∧
      (s.leaseGranted n id).store.granted = s.store.granted + 1 ∧ (s.leaseGranted n id).store.mem = s.store.mem := by
  have hs : (s.leaseGranted n id).store = { (s.endCheck n .leased).store with granted := s.store.granted + 1 } := by
    simp only [State.leaseGranted, State.auditLeases_store, State.answer_store]
    rfl
  have hf : (s.leaseGranted n id).surf n = { s.surf n with st := .leased, req := none } := by
    rw [State.surf, hs]; exact State.endCheck_surf hn _ _
  rw [hf, hs]
  exact ⟨rfl, rfl, rfl, rfl⟩

/-! ### The ceiling map -/

/-- The check of the copy puts it in force or answers the mismatch (R240). -/
theorem State.ceilingLoadDone_good {s : State} {id : ReqId} (hr : s.mask.ceilRun = some id) (hc : s.ceilCrcNow = s.mask.ceilCrc) :
    s.ceilingLoadDone = (({ s with mask := { s.mask with ceilRun := none, ceilOk := true } } : State).event 0x108).answer id stOk [] := by
  simp only [State.ceilingLoadDone, hr, decide_eq_true hc, if_true]

theorem State.ceilingLoadDone_bad {s : State} {id : ReqId} (hr : s.mask.ceilRun = some id) (hc : s.ceilCrcNow ≠ s.mask.ceilCrc) :
    s.ceilingLoadDone =
      ({ s with mask := { s.mask with ceilRun := none, ceilOk := false } } : State).answer id stCrcMismatch [] := by
  simp only [State.ceilingLoadDone, hr, decide_eq_false hc, Bool.false_eq_true, if_false]

/-- In SERVICE a map that was loaded is checked, its load being over (R241). -/
theorem State.ceilingCheck_service {s : State} (hm : s.mode.cur = .service) (hl : s.mask.ceilLoaded = true) (hr : s.mask.ceilRun = none) :
    s.ceilingCheck = if s.ceilCrcNow = s.mask.ceilCrc then s.resolveAll 0x105
      else ({ s with mask := { s.mask with ceilOk := false } } : State).raise0 0x105 0 0 :=
  if_pos ⟨.inr hm, hl, by rw [hr]; rfl⟩

/-- Settles O59: each row by the lemma that says what it answers. -/
theorem storeCheckRows : Obligations.StoreCheckRows := by
  rintro t s x rfl
  refine ⟨?_, ?_, ?_, ?_, ?_, ?_, ?_⟩
  · rintro r m hr ha rfl rfl
    rw [exec, execBistRegionStart, occur_eq, State.bistStart_runs hr ha]
  · intro b ha
    refine ⟨_, by rw [exec, execBistRegionDone, occur_eq, State.bistDone_passes ha], ?_⟩
    rw [State.bistGood_store]
    exact ⟨rfl, rfl, rfl⟩
  · intro w g ha
    refine ⟨_, by rw [exec, execBistRegionDone, occur_eq, State.bistDone_fails ha], ?_⟩
    rw [State.raise0_store]
    exact ⟨by simp, State.bistHardened_mem _ _⟩
  · intro w g ha
    refine ⟨_, by rw [exec, execBistRegionDone, occur_eq, State.bistDone_transient ha], ?_⟩
    rw [State.event_store, State.bistGood_store]
    exact ⟨rfl, rfl⟩
  · rintro n q f id got hq hc ha rfl hr rfl
    refine ⟨fun he => ?_, fun he => ?_⟩
    · refine ⟨_, by rw [exec, execLeaseCheckDone, occur_eq, State.leaseCheckDone_eq hq hc ha hr, if_pos he], ?_⟩
      simpa using State.leaseGranted_lease n.isLt id ((s.advance t).leaseRead n.val)
    · refine ⟨_, by rw [exec, execLeaseCheckDone, occur_eq, State.leaseCheckDone_eq hq hc ha hr, if_neg he], ?_⟩
      simp [State.endCheck_surf n.isLt]
  · intro id hr
    refine ⟨fun hc => ?_, fun hc => ?_⟩
    · rw [exec, execCeilingLoadDone, occur_eq, State.ceilingLoadDone_good hr hc]
    · rw [exec, execCeilingLoadDone, occur_eq, State.ceilingLoadDone_bad hr hc]
  · intro hm hl hr
    refine ⟨fun hc => ?_, fun hc => ?_⟩
    · rw [exec, execCeilingCrcCheck, occur_eq, State.ceilingCheck_service hm hl hr, if_pos hc]
    · rw [exec, execCeilingCrcCheck, occur_eq, State.ceilingCheck_service hm hl hr, if_neg hc]

end Sys2Proof.Machine
end

section
/-! The composition: its deadline, its tiles and its hung workers. -/

namespace Sys2Proof.Machine

/-! ### The hand-out of tiles (R177) -/

/-- An invariant that each of a run of effects keeps, the run keeps. -/
theorem iter_keeps {α : Type} {P : α → Prop} {f : Nat → α → α} {n : Nat} {a : α} (ha : P a) (h : ∀ k, k < n → ∀ b, P b → P (f k b)) :
    P (iter f n a) := by
  induction n with
  | zero => exact ha
  | succ n ih => exact h n (Nat.lt_succ_self n) _ (ih fun k hk => h k (Nat.lt_succ_of_lt hk))

/-- Worker w takes a tile when it is idle and not excluded. -/
def Comp.handOut (excl : BitVec 32) (now w : Nat) (c : Comp) : Comp :=
  if (vget c.workers w).isNone && !excl.getLsbD w then
    match c.take with
    | some (t, c) => { c with workers := vset c.workers w (some (t, now)) }
    | none => c
  else c

theorem Comp.dispatch_eq (excl : BitVec 32) (now : Nat) (c : Comp) : c.dispatch excl now = iter (Comp.handOut excl now) 32 c := rfl

/-- A tile is taken from the ones that were handed back, the first of them first. -/
theorem Comp.take_some {c d : Comp} {t : Nat} (h : c.take = some (t, d)) :
    d.workers = c.workers ∧ (c.reissue = t :: d.reissue ∨ c.reissue = []) := by
  unfold Comp.take at h
  split at h
  · next r hr => cases h; exact ⟨rfl, .inl hr⟩
  · next hr =>
    split at h
    · cases h; exact ⟨rfl, .inr hr⟩
    · cases h

/-- What one hand-out can do: nothing, or an idle worker that is not excluded takes a tile. -/
theorem Comp.handOut_cases (excl : BitVec 32) (now w : Nat) (c : Comp) :
    c.handOut excl now w = c ∨
    ∃ t d, c.take = some (t, d) ∧ vget c.workers w = none ∧ excl.getLsbD w = false ∧
      c.handOut excl now w = { d with workers := vset c.workers w (some (t, now)) } := by
  unfold Comp.handOut
  split
  · next hw =>
    simp only [Bool.and_eq_true, Option.isNone_iff_eq_none, Bool.not_eq_true'] at hw
    split
    · next t d ht => exact .inr ⟨t, d, ht, hw.1, hw.2, by rw [(Comp.take_some ht).1]⟩
    · exact .inl rfl
  · exact .inl rfl

/-- Tile k, taken from worker w, is with another worker or waits to be handed out (R180). -/
def Comp.HandedOn (w k : Nat) (c : Comp) : Prop :=
  (∃ v t1, v < 32 ∧ v ≠ w ∧ vget c.workers v = some (k, t1)) ∨ k ∈ c.reissue

/-- An excluded worker that holds no tile gets none. -/
theorem Comp.dispatch_excluded {excl : BitVec 32} {c : Comp} {w : Nat} (hw : w < 32) (he : excl.getLsbD w = true)
    (hi : vget c.workers w = none) (now : Nat) : vget (c.dispatch excl now).workers w = none := by
  rw [Comp.dispatch_eq]
  refine iter_keeps (P := fun d : Comp => vget d.workers w = none) (f := Comp.handOut excl now) (n := 32) (a := c) hi fun v _ d hd => ?_
  obtain h | ⟨t, e, _, _, hx, h⟩ := d.handOut_cases excl now v
  · rw [h]; exact hd
  · have hne : w ≠ v := by rintro rfl; rw [he] at hx; cases hx
    rw [h]
    exact (vget_vset_other d.workers v w _ hne hw).trans hd

theorem Comp.handOut_handedOn {excl : BitVec 32} {c : Comp} {w v k : Nat} (he : excl.getLsbD w = true) (hv : v < 32) (now : Nat)
    (h : c.HandedOn w k) : (c.handOut excl now v).HandedOn w k := by
  obtain hc | ⟨t, d, ht, hi, hx, hc⟩ := c.handOut_cases excl now v
  · rw [hc]; exact h
  rw [hc]
  obtain ⟨u, t1, hu, huw, hk⟩ | hk := h
  · have huv : u ≠ v := by rintro rfl; rw [hi] at hk; cases hk
    exact .inl ⟨u, t1, hu, huw, (vget_vset_other c.workers v u _ huv hu).trans hk⟩
  · obtain hr | hr := (Comp.take_some ht).2
    · rw [hr, List.mem_cons] at hk
      obtain rfl | hk := hk
      · have hvw : v ≠ w := by rintro rfl; rw [he] at hx; cases hx
        exact .inl ⟨v, now, hv, hvw, vget_vset_same c.workers v _ hv⟩
      · exact .inr hk
    · rw [hr] at hk; cases hk

/-- A hand-out loses no tile that was taken from an excluded worker. -/
theorem Comp.dispatch_handedOn {excl : BitVec 32} {c : Comp} {w k : Nat} (he : excl.getLsbD w = true) (h : c.HandedOn w k) (now : Nat) :
    (c.dispatch excl now).HandedOn w k := by
  rw [Comp.dispatch_eq]
  exact iter_keeps h fun _ hv _ hd => Comp.handOut_handedOn he hv now hd

/-! ### The deadline and the tiles (R171, R178) -/

section
variable {s : State} {c : Comp}

theorem State.compDeadline_late (hc : s.bun.comp = some c) (hd : c.dead = false) (hn : s.bun.done = none) (ht : c.deadline ≤ s.clk.dtime) :
    s.compDeadline = ({ s with bun := { s.bun with comp := some { c with dead := true } } } : State).slackMissed := by
  simp only [State.compDeadline, hc]
  exact if_pos (by simp [hd, hn, ht])

@[simp] theorem State.writeTile_tiles (c : Comp) (zs : List Zone) (w t : Nat) (s : State) : (s.writeTile c zs w t).1.tiles = c.tiles + 1 := rfl

/-- Tile t is written: it is no hung worker's tile any more, and without such tiles the fault is over (R180). -/
def State.tileWritten (t : Nat) (s : State) : State :=
  let s : State := { s with bun := { s.bun with hungTiles := s.bun.hungTiles.filter (· != t) } }
  if s.bun.hungTiles.isEmpty then s.resolveAll 0x0C1 else s

theorem State.tileWritten_keeps (t : Nat) (s : State) :
    (s.tileWritten t).store = s.store ∧ (s.tileWritten t).clk = s.clk ∧ (s.tileWritten t).bun.excluded = s.bun.excluded := by
  simp only [State.tileWritten]
  split <;> simp

/-- A worker finishes in time, and the composition goes on (R177). -/
theorem State.tileDone_next {zs : List Zone} {w k t0 : Nat} {r : Comp × State} (hc : s.bun.comp = some c)
    (hw : vget c.workers w = some (k, t0)) (hz : c.zones = some zs) (hd : c.dead = false) (ht : s.clk.dtime ≤ c.deadline)
    (hr : r = s.writeTile { c with workers := vset c.workers w none } zs w k) (hn : r.1.tiles ≠ 256) :
    s.tileDone w = { r.2.tileWritten k with
      bun := { (r.2.tileWritten k).bun with comp := some (r.1.dispatch r.2.bun.excluded r.2.clk.dtime) } } := by
  obtain ⟨-, hclk, hex⟩ := r.2.tileWritten_keeps k
  rw [← hclk, ← hex]
  subst hr
  simp only [State.tileDone, hc, hw, hz, hd, Bool.false_eq_true, if_false, Nat.not_lt.mpr ht]
  exact if_neg hn

/-! ### Hung workers (R180) -/

/-- The composition after worker w was excluded with tile k. -/
def Comp.handBack (w k : Nat) (c : Comp) : Comp := { c with workers := vset c.workers w none, reissue := c.reissue ++ [k] }

/-- Worker w is excluded, and its tile k is handed on. -/
def State.workerOut (c : Comp) (w k : Nat) (s : State) : State :=
  let s := s.readOver (8 + w) 0 0x2000000
  let x : BitVec 32 := s.bun.excluded ||| BitVec.ofNat 32 (2 ^ w)
  { s with bun := { s.bun with
      excluded := x
      hungTiles := if s.bun.hungTiles.contains k then s.bun.hungTiles else s.bun.hungTiles ++ [k]
      comp := some ((c.handBack w k).dispatch x s.clk.dtime) } }

theorem State.workerHung_late {w k t0 : Nat} (hc : s.bun.comp = some c) (hw : vget c.workers w = some (k, t0))
    (ht : t0 + 1000000 < s.clk.dtime) : s.workerHung w = ((s.workerOut c w k).raise0 0x0C1 0 0).event 0x0C3 := by
  simp only [State.workerHung, hc, hw, Nat.not_le.mpr ht, if_false]
  rfl

theorem State.workerOut_excluded (c : Comp) {w : Nat} (hw : w < 32) (k : Nat) (s : State) :
    (s.workerOut c w k).bun.excluded.getLsbD w = true := by
  have hb : (BitVec.ofNat 32 (2 ^ w)).getLsbD w = true := by
    rw [BitVec.getLsbD_ofNat, Nat.testBit_two_pow_self, decide_eq_true hw, Bool.and_self]
  simp only [State.workerOut, BitVec.getLsbD_or, hb, Bool.or_true]

theorem State.workerOut_hungTiles (c : Comp) (w k : Nat) (s : State) : k ∈ (s.workerOut c w k).bun.hungTiles := by
  simp only [State.workerOut]
  split
  · next h => simpa using h
  · simp

theorem State.workerOut_comp (c : Comp) (w k : Nat) (s : State) :
    (s.workerOut c w k).bun.comp = some ((c.handBack w k).dispatch (s.workerOut c w k).bun.excluded s.clk.dtime) := rfl

end

/-- Settles O49: the deadline and the tile by what they answer, the hung worker's tile by the invariant of the hand-out. -/
theorem compositionRows : Obligations.CompositionRows := by
  rintro t s x c rfl hc
  refine ⟨fun hd hn ht => ?_, fun w k t0 zs r hw hz hd ht _ hr hn => ?_, fun w k t0 hw ht => ?_⟩
  · rw [exec, execCompositionDeadline, occur_eq, State.compDeadline_late hc hd hn ht]
  · refine ⟨_, by rw [exec, execTileDone, occur_eq, State.tileDone_next hc hw hz hd ht hr hn], ?_, rfl, ?_⟩
    · exact (r.2.tileWritten_keeps k).1
    · rw [hr]; rfl
  · refine ⟨_, by rw [exec, execWorkerHung, occur_eq, State.workerHung_late hc hw ht], ?_⟩
    have hx := State.workerOut_excluded c w.isLt k (s.advance t)
    simp only [State.event_bun, State.raise0_bun, State.event_store, State.raise0_store]
    refine ⟨hx, State.workerOut_hungTiles .., rfl, _, State.workerOut_comp .., ?_, ?_⟩
    · exact Comp.dispatch_excluded w.isLt hx (vget_vset_same c.workers w.val none w.isLt) _
    · exact Comp.dispatch_handedOn hx (.inr (by simp [Comp.handBack])) _

end Sys2Proof.Machine
end

section
/-! Scan-out: anchors, pass starts and retraining. -/

namespace Sys2Proof.Machine

/-! ### What raises and late tables leave alone -/

/-- The parts of the machine in which the claims about a pass start speak: scan-out without the freeze detector, the segments and the
underruns, the masks in force and the tokens. -/
structure PassView where
  scan : Scan
  passTbl : List Zone
  coarseTbl : List Zone
  tok : Tokens

def State.passView (s : State) : PassView :=
  { scan := { s.scan with segs := Scan.reset.segs, blank := false, underNow := false, underPrev := false }
    passTbl := s.mask.passTbl, coarseTbl := s.mask.coarseTbl, tok := s.tok }

@[simp] theorem State.raise0_passView (s : State) (code inst data : Nat) : (s.raise0 code inst data).passView = s.passView := by
  simp [State.passView]
@[simp] theorem State.event_passView (s : State) (code : Nat) : (s.event code).passView = s.passView := by
  simp [State.passView]
@[simp] theorem State.resolve_passView (s : State) (code inst : Nat) : (s.resolve code inst).passView = s.passView := by
  simp [State.passView]
@[simp] theorem State.resolveAll_passView (s : State) (code : Nat) : (s.resolveAll code).passView = s.passView := by
  simp [State.passView]
@[simp] theorem State.setLane_passView (s : State) (n : Nat) (f : Lane → Lane) : (s.setLane n f).passView = s.passView := rfl
@[simp] theorem State.setSeg_passView (n : Nat) (f : Seg → Seg) (s : State) : (s.setSeg n f).passView = s.passView := rfl
@[simp] theorem State.hwSet_passView (s : State) (a m : Nat) : (s.hwSet a m).passView = s.passView := rfl

@[simp] theorem State.scanEvt_passView (m en code : Nat) (s : State) : (s.scanEvt m en code).passView = s.passView := by
  simp only [State.scanEvt]; split <;> simp

@[simp] theorem State.judgeLate_scan (s : State) : s.judgeLate.scan = s.scan := by
  simp only [State.judgeLate]; split <;> simp
@[simp] theorem State.judgeLate_passView (s : State) : s.judgeLate.passView = s.passView := by
  simp only [State.judgeLate]; split <;> simp

/-- An unfinished pass table gives way to the previous one (R218, R228). -/
def State.missPass (s : State) : State :=
  match s.mask.rendPass with
  | some _ =>
    let s := ({ s with mask := { s.mask with rendPass := none } } : State).event 0x106
    if s.mask.lateNow || decide (s.mode.cur = .service) then s
    else ({ s with mask := { s.mask with late := s.mask.lateWas + 1, lateNow := true } } : State).judgeLate
  | none => s

/-- An unfinished coarse mask gives way to the previous one (R236). -/
def State.missCoarse (s : State) : State :=
  match s.mask.rendCoarse with
  | some _ =>
    let s : State := { s with mask := { s.mask with rendCoarse := none, glate := s.mask.glate + 1 } }
    if 2 ≤ s.mask.glate then s.raise0 0x104 0 0 else s
  | none => s

theorem State.missTables_eq (s : State) : s.missTables = s.missPass.missCoarse := rfl

theorem State.missPass_passView (s : State) : s.missPass.passView = s.passView := by
  simp only [State.missPass]
  split
  · split
    · exact State.event_passView _ _
    · exact (State.judgeLate_passView _).trans (State.event_passView _ _)
  · rfl

theorem State.missCoarse_passView (s : State) : s.missCoarse.passView = s.passView := by
  simp only [State.missCoarse]
  split
  · split
    · exact State.raise0_passView _ _ _ _
    · rfl
  · rfl

/-- A table that misses its bound leaves the tables in force (R218, R236). -/
@[simp] theorem State.missTables_passView (s : State) : s.missTables.passView = s.passView := by
  rw [State.missTables_eq, State.missCoarse_passView, State.missPass_passView]

@[simp] theorem State.lateTables_passView (s : State) : s.lateTables.passView = s.passView := by
  simp only [State.lateTables]; split <;> simp

/-! ### Pass starts (R255, R265, R317) -/

@[simp] theorem State.passUnder_passView (s : State) : s.passUnder.passView = s.passView := by
  simp only [State.passUnder]
  split
  · rfl
  · exact State.resolveAll_passView _ _

@[simp] theorem State.pushWindow_passView (s : State) : s.pushWindow.passView = s.passView := by
  refine iter_proj State.passView (fun n s => ?_) 16 s
  dsimp only
  split <;> simp

/-- A frame start moves FSEQ alone (R265). -/
theorem State.frameStart_passView (p : Nat) (w : Show) (lines : Bool) (s : State) :
    (s.frameStart p w lines).passView = { s.passView with scan := { s.passView.scan with fseq := s.scan.fseq + 1 } } := by
  simp only [State.frameStart, State.scanEvt_passView, State.pushWindow_passView]
  refine (iter_proj State.passView (fun n s => ?_) 16 _).trans rfl
  split <;> simp

theorem State.blanked_passView (s : State) : ({ s with scan := { s.scan with blank := true } } : State).passView = s.passView := rfl

@[simp] theorem State.freezePass_passView (p : Nat) (lines : Bool) (s : State) : (s.freezePass p lines).passView = s.passView := by
  refine iter_proj State.passView (fun n s => ?_) 16 s
  simp only [apply_ite State.passView, State.raise0_passView, State.setSeg_passView, State.blanked_passView, State.resolve_passView, ite_self]

@[simp] theorem State.passInject_passView (s : State) : s.passInject.passView = s.passView := by
  simp only [State.passInject]
  (repeat' split) <;> rfl

/-- A pass begins with its frame start, and takes what it is sent with. -/
theorem State.passBegin_passView (s : State) : ∃ b : State,
    b.passView = { s.passView with scan := { s.passView.scan with fseq := s.scan.fseq + 1 } } ∧
    s.passBegin.passView = (b.passTake s.scan.frontValid).passView := by
  let a := s.lateTables.passUnder
  have ha : a.passView = s.passView := by simp [a]
  refine ⟨a.frameStart (s.passAt s.scan.k) (if s.scan.frontValid && a.scan.hadLines then .next else a.quietShow) s.scan.frontValid, ?_, ?_⟩
  · have hf : a.scan.fseq = s.scan.fseq := congrArg (·.scan.fseq) ha
    rw [State.frameStart_passView, ha, hf]
  · simp only [State.passBegin, State.passInject_passView, State.freezePass_passView]; rfl

theorem State.passBegin_takes (s : State) :
    s.passBegin.scan.k = s.scan.k + 1 ∧ s.passBegin.scan.curOn = true ∧ s.passBegin.scan.curLines = s.scan.frontValid ∧
    s.passBegin.scan.curScale = s.tok.scale ∧ s.passBegin.scan.curHold = s.tok.hold ∧ s.passBegin.scan.curPass = s.mask.passTbl ∧
    s.passBegin.scan.curCoarse = s.mask.coarseTbl ∧ s.passBegin.scan.fseq = s.scan.fseq + 1 ∧ s.passBegin.scan.front = s.scan.front ∧
    s.passBegin.scan.framecnt = s.scan.framecnt ∧ (s.scan.frontValid = false → s.passBegin.scan.curLanes = 0) := by
  obtain ⟨b, hb, h⟩ := s.passBegin_passView
  refine ⟨(congrArg (·.scan.k) h).trans (congrArg (·.scan.k + 1) hb), congrArg (·.scan.curOn) h, congrArg (·.scan.curLines) h,
    (congrArg (·.scan.curScale) h).trans (congrArg (·.tok.scale) hb), (congrArg (·.scan.curHold) h).trans (congrArg (·.tok.hold) hb),
    (congrArg (·.scan.curPass) h).trans (congrArg (·.passTbl) hb), (congrArg (·.scan.curCoarse) h).trans (congrArg (·.coarseTbl) hb),
    (congrArg (·.scan.fseq) h).trans (congrArg (·.scan.fseq) hb), (congrArg (·.scan.front) h).trans (congrArg (·.scan.front) hb),
    (congrArg (·.scan.framecnt) h).trans (congrArg (·.scan.framecnt) hb), fun hv => ?_⟩
  rw [hv] at h
  exact congrArg (·.scan.curLanes) h

/-! ### The end of scan-out (R266) -/

@[simp] theorem State.setSeg_retrain (n : Nat) (f : Seg → Seg) (s : State) : (s.setSeg n f).scan.retrain = s.scan.retrain := rfl

@[simp] theorem State.echoSkip_retrain (n : Nat) (s : State) : (s.echoSkip n).scan.retrain = s.scan.retrain := by
  simp [State.echoSkip]

@[simp] theorem State.eolCheck_scan (n : Nat) (s : State) : (s.eolCheck n).scan = s.scan := by
  simp only [State.eolCheck]
  (repeat' split) <;> simp

@[simp] theorem State.passStress_scan (n ts psent : Nat) (s : State) : (s.passStress n ts psent).scan = s.scan := by
  simp [State.passStress, State.addStress]

@[simp] theorem State.endSent_retrain (n p ts : Nat) (sige : Word) (scw sam : Nat) (s : State) :
    (s.endSent n p ts sige scw sam).scan.retrain = s.scan.retrain := by
  simp only [State.endSent, State.passStress_scan, apply_ite State.scan, apply_ite Scan.retrain, State.raise0_scan, State.resolve_scan,
    State.echoSkip_retrain, State.setSeg_retrain, ite_self]

@[simp] theorem State.endLane_retrain (n : Nat) (s : State) : (s.endLane n).scan.retrain = s.scan.retrain := by
  simp only [State.endLane, apply_ite State.scan, apply_ite Scan.retrain, State.endSent_retrain, State.echoSkip_retrain,
    State.setSeg_retrain, ite_self]

@[simp] theorem State.keepBytes_scan (s : State) : s.keepBytes.scan = s.scan := by
  refine iter_proj State.scan (fun n s => ?_) 16 s
  split <;> simp

theorem State.endPass_retrain (s : State) : s.endPass.scan.retrain = s.scan.retrain := by
  have hl (s : State) : (iter (fun n s => if s.scan.curRead.getLsbD n && s.laneEn n then s.endLane n else s) 16 s).scan.retrain = s.scan.retrain :=
    iter_proj (·.scan.retrain) (fun n s => by simp only [apply_ite State.scan, apply_ite Scan.retrain, State.endLane_retrain, ite_self]) 16 s
  simp only [State.endPass, apply_ite State.scan, apply_ite Scan.retrain, hl, State.raise0_scan, State.resolve_scan, State.keepBytes_scan,
    ite_self]

@[simp] theorem State.frameStart_retrain (p : Nat) (w : Show) (lines : Bool) (s : State) :
    (s.frameStart p w lines).scan.retrain = s.scan.retrain :=
  congrArg (·.scan.retrain) (s.frameStart_passView p w lines)
@[simp] theorem State.passTake_retrain (lines : Bool) (s : State) : (s.passTake lines).scan.retrain = s.scan.retrain := rfl
@[simp] theorem State.freezePass_retrain (p : Nat) (lines : Bool) (s : State) : (s.freezePass p lines).scan.retrain = s.scan.retrain :=
  congrArg (·.scan.retrain) (s.freezePass_passView p lines)
@[simp] theorem State.lanesIdle_scan (s : State) : s.lanesIdle.scan = s.scan := by
  simp only [State.lanesIdle]

/-- Without a retraining change no lane trains at the pass start after a stop (R260, R266). -/
theorem State.stopNow_eq {s : State} (h : s.scan.retrain = none) :
    s.stopNow = (((((s.endPass.frameStart (s.passAt s.scan.k) s.endPass.quietShow false).passTake false).freezePass
      (s.passAt s.scan.k) false).lanesIdle).scanOff) := by
  simp only [State.stopNow, State.lanesIdle_scan, State.freezePass_retrain, State.passTake_retrain, State.frameStart_retrain,
    State.endPass_retrain, h, Option.isSome_none, Bool.false_eq_true, if_false]

/-! ### Anchors (R175) -/

@[simp] theorem State.countLate_scan (s : State) : s.countLate.scan = s.scan := by
  simp only [State.countLate]
  split <;> simp

@[simp] theorem State.onTime_scan (s : State) : s.onTime.scan = s.scan := by
  simp only [State.onTime]
  split <;> simp

@[simp] theorem State.dropZones_scan (ids : List Nat) (s : State) : (s.dropZones ids).scan = s.scan := by
  induction ids generalizing s with
  | nil => rfl
  | cons i ids ih => exact (ih _).trans (State.raise0_scan _ _ _ _)

@[simp] theorem State.anchorLatch_scan (ts tc : Nat) (s : State) : (s.anchorLatch ts tc).scan = s.scan := by
  simp only [State.anchorLatch, State.dropZones_scan]
  split <;> simp

@[simp] theorem State.latchExcl_scan (out : Bool) (n : Nat) (s : State) : (s.latchExcl out n).scan = s.scan := by
  simp only [State.latchExcl]
  split <;> simp

/-- A composition's start is counted (R263). -/
theorem State.startComp_scan (flip : Nat) (first : Bool) (s : State) :
    (s.startComp flip first).scan = { s.scan with started := s.scan.started + 1 } := by
  have hr := iter_proj State.scan (f := State.latchRepeats first) fun _ _ => rfl
  have hx (out : Bool) := iter_proj State.scan (State.latchExcl_scan out)
  simp only [State.startComp, hx, hr]

@[simp] theorem State.blockStart_scan (s : State) : s.blockStart.scan = s.scan := by
  unfold State.blockStart
  split <;> rfl

theorem State.scanStart_anchored (s : State) : s.scanStart.scan.run = true ∧ s.scanStart.scan.anchor = s.clk.dtime ∧
    s.scanStart.scan.k = 0 ∧ s.scanStart.scan.flipK = 2 ∧ s.scanStart.scan.retrain = none := by
  simp only [State.scanStart, State.anchorComp, State.startComp_scan, State.anchorLatch_scan, State.blockStart_scan, State.anchorAt,
    and_self]

/-- VCODE has been at its aim for 50 µs (R553): BEAM entry with its switch test passed, or a service task, anchors. -/
theorem State.scanAnchor_held {s : State} {t0 : Nat} (ha : s.scan.settleAt = some t0) (hv : s.fab.vcode = s.vaim)
    (ht : t0 + 50000 ≤ s.clk.dtime)
    (hm : (∃ tr, s.mode.trans = some tr ∧ tr.target = .beam ∧ s.mode.tested = true) ∨ s.mode.trans = none ∧ s.mode.cur = .service) :
    s.scanAnchor = s.scanStart := by
  have hh : decide (s.fab.vcode = s.vaim ∧ t0 + 50000 ≤ s.clk.dtime) = true := decide_eq_true ⟨hv, ht⟩
  obtain ⟨tr, htr, hb, hx⟩ | ⟨htr, hs⟩ := hm
  · simp only [State.scanAnchor, htr, ha, hb, hx, hh, decide_true, Bool.and_self, if_true]
  · simp only [State.scanAnchor, htr, ha, hs, hh, decide_true, Bool.and_self, if_true]

/-- A service task asks for VMAX first (R553). -/
theorem State.scanAnchor_service {s : State} (htr : s.mode.trans = none) (ha : s.scan.settleAt = none) (hs : s.mode.cur = .service)
    (hr : s.scan.run = false) : s.scanAnchor = s.rampUp := by
  simp only [State.scanAnchor, htr, ha, hs, hr, decide_true, Bool.not_false, Bool.and_self, if_true]

/-! ### PASS_START -/

section
variable {s : State} (hr : s.scan.run = true) (hp : s.passAt s.scan.k ≤ s.clk.dtime)
include hr hp

theorem State.passStart_due : ¬ (!s.scan.run || decide (s.clk.dtime < s.passAt s.scan.k)) = true := by
  simp [hr, hp]

theorem State.passStart_next (ht : s.scan.retrain = none) (hs : s.scan.stopping = false) (hk : s.scan.k ≠ s.scan.flipK) :
    s.passStart = s.endPass.passBegin := by
  rw [State.passStart, if_neg (State.passStart_due hr hp)]
  simp only [ht, hs, Bool.false_eq_true, if_false, hk]

theorem State.passStart_stop (ht : s.scan.retrain = none) (hs : s.scan.stopping = true) : s.passStart = s.stopNow := by
  rw [State.passStart, if_neg (State.passStart_due hr hp)]
  simp only [ht, hs, if_true]

theorem State.passStart_opens {r : Retrain} (ht : s.scan.retrain = some r) (ho : r.opened = false) (hs : s.scan.stopping = false)
    (hf : r.flipAt < s.passAt s.scan.k) : s.passStart = s.endPass.openRetrain r := by
  rw [State.passStart, if_neg (State.passStart_due hr hp)]
  simp only [ht, ho, hs, Bool.false_eq_true, if_false, hf, if_true]

end

/-! ### The end of a retraining change (R295) -/

/-- 200 µs after training completed, scan-out is anchored (Table 6.5 step 5). -/
theorem State.retrainAnchor_done {s : State} {r : Retrain} {d : Nat} (ht : s.scan.retrain = some r) (hd : r.doneAt = some d)
    (hr : s.scan.run = true) (hf : r.failed = false) (hp : d + 200000 ≤ s.clk.dtime) {z : State}
    (hz : z = s.endPass.anchorAt (d + 200000)) :
    s.retrainAnchor = ((({ z with scan := { z.scan with freezeMute := true } } : State).resolveAll 0x14A).event 0x14B).anchorComp := by
  simp only [State.retrainAnchor, ht, hd]
  subst hz
  exact if_pos (by simp [hr, hf, hp])

theorem State.retrainTimeout_due {s : State} {r : Retrain} (ht : s.scan.retrain = some r) (hd : r.doneAt = none) (hf : r.failed = false)
    (hp : r.flipAt + r.ts + 30000000 ≤ s.clk.dtime) : s.retrainTimeout =
      ({ s with scan := { s.scan with retrain := some { r with failed := true } } } : State).raise0 0x14A 0 0 := by
  simp only [State.retrainTimeout, ht]
  exact (if_pos (by simp [hd, hp])).trans (if_neg (by simp [hf]))

/-- Settles O50: each row by the lemma that says what it answers, what a pass start keeps by the pass's view. -/
theorem scanRows : Obligations.ScanRows := by
  refine ⟨?_, fun s => ⟨s.scanStart_anchored, s.passBegin_takes⟩⟩
  rintro t s x rfl
  refine ⟨fun t0 ha hv ht hm => ?_, fun htr ha hs hr => ?_, fun hr hp ht hs hk => ?_, ?_, fun r hr hp ht ho hs hf => ?_,
    fun r d z ht hd hr hf hp hz => ?_, fun r ht hd hf hp => ?_⟩
  · rw [exec, execScanAnchor, occur_eq, State.scanAnchor_held ha hv ht hm]
  · rw [exec, execScanAnchor, occur_eq, State.scanAnchor_service htr ha hs hr]
  · rw [exec, execPassStart, occur_eq, State.passStart_next hr hp ht hs hk]
  · rintro p y hr rfl hp ht hs rfl
    rw [exec, execPassStart, occur_eq, State.passStart_stop hr hp ht hs, State.stopNow_eq ht]
  · rw [exec, execPassStart, occur_eq, State.passStart_opens hr hp ht ho hs hf]
  · rw [exec, execRetrainAnchor, occur_eq, State.retrainAnchor_done ht hd hr hf hp hz]
  · rw [exec, execRetrainTimeout, occur_eq, State.retrainTimeout_due ht hd hf hp]

end Sys2Proof.Machine
end

section
/-! Object lists and the ceiling map: OBJLIST and CEILING_LOAD. -/

namespace Sys2Proof.Machine

section
variable {t : Nat} {p : Port} {tag flags : Byte} {s : State}

theorem exec_objlist_takes {q : Half} {frag last : Byte} {d : List Byte} (h : (s.advance t).Takes p tag flags (.objlist q frag last d)) :
    exec (.objlist t p tag flags q frag last d) s =
      .next (((s.advance t).started p tag 0x34).run ⟨p, tag⟩ (.objlist q frag last d)).finish := occur_takes h

theorem exec_ceilingLoad_takes {n : Byte} {crc : Word} (h : (s.advance t).Takes p tag flags (.ceilingLoad n crc)) :
    exec (.ceilingLoad t p tag flags n crc) s = .next (((s.advance t).started p tag 0x35).ceilingLoad ⟨p, tag⟩ n.toNat crc).finish :=
  occur_takes h

end

/-- A full first fragment that is not the last starts a new assembly, whatever its buffer held (R210, R211). -/
theorem State.listFragment_first {d : List Byte} (hd : d.length = 1020) (src : Fin 3) (q : Half) (s : State) :
    s.listFragment src q 0 0 d =
      (true, { s with mask := { s.mask with asm := s.mask.asm.set src (some { seq := q, next := 1, data := d }) } }) := by
  simp [State.listFragment, hd]

/-- The 512 rows of a surface as a reader sees them, 2,048 bytes each. -/
def State.ceilingRows (s : State) (u : Surface) : List Byte :=
  (List.range 512).flatMap (fun r => sparseBytes (s.memSeen 4) (128 * u.base + r * u.stride) 2048)

/-- CEILING_LOAD copies a leased 2,048 × 512 GREY8 surface (R239, R240). -/
theorem State.ceilingLoad_copies {id : ReqId} {n : Nat} {crc : Word} {s z : State} (hn : n < 128) (hl : (s.surf n).st = .leased)
    (hf : (s.surf n).format = 1) (hw : (s.surf n).width = 2048) (hh : (s.surf n).height = 512)
    (hz : z = (s.readOver 4 (128 * (s.surf n).base) (s.surf n).bytes).storePut ceilBase (s.ceilingRows (s.surf n))) :
    s.ceilingLoad id n crc =
      { z with mask := { z.mask with ceilOk := false, ceilLoaded := true, ceilCrc := crc, ceilRun := some id } } := by
  have hno : ¬ (128 ≤ n ∨ (s.surf n).st ≠ .leased ∨ (s.surf n).format ≠ 1 ∨ (s.surf n).width ≠ 2048 ∨ (s.surf n).height ≠ 512) := by
    simp [hl, hf, hw, hh, hn]
  subst hz
  exact if_neg hno

/-- Settles O16: the first fragment by what the reassembly does with it, the copy by CEILING_LOAD's one admitted case. -/
theorem listCommands : Obligations.ListCommands := by
  rintro t p tag flags s x rfl
  refine ⟨?_, ?_⟩
  · rintro q d hd hT y i rfl rfl
    rw [exec_objlist_takes hT, State.run]
    simp only [BitVec.ofNat_eq_ofNat, BitVec.toNat_zero, State.listFragment_first hd, if_true]
  · rintro n crc hT y z u rfl hn rfl hl hf hw hh hz
    rw [exec_ceilingLoad_takes hT, State.ceilingLoad_copies hn hl hf hw hh hz]

end Sys2Proof.Machine
end

section
/-! The mask tables: the pass latch, completion, the deadline and the comparison at 120 Hz. -/

namespace Sys2Proof.Machine

section
variable {s : State}

/-- A pass latch that is no flip instant's renders the pass table and the coarse mask alone (R216). -/
theorem State.passLatch_pass {y : State} {r : List Zone × List Nat} (hr : s.scan.run = true) (hs : s.scan.stopping = false)
    (hk : s.scan.k ≠ s.scan.flipK) (hy : y = s.lateTables.countLate) (hz : r = y.render y.renderList y.mask.late y.passWindow) :
    s.passLatch = ({ y with mask := { y.mask with
      passList := y.renderList, passLate := y.mask.late, passWin := y.passWindow, tableDue := y.latchTiming.1 - 40000,
      rendPass := some r.1, rendCoarse := some r.1, passFresh := false, coarseFresh := false } } : State).dropZones r.2 := by
  have hscan : y.scan.k ≠ y.scan.flipK := by
    have hv : s.lateTables.scan.k = s.scan.k := congrArg (·.scan.k) s.lateTables_passView
    have hf : s.lateTables.scan.flipK = s.scan.flipK := congrArg (·.scan.flipK) s.lateTables_passView
    rwa [hy, State.countLate_scan, hv, hf]
  subst hz hy
  simp only [State.passLatch, hr, hs, Bool.not_true, Bool.or_self, Bool.false_eq_true, if_false, hscan, decide_false, Bool.false_and]

/-- By its bound no table has missed it (R218, R236). -/
theorem State.lateTables_intime (h : s.clk.dtime ≤ s.mask.tableDue) : s.lateTables = s := if_neg (Nat.not_lt.mpr h)

theorem State.compareFresh_pass (h : s.mask.passFresh = false) : s.compareFresh = s := by simp [State.compareFresh, h]
theorem State.compareFresh_coarse (h : s.mask.coarseFresh = false) : s.compareFresh = s := by simp [State.compareFresh, h]

/-- A pass table that completes in time is in force (R218); a latch that is not late resolves MASK_LATE (R230). -/
theorem State.passTableDone_intime {z : List Zone} (hz : s.mask.rendPass = some z) (hd : s.clk.dtime ≤ s.mask.tableDue)
    (hc : s.mask.coarseFresh = false) :
    s.passTableDone = ({ s with mask := { s.mask with passTbl := z, rendPass := none, passFresh := true } } : State).onTime := by
  rw [State.passTableDone, State.lateTables_intime hd]
  simp only [hz]
  refine State.compareFresh_coarse ?_
  rw [State.onTime]
  split
  · exact hc
  · rw [State.resolveAll_mask]; exact hc

theorem State.onTime_late (h : s.mask.lateNow = true) : s.onTime = s := if_pos h
theorem State.onTime_resolves (h : s.mask.lateNow = false) : s.onTime = s.resolveAll 0x102 := if_neg (by simp [h])

/-- A coarse mask that completes in time is in force, and ends the run of missed ones (R236). -/
theorem State.coarseDone_intime {z : List Zone} (hz : s.mask.rendCoarse = some z) (hd : s.clk.dtime ≤ s.mask.tableDue)
    (hp : s.mask.passFresh = false) :
    s.coarseDone = ({ s with mask := { s.mask with coarseTbl := z, rendCoarse := none, coarseFresh := true, glate := 0 } } : State).resolveAll
      0x104 := by
  rw [State.coarseDone, State.lateTables_intime hd]
  simp only [hz]
  refine State.compareFresh_pass ?_
  rw [State.resolveAll_mask]; exact hp

/-- A composition table that no composition waits for is kept for the next (R681). -/
theorem State.compTableDone_idle {z : List Zone} (hz : s.mask.rendComp = some z) (hc : s.bun.comp = none) :
    s.compTableDone = { s with mask := { s.mask with compTbl := z, rendComp := none } } := by
  simp only [State.compTableDone, hz, hc]

theorem State.tableDeadline_due (h : s.mask.tableDue ≤ s.clk.dtime) : s.tableDeadline = s.missPass.missCoarse := if_pos h

theorem State.missPass_none (h : s.mask.rendPass = none) : s.missPass = s := by simp only [State.missPass, h]
theorem State.missCoarse_none (h : s.mask.rendCoarse = none) : s.missCoarse = s := by simp only [State.missCoarse, h]

/-- At a latch that is late already a missed pass table adds its event alone (R218, R228). -/
theorem State.missPass_late {z : List Zone} (hz : s.mask.rendPass = some z) (hl : s.mask.lateNow = true) :
    s.missPass = ({ s with mask := { s.mask with rendPass := none } } : State).event 0x106 := by
  simp only [State.missPass, hz, State.event_mask, hl, Bool.true_or, if_true]

/-- `s` with its unfinished coarse mask given up and counted (R236). -/
def State.coarseMissed (s : State) : State := { s with mask := { s.mask with rendCoarse := none, glate := s.mask.glate + 1 } }

/-- The second coarse mask missed in a row raises GDN_MASK_LATE (R236). -/
theorem State.missCoarse_some {z : List Zone} (hz : s.mask.rendCoarse = some z) :
    s.missCoarse = if 1 ≤ s.mask.glate then s.coarseMissed.raise0 0x104 0 0 else s.coarseMissed := by
  simp only [State.missCoarse, hz]
  by_cases hg : 1 ≤ s.mask.glate
  · rw [if_pos hg]; exact if_pos (Nat.succ_le_succ hg)
  · rw [if_neg hg]; exact if_neg (mt Nat.le_of_succ_le_succ hg)

/-- A comparison leaves its count of disagreeing cells, whether it raises or resolves (R234, R235). -/
theorem State.compareMasks_mask (fine coarse : List Zone) (s : State) :
    (s.compareMasks fine coarse).mask = { s.mask with disc := disagreeing fine coarse (s.fld 0x40002 1 0) } := by
  simp only [State.compareMasks]
  split
  · rw [State.resolveAll_mask]
  · rw [State.raise0_mask]

/-- At 120 Hz the masks of the pass in progress are compared again (R237). -/
theorem State.midPass_compares {z : List Zone} (hr : s.scan.run = true) (h120 : s.scan.refresh = 120) (hk : 0 < s.scan.k)
    (ho : ∀ r : Retrain, s.scan.retrain = some r → r.opened = false)
    (hz : z = (s.render s.mask.passList s.mask.passLate s.mask.passWin).1) : s.midPass = s.compareMasks z z := by
  have hall : s.scan.retrain.all (fun r => !r.opened) = true := by
    cases hR : s.scan.retrain with
    | none => rfl
    | some r => simp [ho r hR]
  subst hz
  simp only [State.midPass, hr, h120, hk, hall, decide_true, Bool.and_self, if_true]

end

/-- Settles O51: each row by the lemma that says what it answers. -/
theorem maskRows : Obligations.MaskRows := by
  rintro t s x rfl
  refine ⟨fun y r hr hs hk hy hz => ?_, fun z hz hd hc hl => ?_, fun z hz hd hc hl => ?_, fun z hz hc => ?_, fun z hz hd hp => ?_,
    ?_, fun z hz hd hc hl => ?_, fun hr h120 hk ho => ?_⟩
  · rw [exec, execPassLatch, occur_eq, State.passLatch_pass hr hs hk hy hz]
  · rw [exec, execTableRenderDone, occur_eq, State.tableDone, State.passTableDone_intime hz hd hc, State.onTime_late]
    exact hl
  · rw [exec, execTableRenderDone, occur_eq, State.tableDone, State.passTableDone_intime hz hd hc, State.onTime_resolves]
    exact hl
  · rw [exec, execTableRenderDone, occur_eq, State.tableDone, State.compTableDone_idle hz hc]
  · rw [exec, execTableRenderDone, occur_eq, State.tableDone, State.coarseDone_intime hz hd hp]
  · rintro z hp hz hd y rfl
    rw [exec, execMaskTableDeadline, occur_eq, State.tableDeadline_due hd, State.missPass_none hp, State.missCoarse_some hz]
    refine ⟨fun hg => ?_, fun hg => ?_⟩
    · rw [if_neg (by omega), State.coarseMissed]
    · rw [if_pos hg, State.coarseMissed]
  · rw [exec, execMaskTableDeadline, occur_eq, State.tableDeadline_due hd, State.missPass_late hz hl, State.missCoarse_none]
    rw [State.event_mask]; exact hc
  · refine ⟨_, _, ?_, State.compareMasks_mask _ _ _, rfl⟩
    rw [exec, execMidPassCompare, occur_eq, State.midPass_compares hr h120 hk ho rfl]

end Sys2Proof.Machine
end

section
/-! The token latch: the allocation keeps the sum of the bases, and the latch takes what the allocation gives. -/

namespace Sys2Proof.Machine

/-! ### The allocation (R246) -/

/-- What is spread is granted or left. -/
theorem spread_sum (l : List (Nat × Nat)) (left : Nat) : (spread left l).1.sum + (spread left l).2 = (l.map (·.1)).sum + left := by
  induction l generalizing left with
  | nil => simp [spread]
  | cons p l ih =>
    obtain ⟨g, need⟩ := p
    rw [spread]
    split
    · have hr := ih (left - 1)
      simp only [List.sum_cons, List.map_cons]
      omega
    · have hr := ih left
      simp only [List.sum_cons, List.map_cons]
      omega

theorem spread_length (l : List (Nat × Nat)) (left : Nat) : (spread left l).1.length = l.length := by
  induction l generalizing left with
  | nil => rfl
  | cons p l ih => rw [spread]; split <;> simp [ih]

/-- Shares of a pool in proportion, each rounded down, are no more than the pool. -/
theorem sum_shares_le (pool : Nat) (need : List Nat) : (need.map (fun n => pool * n / need.sum)).sum ≤ pool := by
  have hle (b : Nat) (l : List Nat) : (l.map (fun n => pool * n / b)).sum ≤ pool * l.sum / b := by
    induction l with
    | nil => simp
    | cons n l ih =>
      calc pool * n / b + (l.map (fun n => pool * n / b)).sum
        _ ≤ pool * n / b + pool * l.sum / b := Nat.add_le_add_left ih _
        _ ≤ (pool * n + pool * l.sum) / b := Nat.div_add_div_le_add_div
        _ = pool * (n :: l).sum / b := by rw [List.sum_cons, Nat.mul_add]
  exact Nat.le_trans (hle _ need) (Nat.div_le_of_le_mul (Nat.le_of_eq (Nat.mul_comm _ _)))

/-- What the bases hold beyond the demands, with the demands, is what they lack, with the bases. -/
theorem sum_surplus_add_demand (l : List (Nat × Nat)) : (l.map (fun p => p.1 - p.2)).sum + (l.map (·.2)).sum =
    (l.map (fun p => p.2 - p.1)).sum + (l.map (·.1)).sum := by
  induction l with
  | nil => rfl
  | cons p l ih => simp only [List.map_cons, List.sum_cons]; omega

/-- What the segments hold at first, with the pool, is the bases. -/
theorem sum_held_add_surplus (l : List (Nat × Nat)) : (l.map (fun p => min p.1 p.2)).sum + (l.map (fun p => p.1 - p.2)).sum =
    (l.map (·.1)).sum := by
  induction l with
  | nil => rfl
  | cons p l ih => simp only [List.map_cons, List.sum_cons]; omega

/-- What each segment in need is granted of a pool that does not cover the needs, and what is left of it. -/
def grants (pool : Nat) (need : List Nat) : List Nat × Nat :=
  let g := need.map (fun n => pool * n / need.sum)
  spread (pool - g.sum) (g.zip need)

theorem grants_length (pool : Nat) (need : List Nat) : (grants pool need).1.length = need.length := by
  simp [grants, spread_length]

theorem grants_sum (pool : Nat) (need : List Nat) : (grants pool need).1.sum + (grants pool need).2 = pool := by
  have hle := sum_shares_le pool need
  rw [grants, spread_sum, List.map_fst_zip (by simp)]
  omega

/-- The allocation's two cases: the pool covers the needs, or the segments are granted what it holds. -/
theorem allocate_eq (base dem : List Nat) : allocate base dem =
    let bd := base.zip dem
    let pool := (bd.map (fun p => p.1 - p.2)).sum
    let need := bd.map (fun p => p.2 - p.1)
    if need.sum ≤ pool then (dem, pool - need.sum)
    else ((bd.map (fun p => min p.1 p.2)).zipWith (· + ·) (grants pool need).1, (grants pool need).2) := rfl

theorem sum_zipWith_add {a b : List Nat} (h : a.length = b.length) : (a.zipWith (· + ·) b).sum = a.sum + b.sum := by
  induction a generalizing b with
  | nil => rw [List.length_eq_zero_iff.mp h.symm]; rfl
  | cons x a ih =>
    cases b with
    | nil => exact absurd h (Nat.succ_ne_zero _)
    | cons y b =>
      have hs := ih (Nat.succ.inj h)
      simp only [List.zipWith_cons_cons, List.sum_cons]
      omega

section
variable {base dem : List Nat} (h : base.length = dem.length)
include h

theorem allocate_length : (allocate base dem).1.length = base.length := by
  simp only [allocate_eq]
  split
  · exact h.symm
  · simp [grants_length, h]

/-- An allocation gives each token of the bases to a segment or leaves it in the pool (R248). -/
theorem allocate_sum : (allocate base dem).2 + (allocate base dem).1.sum = base.sum := by
  have hs := sum_surplus_add_demand (base.zip dem)
  have hp := sum_held_add_surplus (base.zip dem)
  rw [List.map_fst_zip (Nat.le_of_eq h)] at hs hp
  rw [List.map_snd_zip (Nat.le_of_eq h.symm)] at hs
  simp only [allocate_eq]
  split
  · dsimp only
    omega
  · have hg := grants_sum ((base.zip dem).map (fun p => p.1 - p.2)).sum ((base.zip dem).map (fun p => p.2 - p.1))
    rw [sum_zipWith_add (by simp [grants_length])]
    omega

end

/-! ### The latch (R219, R247) -/

theorem vget_fin {α : Type} {n : Nat} (v : Vector α (n + 1)) (i : Fin (n + 1)) : vget v i.val = v[i] := by
  unfold vget Array.getD
  exact dif_pos (Nat.lt_of_lt_of_eq i.isLt v.size_toArray.symm)

theorem scaleOf_held {effbud hold dem pd : Nat} (h : dem ≤ hold) : scaleOf effbud hold dem pd = 65536 := if_pos (.inl h)

/-- The demands of the coming frame in pW (R245). -/
def State.demandsPw (s : State) : Vector Nat 16 := Vector.ofFn (fun i => s.demandOf s.comingFrame i.val)

/-- Its demands in tokens under the effective budget (R246). -/
def State.demandsTok (s : State) : Vector Nat 16 := s.demandsPw.map (demandTok s.effBudget)

/-- The bases of the segments. -/
def State.tokenBases (s : State) : List Nat := (List.range 16).map (fun i => s.fld (0xF0010 + i) 10 0)

/-- The allocation that a latch makes: the holdings and the pool. -/
def State.allocation (s : State) : List Nat × Nat := allocate s.tokenBases s.demandsTok.toList

/-- The holdings of the segments. -/
def State.holdings (s : State) : Vector Nat 16 := Vector.ofFn (fun i => s.allocation.1.getD i.val 0)

/-- Their scales (R247). -/
def State.scales (s : State) : Vector Nat 16 :=
  Vector.ofFn (fun i => scaleOf s.effBudget s.holdings[i] s.demandsTok[i] s.demandsPw[i])

theorem State.tokenBases_length (s : State) : s.tokenBases.length = s.demandsTok.toList.length := by
  simp [State.tokenBases]

theorem State.holdings_toList (s : State) : s.holdings.toList = s.allocation.1 := by
  have hl : s.allocation.1.length = 16 := (allocate_length s.tokenBases_length).trans (by simp [State.tokenBases])
  refine List.ext_getElem (by simp [hl]) fun i _ hi => ?_
  simp [State.holdings, hi]

/-- The pool and the holdings total what the bases do. -/
theorem State.pool_add_holdings (s : State) : s.allocation.2 + s.holdings.toList.sum = s.tokenBases.sum := by
  rw [State.holdings_toList]
  exact allocate_sum s.tokenBases_length

theorem State.vget_demandsTok (s : State) (n : Fin 16) :
    vget s.demandsTok n.val = demandTok s.effBudget (s.demandOf s.comingFrame n.val) := by
  simp [vget_fin, State.demandsTok, State.demandsPw]

/-- A segment that holds what it demands is not scaled (R247). -/
theorem State.vget_scales_held {s : State} {n : Fin 16} (h : vget s.demandsTok n.val ≤ vget s.holdings n.val) :
    vget s.scales n.val = 65536 := by
  rw [vget_fin, vget_fin] at h
  rw [vget_fin, State.scales, Fin.getElem_fin, Vector.getElem_ofFn]
  exact scaleOf_held h

/-- The tokens, scan-out, the store and the masks; of the tokens neither the limit that is audited (R248) nor the
segments whose cut has been reported (R249). -/
def State.tokenView (s : State) : Tokens × Scan × Store × Mask := ({ s.tok with limit := 0, scaled := 0 }, s.scan, s.store, s.mask)

/-- A latch sets the tokens by its allocation; the events of the segments that it cuts change none of what it set (R249). -/
theorem State.tokenLatch_view {s : State} (hr : s.scan.run = true) (hs : s.scan.stopping = false) :
    s.tokenLatch.tokenView = ({ s.tok with
      effbud := s.effBudget, limit := 0, pool := s.allocation.2, demand := s.demandsTok, hold := s.holdings, scale := s.scales, scaled := 0 },
      s.scan, s.store, s.mask) := by
  simp only [State.tokenLatch, hr, hs, Bool.not_true, Bool.or_self, Bool.false_eq_true, if_false]
  refine (iter_proj State.tokenView (fun n s => ?_) 16 _).trans rfl
  split
  · simp only [State.tokenView, State.raise0_tok, State.raise0_scan, State.raise0_store, State.raise0_mask]
  · rfl

/-- Settles O52: the sum by the allocation's, the rest by what the latch sets. -/
theorem tokenLatch : Obligations.TokenLatch := by
  rintro t s x rfl hr hs
  have hv := State.tokenLatch_view hr hs
  have hdem := congrArg (·.1.demand) hv
  have hhold := congrArg (·.1.hold) hv
  have hscale := congrArg (·.1.scale) hv
  have hpool := congrArg (·.1.pool) hv
  dsimp only [State.tokenView] at hdem hhold hscale hpool
  refine ⟨(s.advance t).tokenLatch, rfl, congrArg (·.1.effbud) hv, fun n => ?_, fun n hle => ?_, fun hb => ?_, congrArg (·.2.1) hv,
    congrArg (·.2.2.1) hv, congrArg (·.2.2.2) hv⟩
  · rw [hdem, State.vget_demandsTok]
  · rw [hdem, hhold] at hle
    rw [hscale, State.vget_scales_held hle]
  · rw [hpool, hhold, State.pool_add_holdings]
    exact hb

end Sys2Proof.Machine
end

section
/-! The backchannel: what a good message brings its lane, MARKACK, substitutions, NVDATA and the echo. -/

namespace Sys2Proof.Machine

/-! ### A good message (R321, R596) -/

/-- What the claims about a good message follow of a lane: the lock of its backchannel and its substitutions. -/
def Lane.backView (l : Lane) : Bool × Nat × Half := (l.bclock, l.badRun, l.subcnt)

theorem State.setLane_lane (n : Fin 16) (f : Lane → Lane) (s : State) : vget (s.setLane n.val f).fly n.val = f (vget s.fly n.val) :=
  vget_vmod_same s.fly n.val f n.isLt

/-- Each lane has its check unit (Table 14.5). -/
theorem laneUnit_lt (n : Fin 16) : n.val < 21 := Nat.lt_trans n.isLt (by decide)

/-- A check by unit u that found no mismatch is one more check. -/
theorem Checks.good_unit {u : Nat} (hu : u < 21) (c : Checks) :
    vget (c.good u).units u = { vget c.units u with cnt := (vget c.units u).cnt + 1 } :=
  vget_vmod_same c.units u _ hu

theorem State.laneTrain_backView (n : Fin 16) (s : State) :
    (vget (s.laneTrain n.val).fly n.val).backView = (vget s.fly n.val).backView := by
  unfold State.laneTrain
  split
  · rfl
  · rw [State.setLane_lane]; rfl

@[simp] theorem State.laneTrain_chk (n : Nat) (s : State) : (s.laneTrain n).chk = s.chk := by
  unfold State.laneTrain; split <;> rfl

theorem State.lockBack_backView (n : Fin 16) (s : State) :
    (vget (s.lockBack n.val).fly n.val).backView = (vget s.fly n.val).backView := by
  simp only [State.lockBack]
  split
  · rw [State.resolve_fly, State.setLane_lane]; rfl
  · rfl

@[simp] theorem State.lockBack_chk (n : Nat) (s : State) : (s.lockBack n).chk = s.chk := by
  simp only [State.lockBack]; split <;> simp

@[simp] theorem State.retrainFail_fly (r : Retrain) (s : State) : (s.retrainFail r).fly = s.fly := by
  simp only [State.retrainFail]; split <;> simp
@[simp] theorem State.retrainFail_chk (r : Retrain) (s : State) : (s.retrainFail r).chk = s.chk := by
  simp only [State.retrainFail]; split <;> simp

@[simp] theorem State.retrainCheck_fly (s : State) : s.retrainCheck.fly = s.fly := by
  simp only [State.retrainCheck]
  split
  · simp only [apply_ite State.fly, State.retrainFail_fly, ite_self]
  · rfl
@[simp] theorem State.retrainCheck_chk (s : State) : s.retrainCheck.chk = s.chk := by
  simp only [State.retrainCheck]
  split
  · simp only [apply_ite State.chk, State.retrainFail_chk, ite_self]
  · rfl

/-- A lane that comes up keeps its backchannel's lock and its count of substitutions. -/
theorem State.laneUp_backView (n : Fin 16) (s : State) : (vget (s.laneUp n.val).fly n.val).backView = (vget s.fly n.val).backView := by
  simp only [State.laneUp, State.retrainCheck_fly]
  split
  · rw [State.laneTrain_backView, State.setLane_lane]; rfl
  · rw [State.lockBack_backView, State.setLane_lane]; rfl

@[simp] theorem State.laneUp_chk (n : Nat) (s : State) : (s.laneUp n).chk = s.chk := by
  simp only [State.laneUp, State.retrainCheck_chk]
  split <;> simp

/-- A good message, on a lane that it brings up or not, is a good one for the lock (R321). -/
theorem State.backHeard_backView (n : Fin 16) (s : State) : (vget (s.backHeard n.val).fly n.val).backView =
    ((vget s.fly n.val).bclock || decide ((vget s.fly n.val).runFrom + 1440 ≤ s.clk.dtime), 0, (vget s.fly n.val).subcnt) := by
  have hg : (vget ((s.backGood n.val).checked n.val).fly n.val).backView =
      ((vget s.fly n.val).bclock || decide ((vget s.fly n.val).runFrom + 1440 ≤ s.clk.dtime), 0, (vget s.fly n.val).subcnt) := by
    rw [State.checked, State.setChk_fly, State.backGood, State.setLane_lane]; rfl
  simp only [State.backHeard]
  split
  · rw [State.laneUp_backView, hg]
  · exact hg

/-- And a check by the unit of its lane (R596). -/
theorem State.backHeard_chk (n : Nat) (s : State) : (s.backHeard n).chk = s.chk.good n := by
  simp only [State.backHeard]
  split
  · rw [State.laneUp_chk]; rfl
  · rfl

/-- Where the backchannel is heard, its lane is not furled and the logic die is on. -/
theorem State.backOn_hears {s : State} {n : Nat} (h : s.backOn n = true) :
    ¬ ((vget s.fly n).st = .furled ∨ (!s.pow.logicOn) = true) := by
  obtain ⟨hf, hp⟩ : (vget s.fly n).st ≠ .furled ∧ s.pow.logicOn = true := by simpa [State.backOn] using h
  simp [hf, hp]

/-! ### MARKACK and substitutions (R323, R340) -/

/-- `s` with a substitution on lane n counted, in SUBCNT and in the window of its pass (R323). -/
def State.substCounted (n : Nat) (fseq : Half) (s : State) : State :=
  (s.setLane n (fun k => { k with subcnt := satAdd k.subcnt 1 })).markWindow n fseq (fun p => (p.1 + 1, p.2))

/-- What the claims about a substitution follow of a lane: its count, and whether a CRC that was inverted is out. -/
def Lane.substView (l : Lane) : Half × Bool := (l.subcnt, l.crcOut)

theorem State.markWindow_substView (n : Fin 16) (fseq : Half) (f : Nat × Nat → Nat × Nat) (s : State) :
    (vget (s.markWindow n.val fseq f).fly n.val).substView = (vget s.fly n.val).substView := by
  rw [State.markWindow, State.setLane_lane]; rfl

@[simp] theorem State.substCounted_chk (n : Nat) (fseq : Half) (s : State) : (s.substCounted n fseq).chk = s.chk := rfl
theorem State.substCounted_substView (n : Fin 16) (fseq : Half) (s : State) :
    (vget (s.substCounted n.val fseq).fly n.val).substView = (satAdd (vget s.fly n.val).subcnt 1, (vget s.fly n.val).crcOut) := by
  rw [State.substCounted, State.markWindow_substView, State.setLane_lane]; rfl

@[simp] theorem State.judgeSubst_fly (n : Nat) (s : State) : (s.judgeSubst n).fly = s.fly := by
  simp only [State.judgeSubst]; split <;> simp
@[simp] theorem State.judgeSubst_chk (n : Nat) (s : State) : (s.judgeSubst n).chk = s.chk := by
  simp only [State.judgeSubst]; split <;> simp

/-- A check unit after a check that failed by itself, of `exp` against `got` (R597). -/
def CrcUnit.failed (exp got : Word) (x : CrcUnit) : CrcUnit :=
  { x with cnt := x.cnt + 1, mis := satAdd x.mis 1, exp := exp, got := got }

/-- `s` with that check made by unit u. -/
def State.unitFailed (u : Nat) (exp got : Word) (s : State) : State :=
  s.setChk (fun c => { c with units := vmod c.units u (CrcUnit.failed exp got) })

theorem State.unitFailed_unit {u : Nat} (hu : u < 21) (exp got : Word) (s : State) :
    vget (s.unitFailed u exp got).chk.units u = (vget s.chk.units u).failed exp got :=
  vget_vmod_same s.chk.units u _ hu

/-- `s` after the engine found a line packet of lane n with a bad CRC; the message does not tell its values, so the unit keeps free ones (R600). -/
def State.lineFailed (n : Nat) (fseq : Half) (line : Nat) (s : State) : State :=
  let z := s.fresh.2
  ((z.fresh.2.unitFailed n (BitVec.ofNat 32 (s.fresh.1 % 65536)) (BitVec.ofNat 32 (z.fresh.1 % 65536))).setLane n
    (fun l => { l with crcOut := false })).raise0 (unitCode n) n (fseq.toNat * 256 + line)

theorem State.lineFailed_subcnt (n : Fin 16) (fseq : Half) (line : Nat) (s : State) :
    (vget (s.lineFailed n.val fseq line).fly n.val).subcnt = (vget s.fly n.val).subcnt := by
  rw [State.lineFailed, State.raise0_fly, State.setLane_lane]; rfl

theorem State.lineFailed_unit (n : Fin 16) (fseq : Half) (line : Nat) (s : State) : ∃ exp got : Word,
    vget (s.lineFailed n.val fseq line).chk.units n.val = (vget s.chk.units n.val).failed exp got := by
  refine ⟨BitVec.ofNat 32 (s.fresh.1 % 65536), BitVec.ofNat 32 (s.fresh.2.fresh.1 % 65536), ?_⟩
  rw [State.lineFailed, State.raise0_chk, State.setLane_chk, State.unitFailed_unit (laneUnit_lt n)]
  rfl

section
variable {s : State} {n : Nat} (h : s.backOn n = true)
include h

theorem State.markack_heard (resid : Int) (el : Nat) : s.markack n resid el =
    (s.backHeard n).setLane n (fun k =>
      { k with rts := (((((el / 10 * 10 : Nat) : Int) - 1000000 - resid - Config.tdev n)) :: k.rts).take 16 }) :=
  if_neg (State.backOn_hears h)

theorem State.substMsg_other {cause : Byte} (hc : cause ≠ 1) (fseq : Half) (line : Nat) :
    s.substMsg n fseq cause.toNat line = ((s.backHeard n).substCounted n fseq).judgeSubst n := by
  have hc' : cause.toNat ≠ 1 := fun he => hc (BitVec.eq_of_toNat_eq he)
  simp only [State.substMsg, if_neg (State.backOn_hears h), if_neg hc']
  rfl

/-- CAUSE 1, while no line packet with an injected CRC is out, is a mismatch of the lane's unit (R323, R600). -/
theorem State.substMsg_crc {fseq : Half} (hc : (vget ((s.backHeard n).substCounted n fseq).fly n).crcOut = false) (line : Nat) :
    s.substMsg n fseq (1 : Byte).toNat line = (((s.backHeard n).substCounted n fseq).lineFailed n fseq line).judgeSubst n := by
  rw [State.substCounted] at hc
  have h1 : (1 : Byte).toNat = 1 := rfl
  simp only [State.substMsg, if_neg (State.backOn_hears h), h1, if_true, State.fresh, hc, Bool.false_eq_true, if_false]
  rfl

/-! ### NVDATA (R338, R339) -/

/-- NVDATA for a read in progress: in sequence its bytes are added, out of sequence the read ends. -/
theorem State.nvData_reading {r : NvRead} (hr : (vget (s.backHeard n).fly n).read = some r) (seq : Byte) {d : List Byte}
    (hd : d.length = 7) : s.nvData n seq d =
      if seq = r.seq then (s.backHeard n).setLane n (fun k => { k with read := some { seq := r.seq + 1, data := r.data ++ d } })
      else ((s.backHeard n).setLane n (fun k => { k with read := none })).seqMismatch
        ((((vget (s.backHeard n).fly n).ctrl.find? (fun c => c.use.isRead)).map (·.addr)).getD 0) := by
  have ht : (d ++ List.replicate 7 0).take 7 = d := List.take_left' hd
  simp only [State.nvData, h, hr, ht, Bool.not_true, Bool.false_eq_true, if_false]

end

/-! ### The echo (R278, R279, R597) -/

/-- No injection falls on a check by a Fly unit (R600), which passes where the two values agree. -/
theorem State.unitCheck_fly {u : Nat} (hu : u < 16) (data : Nat) (exp got : Word) (s : State) : s.unitCheck u data exp got =
    if exp = got then (true, s.checked u) else (false, (s.unitFailed u exp got).raise0 (unitCode u) u (data % 2 ^ 32)) := by
  have hi : s.injects u = false := by simp [State.injects, Nat.not_le.mpr hu]
  simp only [State.unitCheck, hi, Bool.false_eq_true, if_false, if_pos hu]
  rfl

/-- `s` with the echo of a pass without substitutions noted, for which lane n waits no longer. -/
def State.echoTaken (n : Nat) (fseq : Half) (crc : Word) (s : State) : State :=
  (s.setSeg n (fun g => { g with echo := crc })).markWindow n fseq (fun p => (p.1, 0))

/-- `s` after the echo of lane n agreed (R279). -/
def State.echoAgreed (n : Nat) (s : State) : State :=
  ((((s.checked n).setSeg n (fun g => { g with wait := none })).setSeg n (fun g => { g with goodAt := some s.clk.dtime })).resolve
    0x145 n).resolve 0x146 n

/-- `s` after the echo `crc` of lane n differed from `sige` (R279, R597). -/
def State.echoDiffered (n : Nat) (fseq : Half) (crc sige : Word) (s : State) : State :=
  (((((s.unitFailed n crc sige).raise0 (unitCode n) n (fseq.toNat % 2 ^ 32)).setSeg n (fun g => { g with wait := none })).setSeg n
    (fun g => { g with echobad := satAdd g.echobad 1 }))).raise0 0x145 n 0

theorem State.setSeg_seg (n : Fin 16) (f : Seg → Seg) (s : State) : vget (s.setSeg n.val f).scan.segs n.val = f (vget s.scan.segs n.val) :=
  vget_vmod_same s.scan.segs n.val f n.isLt

theorem State.echoTaken_seg (n : Fin 16) (fseq : Half) (crc : Word) (s : State) :
    vget (s.echoTaken n.val fseq crc).scan.segs n.val = { vget s.scan.segs n.val with echo := crc } :=
  s.setSeg_seg n _

/-- ECHO_MESSAGE for the pass that is waited for, without substitutions and in time, is a check by the lane's unit (R278). -/
theorem State.echoMsg_awaited {s : State} {n : Fin 16} (h : s.backOn n.val = true) {fseq : Half} {sige : Word} {deadline : Nat}
    (hw : (vget (s.backHeard n.val).scan.segs n.val).wait = some (fseq, sige, deadline))
    (ht : (s.backHeard n.val).clk.dtime ≤ deadline) (crc : Word) : s.echoMsg n.val fseq (0 : Byte).toNat crc =
      if crc = sige then ((s.backHeard n.val).echoTaken n.val fseq crc).echoAgreed n.val
      else ((s.backHeard n.val).echoTaken n.val fseq crc).echoDiffered n.val fseq crc sige := by
  have hw' : (vget ((s.backHeard n.val).echoTaken n.val fseq crc).scan.segs n.val).wait = some (fseq, sige, deadline) := by
    rw [State.echoTaken_seg]; exact hw
  have ht' : ((s.backHeard n.val).echoTaken n.val fseq crc).clk.dtime ≤ deadline := ht
  have h0 : (0 : Byte).toNat = 0 := rfl
  rw [State.echoTaken] at hw' ht'
  simp only [State.echoMsg, if_neg (State.backOn_hears h), h0, if_true, hw', ht', and_self, State.unitCheck_fly n.isLt]
  by_cases hc : crc = sige
  · simp only [if_pos hc, if_true]; rfl
  · simp only [if_neg hc, Bool.false_eq_true, if_false]; rfl

/-- A fault resolved on an instance has no condition left there. -/
theorem State.resolve_conds {s : State} {code inst : Nat} {a : Active} (ha : a ∈ (s.resolve code inst).flt.active) (hc : a.code = code) :
    inst ∉ a.conds := by
  obtain ⟨b, -, hb⟩ := List.mem_map.mp ha
  by_cases h : b.code = code
  · rw [if_pos h] at hb; rw [← hb]; simp
  · rw [if_neg h] at hb; exact absurd (hb ▸ hc) h

/-- The other faults stay as they are. -/
theorem State.resolve_other {s : State} {code inst : Nat} {a : Active} (ha : a ∈ (s.resolve code inst).flt.active) (hc : a.code ≠ code) :
    a ∈ s.flt.active := by
  obtain ⟨b, hm, hb⟩ := List.mem_map.mp ha
  by_cases h : b.code = code
  · rw [if_pos h] at hb; exact absurd (hb ▸ h) hc
  · rw [if_neg h] at hb; exact hb ▸ hm

theorem State.echoAgreed_seg (n : Fin 16) (s : State) :
    vget (s.echoAgreed n.val).scan.segs n.val = { vget s.scan.segs n.val with wait := none, goodAt := some s.clk.dtime } := by
  simp only [State.echoAgreed, State.resolve_scan, State.setSeg_seg]; rfl

theorem State.echoAgreed_chk (n : Nat) (s : State) : (s.echoAgreed n).chk = s.chk.good n := by
  simp only [State.echoAgreed, State.resolve_chk, State.setSeg_chk]; rfl

theorem State.echoAgreed_evt (n : Nat) (s : State) : (s.echoAgreed n).evt = s.evt := by
  simp only [State.echoAgreed, State.resolve_evt, State.setSeg_evt]; rfl

/-- Equal signatures resolve both echo faults of the lane (R279). -/
theorem State.echoAgreed_conds {n : Nat} {s : State} {a : Active} (ha : a ∈ (s.echoAgreed n).flt.active)
    (hc : a.code = 0x145 ∨ a.code = 0x146) : n ∉ a.conds := by
  by_cases h : a.code = 0x146
  · exact State.resolve_conds ha h
  · exact State.resolve_conds (State.resolve_other ha h) (hc.resolve_right h)

theorem State.echoDiffered_seg (n : Fin 16) (fseq : Half) (crc sige : Word) (s : State) :
    vget (s.echoDiffered n.val fseq crc sige).scan.segs n.val =
      { vget s.scan.segs n.val with wait := none, echobad := satAdd (vget s.scan.segs n.val).echobad 1 } := by
  simp only [State.echoDiffered, State.raise0_scan, State.setSeg_seg]; rfl

theorem State.echoDiffered_unit (n : Fin 16) (fseq : Half) (crc sige : Word) (s : State) :
    vget (s.echoDiffered n.val fseq crc sige).chk.units n.val = (vget s.chk.units n.val).failed crc sige := by
  simp only [State.echoDiffered, State.raise0_chk, State.setSeg_chk, State.unitFailed_unit (laneUnit_lt n)]

/-- Settles O39: a good message by what it leaves of its lane and unit, each message by the lemma that says what it answers. -/
theorem backchannelMessages : Obligations.BackchannelMessages := by
  refine ⟨?_, ?_, ?_⟩
  · rintro n x g rfl
    have hl := x.backHeard_backView n
    rw [State.backHeard_chk, Checks.good_unit (laneUnit_lt n)]
    exact ⟨congrArg (·.1) hl, congrArg (·.2.1) hl, congrArg (·.2.2) hl, rfl, rfl⟩
  · rintro t n s x g rfl h rfl
    refine ⟨fun q resid el => ?_, fun fseq line cause hc => ?_, fun fseq line hc => ?_, fun r seq d hr hd => ⟨fun hs => ?_, ?_⟩⟩
    · rw [exec, execMarkack, occur_eq, State.markack_heard h]
    · rw [exec, execSubstMessage, occur_eq, State.substMsg_other h hc]; rfl
    · have hv := ((s.advance t).backHeard n.val).substCounted_substView n fseq
      obtain ⟨exp, got, hu⟩ := (((s.advance t).backHeard n.val).substCounted n.val fseq).lineFailed_unit n fseq line.toNat
      refine ⟨_, by rw [exec, execSubstMessage, occur_eq, State.substMsg_crc h ((congrArg (·.2) hv).trans hc)], ?_⟩
      rw [State.judgeSubst_fly, State.judgeSubst_chk, State.lineFailed_subcnt, hu]
      exact ⟨congrArg (·.1) hv, rfl, rfl, rfl⟩
    · rw [exec, execNvdata, occur_eq, State.nvData_reading h hr seq hd, if_pos hs]
    · rintro c hs hf z rfl
      rw [exec, execNvdata, occur_eq, State.nvData_reading h hr seq hd, if_neg hs, hf]
      rfl
  · rintro t n fseq sige crc deadline s x g rfl h rfl hw ht
    have he := State.echoMsg_awaited h hw ht crc
    refine ⟨_, by rw [exec, execEchoMessage, occur_eq, he], ?_⟩
    by_cases hc : crc = sige
    · rw [if_pos hc, State.echoAgreed_seg, State.echoAgreed_chk, Checks.good_unit (laneUnit_lt n), State.echoTaken_seg]
      exact ⟨rfl, rfl, rfl, fun _ => ⟨State.echoAgreed_evt _ _, rfl, rfl, fun _ => State.echoAgreed_conds⟩, fun hn => absurd hc hn⟩
    · rw [if_neg hc, State.echoDiffered_seg, State.echoDiffered_unit, State.echoTaken_seg]
      exact ⟨rfl, rfl, rfl, fun hp => absurd hp hc, fun _ => ⟨rfl, rfl, rfl, rfl, rfl⟩⟩

end Sys2Proof.Machine
end

section
/-! The flip instant: what a missed flip and the swap of the buffers leave of the picture. -/

namespace Sys2Proof.Machine

/-! ### The picture's view of the machine -/

/-- The parts of the machine in which the claims about a flip speak: the picture shown, its counters, and the composition that is done. -/
structure FlipView where
  run : Bool
  front : Bool
  framecnt : Nat
  fliptime : Nat
  missed : Nat
  flipLatched : Bool
  done : Option FrameInfo

def State.flipView (s : State) : FlipView :=
  { run := s.scan.run, front := s.scan.front, framecnt := s.scan.framecnt, fliptime := s.scan.fliptime, missed := s.scan.missed,
    flipLatched := s.scan.flipLatched, done := s.bun.done }

/-- Equal views agree in what they show of scan-out and of the composition. -/
theorem State.flipView_eq {s : State} {v : FlipView} (h : s.flipView = v) :
    s.scan.run = v.run ∧ s.scan.front = v.front ∧ s.scan.framecnt = v.framecnt ∧ s.scan.fliptime = v.fliptime ∧
      s.scan.missed = v.missed ∧ s.scan.flipLatched = v.flipLatched ∧ s.bun.done = v.done := by
  subst h
  exact ⟨rfl, rfl, rfl, rfl, rfl, rfl, rfl⟩

@[simp] theorem State.raise0_flipView (s : State) (code inst data : Nat) : (s.raise0 code inst data).flipView = s.flipView := by
  simp [State.flipView]
@[simp] theorem State.event_flipView (s : State) (code : Nat) : (s.event code).flipView = s.flipView := by
  simp [State.flipView]
@[simp] theorem State.resolve_flipView (s : State) (code inst : Nat) : (s.resolve code inst).flipView = s.flipView := by
  simp [State.flipView]
@[simp] theorem State.setSeg_flipView (n : Nat) (f : Seg → Seg) (s : State) : (s.setSeg n f).flipView = s.flipView := id rfl
@[simp] theorem State.setLane_flipView (s : State) (n : Nat) (f : Lane → Lane) : (s.setLane n f).flipView = s.flipView := rfl
@[simp] theorem State.answer_flipView (s : State) (id : ReqId) (status : Nat) (data : List Byte) :
    (s.answer id status data).flipView = s.flipView := by
  simp [State.flipView]
@[simp] theorem State.answerFill_flipView (s : State) (id : ReqId) (status : Nat) (fill : Fill) (data : List Byte) :
    (s.answerFill id status fill data).flipView = s.flipView := by
  simp [State.flipView]

@[simp] theorem State.scanEvt_scan (m en code : Nat) (s : State) : (s.scanEvt m en code).scan = s.scan := by
  simp only [State.scanEvt]; split <;> simp
@[simp] theorem State.scanEvt_bun (m en code : Nat) (s : State) : (s.scanEvt m en code).bun = s.bun := by
  simp only [State.scanEvt]; split <;> simp
@[simp] theorem State.auditFrames_scan (s : State) : s.auditFrames.scan = s.scan := by
  simp only [State.auditFrames]; split <;> simp
@[simp] theorem State.auditFrames_flipView (s : State) : s.auditFrames.flipView = s.flipView := by
  simp only [State.auditFrames]; split <;> simp

/-! ### The end of the pass in progress (R269) -/

@[simp] theorem State.eolCheck_bun (n : Nat) (s : State) : (s.eolCheck n).bun = s.bun := by
  simp only [State.eolCheck]
  (repeat' split) <;> simp
@[simp] theorem State.passStress_flipView (n ts psent : Nat) (s : State) : (s.passStress n ts psent).flipView = s.flipView := by
  have hb : (s.passStress n ts psent).bun = s.bun := by simp [State.passStress, State.addStress]
  simp [State.flipView, hb]

@[simp] theorem State.echoSkip_flipView (n : Nat) (s : State) : (s.echoSkip n).flipView = s.flipView := by
  simp [State.echoSkip]

@[simp] theorem State.keepBytes_flipView (s : State) : s.keepBytes.flipView = s.flipView := by
  refine iter_proj State.flipView (fun n s => ?_) 16 s
  split <;> simp

/-- What Guidon meters does not concern the picture. -/
theorem State.metered_flipView (g : Guidon) (s : State) : ({ s with gdn := g } : State).flipView = s.flipView := id rfl

@[simp] theorem State.endSent_flipView (n p ts : Nat) (sige : Word) (scw sam : Nat) (s : State) :
    (s.endSent n p ts sige scw sam).flipView = s.flipView := by
  simp only [State.endSent, State.passStress_flipView, State.metered_flipView, apply_ite State.flipView, State.raise0_flipView,
    State.resolve_flipView, State.echoSkip_flipView, State.setSeg_flipView, ite_self]

@[simp] theorem State.endLane_flipView (n : Nat) (s : State) : (s.endLane n).flipView = s.flipView := by
  simp only [State.endLane, apply_ite State.flipView, State.endSent_flipView, State.echoSkip_flipView, State.setSeg_flipView, ite_self]

/-- The end of a pass leaves the picture and the composition alone. -/
@[simp] theorem State.endPass_flipView (s : State) : s.endPass.flipView = s.flipView := by
  have hl (s : State) : (iter (fun n s => if s.scan.curRead.getLsbD n && s.laneEn n then s.endLane n else s) 16 s).flipView = s.flipView :=
    iter_proj State.flipView (fun n s => by simp only [apply_ite State.flipView, State.endLane_flipView, ite_self]) 16 s
  have hc (s : State) : ({ s with scan := { s.scan with
      curOn := false, curLines := false, curRead := 0, curLanes := 0, zeros := [] } } : State).flipView = s.flipView := id rfl
  simp only [State.endPass, apply_ite State.flipView, hc, State.metered_flipView, hl, State.raise0_flipView, State.resolve_flipView,
    State.keepBytes_flipView, ite_self]

/-! ### The performance policy (Table 13.4) -/

@[simp] theorem State.wantPcdiv_flipView (v : Nat) (s : State) : (s.wantPcdiv v).flipView = s.flipView := rfl

@[simp] theorem State.downDue_flipView (s : State) : s.downDue.flipView = s.flipView := by
  unfold State.downDue
  split <;> rfl

@[simp] theorem State.policy_flipView (missed blockEnd : Bool) (low : Nat) (s : State) :
    (s.policy missed blockEnd low).flipView = s.flipView := by
  have ha (f : Fabric) : ({ s with fab := f } : State).flipView = s.flipView := rfl
  have hd (f : Fabric) : ({ s with fab := f } : State).downDue.flipView = s.flipView := State.downDue_flipView _
  cases hp : s.predicted with
  | none => simp only [State.policy, hp, apply_ite State.flipView, State.wantPcdiv_flipView, ha, ite_self]
  | some p => simp only [State.policy, hp, apply_ite State.flipView, State.wantPcdiv_flipView, ha, hd, ite_self]

/-- A slack that is entered moves its statistics and the policy alone (Table 4.18). -/
@[simp] theorem State.enterSlack_flipView (v : Nat) (s : State) : (s.enterSlack v).flipView = s.flipView := by
  simp only [State.enterSlack]
  split
  · exact State.policy_flipView false true (min s.bun.blkMin v)
      { s with bun := { s.bun with slackLast := v, slackMin := min s.bun.blkMin v } }
  · rfl

@[simp] theorem State.slackMissed_flipView (s : State) : s.slackMissed.flipView = s.flipView := State.enterSlack_flipView 0 _

/-! ### What follows a flip instant -/

theorem State.startComp_flipView (flip : Nat) (first : Bool) (s : State) :
    (s.startComp flip first).flipView = { s.flipView with done := none } := by
  simp only [State.flipView, State.startComp_scan]
  rfl

@[simp] theorem State.creditAudit_flipView (s : State) : s.creditAudit.flipView = s.flipView := by
  unfold State.creditAudit
  split
  · exact iter_proj State.flipView (fun c s => by split <;> simp) 4 s
  · rfl

/-- While scan-out runs a COMMIT waits for its flip (R114, R116). -/
theorem State.commitRun_flipView {s : State} (hr : s.scan.run = true) (id : ReqId) (mask : Word) :
    (s.commitRun id mask).flipView = s.flipView := by
  simp only [State.commitRun]
  split
  · simp
  · split
    · simp
    · rfl

theorem State.commitDeferred_flipView {s : State} (hr : s.scan.run = true) : s.commitDeferred.flipView = s.flipView := by
  unfold State.commitDeferred
  refine List.foldlRecOn (motive := fun u : State => u.flipView = s.flipView) s.regs.deferred _ rfl fun u hu c _ => ?_
  obtain ⟨hrun, -⟩ := State.flipView_eq hu
  exact (State.commitRun_flipView (hrun.trans hr) c.1 c.2).trans hu

theorem State.nextFlip_flipView (s : State) : s.nextFlip.flipView = { s.flipView with flipLatched := false } := rfl

/-- After a flip instant no composition is done. -/
theorem State.afterFlip_flipView {s : State} (hr : s.scan.run = true) (hd : s.bun.done = none) (first : Bool) :
    (s.afterFlip first).flipView = s.flipView := by
  let y := if s.scan.retrain.isSome then s else s.startComp (s.passAt s.scan.flipK) first
  have hy : y.creditAudit.flipView = s.flipView := by
    rw [State.creditAudit_flipView]
    dsimp only [y]
    split
    · rfl
    · rw [State.startComp_flipView, ← hd]; rfl
  obtain ⟨hrun, -⟩ := State.flipView_eq hy
  exact (State.commitDeferred_flipView (hrun.trans hr)).trans hy

/-! ### FLIP_INSTANT (R258 to R262) -/

/-- `s` with its composition abandoned (R259). -/
def State.compDropped (s : State) : State :=
  let s := match s.bun.comp with
    | some c => if c.dead then s else s.slackMissed
    | none => s
  { s with bun := { s.bun with comp := none, done := none } }

theorem State.compDropped_flipView (s : State) : s.compDropped.flipView = { s.flipView with done := none } := by
  have hs (y : State) : ({ y with bun := { y.bun with comp := none, done := none } } : State).flipView = { y.flipView with done := none } := rfl
  simp only [State.compDropped, hs]
  split
  · split <;> simp
  · rfl

theorem State.countMissed_flipView (s : State) : s.countMissed.flipView = { s.flipView with missed := s.scan.missed + 1 } := by
  simp only [State.countMissed, State.flipView, State.scanEvt_scan, State.scanEvt_bun]

/-- `s` with a flip missed and counted, and PCDIV left as it is (R259, R262). -/
def State.missCounted (s : State) : State :=
  let s := s.compDropped.countMissed.auditFrames.policy true false 1000
  { s with scan := { s.scan with pcdivLatched := none } }

theorem State.missCounted_flipView (s : State) :
    s.missCounted.flipView = { s.flipView with missed := s.scan.missed + 1, done := none } := by
  have hp (y : State) : ({ y with scan := { y.scan with pcdivLatched := none } } : State).flipView = y.flipView := rfl
  have hd := s.compDropped_flipView
  obtain ⟨-, -, -, -, hm, -, -⟩ := State.flipView_eq hd
  rw [State.missCounted, hp, State.policy_flipView, State.auditFrames_flipView, State.countMissed_flipView, hd, hm]
  rfl

theorem State.flipMissed_eq (s : State) : s.flipMissed = s.missCounted.nextFlip.afterFlip false := rfl

/-- A missed flip is counted, and the picture stays (R259, R262). -/
theorem State.flipMissed_flipView {s : State} (hr : s.scan.run = true) :
    s.flipMissed.flipView = { s.flipView with missed := s.scan.missed + 1, flipLatched := false, done := none } := by
  have hv : s.missCounted.nextFlip.flipView = { s.flipView with missed := s.scan.missed + 1, flipLatched := false, done := none } := by
    rw [State.nextFlip_flipView, State.missCounted_flipView]
  obtain ⟨hrun, -, -, -, -, -, hdone⟩ := State.flipView_eq hv
  rw [State.flipMissed_eq, State.afterFlip_flipView (hrun.trans hr) hdone, hv]

/-- The buffer into which the picture has been composed. -/
def State.composedBuffer (s : State) : Bool := match s.bun.comp with | some c => c.back | none => !s.scan.front

theorem State.composedBuffer_some {s : State} {c : Comp} (h : s.bun.comp = some c) : s.composedBuffer = c.back := by
  rw [State.composedBuffer, h]

/-- The swap shows and counts the picture composed with `info` (R261, R262). -/
theorem State.flipSwap_scan (info : FrameInfo) (f : Nat) (s : State) : (s.flipSwap info f).scan =
    { s.scan with
      front := s.composedBuffer, frontValid := true, framecnt := (s.scan.framecnt + 1) % 2 ^ 48, fliptime := f, frame := info } := by
  simp only [State.flipSwap, State.auditFrames_scan, State.scanEvt_scan]
  rfl

theorem State.flipDue_runs {s : State} (h : s.flipDue = true) : s.scan.run = true := by
  simp only [State.flipDue, Bool.and_eq_true] at h
  exact h.1.1.1

section
variable {s : State} (h : s.flipDue = true)
include h

/-- Without a finished composition the flip is missed and counted, and the picture stays (R259, R262). -/
theorem State.flipInstant_missed (hd : s.bun.done = none) : s.flipInstant.scan.missed = s.scan.missed + 1 ∧
    s.flipInstant.scan.framecnt = s.scan.framecnt ∧ s.flipInstant.scan.front = s.scan.front ∧
    s.flipInstant.scan.fliptime = s.scan.fliptime ∧ s.flipInstant.scan.flipLatched = false := by
  obtain ⟨hrun, hfront, hcnt, htime, hmissed, -, hdone⟩ := State.flipView_eq s.endPass_flipView
  have he : s.flipInstant = s.endPass.flipMissed := by simp only [State.flipInstant, if_pos h, hdone.trans hd]
  obtain ⟨-, hfront', hcnt', htime', hmissed', hlatched', -⟩ :=
    State.flipView_eq (State.flipMissed_flipView (hrun.trans (State.flipDue_runs h)))
  rw [he]
  exact ⟨hmissed'.trans (congrArg (· + 1) hmissed), hcnt'.trans hcnt, hfront'.trans hfront, htime'.trans htime, hlatched'⟩

theorem State.flipInstant_taken {i : FrameInfo} (hd : s.bun.done = some i) :
    s.flipInstant = s.endPass.flipTaken i (s.passAt s.scan.flipK) := by
  obtain ⟨-, -, -, -, -, -, hdone⟩ := State.flipView_eq s.endPass_flipView
  simp only [State.flipInstant, if_pos h, hdone.trans hd]

end

/-- Settles O48: the missed flip by the picture's view, the taken one by the swap of the buffers. -/
theorem flipInstant : Obligations.FlipInstant := by
  rintro t s x f rfl h rfl
  refine ⟨fun hd => ⟨_, by rw [exec, execFlipInstant, occur_eq], State.flipInstant_missed h hd⟩, fun i hd => ?_, fun i y => ?_⟩
  · rw [exec, execFlipInstant, occur_eq, State.flipInstant_taken h hd]
  · rw [State.flipSwap_scan]
    exact ⟨rfl, rfl, rfl, rfl, rfl, fun _ => State.composedBuffer_some⟩

end Sys2Proof.Machine
end

section
/-! One lane at a time; what a lane sends of itself: MARKER and FSTART_FILL, and the bound of a blind start. -/

namespace Sys2Proof.Machine

/-! ### Changes of one lane -/

/-- A change of lane n leaves the other lanes alone. -/
theorem State.setLane_other {n m : Nat} (hm : m < 16) (h : m ≠ n) (f : Lane → Lane) (s : State) :
    vget (s.setLane n f).fly m = vget s.fly m :=
  vget_vmod_other s.fly n m f h hm

/-- Changes that agree on the lane as it is are one change. -/
theorem State.setLane_congr {n : Nat} {f g : Lane → Lane} {s : State} (h : f (vget s.fly n) = g (vget s.fly n)) :
    s.setLane n f = s.setLane n g := by
  simp only [State.setLane, vmod, h]

/-- Two changes of a lane, one after the other, are one. -/
theorem State.setLane_setLane (n : Fin 16) (f g : Lane → Lane) (s : State) :
    (s.setLane n.val f).setLane n.val g = s.setLane n.val (fun k => g (f k)) := by
  have hv : vmod (vmod s.fly n.val f) n.val g = vmod s.fly n.val (fun k => g (f k)) := by
    rw [vmod, vget_vmod_same s.fly n.val f n.isLt]
    simp [vmod, vset]
  exact congrArg (fun v => { s with fly := v }) hv

theorem State.fresh_fly (s : State) : s.fresh.2.fly = s.fly := rfl

/-- A lane whose transmitter is on. -/
theorem State.laneOn_hears {s : State} {n : Nat} (h : s.laneOn n = true) : ¬ ((vget s.fly n).st = .furled ∨ (!s.pow.logicOn) = true) := by
  obtain ⟨⟨hf, -⟩, hp⟩ : ((vget s.fly n).st ≠ .furled ∧ s.ens.ovr = false) ∧ s.pow.logicOn = true := by simpa [State.laneOn] using h
  simp [hf, hp]

/-! ### MARKER (R308) -/

theorem State.marker_due {s : State} {n : Nat} (h : s.laneOn n = true)
    (hd : (vget s.fly n).baseAt + 8192 * (vget s.fly n).blockPs ≤ 1000 * s.clk.dtime) : s.marker n = s.laneMarker n := by
  simp only [State.marker, h, hd, Bool.true_or, Bool.true_and, decide_true, if_true]

theorem State.marker_early {s : State} {n : Nat}
    (hd : 1000 * s.clk.dtime < (vget s.fly n).baseAt + 8192 * (vget s.fly n).blockPs) : s.marker n = s := by
  simp only [State.marker, Nat.not_le.mpr hd, decide_false, Bool.and_false, Bool.false_eq_true, if_false]

/-- What a MARKER leaves of its lane: the slots before it counted, the next MSEQ, and the scrambler seeded with it (R307, R308). -/
theorem State.laneMarker_lane (n : Fin 16) (s : State) : ∃ (c : List Ctrl) (p : Nat) (q : List Tx) (fs : List Filler),
    vget (s.laneMarker n.val).fly n.val =
      { vget s.fly n.val with
        ctrl := c, slots := (vget s.fly n.val).slots + 8192, mseq := (vget s.fly n.val).mseq + 1
        lfsr := scramSeed n.val ((vget s.fly n.val).mseq + 1)
        baseAt := (vget s.fly n.val).baseAt + 8192 * (vget s.fly n.val).blockPs, prev := p, txq := q, fills := fs, tail := [] } := by
  rw [State.laneMarker, State.setLane_lane]
  exact ⟨_, _, _, _, rfl⟩

/-! ### FSTART_FILL (R318) -/

/-- The SHOW of a frame start that fills a gap of 1 ms (R318, R31, R37). -/
def State.fillShow (n : Nat) (s : State) : Show :=
  if s.scan.run = true ∨ s.scan.limp.isSome = true then .hold else if s.mode.sleep = .none then (vget s.fly n).showFor s.quietShow else .dark

theorem State.fstartFill_due {s : State} {n : Nat} (h : s.laneOn n = true) (hr : (vget s.fly n).runs = true)
    (hd : (vget s.fly n).fstartAt + 1000000 ≤ s.clk.dtime) : s.fstartFill n = s.extraFstart n (s.fillShow n) := by
  simp only [State.fstartFill, h, hr, hd, decide_true, Bool.and_self, if_true, State.fillShow, Bool.or_eq_true, ne_eq, ite_not]

/-- A frame start outside a pass is one block more that is due on its lane. -/
theorem State.extraFstart_lane (n : Fin 16) (w : Show) (s : State) : ∃ (y : Tx) (ofs tl : Nat),
    y.kind = .fstart s.scan.fseq w ofs ∧ y.left = 1 ∧ vget (s.extraFstart n.val w).fly n.val =
      { vget s.fly n.val with
        txq := (vget s.fly n.val).txq ++ [y], fstartAt := s.clk.dtime
        lastShow := if w = .hold then (vget s.fly n.val).lastShow else w, tl := tl, ofs := ofs } := by
  rw [State.extraFstart, State.setLane_lane, State.fresh_fly]
  exact ⟨_, _, _, rfl, rfl, rfl⟩

/-! ### LANE_UP_TIMEOUT (R328) -/

theorem State.laneUpTimeout_due {s : State} {n : Nat} (h : s.laneOn n = true) (hr : (vget s.fly n).runs = true) (hu : (vget s.fly n).up = false)
    (hw : (vget s.fly n).down = false) (hd : (vget s.fly n).startedAt + (vget s.fly n).upBound ≤ s.clk.dtime) :
    s.laneUpTimeout n = ((s.setLane n (fun k => { k with down := true })).raise0 0x187 n 0).retrainCheck := by
  simp only [State.laneUpTimeout, h, hr, hu, hw, hd, decide_true, Bool.not_false, Bool.and_self, if_true]

/-- Settles O38: each row by the lemma that says what it answers, a MARKER and a frame start by what they leave of their lane. -/
theorem laneBlocks : Obligations.LaneBlocks := by
  rintro t n s x l rfl rfl h
  refine ⟨fun hd => ?_, fun hd => ?_, fun hr hd w hw => ?_, fun hr hu hw hd => ?_⟩
  · obtain ⟨c, p, q, fs, hl⟩ := (s.advance t).laneMarker_lane n
    refine ⟨_, by rw [exec, execMarker, occur_eq, State.marker_due h hd], ?_⟩
    rw [hl]
    exact ⟨rfl, rfl, rfl, rfl, rfl, fun m hm hn => State.setLane_other hm hn _ _, rfl, rfl⟩
  · rw [exec, execMarker, occur_eq, State.marker_early hd]
  · obtain rfl : w = (s.advance t).fillShow n.val := hw
    obtain ⟨y, ofs, tl, hk, h1, hl⟩ := (s.advance t).extraFstart_lane n ((s.advance t).fillShow n.val)
    refine ⟨_, by rw [exec, execFstartFill, occur_eq, State.fstartFill_due h hr hd], ?_⟩
    rw [hl]
    exact ⟨rfl, rfl, rfl, ⟨y, ofs, rfl, hk, h1⟩, fun m hm hn => State.setLane_other hm hn _ _, rfl, rfl⟩
  · rw [exec, execLaneUpTimeout, occur_eq, State.laneUpTimeout_due h hr hu hw hd]

end Sys2Proof.Machine
end

section
/-! Training of a lane: what TRAIN messages, a missed bound and the end of a countdown leave of it (Table 7.8). -/

namespace Sys2Proof.Machine

/-! ### Messages to a lane in training -/

theorem bit_toNat {w : Nat} (v : BitVec w) (i : Nat) : bit v.toNat i = v.getLsbD i := by
  rw [bit, BitVec.getLsbD, Nat.testBit_eq_decide_div_mod_eq]
  rfl

/-- `s` with a good message on lane n counted, which brings the lane no further (R321, R596). -/
def State.goodOn (n : Nat) (s : State) : State := (s.backGood n).checked n

@[simp] theorem State.goodOn_clk (n : Nat) (s : State) : (s.goodOn n).clk = s.clk := rfl
@[simp] theorem State.goodOn_ens (n : Nat) (s : State) : (s.goodOn n).ens = s.ens := rfl
@[simp] theorem State.goodOn_flag (n : Nat) (s : State) (a i : Nat) : (s.goodOn n).flag a i = s.flag a i := rfl

theorem State.goodOn_lane (n : Fin 16) (s : State) : vget (s.goodOn n.val).fly n.val =
    { vget s.fly n.val with
      bclock := (vget s.fly n.val).bclock || decide ((vget s.fly n.val).runFrom + 1440 ≤ s.clk.dtime), badRun := 0 } := by
  rw [State.goodOn, State.checked, State.setChk_fly, State.backGood, State.setLane_lane]

/-- A lane in training does not come up by a message. -/
theorem State.backHeard_training {s : State} {n : Fin 16} (h : (vget s.fly n.val).st = .training) : s.backHeard n.val = s.goodOn n.val := by
  have hr : (vget (s.goodOn n.val).fly n.val).runs = false := by rw [State.goodOn_lane]; simp [Lane.runs, h]
  rw [State.goodOn] at hr
  simp only [State.backHeard, hr, Bool.and_false, Bool.false_and, Bool.false_eq_true, if_false]
  rfl

/-- The block lock noted under PHASE 2, which sets its bound the first time (Table 7.8 step 5). -/
def State.lockNoted (n : Nat) (l : Lane) (z : State) : State :=
  z.setLane n (fun k => { k with block := true, phaseDue := if l.block then l.phaseDue else l.startedAt + 6100000 })

/-- PHASE 4 begins (Table 7.8 step 7). -/
def State.phase4Begun (n : Nat) (l : Lane) (now : Nat) (y : State) : State :=
  y.setLane n (fun k => ({ k with phase := 4, phaseDue := l.startedAt + 7000000 } : Lane).trains (1000 * now) 4)

/-- PHASE 3 begins, with its countdown (Table 7.8 step 6). -/
def State.phase3Begun (n : Nat) (l : Lane) (now : Nat) (y : State) : State :=
  y.setLane n (fun k =>
    let k := ({ k with phase := 3, phaseDue := l.startedAt + 6500000 } : Lane).trains (1000 * now) 3
    { k with countAt := some (k.countEnd now) })

theorem State.phase3Begun_eq (n : Fin 16) (l : Lane) (now : Nat) (y : State) : y.phase3Begun n.val l now =
    (y.setLane n.val (fun k => ({ k with phase := 3, phaseDue := l.startedAt + 6500000 } : Lane).trains (1000 * now) 3)).setLane n.val
      (fun k => { k with countAt := some (k.countEnd now) }) := by
  rw [State.setLane_setLane]
  rfl

@[simp] theorem State.lockNoted_clk (n : Nat) (l : Lane) (z : State) : (z.lockNoted n l).clk = z.clk := rfl
@[simp] theorem State.lockNoted_flag (n : Nat) (l : Lane) (z : State) (a i : Nat) : (z.lockNoted n l).flag a i = z.flag a i := rfl

@[simp] theorem State.laneTaps_clk (n : Nat) (m : TrainMsg) (s : State) : (s.laneTaps n m).clk = s.clk := by
  simp only [State.laneTaps]; split <;> rfl
@[simp] theorem State.laneTaps_flag (n : Nat) (m : TrainMsg) (s : State) (a i : Nat) : (s.laneTaps n m).flag a i = s.flag a i := by
  simp only [State.laneTaps]; split <;> rfl

theorem State.laneTaps_same {n : Fin 16} {m : TrainMsg} {s : State} (h : m.rseq = (vget s.fly n.val).rseq) :
    (s.goodOn n.val).laneTaps n.val m = s.goodOn n.val := by
  rw [State.laneTaps, State.goodOn_lane, if_pos h]

/-- A new RSEQ moves the taps and answers with their status (R331). -/
theorem State.laneTaps_moves {n : Fin 16} {m : TrainMsg} {s : State} (h : m.rseq ≠ (vget s.fly n.val).rseq) {a b c st : Nat}
    (ht : tapRequest (s.flag (laneAddr n.val) 3) m.req.toNat
      ((vget s.fly n.val).txPre, (vget s.fly n.val).txMain, (vget s.fly n.val).txPost) = ((a, b, c), st)) :
    (s.goodOn n.val).laneTaps n.val m = (s.goodOn n.val).setLane n.val (fun k => ({ k with
      rseq := m.rseq, tapStatus := BitVec.ofNat 8 st, txPre := a, txMain := b, txPost := c } : Lane).trains (1000 * s.clk.dtime)
        (vget s.fly n.val).phase) := by
  have hp : (vget (s.goodOn n.val).fly n.val).phase = (vget s.fly n.val).phase := by rw [State.goodOn_lane]
  rw [State.laneTaps, State.goodOn_lane, if_neg h, State.goodOn_flag, ht, ← hp]
  exact State.setLane_congr rfl

/-- What the claims about block lock follow of a lane. -/
def Lane.lockView (l : Lane) : Bool × Nat := (l.block, l.phaseDue)

/-- A request for taps leaves the block lock and the bound as they are. -/
theorem State.laneTaps_lockView (n : Fin 16) (m : TrainMsg) (s : State) :
    (vget (s.laneTaps n.val m).fly n.val).lockView = (vget s.fly n.val).lockView := by
  simp only [State.laneTaps]
  split
  · rfl
  · rw [State.setLane_lane]; rfl

section
variable {s : State} {n : Fin 16} (h : s.laneOn n.val = true) (ht : (vget s.fly n.val).st = .training)
include h ht

/-- The engine in PHASE 1 is acknowledged before the block with COUNT 0 begins, and not from then on (R330). -/
theorem State.trainMsg_phase1 (hp : (vget s.fly n.val).phase = 1) {c : Nat} (hc : (vget s.fly n.val).countAt = some c) (m : TrainMsg) :
    s.trainMsg n.val m = if m.phase = 1 ∧ 1000 * s.clk.dtime + (vget s.fly n.val).blockPs < c
      then (s.goodOn n.val).setLane n.val (fun k => { k with acked := true, rseq := m.rseq }) else s.goodOn n.val := by
  simp only [State.trainMsg, h, Bool.not_true, Bool.false_eq_true, if_false, State.backHeard_training ht, State.goodOn_lane, ht, ne_eq,
    not_true_eq_false, hp, hc, Option.any_some, decide_eq_true_eq, State.goodOn_clk]
  rfl

/-- Under PHASE 2 the taps follow the engine's requests, LOCK is noted, and TXREADY ends the phase (Table 7.8 steps 3 to 5). -/
theorem State.trainMsg_phase2 (hp : (vget s.fly n.val).phase = 2) (m : TrainMsg) : s.trainMsg n.val m =
    if m.flags.getLsbD 0 then
      if m.flags.getLsbD 1 then
        if m.flags.getLsbD 2 && s.flag (laneAddr n.val) 2 then
          (((s.goodOn n.val).laneTaps n.val m).lockNoted n.val (vget s.fly n.val)).phase3Begun n.val (vget s.fly n.val) s.clk.dtime
        else (((s.goodOn n.val).laneTaps n.val m).lockNoted n.val (vget s.fly n.val)).phase4Begun n.val (vget s.fly n.val) s.clk.dtime
      else ((s.goodOn n.val).laneTaps n.val m).lockNoted n.val (vget s.fly n.val)
    else (s.goodOn n.val).laneTaps n.val m := by
  have hl : ((s.goodOn n.val).laneTaps n.val m).setLane n.val (fun k => { k with
      block := true, phaseDue := if k.block then k.phaseDue else (vget s.fly n.val).startedAt + 6100000 })
      = ((s.goodOn n.val).laneTaps n.val m).lockNoted n.val (vget s.fly n.val) := by
    obtain ⟨hb, hd⟩ := Prod.mk.inj ((s.goodOn n.val).laneTaps_lockView n m)
    refine State.setLane_congr ?_
    rw [hb, hd, State.goodOn_lane]
  simp only [State.trainMsg, h, Bool.not_true, Bool.false_eq_true, if_false, State.backHeard_training ht, State.goodOn_lane, ht, ne_eq,
    not_true_eq_false, hp, bit_toNat, State.lockNoted_clk, State.lockNoted_flag, State.laneTaps_clk, State.laneTaps_flag, State.goodOn_clk,
    State.goodOn_flag, hl]
  rfl

/-- PHASE 4 with no fault condition found ends the attempt (Table 7.8 step 7). -/
theorem State.trainMsg_phase4 (hp : (vget s.fly n.val).phase = 4) {m : TrainMsg} (hm : m.phase = 4) :
    s.trainMsg n.val m = (s.goodOn n.val).trained n.val m.ahi.toNat m.alo.toNat := by
  simp only [State.trainMsg, h, Bool.not_true, Bool.false_eq_true, if_false, State.backHeard_training ht, State.goodOn_lane, ht, ne_eq,
    not_true_eq_false, hp, hm, if_true]

end

/-! ### The end of an attempt (R330, R332, R342) -/

theorem pow_le_ten_mul {a b : Nat} (h : a ≤ b) (k : Nat) : a ^ k ≤ 10 * b ^ k :=
  Nat.le_trans (Nat.pow_le_pow_left h k) (Nat.le_mul_of_pos_left _ (by decide))

/-- A loss that the formula gives is recorded (R342). -/
theorem State.setLoss_given {ahi alo : Nat} (h0 : 0 < ahi) (hle : ahi ≤ alo) (n : Nat) (s : State) :
    s.setLoss n ahi alo = s.setLane n (fun k => { k with loss := lossOf ahi alo 963 }) := by
  exact if_pos ⟨h0, pow_le_ten_mul hle 400⟩

/-- What the claims about the end of an attempt follow of a lane. -/
def Lane.rateView (l : Lane) : LaneSt × Bool × Bool × Nat := (l.st, l.full, l.up, l.loss)

theorem State.lockBack_rateView (n : Fin 16) (s : State) : (vget (s.lockBack n.val).fly n.val).rateView = (vget s.fly n.val).rateView := by
  simp only [State.lockBack]
  split
  · rw [State.resolve_fly, State.setLane_lane]; rfl
  · rfl

/-- The lane is IDLE at FULL, its loss recorded (Table 7.8 step 7). -/
theorem State.trained_lane {n : Fin 16} {ahi alo loss : Nat} {s : State}
    (hs : s.setLoss n.val ahi alo = s.setLane n.val (fun k => { k with loss := loss })) :
    (vget (s.trained n.val ahi alo).fly n.val).st = .idle ∧ (vget (s.trained n.val ahi alo).fly n.val).full = true ∧
    (vget (s.trained n.val ahi alo).fly n.val).up = true ∧ (vget (s.trained n.val ahi alo).fly n.val).loss = loss := by
  have hv : (vget (s.trained n.val ahi alo).fly n.val).rateView = (.idle, true, true, loss) := by
    rw [State.trained, hs, State.retrainCheck_fly, State.lockBack_rateView, State.raise0_fly, State.setLane_lane, State.setLane_lane]
    rfl
  exact ⟨congrArg (·.1) hv, congrArg (·.2.1) hv, congrArg (·.2.2.1) hv, congrArg (·.2.2.2) hv⟩

/-- `s` with the attempt of lane n failed: counted, FALLBACK sent, and the lane started blind behind it (R330, R332). -/
def State.attemptFailed (n : Nat) (s : State) : State :=
  (((s.setLane n (fun l => { l with trainfail := satAdd l.trainfail 1 })).raise0 0x188 n 0).laneBlind n).setLane n (fun l => { l with
    tail := (s.fallback n).1, baseAt := (s.fallback n).2, fills := [{ due := (s.fallback n).2, kind := .idle, done := 0 }] })

/-- A lane that has started blind at an instant (R328). -/
structure Lane.BlindAt (now : Nat) (l : Lane) : Prop where
  idle : l.st = .idle
  limp : l.full = false
  notUp : l.up = false
  unlocked : l.bclock = false
  start : l.startedAt = now

theorem State.laneBlind_blindAt (n : Fin 16) (s : State) : (vget (s.laneBlind n.val).fly n.val).BlindAt s.clk.dtime := by
  rw [State.laneBlind, State.setLane_lane]
  exact ⟨rfl, rfl, rfl, rfl, rfl⟩

/-- What a blind start keeps of a lane, as far as the claims follow it. -/
def Lane.keptView (l : Lane) : Nat × Byte × Bool × Bool × Byte × Byte := (l.attempt, l.trainfail, l.rxInv, l.kaShown, l.mslip, l.mslipSeen)

theorem State.laneBlind_keptView (n : Fin 16) (s : State) :
    (vget (s.laneBlind n.val).fly n.val).keptView = (vget s.fly n.val).keptView := by
  rw [State.laneBlind, State.setLane_lane]; rfl

theorem State.attemptFailed_blindAt (n : Fin 16) (s : State) : (vget (s.attemptFailed n.val).fly n.val).BlindAt s.clk.dtime := by
  have hb := State.laneBlind_blindAt n ((s.setLane n.val (fun l => { l with trainfail := satAdd l.trainfail 1 })).raise0 0x188 n.val 0)
  rw [State.raise0_clk] at hb
  rw [State.attemptFailed, State.setLane_lane]
  exact ⟨hb.idle, hb.limp, hb.notUp, hb.unlocked, hb.start⟩

theorem State.attemptFailed_lane (n : Fin 16) (s : State) :
    (vget (s.attemptFailed n.val).fly n.val).trainfail = satAdd (vget s.fly n.val).trainfail 1 ∧
    (vget (s.attemptFailed n.val).fly n.val).attempt = (vget s.fly n.val).attempt ∧
    (vget (s.attemptFailed n.val).fly n.val).tail = (s.fallback n.val).1 ∧
    (vget (s.attemptFailed n.val).fly n.val).baseAt = (s.fallback n.val).2 := by
  have hk := State.laneBlind_keptView n ((s.setLane n.val (fun l => { l with trainfail := satAdd l.trainfail 1 })).raise0 0x188 n.val 0)
  rw [State.raise0_fly, State.setLane_lane] at hk
  rw [State.attemptFailed, State.setLane_lane]
  exact ⟨congrArg (·.2.1) hk, congrArg (·.1) hk, rfl, rfl⟩

/-- The third attempt that fails takes the active RATE to LIMP (R330, R332). -/
theorem State.trainFail_eq (n : Fin 16) (s : State) : s.trainFail n.val =
    if (vget s.fly n.val).attempt < 3 then s.attemptFailed n.val
    else ((((s.attemptFailed n.val).hwClr (laneAddr n.val) 2).raise0 0x181 n.val 0).resolve 0x183 n.val).retrainCheck := by
  obtain ⟨-, ha, -, -⟩ := s.attemptFailed_lane n
  rw [← ha]
  rfl

theorem State.trainTimeout_due {s : State} {n : Nat} (h : s.laneOn n = true) (ht : (vget s.fly n).st = .training)
    (hd : (vget s.fly n).phaseDue ≤ s.clk.dtime) : s.trainTimeout n = s.trainFail n := by
  simp only [State.trainTimeout, h, ht, hd, and_self, decide_true, Bool.and_self, if_true]

/-! ### The end of a countdown (Table 7.8 step 2) -/

/-- Of effects on one lane each, a part of the state that concerns lane n alone sees that on lane n. -/
theorem iter_at {α : Type} (p : State → α) {f : Nat → State → State} {n k : Nat} (h : ∀ m s, m ≠ n → p (f m s) = p s) (hn : n < k) (s : State) :
    ∃ u, p u = p s ∧ p (iter f k s) = p (f n u) := by
  induction k with
  | zero => exact absurd hn (Nat.not_lt_zero n)
  | succ k ih =>
    by_cases hk : n = k
    · subst hk
      exact ⟨iter f n s, iter_keeps (P := fun u => p u = p s) rfl (fun m hm b hb => (h m b (Nat.ne_of_lt hm)).trans hb), rfl⟩
    · obtain ⟨u, hu, hf⟩ := ih (by omega)
      exact ⟨u, hu, (h k _ (Ne.symm hk)).trans hf⟩

/-- What the end of a countdown brings lane n. -/
def State.countedDown (n : Nat) (s : State) : State :=
  match (vget s.fly n).countAt with
  | some t =>
    if (vget s.fly n).st = .training ∧ t ≤ 1000 * s.clk.dtime then
      (if (vget s.fly n).phase = 1 && (vget s.fly n).acked then s.laneFull n t else if (vget s.fly n).phase = 3 then s.lanePrecode n t else s)
    else s
  | none => s

theorem State.countdowns_eq {s : State} (h : s.ens.ovr = false) : s.countdowns = iter State.countedDown 16 s := by
  simp only [State.countdowns, h, Bool.false_eq_true, if_false, decide_eq_true_eq]
  rfl

/-- The lane, the word of its preset taps, and the time. -/
def State.tapView (n : Nat) (s : State) : Lane × Word × Clock := (vget s.fly n, s.actW (laneAddr n + 1), s.clk)

/-- PHASE 4 after precoding sets no bit of TXEQ: its event has a PEND bit only. -/
theorem State.lanePrecode_tapView {m : Nat} {n : Fin 16} (hm : m ≠ n.val) (t : Nat) (s : State) :
    (s.lanePrecode m t).tapView n.val = s.tapView n.val := by
  have hp : laneAddr n.val + 1 ≠ pendAddr 0x18C := by
    have hn := n.isLt
    simp only [laneAddr, pendAddr, srcBlock, srcIdx]
    omega
  have he : ∀ b k, evtBit 0x18C m = some (b, k) → laneAddr n.val + 1 ≠ b := fun b k h => nomatch h
  rw [State.tapView, State.lanePrecode, State.raise0_fly, State.setLane_other n.isLt hm.symm, State.raise0_actW_other hp he, State.raise0_clk]
  rfl

theorem State.countedDown_other {m : Nat} {n : Fin 16} (hm : m ≠ n.val) (s : State) :
    (s.countedDown m).tapView n.val = s.tapView n.val := by
  have hf (t : Nat) : (s.laneFull m t).tapView n.val = s.tapView n.val := by
    rw [State.tapView, State.laneFull, State.setLane_other n.isLt hm.symm]
    rfl
  unfold State.countedDown
  split
  · simp only [apply_ite (State.tapView n.val), hf, State.lanePrecode_tapView hm, ite_self]
  · rfl

/-- COUNT 0 of an acknowledged PHASE 1 has left: the lane is at FULL, its blocks begin anew there, with the preset taps. -/
theorem State.countdowns_full {s : State} {n : Fin 16} {c : Nat} (ho : s.ens.ovr = false) (ht : (vget s.fly n.val).st = .training)
    (hp : (vget s.fly n.val).phase = 1) (ha : (vget s.fly n.val).acked = true) (hc : (vget s.fly n.val).countAt = some c)
    (hd : c ≤ 1000 * s.clk.dtime) : ∃ u : State, u.tapView n.val = s.tapView n.val ∧
      vget s.countdowns.fly n.val = vget (u.laneFull n.val c).fly n.val := by
  obtain ⟨u, hu, hn⟩ := iter_at (State.tapView n.val) (fun m z hm => State.countedDown_other hm z) n.isLt s
  obtain ⟨hl, hw⟩ := Prod.mk.inj hu
  obtain ⟨-, hk⟩ := Prod.mk.inj hw
  have hf : u.countedDown n.val = u.laneFull n.val c := by
    simp only [State.countedDown, hl, hk, hc, ht, hd, hp, ha, and_self, decide_true, Bool.and_self, if_true]
  rw [hf] at hn
  rw [State.countdowns_eq ho]
  exact ⟨u, hu, (Prod.mk.inj hn).1⟩

/-- Settles O40: a message by the phase it meets, a missed bound by what the failed attempt leaves, the countdown by its lane's view. -/
theorem laneTraining : Obligations.LaneTraining := by
  refine ⟨?_, fun s n c w k ho ht hp ha hc hd hw hk => ?_⟩
  · rintro t n s x g l rfl rfl h ht rfl
    have hg : ((s.advance t).backGood n.val).checked n.val = (s.advance t).goodOn n.val := rfl
    refine ⟨fun m c hp hc => ⟨fun hm hb => ?_, fun hm => ?_⟩, fun m z hp hs hr => ?_, fun m hp hm h0 hle => ?_, fun hd => ?_⟩
    · rw [exec, execTrainMessage, occur_eq, State.trainMsg_phase1 h ht hp hc, if_pos ⟨hm, hb⟩, hg]
    · rw [exec, execTrainMessage, occur_eq, State.trainMsg_phase1 h ht hp hc, if_neg (by omega), hg]
    · have hz : z = ((s.advance t).goodOn n.val).laneTaps n.val m := by
        by_cases hm : m.rseq = (vget (s.advance t).fly n.val).rseq
        · rw [hs hm, State.laneTaps_same hm, hg]
        · obtain ⟨a, b, c, st, hq, hk⟩ := hr hm
          rw [hk, State.laneTaps_moves hm hq, hp, hg]
      have hx : exec (.trainMessage t n m) s = .next ((s.advance t).trainMsg n.val m).finish := rfl
      rw [hx, State.trainMsg_phase2 h ht hp, ← hz]
      refine ⟨fun h0 => by rw [h0]; rfl, fun h0 y hy => ⟨fun h1 => ?_, fun h1 h2 => ?_, fun h1 h2 h3 => ?_⟩⟩
      all_goals obtain rfl : y = z.lockNoted n.val (vget (s.advance t).fly n.val) := hy
      · rw [if_pos h0, h1]; rfl
      · rw [if_pos h0, if_pos h1, Bool.and_eq_false_iff.mpr h2, if_neg Bool.false_ne_true, State.phase4Begun]
      · rw [if_pos h0, if_pos h1, h2, h3, Bool.and_self, if_pos rfl, State.phase3Begun_eq]
    · exact ⟨_, by rw [exec, execTrainMessage, occur_eq, State.trainMsg_phase4 h ht hp hm],
        State.trained_lane (State.setLoss_given h0 hle n.val ((s.advance t).goodOn n.val))⟩
    · have hb := (s.advance t).attemptFailed_blindAt n
      obtain ⟨hf, -, htail, hbase⟩ := (s.advance t).attemptFailed_lane n
      refine ⟨(s.advance t).attemptFailed n.val, hf, hb.idle, hb.limp, hb.notUp, hb.start, htail, hbase, fun ha => ?_, fun ha => ?_⟩
      · rw [exec, execFlyTrainingTimeout, occur_eq, State.trainTimeout_due h ht hd, State.trainFail_eq, if_pos ha]
      · rw [exec, execFlyTrainingTimeout, occur_eq, State.trainTimeout_due h ht hd, State.trainFail_eq, if_neg (Nat.not_lt.mpr ha)]
  · obtain ⟨u, hu, hf⟩ := State.countdowns_full ho ht hp ha hc hd
    obtain ⟨hl, hu'⟩ := Prod.mk.inj hu
    obtain ⟨ha', -⟩ := Prod.mk.inj hu'
    have hw' : w = u.act (laneAddr n.val + 1) := by rw [hw, State.act, State.act, ha']
    rw [← hl] at ht ⊢
    rw [hk, hf, hw', State.laneFull, State.setLane_lane]
    exact ⟨ht, rfl, rfl, rfl, rfl, rfl, rfl, rfl, rfl, rfl, rfl⟩

end Sys2Proof.Machine
end

section
/-! STATUS of a lane, and frames of the backchannel that are discarded: polarity, the conditions of a lane, its loss. -/

namespace Sys2Proof.Machine

/-! ### The conditions of a fault (R482) -/

/-- A fault is active with its condition present on an instance. -/
def State.HasCond (s : State) (code inst : Nat) : Prop := ∃ a ∈ s.flt.active, a.code = code ∧ inst ∈ a.conds

theorem State.present_hasCond (s : State) (code cls inst data : Nat) (seen : Bool) : (s.present code cls inst data seen).1.HasCond code inst := by
  unfold State.present
  split
  · rename_i a ha
    have hc : a.code = code := by simpa using List.find?_some ha
    refine ⟨_, List.mem_map_of_mem (List.mem_of_find?_eq_some ha), ?_⟩
    rw [if_pos hc]
    refine ⟨hc, ?_⟩
    show inst ∈ if a.conds.contains inst then a.conds else a.conds ++ [inst]
    split
    · rename_i h; exact List.contains_iff_mem.mp h
    · simp
  · exact ⟨_, List.mem_append_right _ (List.mem_singleton_self _), rfl, List.mem_singleton_self _⟩

/-- What a raise shows of one fault leaves the conditions of the others alone. -/
theorem State.present_hasCond_other {code c : Nat} (h : c ≠ code) (s : State) (cls inst data : Nat) (seen : Bool) (k : Nat) :
    (s.present code cls inst data seen).1.HasCond c k ↔ s.HasCond c k := by
  unfold State.present
  split
  · constructor
    · rintro ⟨a, ha, hc, hk⟩
      obtain ⟨b, hb, rfl⟩ := List.mem_map.mp ha
      by_cases hbc : b.code = code
      · rw [if_pos hbc] at hc; exact absurd (hc.symm.trans hbc) h
      · rw [if_neg hbc] at hc hk; exact ⟨b, hb, hc, hk⟩
    · rintro ⟨b, hb, hc, hk⟩
      refine ⟨b, ?_, hc, hk⟩
      exact List.mem_map.mpr ⟨b, hb, if_neg (fun e => h (hc.symm.trans e))⟩
  · constructor
    · rintro ⟨a, ha, hc, hk⟩
      rcases List.mem_append.mp ha with ha | ha
      · exact ⟨a, ha, hc, hk⟩
      · obtain rfl := List.mem_singleton.mp ha
        exact absurd hc.symm h
    · rintro ⟨a, ha, hc, hk⟩
      exact ⟨a, List.mem_append_left _ ha, hc, hk⟩

theorem State.hasCond_congr {s u : State} (h : s.flt.active = u.flt.active) (c k : Nat) : s.HasCond c k ↔ u.HasCond c k := by
  rw [State.HasCond, State.HasCond, h]

/-- A raised fault has its condition (R482). -/
theorem State.raise0_hasCond {code cls : Nat} (hc : faultClass code = some cls) (inst data : Nat) (s : State) :
    (s.raise0 code inst data).HasCond code inst := by
  have hp := (s.setPend code inst).present_hasCond code cls inst data true
  simp only [State.raise0, hc]
  split
  · exact (State.hasCond_congr (by simp) _ _).mp hp
  · exact (State.hasCond_congr (by simp) _ _).mp hp

/-- A raise leaves the conditions of the other faults alone. -/
theorem State.raise0_hasCond_other {code c : Nat} (h : c ≠ code) (inst data k : Nat) (s : State) :
    (s.raise0 code inst data).HasCond c k ↔ s.HasCond c k := by
  simp only [State.raise0]
  split
  · exact State.hasCond_congr (by simp) _ _
  · rename_i cls hcls
    have hp := (s.setPend code inst).present_hasCond_other h cls inst data true k
    have hs : (s.setPend code inst).HasCond c k ↔ s.HasCond c k := State.hasCond_congr (by simp) _ _
    split
    · exact (State.hasCond_congr (by simp) _ _).trans (hp.trans hs)
    · exact (State.hasCond_congr (by simp) _ _).trans (hp.trans hs)

theorem State.resolve_not_hasCond (s : State) (code inst : Nat) : ¬ (s.resolve code inst).HasCond code inst :=
  fun ⟨_, ha, hc, hk⟩ => State.resolve_conds ha hc hk

theorem State.not_hasCond {s : State} {code inst : Nat} (h : ¬ s.HasCond code inst) : ∀ a ∈ s.flt.active, a.code = code → inst ∉ a.conds :=
  fun a ha hc hk => h ⟨a, ha, hc, hk⟩

/-! ### Frames and their polarity (R320, R633) -/

theorem flipBytes_flipBytes (l : List Byte) : flipBytes (flipBytes l) = l := by
  simp [flipBytes, Function.comp_def]

theorem ofLe_le_two {v : Nat} (h : v < 65536) : ofLe (le 2 v) = v := by
  simp only [le, ofLe, BitVec.toNat_ofNat]
  omega

/-- A frame as R320 forms it passes its checks. -/
theorem backCrcOk_backFrame {type : Nat} (ht : type < 256) (n : Nat) (payload : List Byte) : backCrcOk n (backFrame n type payload) = true := by
  have hp : ((payload ++ List.replicate 8 0).take 8).length = 8 := by simp
  have hf (p : List Byte) (h : p.length = 8) :
      backCrcOk n (le 1 0xB5 ++ le 1 type ++ p ++ le 2 (backCrc n type p).toNat) = true := by
    obtain ⟨a, b, c, d, e, f, g, i, rfl⟩ : ∃ a b c d e f g i, p = [a, b, c, d, e, f, g, i] := by
      match p, h with
      | [a, b, c, d, e, f, g, i], _ => exact ⟨a, b, c, d, e, f, g, i, rfl⟩
    have h1 : leAt (le 1 0xB5 ++ le 1 type ++ [a, b, c, d, e, f, g, i] ++ le 2 (backCrc n type [a, b, c, d, e, f, g, i]).toNat) 1 1 = type := by
      show (BitVec.ofNat 8 type).toNat + 256 * 0 = type
      rw [BitVec.toNat_ofNat]; omega
    have h10 : leAt (le 1 0xB5 ++ le 1 type ++ [a, b, c, d, e, f, g, i] ++ le 2 (backCrc n type [a, b, c, d, e, f, g, i]).toNat) 10 2
        = (backCrc n type [a, b, c, d, e, f, g, i]).toNat := ofLe_le_two (backCrc n type [a, b, c, d, e, f, g, i]).isLt
    rw [backCrcOk, h1, h10]
    exact decide_eq_true ⟨rfl, rfl, rfl⟩
  exact hf _ hp

/-- The polarity in which a frame arrives is found at LIMP and kept at FULL (R633). -/
theorem Lane.polarity_backFrame {type : Nat} (ht : type < 256) (n : Nat) (payload : List Byte) (inv : Bool) (l : Lane) :
    l.polarity n (if inv then flipBytes (backFrame n type payload) else backFrame n type payload) = if l.full then l.rxInv else inv := by
  have hok := backCrcOk_backFrame ht n payload
  cases hf : l.full with
  | true => simp only [Lane.polarity, hf, if_true]
  | false =>
    have h0 : leAt (backFrame n type payload) 0 1 = 0xB5 := rfl
    have h4 : leAt (flipBytes (backFrame n type payload)) 0 1 = 0x4A := rfl
    cases inv with
    | true => simp [Lane.polarity, hf, h4, flipBytes_flipBytes, hok]
    | false => simp [Lane.polarity, hf, h0, hok]

/-! ### A lane in use that is lost (R333) -/

theorem State.laneLost_eq (n : Nat) (s : State) :
    s.laneLost n = ((s.raise0 0x183 n 0).setLane n (fun l => { l with attempt := 0 })).laneBlind n := rfl

theorem State.laneLost_blindAt (n : Fin 16) (s : State) : (vget (s.laneLost n.val).fly n.val).BlindAt s.clk.dtime := by
  have hb := State.laneBlind_blindAt n ((s.raise0 0x183 n.val 0).setLane n.val (fun l => { l with attempt := 0 }))
  rwa [State.setLane_clk, State.raise0_clk] at hb

theorem State.laneLost_keptView (n : Fin 16) (s : State) :
    (vget (s.laneLost n.val).fly n.val).keptView = { vget s.fly n.val with attempt := 0 }.keptView := by
  rw [State.laneLost_eq, State.laneBlind_keptView, State.setLane_lane, State.raise0_fly]

/-- What STATUS shows of a lane beyond its LOCK: its polarity, KASHOWN and the slips. -/
def Lane.statusView (l : Lane) : Bool × Bool × Byte × Byte := (l.rxInv, l.kaShown, l.mslip, l.mslipSeen)

theorem State.laneLost_attempt (n : Fin 16) (s : State) : (vget (s.laneLost n.val).fly n.val).attempt = 0 :=
  congrArg (·.1) (s.laneLost_keptView n)

theorem State.laneLost_statusView (n : Fin 16) (s : State) :
    (vget (s.laneLost n.val).fly n.val).statusView = (vget s.fly n.val).statusView :=
  congrArg (·.2.2) (s.laneLost_keptView n)

theorem State.laneLost_hasCond (n : Nat) (s : State) : (s.laneLost n).HasCond 0x183 n :=
  State.raise0_hasCond rfl n 0 s

theorem State.laneLost_hasCond_other {c : Nat} (h : c ≠ 0x183) (n k : Nat) (s : State) : (s.laneLost n).HasCond c k ↔ s.HasCond c k :=
  State.raise0_hasCond_other h n 0 k s

/-- Whether or not a lane is lost for want of LOCK. -/
theorem State.ite_laneLost_statusView (n : Fin 16) (lock : Bool) (s : State) :
    (vget (if lock then s else s.laneLost n.val).fly n.val).statusView = (vget s.fly n.val).statusView := by
  cases lock with
  | true => rfl
  | false => exact s.laneLost_statusView n

theorem State.ite_laneLost_hasCond {c : Nat} (h : c ≠ 0x183) (n k : Nat) (lock : Bool) (s : State) :
    (if lock then s else s.laneLost n).HasCond c k ↔ s.HasCond c k := by
  cases lock with
  | true => rfl
  | false => exact s.laneLost_hasCond_other h n k

/-! ### STATUS_MESSAGE (R309, R310, R333) -/

/-- The slips that MSLIP shows since the last message: it counts modulo nothing, from 0 at the engine's start (R310). -/
def slipsSince (seen mslip : Byte) : Nat := if seen.toNat ≤ mslip.toNat then mslip.toNat - seen.toNat else mslip.toNat

/-- `s` with the flags of a STATUS noted on lane n. -/
def State.flagsNoted (n : Nat) (f : Byte) (frame : List Byte) (s : State) : State :=
  s.setLane n (fun l => { l with block := f.getLsbD 0, kaShown := f.getLsbD 3, mis := f.getLsbD 1, rxInv := l.polarity n frame })

/-- `s` with LANEMIS judged, which read `was` before (R309). -/
def State.misJudged (n : Nat) (mis was : Bool) (s : State) : State :=
  if mis then (if was then s else s.raise0 0x184 n 0) else s.resolve 0x184 n

/-- `s` with the slips counted (R310). -/
def State.slipsCounted (n : Nat) (seen k : Byte) (s : State) : State :=
  let s := s.setLane n (fun l => { l with mslip := satAdd l.mslip (slipsSince seen k), mslipSeen := k })
  if 0 < slipsSince seen k then s.raise0 0x185 n 0 else s

/-- `s` with all that a STATUS says noted on lane n, before its LOCK is acted upon. -/
def State.statusNoted (n : Nat) (f k : Byte) (frame : List Byte) (s : State) : State :=
  ((s.flagsNoted n f frame).misJudged n (f.getLsbD 1) (vget s.fly n).mis).slipsCounted n (vget s.fly n).mslipSeen k

/-- LOCK of a STATUS brings a lane up that waited for it, and without it a lane in use is lost (R328, R333). -/
def State.lockActed (n : Nat) (lock : Bool) (l : Lane) (s : State) : State :=
  if s.ens.ovr || !l.runs then s
  else if lock then (if l.up || !l.bclock then s else s.laneUp n)
  else if l.up then s.laneLost n
  else s

/-- The frame of a STATUS as it arrives (R320, R633). -/
def statusFrame (n : Nat) (f k : Byte) (inv : Bool) : List Byte :=
  if inv then flipBytes (backFrame n 7 (le 1 f.toNat ++ le 1 k.toNat)) else backFrame n 7 (le 1 f.toNat ++ le 1 k.toNat)

theorem State.statusMsg_eq {s : State} {n : Nat} (h : s.backOn n = true) (f k : Byte) (inv : Bool) : s.statusMsg n f.toNat k.toNat inv =
    ((s.goodOn n).statusNoted n f k (statusFrame n f k inv)).lockActed n (f.getLsbD 0) (vget (s.goodOn n).fly n) := by
  have hk : BitVec.ofNat 8 k.toNat = k := by simp
  rw [State.statusMsg, if_neg (State.backOn_hears h)]
  simp only [bit_toNat, hk]
  rfl

@[simp] theorem State.misJudged_ens (n : Nat) (mis was : Bool) (s : State) : (s.misJudged n mis was).ens = s.ens := by
  unfold State.misJudged
  split
  · split <;> simp
  · simp
@[simp] theorem State.misJudged_fly (n : Nat) (mis was : Bool) (s : State) : (s.misJudged n mis was).fly = s.fly := by
  unfold State.misJudged
  split
  · split <;> simp
  · simp
@[simp] theorem State.misJudged_clk (n : Nat) (mis was : Bool) (s : State) : (s.misJudged n mis was).clk = s.clk := by
  unfold State.misJudged
  split
  · split <;> simp
  · simp

theorem State.slipsCounted_clk (n : Nat) (seen k : Byte) (s : State) : (s.slipsCounted n seen k).clk = s.clk := by
  simp only [State.slipsCounted, apply_ite State.clk, State.raise0_clk, State.setLane_clk, ite_self]
theorem State.statusNoted_clk (n : Nat) (f k : Byte) (frame : List Byte) (s : State) : (s.statusNoted n f k frame).clk = s.clk := by
  rw [State.statusNoted, State.slipsCounted_clk, State.misJudged_clk, State.flagsNoted, State.setLane_clk]
theorem State.slipsCounted_ens (n : Nat) (seen k : Byte) (s : State) : (s.slipsCounted n seen k).ens = s.ens := by
  simp only [State.slipsCounted, apply_ite State.ens, State.raise0_ens, State.setLane_ens, ite_self]
theorem State.statusNoted_ens (n : Nat) (f k : Byte) (frame : List Byte) (s : State) : (s.statusNoted n f k frame).ens = s.ens := by
  rw [State.statusNoted, State.slipsCounted_ens, State.misJudged_ens, State.flagsNoted, State.setLane_ens]

/-- On a lane in use LOCK changes nothing, and without it the lane is lost (R333). -/
theorem State.lockActed_inUse {s : State} {l : Lane} (ho : s.ens.ovr = false) (hr : l.runs = true) (hu : l.up = true) (n : Nat) (lock : Bool) :
    s.lockActed n lock l = if lock then s else s.laneLost n := by
  simp only [State.lockActed, ho, hr, hu, Bool.not_true, Bool.or_self, Bool.true_or, Bool.false_eq_true, if_false, if_true]

theorem State.slipsCounted_lane (n : Fin 16) (seen k : Byte) (s : State) : vget (s.slipsCounted n.val seen k).fly n.val =
    { vget s.fly n.val with mslip := satAdd (vget s.fly n.val).mslip (slipsSince seen k), mslipSeen := k } := by
  simp only [State.slipsCounted, apply_ite State.fly, State.raise0_fly, ite_self, State.setLane_lane]

theorem State.statusNoted_lane (n : Fin 16) (f k : Byte) (frame : List Byte) (s : State) : vget (s.statusNoted n.val f k frame).fly n.val =
    { vget s.fly n.val with
      block := f.getLsbD 0, kaShown := f.getLsbD 3, mis := f.getLsbD 1, rxInv := (vget s.fly n.val).polarity n.val frame
      mslip := satAdd (vget s.fly n.val).mslip (slipsSince (vget s.fly n.val).mslipSeen k), mslipSeen := k } := by
  rw [State.statusNoted, State.slipsCounted_lane, State.misJudged_fly, State.flagsNoted, State.setLane_lane]

theorem State.slipsCounted_hasCond {c : Nat} (h : c ≠ 0x185) (n : Nat) (seen k : Byte) (i : Nat) (s : State) :
    (s.slipsCounted n seen k).HasCond c i ↔ s.HasCond c i := by
  simp only [State.slipsCounted]
  split
  · exact State.raise0_hasCond_other h n 0 i _
  · exact Iff.rfl

/-- LANEMIS raises FLY_LANEID, and its absence resolves it (R309). -/
theorem State.statusNoted_hasCond {n : Nat} {f : Byte} {s : State} (hf : f.getLsbD 1 = true) (hm : (vget s.fly n).mis = false) (k : Byte)
    (frame : List Byte) : (s.statusNoted n f k frame).HasCond 0x184 n := by
  rw [State.statusNoted, State.slipsCounted_hasCond (by decide), hf, hm]
  exact State.raise0_hasCond (code := 0x184) (cls := clsL) rfl n 0 _

theorem State.statusNoted_not_hasCond {n : Nat} {f : Byte} {s : State} (hf : f.getLsbD 1 = false) (k : Byte) (frame : List Byte) :
    ¬ (s.statusNoted n f k frame).HasCond 0x184 n := by
  rw [State.statusNoted, State.slipsCounted_hasCond (by decide), hf]
  exact State.resolve_not_hasCond _ _ _

/-! ### BACKCHANNEL_DISCARD (R321, R633) -/

/-- `s` with a bad message of lane n counted; the one before it belongs to the same run where it came less than 960 ns ago (R321). -/
def State.badCounted (n : Nat) (s : State) : State :=
  (s.setLane n (fun l => { l with
    bcrc := satAdd l.bcrc 1, badRun := if s.clk.dtime < l.runFrom + 960 then l.badRun + 1 else 1, runFrom := s.clk.dtime })).raise0 0x186 n 0

theorem State.badCounted_lane (n : Fin 16) (s : State) : vget (s.badCounted n.val).fly n.val =
    { vget s.fly n.val with
      bcrc := satAdd (vget s.fly n.val).bcrc 1
      badRun := if s.clk.dtime < (vget s.fly n.val).runFrom + 960 then (vget s.fly n.val).badRun + 1 else 1, runFrom := s.clk.dtime } := by
  rw [State.badCounted, State.raise0_fly, State.setLane_lane]

/-- `s` with a bad message counted and the backchannel of lane n no longer locked. -/
def State.badUnlocked (n : Nat) (s : State) : State := (s.badCounted n).setLane n (fun l => { l with bclock := false })

theorem State.badUnlocked_lane (n : Fin 16) (s : State) : vget (s.badUnlocked n.val).fly n.val =
    { vget s.fly n.val with
      bcrc := satAdd (vget s.fly n.val).bcrc 1
      badRun := if s.clk.dtime < (vget s.fly n.val).runFrom + 960 then (vget s.fly n.val).badRun + 1 else 1, runFrom := s.clk.dtime
      bclock := false } := by
  rw [State.badUnlocked, State.setLane_lane, State.badCounted_lane]

theorem State.badUnlocked_clk (n : Nat) (s : State) : (s.badUnlocked n).clk = s.clk := by
  rw [State.badUnlocked, State.setLane_clk, State.badCounted, State.raise0_clk, State.setLane_clk]

section
variable {s : State} {n : Fin 16}

/-- A bad message that is not the fourth in a row, or on a backchannel that is not locked, is counted only. -/
theorem State.backBad_counts (h : (vget s.fly n.val).bclock = false ∨ (vget (s.badCounted n.val).fly n.val).badRun < 4) :
    s.backBad n.val = s.badCounted n.val := by
  have hl : (vget (s.badCounted n.val).fly n.val).bclock = (vget s.fly n.val).bclock := by rw [State.badCounted_lane]
  refine if_neg ?_
  show ¬ ((vget (s.badCounted n.val).fly n.val).bclock && decide (4 ≤ (vget (s.badCounted n.val).fly n.val).badRun)) = true
  rw [hl, Bool.and_eq_true, decide_eq_true_eq]
  rintro ⟨hb, h4⟩
  rcases h with h | h
  · exact Bool.false_ne_true (h.symm.trans hb)
  · omega

/-- The fourth bad message in a row unlocks the backchannel; an attempt at FULL has failed, and a lane in use is lost (R321, R330, R333). -/
theorem State.backBad_unlocks (hb : (vget s.fly n.val).bclock = true) (h4 : 4 ≤ (vget (s.badCounted n.val).fly n.val).badRun) :
    s.backBad n.val =
      if s.ens.ovr then s.badUnlocked n.val
      else if (vget s.fly n.val).st = .training then
        if (vget s.fly n.val).full then (s.badUnlocked n.val).trainFail n.val else s.badUnlocked n.val
      else if (vget s.fly n.val).up then (s.badUnlocked n.val).laneLost n.val
      else s.badUnlocked n.val := by
  have hl := s.badCounted_lane n
  have hc : ((vget (s.badCounted n.val).fly n.val).bclock && decide (4 ≤ (vget (s.badCounted n.val).fly n.val).badRun)) = true := by
    rw [decide_eq_true h4, hl, hb]; rfl
  have ho : (s.badUnlocked n.val).ens = s.ens := by
    rw [State.badUnlocked, State.setLane_ens, State.badCounted, State.raise0_ens, State.setLane_ens]
  refine (if_pos hc).trans ?_
  show (if (s.badUnlocked n.val).ens.ovr then s.badUnlocked n.val
    else if (vget (s.badCounted n.val).fly n.val).st = .training then
      if (vget (s.badCounted n.val).fly n.val).full then (s.badUnlocked n.val).trainFail n.val else s.badUnlocked n.val
    else if (vget (s.badCounted n.val).fly n.val).up then (s.badUnlocked n.val).laneLost n.val
    else s.badUnlocked n.val) = _
  rw [ho, hl]

end

theorem State.trainFail_fly (n : Fin 16) (s : State) : (s.trainFail n.val).fly = (s.attemptFailed n.val).fly := by
  rw [State.trainFail_eq]
  split
  · rfl
  · rw [State.retrainCheck_fly, State.resolve_fly, State.raise0_fly, State.hwClr_fly]

/-- `s` with the frame's check by unit n made, where it has the length and SYNC of one (R596, R597). -/
def State.frameChecked (n : Nat) (f : List Byte) (s : State) : State :=
  if f.length = 12 ∧ leAt f 0 1 = 0xB5 then
    (s.unitCheck n n (BitVec.ofNat 32 (leAt f 10 2)) (BitVec.ofNat 32 (backCrc n (leAt f 1 1) ((f.drop 2).take 8)).toNat)).2
  else s

/-- A check by a Fly unit concerns no lane, not the time, and not the Ensign. -/
theorem State.frameChecked_same (n : Fin 16) (f : List Byte) (s : State) : (s.frameChecked n.val f).fly = s.fly ∧
    (s.frameChecked n.val f).clk = s.clk ∧ (s.frameChecked n.val f).ens = s.ens := by
  unfold State.frameChecked
  split
  · rw [State.unitCheck_fly n.isLt]
    split
    · exact ⟨rfl, rfl, rfl⟩
    · simp [State.unitFailed]
  · exact ⟨rfl, rfl, rfl⟩

section
variable {s : State} {n : Nat} (h : s.backOn n = true) {b f : List Byte} {i : Bool} (hi : i = (vget s.fly n).polarity n b)
  (hf : f = if i then flipBytes b else b)
include h hi hf

theorem State.backDiscard_parses (hp : (backParse n f).isSome = true) :
    s.backDiscard n b = (s.setLane n (fun k => { k with rxInv := i })).backHeard n := by
  subst hi
  subst hf
  simp only [State.backDiscard, if_neg (State.backOn_hears h), hp, if_true]

/-- One of a reserved type is counted, and good for the lock (Table 7.6). -/
theorem State.backDiscard_reserved (hp : (backParse n f).isSome = false) (hc : backCrcOk n f = true) : s.backDiscard n b =
    (((s.setLane n (fun k => { k with rxInv := i })).setLane n (fun k => { k with bcrc := satAdd k.bcrc 1 })).raise0 0x186 n 0).backHeard n := by
  subst hi
  subst hf
  simp only [State.backDiscard, if_neg (State.backOn_hears h), hp, hc, Bool.false_eq_true, if_false, if_true]

theorem State.backDiscard_bad (hp : (backParse n f).isSome = false) (hc : backCrcOk n f = false) :
    s.backDiscard n b = ((s.setLane n (fun k => { k with rxInv := i })).frameChecked n f).backBad n := by
  subst hi
  subst hf
  simp only [State.backDiscard, if_neg (State.backOn_hears h), hp, hc, Bool.false_eq_true, if_false]
  rfl

end

/-- Settles O41: STATUS by what it notes and how its LOCK is acted upon, a discarded frame by whether it parses and its CRC is good. -/
theorem laneStatus : Obligations.LaneStatus := by
  rintro t n s x l rfl rfl h
  refine ⟨fun f k inv hr hu ho => ?_, ?_⟩
  · have hl := (s.advance t).goodOn_lane n
    have hn := ((s.advance t).goodOn n.val).statusNoted_lane n f k (statusFrame n.val f k inv)
    have hp : (vget ((s.advance t).goodOn n.val).fly n.val).polarity n.val (statusFrame n.val f k inv) =
        if (vget ((s.advance t).goodOn n.val).fly n.val).full then (vget ((s.advance t).goodOn n.val).fly n.val).rxInv else inv :=
      Lane.polarity_backFrame (by decide) n.val _ inv _
    rw [hp, hl] at hn
    have ho' : (((s.advance t).goodOn n.val).statusNoted n.val f k (statusFrame n.val f k inv)).ens.ovr = false := by
      rw [State.statusNoted_ens]; exact ho
    have hk := ((s.advance t).goodOn n.val).statusNoted_clk n.val f k (statusFrame n.val f k inv)
    have hm : (vget ((s.advance t).goodOn n.val).fly n.val).mis = (vget (s.advance t).fly n.val).mis := by rw [hl]
    have hc1 (hf : f.getLsbD 1 = true) (h0 : (vget (s.advance t).fly n.val).mis = false) :=
      State.statusNoted_hasCond hf (hm.trans h0) k (statusFrame n.val f k inv)
    have hc0 (hf : f.getLsbD 1 = false) :=
      State.statusNoted_not_hasCond (n := n.val) (s := (s.advance t).goodOn n.val) hf k (statusFrame n.val f k inv)
    have ha := State.lockActed_inUse ho' (l := vget ((s.advance t).goodOn n.val).fly n.val) (by rw [hl]; exact hr) (by rw [hl]; exact hu)
      n.val (f.getLsbD 0)
    refine ⟨_, by rw [exec, execStatusMessage, occur_eq, State.statusMsg_eq h, ha], ?_⟩
    generalize ((s.advance t).goodOn n.val).statusNoted n.val f k (statusFrame n.val f k inv) = v at hn hk hc1 hc0 ⊢
    have hs := v.ite_laneLost_statusView n (f.getLsbD 0)
    have hb := v.laneLost_blindAt n
    rw [hn] at hs
    refine ⟨congrArg (·.1) hs, congrArg (·.2.1) hs, congrArg (·.2.2.2) hs, congrArg (·.2.2.1) hs, fun hf h0 => ?_, fun hf => ?_, fun hf => ?_,
      fun hf => ?_⟩
    · exact (State.ite_laneLost_hasCond (by decide) n.val n.val _ v).mpr (hc1 hf h0)
    · exact State.not_hasCond (mt (State.ite_laneLost_hasCond (by decide) n.val n.val _ v).mp (hc0 hf))
    · rw [if_pos hf, hn]
      exact ⟨hu, rfl, rfl⟩
    · rw [hf]
      exact ⟨hb.notUp, hb.idle, hb.limp, v.laneLost_attempt n, hb.start.trans (congrArg Clock.dtime hk)⟩
  · rintro b f i y hi hf rfl
    refine ⟨fun hp => ?_, fun hp hc => ?_, fun r k hp hc hr hk => ?_⟩
    · rw [exec, execBackchannelDiscard, occur_eq, State.backDiscard_parses h hi hf hp]
    · rw [exec, execBackchannelDiscard, occur_eq, State.backDiscard_reserved h hi hf hp hc]
    · refine ⟨_, by rw [exec, execBackchannelDiscard, occur_eq, State.backDiscard_bad h hi hf hp hc], ?_⟩
      obtain ⟨hfly, hclk, hens⟩ := ((s.advance t).setLane n.val (fun k => { k with rxInv := i })).frameChecked_same n f
      generalize ((s.advance t).setLane n.val (fun k => { k with rxInv := i })).frameChecked n.val f = w at hfly hclk hens ⊢
      have hl : vget w.fly n.val = { vget (s.advance t).fly n.val with rxInv := i } := by rw [hfly, State.setLane_lane]
      have hbc : vget (w.badCounted n.val).fly n.val = k := by rw [State.badCounted_lane, hl, hk, hr, hclk]; rfl
      have hun : vget (w.badUnlocked n.val).fly n.val = { k with bclock := false } := by rw [State.badUnlocked, State.setLane_lane, hbc]
      have hrun : (vget (w.badCounted n.val).fly n.val).badRun = r := by rw [hbc, hk]
      have hunl (hb : (vget (s.advance t).fly n.val).bclock = true) (h4 : 4 ≤ r) :=
        State.backBad_unlocks (s := w) (n := n) (by rw [hl]; exact hb) (by rw [hrun]; exact h4)
      have hst : (vget w.fly n.val).st = (vget (s.advance t).fly n.val).st := by rw [hl]
      have hfull : (vget w.fly n.val).full = (vget (s.advance t).fly n.val).full := by rw [hl]
      have hup : (vget w.fly n.val).up = (vget (s.advance t).fly n.val).up := by rw [hl]
      have hovr : w.ens.ovr = (s.advance t).ens.ovr := congrArg Ensign.ovr hens
      rw [hst, hfull, hup, hovr] at hunl
      refine ⟨fun hb => ?_, fun hb h4 ho => ?_, fun hb h4 ho ht => ⟨fun hu => ?_, fun hu => ?_⟩, fun hb h4 ho ht => ⟨fun hu => ?_, fun hu => ?_⟩⟩
      · rw [State.backBad_counts (by rw [hl, hrun]; exact hb), hbc]
      · rw [hunl hb h4, if_pos ho, hun]
      · rw [hunl hb h4, if_neg (by simp [ho]), if_neg ht, if_neg (by simp [hu]), hun]
      · have hd := (w.badUnlocked n.val).laneLost_blindAt n
        rw [State.badUnlocked_clk, hclk] at hd
        rw [hunl hb h4, if_neg (by simp [ho]), if_neg ht, if_pos hu]
        exact ⟨hd.notUp, hd.unlocked, hd.idle, hd.limp, State.laneLost_attempt n _, hd.start, State.laneLost_hasCond n.val _⟩
      · rw [hunl hb h4, if_neg (by simp [ho]), if_pos ht, if_neg (by simp [hu]), hun]
      · have hd := (w.badUnlocked n.val).attemptFailed_blindAt n
        obtain ⟨hf, -⟩ := (w.badUnlocked n.val).attemptFailed_lane n
        rw [hunl hb h4, if_neg (by simp [ho]), if_pos ht, if_pos hu, State.trainFail_fly]
        rw [hun, hk] at hf
        exact ⟨hf, hd.idle, hd.limp, hd.notUp⟩

end Sys2Proof.Machine
end

section
/-! Operations of the engine: how an answer ends one, and how it ends without one (R337 to R339, R356). -/

namespace Sys2Proof.Machine

/-! ### The operation that has its answer -/

/-- A change that leaves lane n as it is changes nothing. -/
theorem State.setLane_id {n : Fin 16} {f : Lane → Lane} {s : State} (h : f (vget s.fly n.val) = vget s.fly n.val) : s.setLane n.val f = s := by
  have hv : vmod s.fly n.val f = s.fly := by
    rw [vmod, h, vget_fin]
    refine Vector.ext fun i hi => ?_
    by_cases hk : n.val = i
    · subst hk; simp [vset]
    · simp [vset, hk]
  exact congrArg (fun v => { s with fly := v }) hv

/-- Nothing is sent where nothing waits (R337). -/
theorem State.ctrlPump_idle {n : Fin 16} {s : State} (h : (vget s.fly n.val).ctrlQ = []) : s.ctrlPump n.val = s :=
  iter_id fun _ _ => State.setLane_id (by rw [h])

/-- The end of the one operation of a lane on which none waits. -/
theorem State.ctrlEnd_alone {n : Fin 16} {s : State} {c : Ctrl} (hc : (vget s.fly n.val).ctrl = [c]) (hq : (vget s.fly n.val).ctrlQ = []) :
    s.ctrlEnd n.val c = s.setLane n.val (fun l => { l with ctrl := [], read := if c.use.isRead then none else l.read }) := by
  have he : s.setLane n.val (fun l => { l with
      ctrl := l.ctrl.filter (fun x => x.tag != c.tag), read := if c.use.isRead then none else l.read })
      = s.setLane n.val (fun l => { l with ctrl := [], read := if c.use.isRead then none else l.read }) :=
    State.setLane_congr (by rw [hc]; simp)
  rw [State.ctrlEnd, he]
  exact State.ctrlPump_idle (by rw [State.setLane_lane]; exact hq)

/-- `s` with the one operation of lane n, a read, over. -/
def State.readEnded (n : Nat) (s : State) : State := s.setLane n (fun l => { l with ctrl := [], read := none })

theorem State.ctrlEnd_read {n : Fin 16} {s : State} {c : Ctrl} (hc : (vget s.fly n.val).ctrl = [c]) (hq : (vget s.fly n.val).ctrlQ = [])
    (hr : c.use.isRead = true) : s.ctrlEnd n.val c = s.readEnded n.val := by
  rw [State.ctrlEnd_alone hc hq, hr]
  rfl

@[simp] theorem State.readEnded_eng (n : Nat) (s : State) : (s.readEnded n).eng = s.eng := rfl
@[simp] theorem State.readEnded_chk (n : Nat) (s : State) : (s.readEnded n).chk = s.chk := rfl

theorem State.readEnded_lane (n : Fin 16) (s : State) :
    vget (s.readEnded n.val).fly n.val = { vget s.fly n.val with ctrl := [], read := none } :=
  s.setLane_lane n _

/-- The host's read on lane n ends with a status and its bytes. -/
theorem State.hostReadEnd_waiting {s : State} {id : ReqId} {n : Nat} (h : s.eng.nvRead = some (id, n)) (st : Nat) (b : List Byte) :
    s.hostReadEnd n st b = ({ s with eng := { s.eng with nvRead := none } } : State).answer id st b := by
  simp only [State.hostReadEnd, h, if_true]

/-- A check that no injection falls on passes where the two values agree. -/
theorem State.unitCheck_agrees {s : State} {u : Nat} (h : s.injects u = false) (data : Nat) (v : Word) :
    s.unitCheck u data v v = (true, s.checked u) := by
  simp only [State.unitCheck, h, Bool.false_eq_true, if_false, if_true]
  rfl

section
variable {s : State} {n : Fin 16} {c : Ctrl}

/-! ### CTRLACK (R356) -/

/-- A WAVE that is acknowledged is over. -/
theorem State.ctrlAck_wave (h : s.backOn n.val = true) {tag : Nat} (hc : (vget (s.backHeard n.val).fly n.val).ctrl = [c])
    (ht : c.tag.toNat = tag) (hu : c.use = .wave) (d : BitVec 48) : s.ctrlAck n.val tag 0 d = (s.backHeard n.val).ctrlEnd n.val c := by
  have hr : c.use.isRead = false := by rw [hu]; rfl
  have hd : (CtrlUse.wave).isDropped = false := rfl
  have hf : [c].find? (fun c => c.tag.toNat == tag && !c.use.isRead) = some c := by simp [ht, hr]
  simp only [State.ctrlAck, h, hc, hf, hd, hu, Bool.not_true, Bool.false_eq_true, if_false, ne_eq, not_true_eq_false]

/-! ### NVEND (R338, R339) -/

/-- NVEND with the CRC of the bytes read gives a host's read its data. -/
theorem State.nvEnd_hostRead (h : s.backOn n.val = true) {tag : Nat} (hc : (vget (s.backHeard n.val).fly n.val).ctrl = [c])
    (hq : (vget (s.backHeard n.val).fly n.val).ctrlQ = []) (ht : c.tag.toNat = tag) (hu : c.use = .hostRead) {r : NvRead}
    (hr : (vget (s.backHeard n.val).fly n.val).read = some r) (hl : c.count ≤ r.data.length) (hi : (s.backHeard n.val).injects 20 = false) :
    s.nvEnd n.val tag 0 (crc32 (BitVec.ofNat 32 c.addr) (r.data.take c.count)) =
      (((s.backHeard n.val).readEnded n.val).checked 20).hostReadEnd n.val stOk
        (r.data.take c.count) := by
  have hk : c.use.isRead = true := by rw [hu]; rfl
  have hd : (CtrlUse.hostRead).isDropped = false := rfl
  have hf : [c].find? (fun c => c.tag.toNat == tag && c.use.isRead) = some c := by simp [ht, hk]
  have he := State.ctrlEnd_read hc hq hk
  have hcheck := State.unitCheck_agrees (s := (s.backHeard n.val).readEnded n.val) (u := 20) hi
    c.addr (crc32 (BitVec.ofNat 32 c.addr) (r.data.take c.count))
  have hlen : (r.data.take c.count).length = c.count := List.length_take_of_le hl
  simp only [State.nvEnd, h, hc, hf, hr, he, hd, hcheck, hlen, Bool.not_true, Bool.false_eq_true, if_false, ne_eq, not_true_eq_false,
    decide_true, Bool.and_self, if_true, State.readDone, hu]

/-! ### CTRL_TIMEOUT (R339) -/

theorem State.ctrlTimeout_one (hc : (vget s.fly n.val).ctrl = [c]) : s.ctrlTimeout n.val c.tag =
    if ((vget s.fly n.val).leftAt ((vget s.fly n.val).slotsBy s.clk.dtime) c).any (fun t => decide (t + 10000000 ≤ s.clk.dtime)) then
      ((s.ctrlEnd n.val c).raise0 0x189 n.val 0).ctrlLost n.val c stTimeout
    else s := by
  have hf : [c].find? (fun x => x.tag == c.tag) = some c := by simp
  simp only [State.ctrlTimeout, hc, hf]

/-- A host's read without an answer 10 ms after its block has left is over. -/
theorem State.ctrlTimeout_hostRead (hc : (vget s.fly n.val).ctrl = [c]) (hq : (vget s.fly n.val).ctrlQ = []) (hu : c.use = .hostRead) {a : Nat}
    (ha : (vget s.fly n.val).leftAt ((vget s.fly n.val).slotsBy s.clk.dtime) c = some a) (hd : a + 10000000 ≤ s.clk.dtime) :
    s.ctrlTimeout n.val c.tag =
      ((s.readEnded n.val).raise0 0x189 n.val 0).hostReadEnd n.val stTimeout [] := by
  have hk : c.use.isRead = true := by rw [hu]; rfl
  have he := State.ctrlEnd_read hc hq hk
  rw [State.ctrlTimeout_one hc, ha, Option.any_some, if_pos (decide_eq_true hd), he, State.ctrlLost, hu]

/-- One whose block has not left does not run out. -/
theorem State.ctrlTimeout_unsent (hc : (vget s.fly n.val).ctrl = [c])
    (ha : (vget s.fly n.val).leftAt ((vget s.fly n.val).slotsBy s.clk.dtime) c = none) : s.ctrlTimeout n.val c.tag = s := by
  rw [State.ctrlTimeout_one hc, ha, Option.any_none, if_neg Bool.false_ne_true]

end

/-- Settles O43: each answer, and each timeout, by the lemma that says how it ends the operation. -/
theorem engineAnswers : Obligations.EngineAnswers := by
  rintro t n s x g c rfl rfl
  have h0 : (0 : Byte).toNat = 0 := rfl
  refine ⟨fun tag d h hc ht hu => ?_, fun tag id r h hc hq ht hu hr hl he hi => ?_, fun id a l hl hc hq hu ha hd he => ?_, fun l hl hc ha => ?_⟩
  · rw [exec, execCtrlack, occur_eq, h0, State.ctrlAck_wave h hc ht hu]
  · have hw : ((((s.advance t).backHeard n.val).readEnded n.val).checked 20).eng.nvRead = some (id, n.val) := he
    refine ⟨_, by rw [exec, execNvend, occur_eq, h0, State.nvEnd_hostRead h hc hq ht hu hr hl hi, State.hostReadEnd_waiting hw], rfl, ?_⟩
    have hl' := ((s.advance t).backHeard n.val).readEnded_lane n
    have hk := ((s.advance t).backHeard n.val).chk.good_unit (u := 20) (by decide)
    exact ⟨congrArg Lane.ctrl hl', congrArg Lane.read hl', congrArg CrcUnit.cnt hk, (congrArg CrcUnit.mis hk :)⟩
  · subst hl
    have hw : (((s.advance t).readEnded n.val).raise0 0x189 n.val 0).eng = (s.advance t).eng := by
      rw [State.raise0_eng, State.readEnded_eng]
    refine ⟨_, by rw [exec, execCtrlTimeout, occur_eq, State.ctrlTimeout_hostRead hc hq hu ha hd, State.hostReadEnd_waiting (by rw [hw, he])],
      by rw [hw], ?_⟩
    show (vget (State.fly _) n.val).ctrl = []
    rw [State.raise0_fly, State.readEnded_lane]
  · subst hl
    rw [exec, execCtrlTimeout, occur_eq, State.ctrlTimeout_unsent hc ha]

end Sys2Proof.Machine
end

section
/-! The lane test and life accounting: the end of a test, its reports and its reply; the terms of keep-alive and the life record. -/

namespace Sys2Proof.Machine

/-! ### The lanes under test (R343, R344) -/

/-- `s` with the lanes under test at IDLE again from the end of the test on. -/
def State.testIdle (mask : Half) (due : Nat) (s : State) : State :=
  iter (fun n s => if mask.getLsbD n then s.setLane n (fun l => l.filler (1000 * due) .idle) else s) 16 s

theorem State.testIdle_eng (mask : Half) (due : Nat) (s : State) : (s.testIdle mask due).eng = s.eng :=
  iter_proj State.eng (fun n s => by split <;> rfl) 16 s
theorem State.testIdle_ports (mask : Half) (due : Nat) (s : State) : (s.testIdle mask due).ports = s.ports :=
  iter_proj State.ports (fun n s => by split <;> rfl) 16 s

/-- The lanes not under test stay as they are. -/
theorem State.testIdle_lane {n : Nat} (hn : n < 16) (mask : Half) (due : Nat) (s : State) : vget (s.testIdle mask due).fly n =
    if mask.getLsbD n then (vget s.fly n).filler (1000 * due) .idle else vget s.fly n := by
  obtain ⟨u, hu, hf⟩ := iter_at (fun s => vget s.fly n)
    (f := fun n s => if mask.getLsbD n then s.setLane n (fun l => l.filler (1000 * due) .idle) else s)
    (fun m s hm => by
      split
      · exact State.setLane_other hn hm.symm _ _
      · rfl) hn s
  refine hf.trans ?_
  rw [← hu]
  split
  · exact u.setLane_lane ⟨n, hn⟩ _
  · rfl

/-- `s` with the test over, its reports awaited. -/
def State.testOver (id : ReqId) (mask : Half) (due : Nat) (s : State) : State :=
  { s.testIdle mask due with eng := { s.eng with laneTest := some (id, mask, due, true) } }

theorem State.testOver_fly (id : ReqId) (mask : Half) (due : Nat) (s : State) : (s.testOver id mask due).fly = (s.testIdle mask due).fly := rfl

theorem State.testOver_prbs (id : ReqId) (mask : Half) (due : Nat) (s : State) {n : Nat} (hn : n < 16) :
    (vget (s.testOver id mask due).fly n).prbs = (vget s.fly n).prbs := by
  rw [State.testOver_fly, State.testIdle_lane hn]
  split <;> rfl

/-- The inversions of the test are counted to its end (R344). -/
theorem State.testOver_injcnt (id : ReqId) {mask : Half} (due : Nat) (s : State) {n : Nat} (hn : n < 16) (hm : mask.getLsbD n = true) :
    (vget (s.testOver id mask due).fly n).injcnt = BitVec.ofNat 32 ((vget s.fly n).injections due) := by
  rw [State.testOver_fly, State.testIdle_lane hn, if_pos hm]
  show BitVec.ofNat 32 ((vget s.fly n).injections (1000 * due / 1000)) = _
  rw [Nat.mul_div_cancel_left due (by decide)]

theorem State.testOver_other (id : ReqId) {mask : Half} (due : Nat) (s : State) {n : Nat} (hn : n < 16) (hm : mask.getLsbD n = false) :
    vget (s.testOver id mask due).fly n = vget s.fly n := by
  rw [State.testOver_fly, State.testIdle_lane hn, hm, if_neg Bool.false_ne_true]

/-! ### The reply (R345) -/

/-- The data of the reply: the count of each lane under test, all ones for a lane without one. -/
def testCounts (mask : Half) (v : Vector Lane 16) : List Byte :=
  (List.range 16).flatMap (fun n => le 4 (match mask.getLsbD n, (vget v n).prbs with | true, some w => w.toNat | _, _ => 0xFFFFFFFF))

theorem testCounts_congr {mask : Half} {v w : Vector Lane 16} (h : ∀ n, n < 16 → (vget v n).prbs = (vget w n).prbs) :
    testCounts mask v = testCounts mask w := by
  rw [testCounts, testCounts, List.flatMap_def, List.flatMap_def]
  exact congrArg List.flatten (List.map_congr_left fun n hn => by rw [h n (List.mem_range.mp hn)])

/-- `s` with the test replied to. -/
def State.testReplied (id : ReqId) (mask : Half) (s : State) : State :=
  (s.dropLaneTest.answer id stOk (testCounts mask s.fly)).event 0x440

section
variable {s : State} {id : ReqId} {mask : Half} {due : Nat}

theorem State.laneTestReply_eq {o : Bool} (h : s.eng.laneTest = some (id, mask, due, o)) : s.laneTestReply = s.testReplied id mask := by
  simp only [State.laneTestReply, h]
  rfl

theorem State.laneTestCheck_running (h : s.eng.laneTest = some (id, mask, due, false)) : s.laneTestCheck = s := by
  simp only [State.laneTestCheck, h]

/-- The reply waits for the report of every lane under test. -/
theorem State.laneTestCheck_waits (h : s.eng.laneTest = some (id, mask, due, true))
    (hw : ∃ n, n < 16 ∧ mask.getLsbD n = true ∧ (vget s.fly n).prbs = none) : s.laneTestCheck = s := by
  obtain ⟨n, hn, hm, hp⟩ := hw
  have ha : ¬ (List.range 16).all (fun n => !mask.getLsbD n || (vget s.fly n).prbs.isSome) = true := by
    rw [List.all_eq_true]
    intro ha
    have := ha n (List.mem_range.mpr hn)
    simp [hm, hp] at this
  simp only [State.laneTestCheck, h, if_neg ha]

theorem State.laneTestCheck_reported (h : s.eng.laneTest = some (id, mask, due, true))
    (hr : ∀ n, n < 16 → mask.getLsbD n = true → (vget s.fly n).prbs ≠ none) : s.laneTestCheck = s.testReplied id mask := by
  have ha : (List.range 16).all (fun n => !mask.getLsbD n || (vget s.fly n).prbs.isSome) = true := by
    rw [List.all_eq_true]
    intro n hn
    cases hm : mask.getLsbD n with
    | false => rfl
    | true => simpa [Option.isSome_iff_ne_none] using hr n (List.mem_range.mp hn) hm
  simp only [State.laneTestCheck, h, ha, if_true]
  exact State.laneTestReply_eq h

theorem State.laneTestEnd_due (h : s.eng.laneTest = some (id, mask, due, false)) (hd : due ≤ s.clk.dtime) :
    s.laneTestEnd = (s.testOver id mask due).laneTestCheck := by
  have he := s.testIdle_eng mask due
  simp only [State.laneTestEnd, h, hd, if_true, State.testOver]
  rw [← he]
  rfl

/-- 1 ms after the end the lanes without a PRBSCNT report none. -/
theorem State.prbsTimeout_due (h : s.eng.laneTest = some (id, mask, due, true)) (hd : due + 1000000 ≤ s.clk.dtime) :
    s.prbsTimeout = s.testReplied id mask := by
  simp only [State.prbsTimeout, h, hd, if_true]
  exact State.laneTestReply_eq h

/-- PRBSCNT of a lane under test is its count. -/
theorem State.prbsMsg_tested {n : Nat} (hb : s.backOn n = true) {o : Bool} (h : (s.backHeard n).eng.laneTest = some (id, mask, due, o))
    (hm : mask.getLsbD n = true) (e : Word) : s.prbsMsg n e = ((s.backHeard n).setLane n (fun k => { k with prbs := some e })).laneTestCheck := by
  simp only [State.prbsMsg, if_neg (State.backOn_hears hb), h, hm, if_true]

end

/-! ### What ends a test leaves none (R325, R344) -/

theorem foldl_proj {α β : Type} (p : State → α) {f : State → β → State} (h : ∀ s b, p (f s b) = p s) (l : List β) (s : State) :
    p (l.foldl f s) = p s := by
  induction l generalizing s with
  | nil => rfl
  | cons b l ih => rw [List.foldl_cons, ih, h]

/-- The lane test that runs. -/
def State.testRunning (s : State) : Option (ReqId × Half × Nat × Bool) := s.eng.laneTest

@[simp] theorem State.setLane_testRunning (s : State) (n : Nat) (f : Lane → Lane) : (s.setLane n f).testRunning = s.testRunning := rfl
@[simp] theorem State.dropOps_testRunning (n : Nat) (p : CtrlUse → Bool) (s : State) : (s.dropOps n p).testRunning = s.testRunning := rfl
@[simp] theorem State.answer_testRunning (s : State) (id : ReqId) (st : Nat) (d : List Byte) : (s.answer id st d).testRunning = s.testRunning := by
  rw [State.testRunning, State.answer_eng, State.testRunning]
@[simp] theorem State.raise0_testRunning (s : State) (code inst data : Nat) : (s.raise0 code inst data).testRunning = s.testRunning := by
  rw [State.testRunning, State.raise0_eng, State.testRunning]

@[simp] theorem State.dropJobs_testRunning (p : Job → Bool) (s : State) : (s.dropJobs p).testRunning = s.testRunning := by
  simp only [State.dropJobs, State.testRunning]
  refine iter_proj (fun s => s.eng.laneTest) (fun n s => ?_) 16 s
  split
  · split
    · exact s.dropOps_testRunning n _
    · rfl
  · rfl

@[simp] theorem State.dropRead_testRunning (s : State) : s.dropRead.testRunning = s.testRunning := by
  rw [State.dropRead]
  split
  · rw [State.dropOps_testRunning, State.testRunning, State.testRunning]
  · rfl

@[simp] theorem State.dropCensus_testRunning (s : State) : s.dropCensus.testRunning = s.testRunning := by
  rw [State.dropCensus]
  split
  · rw [iter_proj State.testRunning (fun n s => s.dropOps_testRunning n _), State.testRunning, State.testRunning]
  · rfl

@[simp] theorem State.dropKa_testRunning (s : State) : s.dropKa.testRunning = s.testRunning := by
  rw [State.dropKa]
  split
  · rw [foldl_proj State.testRunning (fun s p => s.dropOps_testRunning _ _), State.dropJobs_testRunning, State.testRunning, State.testRunning]
  · rfl

@[simp] theorem State.endRead_testRunning (s : State) (st : Nat) : (s.endRead st).testRunning = s.testRunning := by
  rw [State.endRead]
  split
  · rw [State.answer_testRunning, State.dropRead_testRunning]
  · rfl

@[simp] theorem State.endCensus_testRunning (s : State) (st : Nat) : (s.endCensus st).testRunning = s.testRunning := by
  rw [State.endCensus]
  split
  · rw [State.answer_testRunning, State.dropCensus_testRunning]
  · rfl

@[simp] theorem State.endKa_testRunning (s : State) (st : Nat) : (s.endKa st).testRunning = s.testRunning := by
  rw [State.endKa]
  split
  · rw [State.answer_testRunning, State.dropKa_testRunning]
  · rfl

@[simp] theorem State.abortLaneOps_testRunning (s : State) (n : Nat) : (s.abortLaneOps n).testRunning = s.testRunning := by
  refine (foldl_proj State.testRunning (fun s j => ?_) _ _).trans ?_
  · split <;> simp
  · simp only [State.dropJobs_testRunning, apply_ite State.testRunning, State.endRead_testRunning, State.endKa_testRunning,
      State.endCensus_testRunning, ite_self]

@[simp] theorem State.laneFurl_testRunning (n : Nat) (s : State) : (s.laneFurl n).testRunning = s.testRunning := by
  have hf : (s.furlNow n).testRunning = s.testRunning := by
    rw [State.furlNow, State.raise0_testRunning, State.setLane_testRunning]
    exact s.abortLaneOps_testRunning n
  simp only [State.laneFurl, apply_ite State.testRunning, hf, State.setLane_testRunning, ite_self]

/-- No lane test runs once the one in progress has stopped. -/
theorem State.dropLaneTest_testRunning (s : State) : s.dropLaneTest.testRunning = none := by
  unfold State.dropLaneTest
  split
  · refine iter_proj State.testRunning (fun n s => ?_) 16 _
    simp only [apply_ite State.testRunning, State.laneFurl_testRunning, State.setLane_testRunning, ite_self]
  · assumption

/-! ### Life accounting (R369, R372) -/

/-- `s` with one ms of keep-alive added to the accumulator of segment n, where it is mapped and not dark (R369). -/
def State.keepTerm (d : Bool) (n : Nat) (s : State) : State :=
  if s.mapped n && !s.dark n then
    s.addStress n (1000000 * burg (s.burgeeOf n) 43 1 * (if d || (vget s.fly n).down then burg (s.burgeeOf n) 42 1 + 1 else 256) * s.stressWeight n /
      (256 * 256 * 16))
  else s

theorem State.lifeTick_due {s : State} {d : Bool} (h : s.keepShown = some d) (ht : s.eng.lifeTickAt + 1000000 ≤ s.clk.dtime) :
    s.lifeTick = iter (State.keepTerm d) 16 { s with eng := { s.eng with lifeTickAt := s.clk.dtime } } := by
  simp only [State.lifeTick, h, if_neg (Nat.not_lt.mpr ht)]
  rfl

theorem State.lifeRecordDue_due {s : State} (hm : s.mode.cur = .beam) (hd : s.eng.markNs + 600000000000 ≤ s.beamTime) :
    s.lifeRecordDue = s.lifeDue := if_pos ⟨hm, hd⟩

/-- Without a burgee the record is skipped (R372, R374). -/
theorem State.lifeDue_skips {s : State} (he : s.eng.engId = false) (hs : s.mode.sleep = .none) : s.lifeDue = s.event 0x1CA := by
  simp [State.lifeDue, State.lifeSkip, he, hs]

theorem State.lifeDue_writes {s : State} (he : s.eng.engId = true) : s.lifeDue =
    ({ s with eng := { s.eng with jobs := s.eng.jobs ++ [{ use := .life, pages := [], loaded := 0 }] } } : State).jobStep 0 := if_pos he

/-- Settles O42: the rows of a lane test by what they answer and what ends it leaves, those of life accounting by the lemma of each. -/
theorem laneTestAndLife : Obligations.LaneTestAndLife := by
  refine ⟨?_, ?_⟩
  · rintro t s x id mask due rfl
    refine ⟨fun h hd hw => ?_, fun h hd hr => ?_, fun n e b g z hb hg hm hz => ?_, fun h hd => ?_⟩
    · rw [exec, execLaneTestEnd, occur_eq, State.laneTestEnd_due h hd]
      obtain ⟨n, hn, hm, hp⟩ := hw
      rw [State.laneTestCheck_waits rfl ⟨n, hn, hm, (State.testOver_prbs id mask due _ hn).trans hp⟩]
      exact ⟨_, rfl, rfl, State.testIdle_ports mask due _, fun n hn =>
        ⟨State.testOver_prbs id mask due _ hn, State.testOver_injcnt id due _ hn, State.testOver_other id due _ hn⟩⟩
    · have hp : ∀ n, n < 16 → (vget ((s.advance t).testOver id mask due).fly n).prbs = (vget (s.advance t).fly n).prbs :=
        fun n hn => State.testOver_prbs id mask due _ hn
      refine ⟨(s.advance t).testOver id mask due, rfl, State.testIdle_ports mask due _, State.dropLaneTest_testRunning _,
        fun n hn => State.testOver_injcnt id due _ hn, ?_⟩
      rw [exec, execLaneTestEnd, occur_eq, State.laneTestEnd_due h hd,
        State.laneTestCheck_reported rfl (fun n hn hm => hp n hn ▸ hr n hn hm), State.testReplied, testCounts_congr hp]
      rfl
    · have he : z.eng = g.eng := by
        rw [hz]
        rfl
      have hx : ∀ o, g.eng.laneTest = some (id, mask, due, o) → exec (.prbscnt t n e b) s = .next z.laneTestCheck.finish := fun o h => by
        rw [exec, execPrbscnt, occur_eq, State.prbsMsg_tested hb (hg ▸ h) hm, ← hg, ← hz]
      rw [← he] at hx ⊢
      refine ⟨fun h => ?_, fun h hw => ?_, fun h hr => ?_⟩
      · rw [hx _ h, State.laneTestCheck_running h]
      · rw [hx _ h, State.laneTestCheck_waits h hw]
      · rw [hx _ h, State.laneTestCheck_reported h hr]
        rfl
    · rw [exec, execPrbscntTimeout, occur_eq, State.prbsTimeout_due h hd]
      rfl
  · rintro t s x rfl
    refine ⟨fun d h hd => ?_, fun hm hd => ⟨fun he => ?_, fun he hs => ?_⟩⟩
    · rw [exec, execLifeTick, occur_eq, State.lifeTick_due h hd]
      rfl
    · rw [exec, execLifeRecordDue, occur_eq, State.lifeRecordDue_due hm hd, State.lifeDue_writes he]
    · rw [exec, execLifeRecordDue, occur_eq, State.lifeRecordDue_due hm hd, State.lifeDue_skips he hs]

end Sys2Proof.Machine
end

section
/-! The commands to the light engine: NV reads and writes, the keep-alive map, the pixel census and the lane test. -/

namespace Sys2Proof.Machine

section
variable {t : Nat} {p : Port} {tag flags : Byte} {s : State}

theorem exec_engineNvRead_takes {seg : Byte} {count : Half} {addr : Word} (h : (s.advance t).Takes p tag flags (.engineNvRead seg count addr)) :
    exec (.engineNvRead t p tag flags seg count addr) s =
      .next (((s.advance t).started p tag 0x49).nvReadRun ⟨p, tag⟩ seg.toNat count.toNat addr.toNat).finish := occur_takes h

theorem exec_engineNvWrite_takes {seg : Byte} {addr : Word} {d : List Byte} (h : (s.advance t).Takes p tag flags (.engineNvWrite seg addr d)) :
    exec (.engineNvWrite t p tag flags seg addr d) s =
      .next (((s.advance t).started p tag 0x4A).nvWriteRun ⟨p, tag⟩ seg.toNat addr.toNat d).finish := occur_takes h

theorem exec_keepaliveWrite_takes {seg surf : Byte} {crc : Word} (h : (s.advance t).Takes p tag flags (.keepaliveWrite seg surf crc)) :
    exec (.keepaliveWrite t p tag flags seg surf crc) s =
      .next (((s.advance t).started p tag 0x4B).kaRun ⟨p, tag⟩ seg.toNat surf.toNat crc).finish := occur_takes h

theorem exec_pixelCensus_takes {mask : Half} (h : (s.advance t).Takes p tag flags (.pixelCensus mask)) :
    exec (.pixelCensus t p tag flags mask) s = .next (((s.advance t).started p tag 0x4C).censusRun ⟨p, tag⟩ mask).finish := occur_takes h

theorem exec_laneTest_takes {mask : Half} {pat inj : Byte} {ms : Half} (h : (s.advance t).Takes p tag flags (.laneTest mask pat inj ms)) :
    exec (.laneTest t p tag flags mask pat inj ms) s =
      .next (((s.advance t).started p tag 0x70).laneTestRun ⟨p, tag⟩ mask pat.toNat inj.toNat ms.toNat).finish := occur_takes h

end

/-! ### NV reads and writes (R348, R349) -/

section
variable {id : ReqId} {seg addr : Nat} {s : State}

/-- A read below the common area asks the engine of its lane, whichever receiver the lane carries (R348). -/
theorem State.nvReadRun_mapped {count : Nat} (hs : seg < 16) (hm : s.mapped seg = true) (h1 : 1 ≤ count) (hc : count ≤ 1024)
    (ha : addr + count ≤ 0x30000) :
    s.nvReadRun id seg count addr =
      ({ s with eng := { s.eng with nvRead := some (id, seg) } } : State).ctrlSend seg .hostRead addr count := by
  have hb : ¬ (16 ≤ seg ∨ (!s.mapped seg) = true ∨ count < 1 ∨ 1024 < count ∨ 0x40000 < addr + count ∨
      (!s.firstReceiver seg) = true ∧ 0x30000 < addr + count) := by
    simp only [hm, Bool.not_true, Bool.false_eq_true, false_or]
    omega
  exact if_neg hb

/-- A write to the gain maps queues the pages it touches (R349). -/
theorem State.nvWriteRun_mapped {d : List Byte} (hs : seg < 16) (hm : s.mapped seg = true) (h1 : d ≠ []) (hd : d.length ≤ 1012)
    (ha : addr + d.length ≤ 0x20000) :
    s.nvWriteRun id seg addr d =
      ({ s with eng := { s.eng with
        jobs := s.eng.jobs ++ [{ use := .host id, pages := pagesOf seg 6 addr d, loaded := 0 }] } } : State).jobStep seg := by
  have hp : 0 < d.length := List.length_pos_iff.mpr h1
  have hu (u : Bool) : ¬ (16 ≤ seg ∨ (!s.mapped seg) = true ∨ d.length < 1 ∨ 1012 < d.length ∨
      0x20000 < addr + d.length ∧ (!u) = true) := by
    simp only [hm, Bool.not_true, Bool.false_eq_true, false_or]
    omega
  exact if_neg (hu _)

/-! ### The keep-alive map (R361 to R364) -/

/-- A check of two equal values that no injection falls on is a check passed (R597). -/
theorem State.unitCheck_same {u : Nat} (h : s.injects u = false) (data : Nat) (w : Word) : s.unitCheck u data w w = (true, s.checked u) := by
  simp only [State.unitCheck, h, Bool.false_eq_true, if_false, if_true]
  rfl

/-- One segment's map that fits the engine, keeps under the ceiling and has the check value given is queued for writing and re-reading. -/
theorem State.kaRun_fits {surf : Nat} {crc : Word} (hi : s.injects 20 = false) (hs : seg < 16) (hm : s.mapped seg = true) (hu : surf < 128)
    (hf : s.kaSurface (s.surf surf) = true) (hc : s.kaUnder (s.surf surf) seg = true)
    (hx : crc32 0x20000#32 (s.kaPattern (s.surf surf) seg) = crc) :
    s.kaRun id seg surf crc =
      ((s.checked 20).setEng (fun e => { e with
        kaCheck := some (id, [(seg, s.kaPattern (s.surf surf) seg)])
        jobs := e.jobs ++ [{ use := .keepalive id, pages := pagesOf seg 128 0x20000 (s.kaPattern (s.surf surf) seg), loaded := 0 }] })).jobStep
          seg := by
  have hone : seg ≠ 0xFF := by omega
  have hok : s.unitCheck 20 0x20000 crc (crc32 0x20000#32 (s.kaPattern (s.surf surf) seg)) = (true, s.checked 20) := by
    rw [hx, State.unitCheck_same hi]
  simp [State.kaRun, hone, hs, hm, Nat.not_le.mpr hu, hf, hc, hok]

/-! ### The pixel census (Table 8.4) -/

/-- A census of every segment awaits the mapped lanes, the others reading all ones. -/
def State.censusAll (id : ReqId) (s : State) : State :=
  { s with eng := { s.eng with census := some (id, 0xFFFF, Vector.replicate 16 (0xFFFF, 0xFFFF), s.eng.laneMap) } }

/-- A run of effects none of which changes what it starts from. -/
theorem iter_fixed {α : Type} {f : Nat → α → α} {n : Nat} {a : α} (h : ∀ k, k < n → f k a = a) : iter f n a = a :=
  iter_keeps (P := fun b => b = a) rfl fun k hk b hb => by rw [hb, h k hk]

/-- Every segment is named, so that no word of the reply is a free value. -/
theorem State.censusRun_all (h : s.eng.laneMap ≠ 0) :
    s.censusRun id 0xFFFF = iter (fun n z => if s.eng.laneMap.getLsbD n then z.ctrlSend n .census 0 0 else z) 16 (s.censusAll id) := by
  have hwait : 0xFFFF#16 &&& s.eng.laneMap = s.eng.laneMap := BitVec.allOnes_and
  have hnamed {n : Nat} (hn : n < 16) : (0xFFFF#16).getLsbD n = true := (BitVec.getLsbD_allOnes (v := 16)).trans (decide_eq_true hn)
  rw [State.censusRun, iter_fixed (a := (Vector.replicate 16 (0xFFFF#16, 0xFFFF#16), s))]
  · simp only [BitVec.ofNat_eq_ofNat, hwait]
    exact if_neg h
  · exact fun n hn => if_pos (hnamed hn)

end

/-! ### The lane test (R343) -/

/-- What the start of a lane test leaves alone. -/
def State.testApart (s : State) : Vector PortState 3 × Store × Engine × Clock := (s.ports, s.store, s.eng, s.clk)

theorem State.testApart_eq {s u : State} :
    s.testApart = u.testApart ↔ s.ports = u.ports ∧ s.store = u.store ∧ s.eng = u.eng ∧ s.clk = u.clk := by
  simp only [State.testApart, Prod.mk.injEq]

@[simp] theorem State.setLane_testApart (s : State) (n : Nat) (f : Lane → Lane) : (s.setLane n f).testApart = s.testApart := rfl
@[simp] theorem State.fresh_testApart (s : State) : s.fresh.2.testApart = s.testApart := rfl
@[simp] theorem State.extraFstart_testApart (n : Nat) (w : Show) (s : State) : (s.extraFstart n w).testApart = s.testApart := rfl
@[simp] theorem State.prbsSeed_testApart (pattern : Nat) (s : State) : (s.prbsSeed pattern).2.testApart = s.testApart := rfl

/-- Lane n is put under test: a dark frame start, then PRBS blocks. -/
def State.prbsLane (pattern inject n : Nat) (s : State) : State :=
  let pick := (s.prbsSeed pattern).2.fresh
  (pick.2.extraFstart n .dark).setLane n (fun l =>
    { l.filler (1000 * s.clk.dtime) (.prbs pattern (s.prbsSeed pattern).1 pick.1 inject) with injcnt := 0, prbs := none })

/-- The named lanes are put under test. -/
def State.prbsLanes (mask : Half) (pattern inject : Nat) (s : State) : State :=
  iter (fun n s => if mask.getLsbD n then s.prbsLane pattern inject n else s) 16 s

/-- The lane test is in force for `ms` from now on. -/
def State.testRuns (id : ReqId) (mask : Half) (ms : Nat) (s : State) : State :=
  { s with eng := { s.eng with laneTest := some (id, mask, s.clk.dtime + ms * 1000000, false) } }

section
variable {mask : Half} {pattern inject : Nat}

theorem State.prbsLane_apart (n : Nat) (s : State) : (s.prbsLane pattern inject n).testApart = s.testApart := by
  simp [State.prbsLane]

/-- The start of a test is a matter of the lanes and of the free values drawn. -/
theorem State.prbsLanes_apart (s : State) : (s.prbsLanes mask pattern inject).testApart = s.testApart :=
  iter_proj State.testApart (fun n s => by rw [apply_ite State.testApart, State.prbsLane_apart, ite_self]) 16 s

/-- A lane put under test goes dark at once (R343). -/
theorem State.prbsLane_dark (n : Fin 16) (s : State) :
    (vget (s.prbsLane pattern inject n.val).fly n.val).lastShow = .dark ∧
      (vget (s.prbsLane pattern inject n.val).fly n.val).fstartAt = s.clk.dtime := by
  obtain ⟨y, ofs, tl, -, -, hl⟩ := ((s.prbsSeed pattern).2.fresh.2).extraFstart_lane n .dark
  rw [State.prbsLane, State.setLane_lane, hl]
  exact ⟨rfl, rfl⟩

theorem State.prbsLane_other {n m : Nat} (hm : m < 16) (h : m ≠ n) (s : State) :
    vget (s.prbsLane pattern inject n).fly m = vget s.fly m :=
  (State.setLane_other hm h _ _).trans (State.setLane_other hm h _ _)

/-- What the start of a test leaves of lane n is what it does to lane n alone. -/
theorem State.prbsLanes_lane (mask : Half) (pattern inject : Nat) {n : Nat} (hn : n < 16) (s : State) :
    ∃ u : State, u.testApart = s.testApart ∧ vget u.fly n = vget s.fly n ∧
      vget (s.prbsLanes mask pattern inject).fly n = vget (if mask.getLsbD n then u.prbsLane pattern inject n else u).fly n := by
  obtain ⟨u, hu, hf⟩ := iter_at (fun s => (s.testApart, vget s.fly n))
    (f := fun n s => if mask.getLsbD n then s.prbsLane pattern inject n else s)
    (fun m s hm => by
      split
      · exact Prod.ext (s.prbsLane_apart m) (State.prbsLane_other hn hm.symm s)
      · rfl) hn s
  obtain ⟨ha, hl⟩ := Prod.mk.inj hu
  exact ⟨u, ha, hl, congrArg Prod.snd hf⟩

theorem State.prbsLanes_dark {n : Nat} (hn : n < 16) (hm : mask.getLsbD n = true) (s : State) :
    (vget (s.prbsLanes mask pattern inject).fly n).lastShow = .dark ∧
      (vget (s.prbsLanes mask pattern inject).fly n).fstartAt = s.clk.dtime := by
  obtain ⟨u, ha, -, hl⟩ := State.prbsLanes_lane mask pattern inject hn s
  obtain ⟨-, -, -, hc⟩ := State.testApart_eq.mp ha
  rw [hl, if_pos hm, ← hc]
  exact u.prbsLane_dark ⟨n, hn⟩

theorem State.prbsLanes_other {n : Nat} (hn : n < 16) (hm : mask.getLsbD n = false) (s : State) :
    vget (s.prbsLanes mask pattern inject).fly n = vget s.fly n := by
  obtain ⟨u, -, hu, hl⟩ := State.prbsLanes_lane mask pattern inject hn s
  rw [hl, hm, if_neg Bool.false_ne_true, hu]

/-- A test of lanes that are up starts, and ends `ms` later (R343). -/
theorem State.laneTestRun_up {id : ReqId} {ms : Nat} {s : State} (hp : pattern ≤ 2) (h1 : 1 ≤ ms) (hd : ms ≤ 10000)
    (hu : ∀ n, n < 16 → mask.getLsbD n = true → (vget s.fly n).up = true) :
    s.laneTestRun id mask pattern inject ms = (s.prbsLanes mask pattern inject).testRuns id mask ms := by
  have hany : (List.range 16).any (fun n => mask.getLsbD n && !(vget s.fly n).up) = false :=
    List.any_eq_false.mpr fun n hn => by
      cases hm : mask.getLsbD n with
      | false => simp
      | true => simp [hu n (List.mem_range.mp hn) hm]
  have hb : ¬ (2 < pattern ∨ ms < 1 ∨ 10000 < ms ∨ (List.range 16).any (fun n => mask.getLsbD n && !(vget s.fly n).up) = true) := by
    simp only [hany, Bool.false_eq_true, or_false]
    omega
  exact if_neg hb

end

/-- Settles O18: each command by its one admitted case, the lane test by what it leaves of one lane. -/
theorem engineCommands : Obligations.EngineCommands := by
  rintro t p tag flags s x rfl
  refine ⟨?_, ?_, ?_, ?_, ?_⟩
  · rintro seg count addr hk y rfl hs hm h1 hc ha
    rw [exec_engineNvRead_takes hk, State.nvReadRun_mapped hs hm h1 hc ha]
  · rintro seg addr d hk y rfl hs hm h1 hd ha
    rw [exec_engineNvWrite_takes hk, State.nvWriteRun_mapped hs hm h1 hd ha]
  · rintro seg surf crc hk y b rfl hi hs hm hu hf hc rfl hx
    rw [exec_keepaliveWrite_takes hk, State.kaRun_fits hi hs hm hu hf hc hx]
  · rintro hk y rfl hl
    rw [exec_pixelCensus_takes hk, State.censusRun_all hl]
    rfl
  · rintro mask pat inj ms hk y hy hp h1 hd hu
    obtain ⟨hports, hstore, heng, hclk⟩ := State.testApart_eq.mp (State.prbsLanes_apart y)
    refine ⟨(y.prbsLanes mask pat.toNat inj.toNat).testRuns ⟨p, tag⟩ mask ms.toNat, ?_, hports, hstore, ?_, fun n hn =>
      ⟨fun hm => State.prbsLanes_dark hn hm y, fun hm => State.prbsLanes_other hn hm y⟩⟩
    · rw [exec_laneTest_takes hk, ← hy, State.laneTestRun_up hp h1 hd hu]
    · rw [State.testRuns, heng, hclk]

end Sys2Proof.Machine
end

section
/-! The host link's receipt of messages: the five checks, what each class of message does, and the data-layer restart. -/

namespace Sys2Proof.Machine

/-! ### The data-layer restart (R396, R398, R411) -/

/-- A change of each of the first k entries in turn changes each of them once. -/
theorem vget_iter_vmod_each {α : Type} {n k : Nat} (f : Nat → α → α) (v : Vector α (n + 1)) (hk : k ≤ n + 1) {j : Nat} (hj : j < n + 1) :
    vget (iter (fun i v => vmod v i (f i)) k v) j = if j < k then f j (vget v j) else vget v j := by
  induction k with
  | zero => rfl
  | succ k ih =>
    rw [iter]
    by_cases h : j = k
    · subst h
      rw [vget_vmod_same _ _ _ hj, ih (Nat.le_of_succ_le hk), if_neg (Nat.lt_irrefl j), if_pos (Nat.lt_succ_self j)]
    · rw [vget_vmod_other _ _ _ _ h hj, ih (Nat.le_of_succ_le hk)]
      have hlt : j < k + 1 ↔ j < k := by omega
      simp only [hlt]

/-- Changes of one entry, one after the other, are one. -/
theorem vmod_vmod {α : Type} {n : Nat} (v : Vector α (n + 1)) {i : Nat} (hi : i < n + 1) (f g : α → α) :
    vmod (vmod v i f) i g = vmod v i (fun a => g (f a)) := by
  rw [vmod, vget_vmod_same v i f hi]
  simp [vmod, vset]

/-- Changes of the first classes' credits touch the credits alone. -/
theorem iter_setCred (f : Nat → Cred → Cred) (k : Nat) (s : State) : iter (fun c s => s.setCred c (f c)) k s =
    { s with hoist := { s.hoist with cred := iter (fun c v => vmod v c (f c)) k s.hoist.cred } } := by
  induction k with
  | zero => rfl
  | succ k ih => rw [iter, ih]; rfl

/-- Each class's credits at the start of the next epoch (R398). -/
def Hoist.newCreds (h : Hoist) : Vector Cred 4 := iter (fun c v => vmod v c (Cred.newEpoch (hoistCap c))) 4 h.cred

theorem Hoist.newCreds_class (h : Hoist) {c : Nat} (hc : c < 4) : vget h.newCreds c = Cred.newEpoch (hoistCap c) (vget h.cred c) := by
  rw [Hoist.newCreds, vget_iter_vmod_each _ _ (Nat.le_refl 4) hc, if_pos hc]

/-- The retained messages in the order in which they go out again (R411). -/
def State.resent (s : State) : List HtxMsg := s.retainedOf 0x81 ++ s.retainedOf 0x83 ++ s.retainedOf 0x82

/-- RESTART, as the next epoch opens: the CSEQs expected and the credits advertised (Table 9.7). -/
def State.restartOut (s : State) : HtxMsg :=
  { cls := 0x84, cseq := vget s.hoist.outNext 4, cf := []
    body := s.hoist.inNext.toList.flatMap (fun n => le 2 n.toNat) ++ s.hoist.newCreds.toList.flatMap (fun c => le 2 c.adv.toNat) ++ le 2 0 }

/-- `s` as the next epoch opens, before RESTART. -/
def State.epochOpened (s : State) : State :=
  { s with hoist := { s.hoist with
    epoch := s.hoist.epoch + 1, restarts := satAdd s.hoist.restarts 1, waitEpoch := true, vidFreed := 0, changedAt := none
    creditAt := s.clk.dtime, htxWait := [], sent := [], cred := s.hoist.newCreds } }

/-- RESTART is not retained (R408). -/
theorem State.htx_restart {s : State} (hu : s.hoistUp = true) (body : List Byte) : s.htx 0x84 [] body =
    (let m : HtxMsg := { cls := 0x84, cseq := vget s.hoist.outNext 4, cf := [], body := body }
     { s with hoist := { s.hoist with
        outNext := vmod s.hoist.outNext 4 (· + 1), htxWait := s.hoist.htxWait ++ [{ due := 1000 * s.clk.dtime, msg := m }]
        sent := s.hoist.sent ++ [m] } }) := by
  rw [State.htx, hu]
  rfl

/-- What a restart leaves of the host link: a new epoch with its credits, and RESTART before the retained messages on HTX. -/
theorem State.restart_hoist {s : State} (hu : s.hoistUp = true) : s.restart.hoist = { s.epochOpened.hoist with
    outNext := vmod s.hoist.outNext 4 (· + 1)
    htxWait := (s.restartOut :: s.resent).map (fun m => { due := 1000 * s.clk.dtime, msg := m }), sent := s.restartOut :: s.resent } := by
  have hr (x : State) : (iter (fun c s => if s.credBalanced c then s.resolve 0x205 c else s) 4 x).hoist = x.hoist :=
    iter_proj (f := fun c s => if s.credBalanced c then s.resolve 0x205 c else s) State.hoist (fun k s => by split <;> simp) 4 x
  have hc (x : State) : iter (fun c s => s.setCred c (Cred.newEpoch (hoistCap c))) 4 x =
      { x with hoist := { x.hoist with cred := x.hoist.newCreds } } := iter_setCred _ 4 x
  simp only [State.restart, State.event_hoist, hr, hc]
  rw [State.htx_restart, if_pos, foldl_hand_eq]
  · rfl
  · exact hu
  · exact hu

theorem State.restart_class {s : State} (hu : s.hoistUp = true) {c : Nat} (hc : c < 4) :
    vget s.restart.hoist.cred c = Cred.newEpoch (hoistCap c) (vget s.hoist.cred c) := by
  rw [State.restart_hoist hu]
  exact s.hoist.newCreds_class hc

/-! ### The five checks (R393, R395) -/

/-- A check by a unit leaves the host link alone. -/
@[simp] theorem State.unitCheck_hoist (s : State) (u data : Nat) (exp got : Word) : (s.unitCheck u data exp got).2.hoist = s.hoist := by
  simp only [State.unitCheck]
  (repeat' split) <;> simp

/-- `s` with the HEAD of a message of its epoch found right: its unit has checked, and the epoch is awaited no longer (R396). -/
def State.headTaken (s : State) : State := { s.checked 16 with hoist := { s.hoist with waitEpoch := false } }

/-- `s` with the credits of a message of its class consumed and occupied (R395, R398). -/
def State.charged (cls cost : Nat) (s : State) : State :=
  s.setCred cls (fun x => { x with cons := x.cons + BitVec.ofNat 16 cost, occ := x.occ + cost })

/-- `s` with the HEAD of a message found right and its credits, if it has a cost, occupied. -/
def State.headCharged (cls cost : Nat) (s : State) : State := if 0 < cost then s.headTaken.charged cls cost else s.headTaken

/-- `s` with the credits of a dropped message, if it has a cost, free again (R395). -/
def State.refunded (cls cost : Nat) (s : State) : State := if 0 < cost then s.freeCred cls cost else s

/-- `s` with a duplicate counted. -/
def State.dupCounted (s : State) : State := { s with hoist := { s.hoist with dup := satAdd s.hoist.dup 1 } }

/-- `s` with a wrong BCRC counted. -/
def State.bcrcCounted (s : State) : State := { s with hoist := { s.hoist with bcrcErr := satAdd s.hoist.bcrcErr 1 } }

/-- `s` with a wrong HCRC counted. -/
def State.hcrcCounted (s : State) : State := { s with hoist := { s.hoist with hcrcErr := satAdd s.hoist.hcrcErr 1 } }

/-- The check of a message's body, if it has one (R393). -/
def State.bodyCheck (h : HoistHead) (body : List Byte) (s : State) : Bool × State :=
  if body.isEmpty then (true, s) else s.unitCheck 16 h.cseq.toNat h.bcrc (bcrcOf h.hcrc body)

/-- The parts of the machine in which the claims about a message that is not accepted speak of the host link. -/
structure HeldBack where
  st : HoistSt
  epoch : Byte
  dup : Byte
  hcrcErr : Byte
  bcrcErr : Byte
  inNext : Vector Half 5
  ingress : List Ingress

def Hoist.heldBack (h : Hoist) : HeldBack :=
  { st := h.st, epoch := h.epoch, dup := h.dup, hcrcErr := h.hcrcErr, bcrcErr := h.bcrcErr, inNext := h.inNext, ingress := h.ingress }

theorem State.headCharged_eq (cls cost : Nat) (s : State) : s.headCharged cls cost = { s with
    chk := s.chk.good 16
    hoist := { s.hoist with
      waitEpoch := false
      cred := if 0 < cost then vmod s.hoist.cred cls (fun c => { c with cons := c.cons + BitVec.ofNat 16 cost, occ := c.occ + cost })
        else s.hoist.cred } } := by
  unfold State.headCharged; split <;> rfl

theorem State.headCharged_heldBack (cls cost : Nat) (s : State) : (s.headCharged cls cost).hoist.heldBack = s.hoist.heldBack := by
  rw [State.headCharged_eq]; rfl

theorem State.headCharged_inNext (cls cost : Nat) (s : State) : (s.headCharged cls cost).hoist.inNext = s.hoist.inNext := by
  rw [State.headCharged_eq]

theorem State.headCharged_chk (cls cost : Nat) (s : State) : (s.headCharged cls cost).chk = s.chk.good 16 := by
  rw [State.headCharged_eq]

theorem State.refunded_heldBack (cls cost : Nat) (s : State) : (s.refunded cls cost).hoist.heldBack = s.hoist.heldBack := by
  unfold State.refunded; split <;> rfl

section
variable {h : HoistHead} {cls cost : Nat} {cf body : List Byte} {s : State}

/-- While the link is down no message is received. -/
theorem State.hoistCheck_down (hu : s.hoistUp = false) : s.hoistCheck h cls cost cf body = (false, s) := by
  rw [State.hoistCheck, hu]
  rfl

variable (hu : s.hoistUp = true) (ha : s.chk.armed = none)
include hu ha

/-- A wrong HCRC is ignored while the new epoch is awaited (R396). -/
theorem State.hoistCheck_hcrc_waits (hc : h.hcrc ≠ hcrcOf cls h.epoch.toNat h.cseq.toNat body.length cf) (hw : s.hoist.waitEpoch = true) :
    ∃ y : State, s.hoistCheck h cls cost cf body = (false, y) ∧ y.hoist = s.hoist := by
  refine ⟨_, ?_, s.unitCheck_hoist 16 h.cseq.toNat h.hcrc (hcrcOf cls h.epoch.toNat h.cseq.toNat body.length cf)⟩
  simp only [State.hoistCheck, hu, State.unitCheck_fst ha, decide_eq_false hc, State.unitCheck_hoist, hw]
  rfl

/-- Otherwise it counts and restarts. -/
theorem State.hoistCheck_hcrc_restarts (hc : h.hcrc ≠ hcrcOf cls h.epoch.toNat h.cseq.toNat body.length cf) (hw : s.hoist.waitEpoch = false) :
    ∃ y : State, s.hoistCheck h cls cost cf body = (false, y.restart) ∧
      y.hoist.heldBack = { s.hoist.heldBack with hcrcErr := satAdd s.hoist.hcrcErr 1 } := by
  refine ⟨(s.unitCheck 16 h.cseq.toNat h.hcrc (hcrcOf cls h.epoch.toNat h.cseq.toNat body.length cf)).2.hcrcCounted, ?_, ?_⟩
  · simp only [State.hoistCheck, State.hcrcCounted, hu, State.unitCheck_fst ha, decide_eq_false hc, State.unitCheck_hoist, hw]
    rfl
  · rw [State.hcrcCounted, State.unitCheck_hoist]
    rfl

variable (hc : h.hcrc = hcrcOf cls h.epoch.toNat h.cseq.toNat body.length cf)
include hc

/-- A message of another epoch is dropped (R395). -/
theorem State.hoistCheck_epoch (he : h.epoch ≠ s.hoist.epoch) : s.hoistCheck h cls cost cf body = (false, s.checked 16) := by
  simp only [State.hoistCheck, hu, ← hc, State.unitCheck_agrees (State.injects_unarmed ha 16)]
  exact if_pos he

variable (he : h.epoch = s.hoist.epoch)
include he

/-- A message beyond its class's credit restarts (R400). -/
theorem State.hoistCheck_overrun (h0 : 0 < cost) (hl : later 16 ((vget s.hoist.cred cls).cons.toNat + cost) (vget s.hoist.cred cls).adv.toNat = true) :
    ∃ y : State, s.hoistCheck h cls cost cf body = (false, y.restart) ∧ y.hoist = { s.hoist with waitEpoch := false } := by
  refine ⟨s.headTaken.raise0 0x205 cls 0, ?_, State.raise0_hoist _ _ _ _⟩
  simp only [State.hoistCheck, hu, ← hc, State.unitCheck_agrees (State.injects_unarmed ha 16)]
  refine (if_neg (not_not_intro he)).trans (if_pos ?_)
  rw [decide_eq_true h0]
  exact hl

variable (hl : cost = 0 ∨ later 16 ((vget s.hoist.cred cls).cons.toNat + cost) (vget s.hoist.cred cls).adv.toNat = false)
include hl

/-- One within it has its credits occupied; its CSEQ and then its body are checked (R395). -/
theorem State.hoistCheck_inCredit {y : State} (hy : y = s.headCharged cls cost) : s.hoistCheck h cls cost cf body =
      if cls < 5 ∧ h.cseq ≠ vget y.hoist.inNext cls then
        if later 16 h.cseq.toNat (vget y.hoist.inNext cls).toNat then (false, (y.refunded cls cost).restart)
        else (false, (y.dupCounted.refunded cls cost).event 0x207)
      else
        let z := (y.bodyCheck h body).2
        if (y.bodyCheck h body).1 = false then
          (false, (z.bcrcCounted.refunded cls cost).restart)
        else (true, if cls < 5 then { z with hoist := { z.hoist with inNext := vset z.hoist.inNext cls (vget y.hoist.inNext cls + 1) } } else z) := by
  subst hy
  have hn : ¬ (decide (0 < cost) && later 16 ((vget s.hoist.cred cls).cons.toNat + cost) (vget s.hoist.cred cls).adv.toNat) = true := by
    obtain h0 | hl := hl
    · simp [h0]
    · simp [hl]
  simp only [State.hoistCheck, hu, ← hc, State.unitCheck_agrees (State.injects_unarmed ha 16)]
  refine (if_neg (not_not_intro he)).trans ((if_neg hn).trans ?_)
  simp only [Bool.not_eq_true']
  rfl

/-- A later CSEQ restarts (R395). -/
theorem State.hoistCheck_later (h5 : cls < 5) (hs : later 16 h.cseq.toNat (vget s.hoist.inNext cls).toNat = true) :
    ∃ y : State, s.hoistCheck h cls cost cf body = (false, y.restart) ∧ y.hoist.heldBack = s.hoist.heldBack := by
  have hne : h.cseq ≠ vget s.hoist.inNext cls := fun e => by
    rw [e, later_eq_sub, BitVec.sub_self] at hs
    exact absurd hs (by decide)
  refine ⟨_, ?_, (State.refunded_heldBack cls cost _).trans (State.headCharged_heldBack cls cost s)⟩
  rw [State.hoistCheck_inCredit hu ha hc he hl rfl, State.headCharged_inNext, if_pos ⟨h5, hne⟩, if_pos hs]

/-- An earlier one is a duplicate (R395). -/
theorem State.hoistCheck_dup (h5 : cls < 5) (hne : h.cseq ≠ vget s.hoist.inNext cls)
    (hs : later 16 h.cseq.toNat (vget s.hoist.inNext cls).toNat = false) :
    ∃ y : State, s.hoistCheck h cls cost cf body = (false, y) ∧
      y.hoist.heldBack = { s.hoist.heldBack with dup := satAdd s.hoist.dup 1 } := by
  have hb := State.headCharged_heldBack cls cost s
  have e := State.hoistCheck_inCredit (cf := cf) hu ha hc he hl rfl
  rw [State.headCharged_inNext, if_pos ⟨h5, hne⟩, if_neg (by simp [hs])] at e
  refine ⟨_, e, ?_⟩
  rw [State.event_hoist, State.refunded_heldBack]
  exact congrArg (fun b : HeldBack => { b with dup := satAdd b.dup 1 }) hb

/-- The next message of its class with a wrong BCRC counts and restarts (R395). -/
theorem State.hoistCheck_bcrc (hq : h.cseq = vget s.hoist.inNext cls) (hp : body ≠ []) (hb : h.bcrc ≠ bcrcOf h.hcrc body) :
    ∃ y : State, s.hoistCheck h cls cost cf body = (false, y.restart) ∧
      y.hoist.heldBack = { s.hoist.heldBack with bcrcErr := satAdd s.hoist.bcrcErr 1 } := by
  have hh := State.headCharged_heldBack cls cost s
  have ha' : (s.headCharged cls cost).chk.armed = none := by rw [State.headCharged_chk]; exact ha
  have hk : ((s.headCharged cls cost).bodyCheck h body).1 = false ∧
      ((s.headCharged cls cost).bodyCheck h body).2.hoist = (s.headCharged cls cost).hoist := by
    rw [State.bodyCheck, if_neg (by simpa using hp)]
    exact ⟨by rw [State.unitCheck_fst ha', decide_eq_false hb], State.unitCheck_hoist ..⟩
  have e := State.hoistCheck_inCredit (cf := cf) hu ha hc he hl rfl
  rw [State.headCharged_inNext, if_neg (by simp [hq])] at e
  refine ⟨_, e.trans (if_pos hk.1), ?_⟩
  rw [State.refunded_heldBack]
  exact congrArg (fun b : HeldBack => { b with bcrcErr := satAdd b.bcrcErr 1 }) ((congrArg Hoist.heldBack hk.2).trans hh)

end

/-- The checks that an accepted message has had by unit 16: one, or two where it has a body (R393). -/
theorem Checks.good_message (c : Checks) (body : List Byte) : (if body.isEmpty then c.good 16 else (c.good 16).good 16) =
    { c with units := vmod c.units 16 (fun u => { u with cnt := u.cnt + (if body.isEmpty then 1 else 2) }) } := by
  cases body with
  | nil => rfl
  | cons b t =>
    have hv := vmod_vmod c.units (i := 16) (by decide) (fun u => { u with cnt := u.cnt + 1 }) (fun u => { u with cnt := u.cnt + 1 })
    simp only [List.isEmpty_cons, Bool.false_eq_true, if_false, Checks.good, hv, BitVec.add_assoc]
    rfl

theorem State.bodyCheck_good {h : HoistHead} {body : List Byte} {s : State} (ha : s.chk.armed = none) (hb : body = [] ∨ h.bcrc = bcrcOf h.hcrc body) :
    s.bodyCheck h body = (true, { s with chk := if body.isEmpty then s.chk else s.chk.good 16 }) := by
  rw [State.bodyCheck]
  split
  · rfl
  · rename_i hne
    rw [hb.resolve_left (by simpa using hne), State.unitCheck_agrees (State.injects_unarmed ha 16)]
    rfl

/-- A message that passes the five checks is accepted (R395). -/
theorem State.hoistCheck_good {h : HoistHead} {cls cost : Nat} {cf body : List Byte} {s : State} (hg : s.HoistGood h cls cost cf body) :
    s.hoistCheck h cls cost cf body = (true, s.hoistTook cls cost body) := by
  obtain ⟨hu, ha, hc, he, hl, hq, hb⟩ := hg
  have hn : ¬ (cls < 5 ∧ h.cseq ≠ vget s.hoist.inNext cls) := fun ⟨h5, hne⟩ => hq.elim (Nat.ne_of_lt h5) hne
  rw [State.hoistCheck_inCredit hu ha hc he hl (State.headCharged_eq cls cost s).symm, if_neg hn, State.bodyCheck_good _ hb, State.hoistTook,
    ← Checks.good_message]
  · refine congrArg (Prod.mk true) ?_
    split <;> rfl
  · exact ha

/-! ### CMD -/

/-- What a restart after a message that is not accepted leaves of it: the epoch alone moves on (R396). -/
theorem State.restart_heldBack {y : State} {b : HeldBack} (hy : y.hoist.heldBack = b) (hu : b.st = .limp ∨ b.st = .bonded) :
    y.restart.hoist.epoch = b.epoch + 1 ∧ y.restart.hoist.waitEpoch = true ∧ y.restart.hoist.inNext = b.inNext ∧
      y.restart.hoist.ingress = b.ingress ∧ y.restart.hoist.hcrcErr = b.hcrcErr ∧ y.restart.hoist.bcrcErr = b.bcrcErr := by
  subst hy
  rw [State.restart_hoist (decide_eq_true hu)]
  exact ⟨rfl, rfl, rfl, rfl, rfl, rfl⟩

section
variable {h : HoistHead} {p : List Byte} {s u : State}

theorem State.cmdMsg_refused (e : s.hoistCheck h 2 1 [] p = (false, u)) : s.cmdMsg h p = u := by rw [State.cmdMsg, e]; rfl

theorem State.cmdMsg_good (hg : s.HoistGood h 2 1 [] p) : s.cmdMsg h p =
    { s.hoistTook 2 1 p with hoist := { (s.hoistTook 2 1 p).hoist with ingress := (s.hoistTook 2 1 p).hoist.ingress ++ [.cmd p] } } := by
  rw [State.cmdMsg, State.hoistCheck_good hg]; rfl

end

/-- Settles O44: each check by the lemma that says how the message fails it. -/
theorem hoistChecks : Obligations.HoistChecks := by
  rintro t h p s x z hx rfl
  refine ⟨fun hg => ?_, fun hu => ?_, fun hu ha => ?_⟩
  · rw [exec, execCmd, occur_eq, ← hx, State.cmdMsg_good hg]
  · rw [exec, execCmd, occur_eq, ← hx, State.cmdMsg_refused (State.hoistCheck_down hu)]
  have hst : x.hoist.st = .limp ∨ x.hoist.st = .bonded := of_decide_eq_true hu
  have answers {u : State} (e : x.hoistCheck h 2 1 [] p = (false, u)) : exec (.cmd t h p) s = .next u.finish := by
    rw [exec, execCmd, occur_eq, ← hx, State.cmdMsg_refused e]
  refine ⟨fun hc hw => ?_, fun hc hw => ?_, fun hc => ⟨fun he => ?_, fun he => ⟨fun hl => ?_, fun hl => ⟨fun hs => ?_, fun hq hs => ?_,
    fun hq hp hb => ?_⟩⟩⟩⟩
  · obtain ⟨y, e, hy⟩ := State.hoistCheck_hcrc_waits (cost := 1) hu ha hc hw
    exact ⟨y, answers e, hy⟩
  · obtain ⟨y, e, hy⟩ := State.hoistCheck_hcrc_restarts (cost := 1) hu ha hc hw
    obtain ⟨hepoch, hwait, hnext, hingr, hcount, -⟩ := State.restart_heldBack hy hst
    exact ⟨y.restart, answers e, hcount, hepoch, hwait, hnext, hingr⟩
  · exact ⟨_, answers (State.hoistCheck_epoch hu ha hc he), rfl, rfl⟩
  · obtain ⟨y, e, hy⟩ := State.hoistCheck_overrun hu ha hc he Nat.one_pos hl
    obtain ⟨hepoch, -, hnext, hingr, -⟩ := State.restart_heldBack (congrArg Hoist.heldBack hy) hst
    refine ⟨y.restart, answers e, hepoch, hnext, hingr, ?_⟩
    rw [State.restart_class (by rw [State.hoistUp, hy]; exact hu) (by decide), hy]
    rfl
  · obtain ⟨y, e, hy⟩ := State.hoistCheck_later hu ha hc he (Or.inr hl) (by decide) hs
    obtain ⟨hepoch, -, hnext, hingr, -⟩ := State.restart_heldBack hy hst
    exact ⟨y.restart, answers e, hepoch, hnext, hingr⟩
  · obtain ⟨y, e, hy⟩ := State.hoistCheck_dup hu ha hc he (Or.inr hl) (by decide) hq hs
    exact ⟨y, answers e, congrArg HeldBack.dup hy, congrArg HeldBack.epoch hy, congrArg HeldBack.inNext hy, congrArg HeldBack.ingress hy⟩
  · obtain ⟨y, e, hy⟩ := State.hoistCheck_bcrc hu ha hc he (Or.inr hl) hq hp hb
    obtain ⟨hepoch, -, hnext, hingr, -, hcount⟩ := State.restart_heldBack hy hst
    exact ⟨y.restart, answers e, hcount, hepoch, hnext, hingr⟩

/-! ### The other messages (R404, R407 to R409, R414) -/

section
variable {h : HoistHead} {s : State}

/-- A transfer is taken into the ingress buffer, unless SLEEP or RESET is under way (R404). -/
theorem State.vidMsg_good {n : Byte} {off : Word} {d : List Byte} (hs : s.mode.sleep = .none) (hr : s.mode.restart = none)
    (hg : s.HoistGood h 0 (vidCost d.length) ([n, 0] ++ le 4 off.toNat) d) {z : State} (hz : z = s.hoistTook 0 (vidCost d.length) d) :
    s.vidMsg h n off d = { z with hoist := { z.hoist with ingress := z.hoist.ingress ++ [.vid n off.toNat d] } } := by
  subst hz
  rw [State.vidMsg, if_neg (by simp [hs, hr]), State.hoistCheck_good hg]
  rfl

/-- A first fragment of 1,020 bytes starts the Hoist list (R210). -/
theorem State.objMsg_first {q : Half} {d b : List Byte} (hb : b = le 2 q.toNat ++ [0, 0] ++ d) (hd : d.length = 1020) (hg : s.HoistGood h 1 1 [] b)
    {z : State} (hz : z = (s.hoistTook 1 1 b).freeCred 1 1) :
    s.objMsg h q 0 0 d = { z with mask := { z.mask with asm := z.mask.asm.set 2 (some { seq := q, next := 1, data := d }) } } := by
  subst hz hb
  rw [State.objMsg, State.hoistCheck_good hg]
  exact congrArg Prod.snd (State.listFragment_first hd 2 q _)

/-- `s` with a TIME message noted as the only one to answer, and its arrival as the newest exchange (R414, R416). -/
def State.timeNoted (t1 : BitVec 64) (token : Word) (s : State) : State :=
  { s with hoist := { s.hoist with timeQ := [(t1, token, s.clk.dtime)], timeAt := some s.clk.dtime } }

theorem State.timeMsg_good {t1 : BitVec 64} {k : Word} {b : List Byte} (hb : b = le 8 t1.toNat ++ le 4 k.toNat ++ le 4 0)
    (hg : s.HoistGood h 3 1 [] b) (hq : s.hoist.timeQ = []) {z : State} (hz : z = (s.hoistTook 3 1 b).freeCred 3 1) :
    s.timeMsg h t1 k = (z.timeNoted t1 k).sendTimes 1 := by
  subst hb
  have hq' : z.hoist.timeQ = [] := by rw [hz]; exact hq
  have hc : s.clk = z.clk := by rw [hz]; rfl
  rw [State.timeMsg, State.hoistCheck_good hg]
  simp only [if_true, ← hz, hq', hc, List.nil_append]
  rfl

/-- A TIME message that TIMEADV allows is answered at once (R409, R414). -/
theorem State.sendTimes_allowed {t1 : BitVec 64} {k : Word} {t2 : Nat} (hu : s.hoistUp = true) (hq : s.hoist.timeQ = [(t1, k, t2)])
    (hc : creditLeft s.hoist.timeAdv s.hoist.timeSent = true) : s.sendTimes 1 =
      ({ s with hoist := { s.hoist with timeQ := [], timeSent := s.hoist.timeSent + 1 } } : State).htx 0x83 [] (s.timeBody t1 k t2 s.timeLeaves) := by
  simp only [State.sendTimes, hq, hu, hc]
  rfl

/-- One that it does not allow waits. -/
theorem State.sendTimes_waits (hc : creditLeft s.hoist.timeAdv s.hoist.timeSent = false) (n : Nat) : s.sendTimes n = s := by
  cases n with
  | zero => rfl
  | succ n =>
    rw [State.sendTimes]
    split
    · rfl
    · rw [hc, Bool.and_false]; rfl

theorem State.sendTimes_none (hq : s.hoist.timeQ = []) (n : Nat) : s.sendTimes n = s := by
  cases n <;> simp only [State.sendTimes, hq]

theorem State.sendReplies_none (hq : s.hoist.replyQ = []) (n : Nat) : s.sendReplies n = s := by
  cases n <;> simp only [State.sendReplies, hq]

/-- `s` without the retained messages that the host has acknowledged, and with its limits (R408, R409). -/
def State.acknowledged (a0 a1 a2 ra ta : Half) (s : State) : State :=
  { s with hoist := { s.hoist with
    replyAdv := ra, timeAdv := ta
    retained := s.hoist.retained.filter (fun m => later 16 m.cseq.toNat
      (if m.cls = 0x81 then a0 else if m.cls = 0x82 then a1 else a2).toNat) } }

/-- HCREDIT, where nothing waits for its limits (R408, R409). -/
theorem State.hcreditMsg_good {a0 a1 a2 ra ta : Half} (hg : s.HoistGood h 4 0 [] (hcreditBody a0 a1 a2 ra ta))
    (ht : s.hoist.timeQ = []) (hr : s.hoist.replyQ = []) {z : State} (hz : z = s.hoistTook 4 0 (hcreditBody a0 a1 a2 ra ta)) :
    s.hcreditMsg h a0 a1 a2 ra ta = z.acknowledged a0 a1 a2 ra ta := by
  have hm : s.hcreditMsg h a0 a1 a2 ra ta =
      ((z.acknowledged a0 a1 a2 ra ta).sendTimes z.hoist.timeQ.length).sendReplies z.hoist.replyQ.length := by
    rw [State.hcreditMsg, State.hoistCheck_good hg, ← hz]; rfl
  have ht' : (z.acknowledged a0 a1 a2 ra ta).hoist.timeQ = [] := by rw [hz]; exact ht
  have hr' : (z.acknowledged a0 a1 a2 ra ta).hoist.replyQ = [] := by rw [hz]; exact hr
  rw [hm, State.sendTimes_none ht', State.sendReplies_none hr']

theorem State.restartMsg_good (hg : s.HoistGood h 5 0 [] []) : s.restartMsg h = (s.hoistTook 5 0 []).restart := by
  rw [State.restartMsg, State.hoistCheck_good hg]
  exact if_pos rfl

end

/-- Settles O45: each message by the lemma that says what it does once it is accepted, the restart by what it leaves of the host link. -/
theorem hoistMessages : Obligations.HoistMessages := by
  refine ⟨fun t h s x hx => ?_, fun s hu => ?_⟩
  · refine ⟨fun n off d z hs hr hg hz => ?_, fun q d b z hb hd hg hz => ?_, fun t1 k b z w hb hg hz hq hw => ?_,
      fun a0 a1 a2 ra ta z hg hz ht hr => ?_, fun hg => ?_⟩
    · rw [exec, execVid, occur_eq, ← hx, State.vidMsg_good hs hr hg hz]
    · rw [exec, execObj, occur_eq, ← hx, State.objMsg_first hb hd hg hz]
    · have hclk : z.clk = x.clk := by rw [hz]; rfl
      have hlim : z.hoist.timeAdv = x.hoist.timeAdv ∧ z.hoist.timeSent = x.hoist.timeSent := by rw [hz]; exact ⟨rfl, rfl⟩
      have hst : z.hoistUp = true := by rw [State.hoistUp, hz]; exact hg.1
      obtain rfl : w = z.timeNoted t1 k := by rw [hw, State.timeNoted, hclk]
      rw [exec, execTime, occur_eq, ← hx, State.timeMsg_good hb hg hq hz, ← hlim.1, ← hlim.2, ← hclk]
      refine ⟨fun hc => ?_, fun hc => ?_⟩
      · rw [State.sendTimes_allowed (s := z.timeNoted t1 k) hst rfl hc]
        rfl
      · rw [State.sendTimes_waits (s := z.timeNoted t1 k) hc]
    · rw [exec, execHcredit, occur_eq, ← hx, State.hcreditMsg_good hg ht hr hz, State.acknowledged]
    · rw [exec, execRestartreq, occur_eq, ← hx, State.restartMsg_good hg]
  · rw [State.restart_hoist hu]
    refine ⟨rfl, rfl, rfl, rfl, rfl, fun c hc => ?_, s.restartOut, rfl, rfl⟩
    have hcred := s.hoist.newCreds_class hc
    exact ⟨hcred, congrArg Cred.adv hcred⟩

end Sys2Proof.Machine
end

section
/-! Safe states: what the Ensign holds, entries that are covered or come too early for a transition, and class timers. -/

namespace Sys2Proof.Machine

/-! ### What the Ensign holds (R425, R435) -/

theorem State.hold_ens (s : State) (dark : Bool) : (s.hold dark).ens =
    { (if dark then s.ens.opened else s.ens) with
      ovr := true, gdis := s.ens.gdis || dark
      safe := if dark then some .safeDark else if s.ens.safe = some .safeDark then some .safeDark else some .safeBeam } := by
  simp only [State.hold]
  split
  · exact State.event_ens _ _
  · rfl

@[simp] theorem State.hold_store (s : State) (dark : Bool) : (s.hold dark).store = s.store := by
  simp only [State.hold]; split <;> simp
@[simp] theorem State.hold_ports (s : State) (dark : Bool) : (s.hold dark).ports = s.ports := by
  simp only [State.hold]; split <;> simp
@[simp] theorem State.hold_mode (s : State) (dark : Bool) : (s.hold dark).mode = s.mode := by
  simp only [State.hold]; split <;> simp
@[simp] theorem State.hold_ovr (s : State) (dark : Bool) : (s.hold dark).ens.ovr = true := by rw [State.hold_ens]

/-- Gate disable comes with SAFE-DARK and stays; it opens both switches, which override alone does not. -/
theorem State.hold_gates (s : State) (dark : Bool) : (s.hold dark).ens.gdis = (s.ens.gdis || dark) ∧
    (s.hold dark).ens.hsOn = (s.ens.hsOn && !dark) ∧ (s.hold dark).ens.lsOn = (s.ens.lsOn && !dark) := by
  rw [State.hold_ens]
  cases dark with
  | true => simp [Ensign.opened]
  | false => simp

/-- SAFE-DARK is not lowered to SAFE-BEAM. -/
theorem State.hold_safe (s : State) (dark : Bool) : (s.hold dark).ens.safe =
    if dark = true ∨ s.ens.safe = some .safeDark then some .safeDark else some .safeBeam := by
  rw [State.hold_ens]
  cases dark with
  | true => rfl
  | false => simp

/-! ### The latches of an entry (R436) -/

@[simp] theorem State.latchEns_ovr (s : State) (src : Nat) : (s.latchEns src).ens.ovr = s.ens.ovr := by
  unfold State.latchEns
  rw [State.raiseHv_ens]
  split <;> rfl
@[simp] theorem State.latchEns_mode (s : State) (src : Nat) : (s.latchEns src).mode = s.mode := (s.latchEns_same src).mode
@[simp] theorem State.latchSafe_ens (s : State) (src cls code : Nat) : (s.latchSafe src cls code).ens = s.ens := by
  unfold State.latchSafe
  rw [State.event_ens]
  split <;> rfl
@[simp] theorem State.latchSafe_mode (s : State) (src cls code : Nat) : (s.latchSafe src cls code).mode = s.mode := by
  unfold State.latchSafe
  rw [State.event_mode]
  split <;> rfl
@[simp] theorem State.assertLines_ovr (s : State) (dark : Bool) (why : SafeWhy) : (s.assertLines dark why).ens.ovr = true := State.hold_ovr _ _
@[simp] theorem State.assertLines_mode (s : State) (dark : Bool) (why : SafeWhy) : (s.assertLines dark why).mode = s.mode := by
  simp only [State.assertLines, State.hold_mode]
  split <;> rfl
@[simp] theorem State.assertSafe_ovr (s : State) (dark : Bool) (why : SafeWhy) : (s.assertSafe dark why).ens.ovr = true := by
  simp only [State.assertSafe]; split <;> simp
@[simp] theorem State.assertSafe_mode (s : State) (dark : Bool) (why : SafeWhy) : (s.assertSafe dark why).mode = s.mode := by
  simp only [State.assertSafe]; split <;> simp

/-! ### Entries without a transition (R47, R48, R62, R492) -/

section
variable {s : State}

theorem State.enterSafe_off (h : s.mode.cur = .off ∨ s.mode.cur = .sleep) (dark : Bool) (why : SafeWhy) (owner : Option ModeReq) :
    s.enterSafe dark why owner = s := if_pos h

/-- In a safe state that covers the one asked for, an escalation changes nothing and any other cause asserts its lines. -/
theorem State.enterSafe_covered {dark : Bool} (hp : s.pow.logicOn = true) (ht : s.mode.trans = none) (hl : s.mode.sleep = .none)
    (hm : s.mode.cur = .safeDark ∨ dark = false ∧ s.mode.cur = .safeBeam) (why : SafeWhy) :
    s.enterSafe dark why none = if why.src = 1 ∨ why.src = 12 then s else s.assertLines dark why := by
  have hc : s.covered dark = true := by
    rcases hm with h | ⟨rfl, h⟩ <;> simp [State.covered, ht, h]
  have hx : s.mode.cur ≠ .off ∧ s.mode.cur ≠ .sleep ∧ s.mode.cur ≠ .boot := by
    rcases hm with h | ⟨-, h⟩ <;> simp [h]
  have hlines : s.coveredLines dark why = s.assertLines dark why := by simp [State.coveredLines, ht]
  simp only [State.enterSafe, hx, hp, hl, hc, ht, hlines, or_self, if_false, if_true, Bool.not_true, Bool.false_eq_true, reduceCtorEq, false_and]

/-- Before LIMP the lines are asserted, and the first state asked for is kept for step 6. -/
theorem State.enterSafe_boot (hp : s.pow.logicOn = true) (hb : s.mode.cur = .boot) (hn : s.mode.bootSafe = none) (hl : s.mode.sleep = .none)
    (dark : Bool) (why : SafeWhy) : s.enterSafe dark why none =
      { s.assertSafe dark why with
        mode := { (s.assertSafe dark why).mode with bootSafe := some (if dark then .safeDark else .safeBeam, []) } } := by
  simp only [State.enterSafe, hp, hb, hl, State.assertSafe_mode, hn, reduceCtorEq, or_self, if_false, if_true, Bool.not_true, Bool.false_eq_true,
    false_and, Option.toList_none, List.map_nil, List.append_nil]

/-! ### Class timers (R490, R491) -/

theorem State.graceOver_started {k a : Nat} (h : (vget s.flt.timers k).start = some a) (he : (vget s.flt.timers k).expired = false) :
    s.graceOver k = if s.grace k ≤ s.clk.dtime - a then s.escalate k else s := by
  simp only [State.graceOver, h, he, Bool.not_false, Bool.true_and, decide_eq_true_eq]

theorem State.graceOver_expired {k : Nat} (he : (vget s.flt.timers k).expired = true) : s.graceOver k = s := by
  simp only [State.graceOver, he, Bool.not_true, Bool.false_and, Bool.false_eq_true, if_false]
  split <;> rfl

theorem State.ensGraceOver_power {a : Nat} (h : s.flt.ensP.start = some a) (he : s.flt.ensP.expired = false)
    (hg : s.ensGrace clsP ≤ s.clk.now - a) : s.ensGraceOver true = s.escalateEns true := by
  simp only [State.ensGraceOver, if_true, h, he, hg, Bool.not_false, decide_true, Bool.and_self]

theorem State.ensGraceOver_input {a : Nat} (h : s.flt.ensI.start = some a) (he : s.flt.ensI.expired = false)
    (hg : s.ensGrace clsI ≤ s.clk.now - a) : s.ensGraceOver false = s.escalateEns false := by
  simp only [State.ensGraceOver, Bool.false_eq_true, if_false, h, he, hg, Bool.not_false, decide_true, Bool.and_self, if_true]

end

/-- Settles O29: what a hold leaves of the Ensign, the three entries without a transition, and the timers by their expiry. -/
theorem safeAndGrace : Obligations.SafeAndGrace := by
  refine ⟨fun s dark why => ?_, ?_⟩
  · obtain ⟨hg, hh, hl⟩ := s.hold_gates dark
    refine ⟨s.hold_ovr dark, hg, hh, hl, s.hold_safe dark, s.hold_store dark, s.hold_ports dark, s.hold_mode dark,
      fun h => State.enterSafe_off h dark why none, fun hp hm ht hs => State.enterSafe_covered hp ht hs (.inl hm) why,
      fun hp hm ht hs => State.enterSafe_covered hp ht hs (.inr ⟨rfl, hm⟩) why, ?_⟩
    rintro hp hm hb hs u z rfl rfl
    exact ⟨s.assertSafe_ovr dark why, State.enterSafe_boot hp hm hb hs dark why, s.assertSafe_mode dark why⟩
  · rintro t s x rfl
    refine ⟨fun k a h he => ⟨fun hg => ?_, fun hg => ?_⟩, fun k he => ?_, fun a h he hg => ?_, fun a h he hg => ?_⟩
    · rw [exec, execGraceTimerExpiry, occur_eq, State.graceOver_started h he, if_pos hg]
    · rw [exec, execGraceTimerExpiry, occur_eq, State.graceOver_started h he, if_neg (Nat.not_le.mpr hg)]
    · rw [exec, execGraceTimerExpiry, occur_eq, State.graceOver_expired he]
    · rw [exec, execEnsignGraceExpiry, occur_eq, State.ensGraceOver_power h he hg]
    · rw [exec, execEnsignGraceExpiry, occur_eq, State.ensGraceOver_input h he hg]

end Sys2Proof.Machine
end

section
/-! The heartbeats from Guidon to the Ensign, and the Ensign's STATUS. -/

namespace Sys2Proof.Machine

/-! ### A close of the switches -/

/-- A close of the switches, where one begins, changes the switches and nothing else. -/
theorem State.tryClose_eq (s : State) : s.tryClose = s ∨ s.tryClose = s.setEns (Ensign.closing s.clk.now) := by
  simp only [State.tryClose]
  split
  · exact .inr rfl
  · exact .inl rfl

/-! ### Heartbeats (R429 to R431) -/

section
variable {s : State}

/-- `s` with a heartbeat of SEQ `seq` taken from the link, its frame the next in order. -/
def State.beatLanded (s : State) : State :=
  s.setDl (fun d => { d with beatOut := none, seqDown := d.seqDown + 1, rxDown := d.seqDown + 1 })

/-- `s` with a heartbeat noted at this instant. -/
def State.beatNoted (seq : Byte) (s : State) : State := s.setEns (fun e => { e with hbSeq := some seq, winAt := s.clk.now })

/-- The heartbeat comes in its window, in sequence and with the right answer; of the first one the answer alone counts (R430, R431). -/
def State.beatFits (s : State) (seq a : Byte) : Bool :=
  match s.ens.hbSeq with
  | none => decide (a = Config.answer s.gdn.chal)
  | some k => decide ((s.ens.winAt + 750000 ≤ s.clk.now ∧ s.clk.now ≤ s.ens.winAt + 1250000) ∧ seq = k + 1 ∧ a = Config.answer s.gdn.chal)

theorem State.discardDown_clk (s : State) : s.discardDown.clk = s.clk := by
  simp only [State.discardDown, State.raiseHv_clk, State.setDl_clk]

/-- `s` with a heartbeat sent, which answers the challenge that Guidon holds (R429). -/
def State.beatSent (s : State) : State :=
  ((s.setGdn (fun g => { g with hbSeq := g.hbSeq + 1, hbAt := s.clk.now })).setDl (fun d => { d with
    beatOut := some (s.gdn.hbSeq + 1, Config.answer s.gdn.chal, false) })).resolve 0x247 0

theorem State.beatSent_frame (s : State) : s.beatSent.gdn = { s.gdn with hbSeq := s.gdn.hbSeq + 1, hbAt := s.clk.now } ∧
    s.beatSent.dl.beatOut = some (s.gdn.hbSeq + 1, Config.answer s.gdn.chal, false) ∧ s.beatSent.ens = s.ens := by
  rw [State.beatSent, State.resolve_gdn, State.resolve_dl, State.resolve_ens]
  exact ⟨rfl, rfl, rfl⟩

theorem State.heartbeatSend_due (hp : s.pow.logicOn = true) (hr : s.gdn.hbRun = true) (ht : s.gdn.test = none)
    (hd : s.gdn.hbAt + 1000000 ≤ s.clk.now) : s.heartbeatSend = s.beatSent := by
  simp only [State.heartbeatSend, hp, hr, ht, Bool.not_true, Bool.or_self, Bool.false_eq_true, if_false, Option.isSome_none, Bool.false_and,
    Nat.not_lt.mpr hd]
  rfl

/-- A heartbeat in a frame that is whole and in order is good where it fits. -/
theorem State.heartbeat_whole (ho : s.ensOn = true) (hp : s.pow.logicOn = true) (hw : s.dl.seqDown = s.dl.rxDown) (seq a : Byte) :
    s.heartbeat seq a false true =
      if s.beatFits seq a then (s.beatLanded.beatNoted seq).heartGood else (s.beatLanded.beatNoted seq).heartBad := by
  have hl : (s.dl.seqDown == s.dl.rxDown) = true := beq_iff_eq.mpr hw
  have hwin : (750000 ≤ s.clk.now - s.ens.winAt ∧ s.clk.now - s.ens.winAt ≤ 1250000) ↔
      (s.ens.winAt + 750000 ≤ s.clk.now ∧ s.clk.now ≤ s.ens.winAt + 1250000) := by omega
  cases hk : s.ens.hbSeq with
  | none =>
    simp only [State.heartbeat, State.beatFits, State.passDown, State.setDl_ens, State.setDl_gdn, ho, hp, hl, hk, Option.isNone_none, Bool.not_true,
      Bool.or_self, Bool.true_or, Bool.and_self, Bool.true_and, Bool.false_eq_true, if_false, if_true]
    rfl
  | some k =>
    simp only [State.heartbeat, State.beatFits, State.passDown, State.setDl_ens, State.setDl_gdn, ho, hp, hl, hk, Option.isNone_some, hwin,
      Bool.not_true, Bool.or_self, Bool.false_or, Bool.and_self, Bool.and_true, Bool.false_eq_true, if_false, if_true, Bool.and_eq_true, beq_iff_eq,
      decide_eq_true_eq, and_assoc]
    rfl

/-- One in a frame that is not is bad, whatever it holds. -/
theorem State.heartbeat_broken {ok : Bool} (ho : s.ensOn = true) (hp : s.pow.logicOn = true) (hw : ok = false ∨ s.dl.seqDown ≠ s.dl.rxDown)
    (seq a : Byte) : s.heartbeat seq a false ok = (s.beatLanded.discardDown.beatNoted seq).heartBad := by
  have hl : (ok && s.dl.seqDown == s.dl.rxDown) = false := by
    rcases hw with h | h <;> simp [h]
  simp only [State.heartbeat, ho, hp, hl, Bool.not_true, Bool.or_self, Bool.and_false, Bool.false_and, Bool.false_eq_true, if_false]
  rfl

/-- The marked heartbeat of the heartbeat test is classed by its window and counts for nothing (Table 10.12). -/
theorem State.heartbeat_test {id : ReqId} {k : Nat} (ho : s.ensOn = true) (hp : s.pow.logicOn = true) (hw : s.dl.seqDown = s.dl.rxDown)
    (ht : s.gdn.test = some (id, k)) (seq a : Byte) : s.heartbeat seq a true true =
      ((s.beatLanded.setEns (fun e => { e with hbSeq := some seq })).setGdn (fun g => { g with test := none })).testReply id k
        (if s.clk.now - s.ens.winAt < 750000 ∨ 1250000 < s.clk.now - s.ens.winAt then 0 else 1) ((s.clk.now - s.ens.winAt) / 1000) := by
  have hl : (s.dl.seqDown == s.dl.rxDown) = true := beq_iff_eq.mpr hw
  simp only [State.heartbeat, ho, hp, hl, Bool.not_true, Bool.or_self, Bool.and_self, Bool.false_eq_true, if_false, if_true]
  simp only [State.setEns_gdn, State.passDown, State.setDl_gdn, ht]
  rfl

theorem State.windowClose_due (ho : s.ensOn = true) (hp : s.pow.logicOn = true) (hs : s.ens.hbSeq.isSome = true)
    (hd : s.ens.winAt + 1250000 ≤ s.clk.now) : s.windowClose = (s.setEns (fun e => { e with winAt := e.winAt + 1250000 })).heartBad := by
  simp only [State.windowClose, ho, hp, hs, hd, decide_true, Bool.and_self, if_true]

/-! ### What a heartbeat leaves of the counts (R431, R432) -/

/-- A bad heartbeat or an empty window: counted and noted among the last 16, the run of good ones broken. -/
def State.badNoted (s : State) : State :=
  (s.setEns (fun e => { e with badCnt := satAdd e.badCnt 1, wins := (true :: e.wins).take 16, badRun := e.badRun + 1, goodRun := 0 })).raiseHv
    0x28A 0 0

theorem State.badNoted_ens (s : State) : s.badNoted.ens =
    { s.ens with badCnt := satAdd s.ens.badCnt 1, wins := (true :: s.ens.wins).take 16, badRun := s.ens.badRun + 1, goodRun := 0 } :=
  State.raiseHv_ens _ _ _ _
theorem State.badNoted_mode (s : State) : s.badNoted.mode = s.mode := State.raiseHv_mode _ _ _ _

/-- The Ensign trips at the second bad one in a row, or the third of the last 16, unless a safe state is held already. -/
theorem State.heartBad_eq (s : State) : s.heartBad =
    if (1 ≤ s.ens.badRun ∨ 2 ≤ ((s.ens.wins.take 15).filter id).length) ∧ s.ens.safe = none then
      (s.badNoted.raiseHv 0x28B 0 0).ensEnter false 3 0x28B
    else s.badNoted := by
  have hb : s.heartBad = if (2 ≤ s.badNoted.ens.badRun ∨ 3 ≤ (s.badNoted.ens.wins.filter id).length) ∧ s.badNoted.ens.safe.isNone then
      (s.badNoted.raiseHv 0x28B 0 0).ensEnter false 3 0x28B else s.badNoted := rfl
  rw [hb, State.badNoted_ens]
  simp [Nat.succ_le_succ_iff]

theorem State.heartGood_runs (s : State) : s.heartGood.ens.badRun = 0 ∧ s.heartGood.ens.goodRun = min 3 (s.ens.goodRun + 1) ∧
    s.heartGood.ens.badCnt = s.ens.badCnt := by
  unfold State.heartGood
  rcases State.tryClose_eq (s.setEns (fun e => { e with wins := (false :: e.wins).take 16, badRun := 0, goodRun := min 3 (e.goodRun + 1) }))
    with h | h <;> rw [h] <;> exact ⟨rfl, rfl, rfl⟩

/-! ### STATUS (R426, R617) -/

/-- A STATUS reports the Ensign with its new challenge, a free value. -/
theorem State.statusSend_due (ho : s.ensOn = true) (hd : s.ens.statusAt + 100000 ≤ s.clk.now) :
    ∃ (c : BitVec 4) (m : StatusMsg), m = { s.statusNow false with chal := c } ∧
      s.statusSend.ens = { s.ens with chal := c, statusAt := s.clk.now, told := m } ∧ s.statusSend.dl = { s.dl with statusOut := some m } ∧
      s.statusSend.gdn = s.gdn ∧ s.statusSend.flt = s.flt := by
  refine ⟨BitVec.ofNat 4 s.fresh.1, _, rfl, ?_⟩
  simp only [State.statusSend, ho, hd, decide_true, Bool.and_self, if_true, State.statusLeave, State.setDl_ens, State.setEns_ens, State.setDl_dl,
    State.setEns_dl, State.setDl_gdn, State.setEns_gdn, State.setDl_flt, State.setEns_flt]
  exact ⟨rfl, rfl, rfl, rfl⟩

/-- `s` with what a STATUS says held by Guidon, the cap request apart. -/
def State.statusHeard (m : StatusMsg) (s : State) : State :=
  { s with
    gdn := { s.gdn with chal := m.chal, ensOk := true, ensAt := s.clk.now, heldSeen := m.held, ensMode := m.mode, swSeen := m.sw }
    tok := { s.tok with nf := m.inst.getLsbD 5 } }

/-- A STATUS with the cap request as it was raises nothing. -/
theorem State.statusTake_same {m : StatusMsg} (h : s.gdn.capSeen = m.inst.getLsbD 5) : s.statusTake m = s.statusHeard m := by
  simp only [State.statusTake, State.statusHeard, ← h, bne_self_eq_false, Bool.false_eq_true, if_false]
  rfl

theorem State.ensStatus_taken {m : StatusMsg} (hp : s.pow.logicOn = true) (hm : m = s.dl.statusOut.getD (s.statusNow false))
    (ho : s.dl.seqUp = s.dl.rxUp) (hc : s.gdn.capSeen = m.inst.getLsbD 5) : s.ensStatus =
      (s.setDl (fun d => { d with statusOut := none, seqUp := d.seqUp + 1, rxUp := d.seqUp + 1 })).statusHeard m := by
  simp only [State.ensStatus, hp, Bool.not_true, Bool.false_eq_true, if_false, State.landUp, State.setDl_dl, if_pos ho, ← hm]
  exact State.statusTake_same hc

theorem State.statusHeard_frame (m : StatusMsg) (f : DieLink → DieLink) (s : State) : ((s.setDl f).statusHeard m).gdn =
      { s.gdn with chal := m.chal, ensOk := true, ensAt := s.clk.now, heldSeen := m.held, ensMode := m.mode, swSeen := m.sw } ∧
    ((s.setDl f).statusHeard m).tok = { s.tok with nf := m.inst.getLsbD 5 } ∧ ((s.setDl f).statusHeard m).dl = f s.dl ∧
    ((s.setDl f).statusHeard m).flt = s.flt := ⟨rfl, rfl, rfl, rfl⟩

theorem State.ensStatus_discarded (hp : s.pow.logicOn = true) (ho : s.dl.seqUp ≠ s.dl.rxUp) : s.ensStatus =
    (s.setDl (fun d => { d with statusOut := none, seqUp := d.seqUp + 1, rxUp := d.seqUp + 1 })).discardUp := by
  simp only [State.ensStatus, hp, Bool.not_true, Bool.false_eq_true, if_false, State.landUp, State.setDl_dl, ho]
  rfl

/-- Without a STATUS for 1 ms Guidon asserts KASEL and enters SAFE-BEAM itself. -/
theorem State.ensSilent_due (hp : s.pow.logicOn = true) (hr : s.gdn.hbRun = true) (hd : s.gdn.ensAt + 1000000 ≤ s.clk.now) :
    s.ensSilent = ((s.setGdn (fun g => { g with ensOk := false, ensAt := s.clk.now, kasel := true })).event 0x244).enterSafe false
      { src := 11, cls := 0, code := 0x244, logic := true } none := by
  simp only [State.ensSilent, hp, hr, hd, decide_true, Bool.and_self, if_true]

end

/-- Settles O30: each row by the lemma that says what it does when it is due; the counts by what a bad and a good heartbeat note. -/
theorem heartbeatRows : Obligations.HeartbeatRows := by
  refine ⟨?_, fun s => ⟨fun hr hw => ⟨_, rfl, ?_⟩, fun hr hs => ⟨s.badNoted, ?_, s.badNoted_mode, ?_⟩, s.heartGood_runs⟩⟩
  · rintro t s x rfl hp ho
    refine ⟨fun hr ht hd => ⟨_, ?_, State.beatSent_frame _⟩, ?_, ?_, fun hs hd => ?_, fun hd => ?_,
      fun m hm => ⟨fun hu hc => ?_, fun hu => ?_⟩, fun hr hd => ?_⟩
    · rw [exec, execHeartbeatSend, occur_eq, State.heartbeatSend_due hp hr ht hd]
    · rintro seq a y hw rfl z rfl
      refine ⟨fun hf ha => ?_, fun k hk => ⟨fun hq h1 h2 ha => ?_, fun hbad => ?_⟩, ?_⟩
      · have hfit : (s.advance t).beatFits seq a = true := by simp [State.beatFits, hf, ha]
        rw [exec, execHeartbeat, occur_eq, State.heartbeat_whole ho hp hw, if_pos hfit]
        rfl
      · have hfit : (s.advance t).beatFits seq a = true := by simp [State.beatFits, hk, hq, h1, h2, ha]
        rw [exec, execHeartbeat, occur_eq, State.heartbeat_whole ho hp hw, if_pos hfit]
        rfl
      · have hfit : ¬ (s.advance t).beatFits seq a = true := by
          simp only [State.beatFits, hk, decide_eq_true_eq]
          rintro ⟨⟨h1, h2⟩, hq, ha⟩
          rcases hbad with h | h | h | h
          · exact absurd h1 (Nat.not_le.mpr h)
          · exact absurd h2 (Nat.not_le.mpr h)
          · exact h hq
          · exact h ha
        rw [exec, execHeartbeat, occur_eq, State.heartbeat_whole ho hp hw, if_neg hfit]
        rfl
      · rintro id k d ht rfl
        rw [exec, execHeartbeat, occur_eq, State.heartbeat_test ho hp hw ht]
        rfl
    · rintro seq a ok z hw rfl
      rw [exec, execHeartbeat, occur_eq, State.heartbeat_broken ho hp hw, State.beatNoted, State.discardDown_clk]
      rfl
    · rw [exec, execHeartbeatWindowClose, occur_eq, State.windowClose_due ho hp hs hd]
    · obtain ⟨c, m, hm, hu⟩ := State.statusSend_due ho hd
      exact ⟨c, m, (s.advance t).statusSend, rfl, hm, hu⟩
    · refine ⟨(s.advance t).ensStatus, rfl, ?_⟩
      rw [State.ensStatus_taken hp hm hu hc]
      exact State.statusHeard_frame _ _ _
    · rw [exec, execEnsignStatus, occur_eq, State.ensStatus_discarded hp hu]
    · rw [exec, execEnsignSilent, occur_eq, State.ensSilent_due hp hr hd]
  · rw [State.heartBad_eq, hr, hw, if_neg (by simp), State.badNoted_ens, State.badNoted_mode, hr]
    exact ⟨rfl, rfl, rfl, rfl, rfl, rfl⟩
  · rw [State.badNoted_ens]
  · rw [State.heartBad_eq, if_pos ⟨.inl hr, hs⟩]

end Sys2Proof.Machine
end

section
/-! The checks of the redundant channels: the oscillators, the plausibility of the engine's power, Guidon's self-test. -/

namespace Sys2Proof.Machine

section
variable {s : State}

/-! ### The oscillators (R433, R678) -/

theorem State.oscCheck_passes {d : Nat} (ho : s.ensOn = true) (hr : s.rtc.oscOk = true) (hd : d ≤ 50) :
    s.oscCheck d = (s.setEns (fun e => { e with oscPassed := true, oscBad := false })).tryClose := by
  simp only [State.oscCheck, ho, hr, hd, Bool.not_true, Bool.or_self, Bool.false_eq_true, if_false, if_true]

/-- A deviation above 50 permille is a failure once the comparison has passed; before that it only withholds release. -/
theorem State.oscCheck_fails {d : Nat} (ho : s.ensOn = true) (hr : s.rtc.oscOk = true) (hd : 50 < d) :
    s.oscCheck d = if s.ens.oscPassed then s.oscFail else s.setEns (fun e => { e with oscBad := true }) := by
  simp only [State.oscCheck, ho, hr, Nat.not_le.mpr hd, Bool.not_true, Bool.or_self, Bool.false_eq_true, if_false]

theorem State.oscFail_first (h : s.ens.oscBad = false) :
    s.oscFail = ((s.setEns (fun e => { e with oscBad := true })).raiseHv 0x28C 0 0).ensEnter false 10 0x28C := by
  simp only [State.oscFail, h, Bool.false_and, Bool.false_eq_true, if_false]

theorem State.oscTimeout_due (ho : s.ensOn = true) (hr : s.rtc.oscOk = false) (hd : s.ens.powerOnAt + 1500000000 ≤ s.clk.now) :
    s.oscTimeout = s.oscLost := by
  simp only [State.oscTimeout, ho, hr, hd, Bool.not_false, decide_true, Bool.and_self, if_true]

theorem State.rtcOscOk_starts (ho : s.ensOn = true) (hr : s.rtc.oscOk = false) : s.rtcOscOk = { s with rtc := { s.rtc with oscOk := true } } := by
  simp only [State.rtcOscOk, ho, hr, Bool.not_false, Bool.and_self, if_true]

/-- `s` with the RTC's oscillator stopped: OSCOK 0 and OSCSTOP set (R678). -/
def State.oscStopped (s : State) : State := ({ s with rtc := { s.rtc with oscOk := false } } : State).hwSet 0x100007 4

theorem State.rtcOscStop_stops (ho : s.ensOn = true) (hr : s.rtc.oscOk = true) : s.rtcOscStop = (s.oscStopped.raiseHv 0x401 0 0).oscLost := by
  simp only [State.rtcOscStop, ho, hr, Bool.and_self, if_true]
  rfl

/-! ### The plausibility of the power (R460) -/

/-- The power in mW that the passes of the window should have drawn; a window without a pass keeps the last one. -/
def State.powerExpected (s : State) : Nat := if s.gdn.winTime = 0 then s.gdn.expect else s.gdn.winEnergy / s.gdn.winTime / 1000000000

/-- The power in mW that the Ensign has measured. -/
def State.powerMeasured (s : State) : Nat := s.gdn.vled.toNat * s.gdn.imeas.toNat / 1000

/-- VLED is under its limit, or has been within the last 100 ms: then the power is not judged. -/
def State.vledLow (s : State) : Bool :=
  s.pow.vledUv || (match s.pow.vledUvLeft with | some a => decide (s.clk.now < a + 100000000) | none => false)

theorem State.vledLow_of (h : s.pow.vledUv = true ∨ ∃ a, s.pow.vledUvLeft = some a ∧ s.clk.now < a + 100000000) : s.vledLow = true := by
  rcases h with h | ⟨a, h, ha⟩
  · simp [State.vledLow, h]
  · simp [State.vledLow, h, ha]

theorem State.vledLow_not (h : s.pow.vledUv = false) (hl : ∀ a, s.pow.vledUvLeft = some a → a + 100000000 ≤ s.clk.now) : s.vledLow = false := by
  rw [State.vledLow, h, Bool.false_or]
  split
  · rename_i a ha
    exact decide_eq_false (Nat.not_lt.mpr (hl a ha))
  · rfl

/-- `s` with the window over and the next one begun. -/
def State.windowOver (exp meas : Nat) (s : State) : State :=
  s.setGdn (fun g => { g with winAt := g.winAt + 4000000, winEnergy := 0, winTime := 0, expect := exp, measPow := meas })

/-- `s` with the measured power judged: above three halves of the expected plus 2 W, and below half of it less 1 W. -/
def State.powerJudged (exp meas : Nat) (s : State) : State :=
  let y := if 3 * exp + 4000 < 2 * meas then s.raise0 0x241 0 0 else s.resolve 0x241 0
  if 2000 < exp ∧ 2 * meas + 2000 < exp then y.raise0 0x242 0 0 else y.resolve 0x242 0

theorem State.plausible_due (hm : s.mode.cur = .beam) (hd : s.gdn.winAt + 4000000 ≤ s.clk.dtime) : s.plausible =
    if s.vledLow then s.windowOver s.powerExpected s.powerMeasured
    else (s.windowOver s.powerExpected s.powerMeasured).powerJudged s.powerExpected s.powerMeasured :=
  if_pos ⟨hm, hd⟩

theorem State.powerJudged_high {exp meas : Nat} (h : 3 * exp + 4000 < 2 * meas) : s.powerJudged exp meas = (s.raise0 0x241 0 0).resolve 0x242 0 := by
  have hl : ¬ (2000 < exp ∧ 2 * meas + 2000 < exp) := by omega
  simp only [State.powerJudged, h, hl, if_true, if_false]

theorem State.powerJudged_low {exp meas : Nat} (h : 2000 < exp) (hm : 2 * meas + 2000 < exp) :
    s.powerJudged exp meas = (s.resolve 0x241 0).raise0 0x242 0 0 := by
  have hh : ¬ 3 * exp + 4000 < 2 * meas := by omega
  simp only [State.powerJudged, h, hm, hh, and_self, if_true, if_false]

theorem State.powerJudged_fits {exp meas : Nat} (hh : 2 * meas ≤ 3 * exp + 4000) (hl : exp ≤ 2000 ∨ exp ≤ 2 * meas + 2000) :
    s.powerJudged exp meas = (s.resolve 0x241 0).resolve 0x242 0 := by
  have hl' : ¬ (2000 < exp ∧ 2 * meas + 2000 < exp) := by omega
  simp only [State.powerJudged, Nat.not_lt.mpr hh, hl', if_false]

/-! ### Guidon's self-test and the pairs (R425, R610, R680) -/

theorem State.romCheck_on (hp : s.pow.logicOn = true) (ok : Bool) : s.romCheck ok = if ok then s.resolve 0x248 0 else s.raise0 0x248 0 0 := by
  simp only [State.romCheck, hp, Bool.not_true, Bool.false_eq_true, if_false]

theorem State.pairMismatch_on (hp : s.pow.logicOn = true) (ho : s.ensOn = true) (goff : Bool) : s.pairMismatch goff = s.ensEnter goff 2 0 := by
  simp only [State.pairMismatch, hp, ho, Bool.and_self, if_true]

end

/-- Settles O31: each check by the lemma that says what it finds; the power by the three ways in which it is judged. -/
theorem channelChecks : Obligations.ChannelChecks := by
  rintro t s x rfl hp ho
  refine ⟨fun d hd hr => ?_, fun d hd hr hs hb => ?_, fun d hd hr hs => ?_, fun hr hd => ?_, fun hr => ?_, fun hr => ?_, ?_, ?_, ?_,
    fun goff => ?_⟩
  · rw [exec, execOscCheck, occur_eq, State.oscCheck_passes ho hr hd]
  · rw [exec, execOscCheck, occur_eq, State.oscCheck_fails ho hr hd, if_pos hs, State.oscFail_first hb]
  · rw [exec, execOscCheck, occur_eq, State.oscCheck_fails ho hr hd, if_neg (by simp [hs])]
  · rw [exec, execOscStartTimeout, occur_eq, State.oscTimeout_due ho hr hd, State.oscLost]
  · rw [exec, execRtcOscOk, occur_eq, State.rtcOscOk_starts ho hr]
  · exact ⟨(s.advance t).oscStopped, rfl, State.hwSet_flag_set _ _ (by decide) (by decide), rfl,
      by rw [exec, execRtcOscStop, occur_eq, State.rtcOscStop_stops ho hr]⟩
  · intro hm hd meas exp z hmeas hexp hz
    have hp : (s.advance t).plausible = if (s.advance t).vledLow then z else z.powerJudged exp meas := by
      rw [State.plausible_due hm hd, hz, hmeas, hexp]
      rfl
    refine ⟨fun hu => ?_, fun hu hl => ?_⟩
    · rw [exec, execPowerPlausibility, occur_eq, hp, if_pos (State.vledLow_of hu)]
    · rw [exec, execPowerPlausibility, occur_eq, hp, if_neg (Bool.eq_false_iff.mp (State.vledLow_not hu hl))]
      exact ⟨fun h => by rw [State.powerJudged_high h], fun h h' => by rw [State.powerJudged_low h h'],
        fun h h' => by rw [State.powerJudged_fits h h']⟩
  · rw [exec, execGdnRomCheck, occur_eq, State.romCheck_on hp, if_pos rfl]
  · rw [exec, execGdnRomCheck, occur_eq, State.romCheck_on hp, if_neg Bool.false_ne_true]
  · rw [exec, execKaselPairMismatch, occur_eq, State.pairMismatch_on hp ho]

end Sys2Proof.Machine
end

section
/-! The safety inputs: their rows, the pairs that disagree, and the filters that decide when a level counts. -/

namespace Sys2Proof.Machine

section
variable {s : State}

/-! ### Dark demand and housing (R445 to R447, R449) -/

theorem State.darkDemand_seen (ho : s.ensOn = true) (ha : s.ens.filt.getLsbD 0 = true) (hb : s.ens.filt.getLsbD 1 = false) :
    s.darkDemand = ((s.setEns (fun e => { e with darkReq := true })).raiseHv 0x28D 0 0).ensEnter true 4 0x28D := by
  simp only [State.darkDemand, ho, ha, hb, Bool.not_false, Bool.and_self, if_true, State.inputSeen]

theorem State.darkEnd_seen (ho : s.ensOn = true) (hr : s.ens.darkReq = true) (ha : s.ens.filt.getLsbD 0 = false)
    (hb : s.ens.filt.getLsbD 1 = true) :
    s.darkEnd = ((s.setEns (fun e => { e with darkReq := false })).raiseHv 0x28D 0 0).tryClose := by
  simp only [State.darkEnd, ho, hr, ha, hb, Bool.not_false, Bool.and_self, if_true, State.inputSeen]

/-- An open housing enters SAFE-DARK with cause 5, but for armed service in SERVICE. -/
theorem State.housingOpen_seen (ho : s.ensOn = true) (hc : s.ens.hsgOpen = false)
    (hf : s.ens.filt.getLsbD 2 = true ∨ s.ens.filt.getLsbD 3 = true) : s.housingOpen =
      if s.ens.svcMode && s.ens.svcArm then (s.setEns (fun e => { e with hsgOpen := true })).raiseHv 0x28D 0 0
      else ((s.setEns (fun e => { e with hsgOpen := true })).raiseHv 0x28D 0 0).ensEnter true 5 0x28D := by
  have hg : (s.ens.filt.getLsbD 2 || s.ens.filt.getLsbD 3) = true := Bool.or_eq_true_iff.mpr hf
  simp only [State.housingOpen, ho, hc, hg, Bool.not_true, Bool.or_self, Bool.false_eq_true, if_false, State.inputSeen, State.raiseHv_ens,
    State.setEns_ens]

theorem State.housingClosed_seen (ho : s.ensOn = true) (hc : s.ens.hsgOpen = true) (ha : s.ens.filt.getLsbD 2 = false)
    (hb : s.ens.filt.getLsbD 3 = false) :
    s.housingClosed = ((s.setEns (fun e => { e with hsgOpen := false })).raiseHv 0x28D 0 0).tryClose := by
  simp only [State.housingClosed, ho, hc, ha, hb, Bool.or_self, Bool.not_false, Bool.and_self, if_true, State.inputSeen]

/-! ### Service enable (R449 to R451) -/

/-- The second input decides: within 500 ms of the first it arms, later it locks. -/
theorem State.svcArm_second {a : Nat} (ho : s.ensOn = true) (h4 : s.ens.filt.getLsbD 4 = true) (h5 : s.ens.filt.getLsbD 5 = true)
    (ha : s.ens.svcArm = false) (hl : s.ens.svcLock = false) (hf : s.ens.svcFirst = some a) : s.svcArm =
      if max (vget s.ens.rawAt 4) (vget s.ens.rawAt 5) ≤ a + 500000000 then
        (s.setEns (fun e => { e with svcArm := true, svcFirst := none })).raiseHv 0x28D 0 0
      else (s.setEns (fun e => { e with svcLock := true, svcFirst := none })).raiseHv 0x28F 0 0 := by
  simp only [State.svcArm, ho, h4, h5, ha, hl, hf, Bool.and_self, Bool.not_true, Bool.or_self, Bool.false_eq_true, if_false, State.inputSeen]

/-- Losing the arming with the housing open in SERVICE is an open housing. -/
theorem State.svcDisarm_seen (ho : s.ensOn = true) (ha : s.ens.svcArm = true)
    (hf : s.ens.filt.getLsbD 4 = false ∨ s.ens.filt.getLsbD 5 = false) : s.svcDisarm =
      if s.ens.hsgOpen && s.ens.svcMode then ((s.setEns (fun e => { e with svcArm := false })).raiseHv 0x28D 0 0).ensEnter true 5 0x28D
      else (s.setEns (fun e => { e with svcArm := false })).raiseHv 0x28D 0 0 := by
  have hg : (s.ens.filt.getLsbD 4 && s.ens.filt.getLsbD 5) = false := Bool.and_eq_false_iff.mpr hf
  simp only [State.svcDisarm, ho, ha, hg, Bool.not_false, Bool.and_self, if_true, State.inputSeen, State.raiseHv_ens, State.setEns_ens]

/-! ### The near field (R453 to R455) -/

theorem State.nearField_low {c : Channel} {k : Nat} (ho : s.ensOn = true) (hk : k = if c = .a then 6 else 7) (hn : s.ens.nfInt = false)
    (hl : s.ens.raw.getLsbD k = false) (hd : vget s.ens.rawAt k + 600000 ≤ s.clk.now) :
    s.nearField c = (s.setEns (fun e => { e with nfInt := true })).raiseHv 0x28D 0 0 := by
  have hc : s.nearField c = if s.ensOn && !s.ens.nfInt && !s.ens.raw.getLsbD k && decide (vget s.ens.rawAt k + 600000 ≤ s.clk.now) then
      (s.setEns (fun e => { e with nfInt := true })).inputSeen else s := by
    rw [hk]; cases c <;> rfl
  rw [hc, ho, hn, hl, decide_eq_true hd]
  rfl

/-- A channel that has been high for NFREL is free. -/
theorem State.nearFree_high {k : Nat} (hr : s.ens.raw.getLsbD k = true) (hd : vget s.ens.rawAt k + s.fld 0xA0000 23 16 * 1000000 ≤ s.clk.now) :
    s.nearFree k = true := by
  simp only [State.nearFree, Ensign.seen, hr, hd, if_true, decide_true, Bool.and_self]

theorem State.nearRelease_free (ho : s.ensOn = true) (hn : s.ens.nfInt = true) (h6 : s.nearFree 6 = true) (h7 : s.nearFree 7 = true) :
    s.nearRelease = (s.setEns (fun e => { e with nfInt := false })).raiseHv 0x28D 0 0 := by
  simp only [State.nearRelease, ho, hn, h6, h7, Bool.and_self, if_true, State.inputSeen]

/-- The instant of a channel's last test pulse. -/
def Ensign.pulseAt (c : Channel) (e : Ensign) : Nat := match c with | .a => e.pulseA | .b => e.pulseB

/-- A channel is without its test pulse. -/
def Ensign.pulseMissing (c : Channel) (e : Ensign) : Ensign :=
  match c with | .a => { e with noPulseA := true } | .b => { e with noPulseB := true }

theorem Ensign.pulseMissing_discNf (c : Channel) (e : Ensign) : (e.pulseMissing c).discNf = e.discNf := by cases c <;> rfl

/-- Without its test pulse for NFTPMAX a channel makes the pair, that was not discrepant, so from the end of that time on (R454). -/
theorem State.pulseTimeout_due {c : Channel} {a : Nat} (ho : s.ensOn = true) (hr : s.ens.running = true) (hf : s.flag 0xA0000 0 = true)
    (hn : s.ens.discNf = none) (ha : a = s.ens.pulseAt c + s.fld 0xA0000 15 8 * 1000000) (hd : a ≤ s.clk.now) :
    s.pulseTimeout c = s.setEns (fun e => { e.pulseMissing c with discNf := some a }) := by
  have hc : s.pulseTimeout c = if s.ensOn && s.ens.running && s.flag 0xA0000 0 && decide (a ≤ s.clk.now) then
      (s.setEns (Ensign.pulseMissing c)).setDisc .nf true a else s := by
    rw [ha]; cases c <;> rfl
  rw [hc, if_pos (by rw [ho, hr, hf, decide_eq_true hd]; rfl)]
  simp only [State.setDisc, if_true, State.setEns, Ensign.pulseMissing_discNf, hn, Option.none_or]

/-! ### Discrepancies (R444) -/

/-- Since when a pair has been discrepant, its limit in ms and its fault (Table 10.7). -/
def State.discOf (s : State) : InputPair → Option Nat × Nat × Nat
  | .dark => (s.ens.discDark, 50, 0x287)
  | .hsg => (s.ens.discHsg, 500, 0x288)
  | .nf => (s.ens.discNf, 100, 0x289)

/-- A discrepancy that has outlasted its limit and still holds raises its fault. -/
theorem State.discrepancy_lasts {pair : InputPair} {a ms code : Nat} (ho : s.ensOn = true) (hp : s.discOf pair = (some a, ms, code))
    (hd : a + ms * 1000000 ≤ s.clk.now)
    (hs : discrepant pair (fun k => (s.ens.seen s.clk.now k).1) = true ∨ pair = .nf ∧ s.pulseGone = true) :
    s.discrepancy pair = s.raiseHv code 0 0 := by
  have hs' : (discrepant pair (fun k => (s.ens.seen s.clk.now k).1) || (decide (pair = .nf) && s.pulseGone)) = true := by
    rcases hs with h | ⟨rfl, h⟩ <;> simp [h]
  cases pair with
  | dark | hsg | nf =>
    obtain ⟨ha, hm⟩ := Prod.mk.inj hp
    obtain ⟨rfl, rfl⟩ := Prod.mk.inj hm
    simp only [State.discrepancy, ha]
    exact if_pos (by rw [ho, decide_eq_true hd, Bool.true_and, Bool.and_true]; exact hs')

/-! ### Levels and filters (R444, R653) -/

theorem State.inputChange_low {i : SafetyInput} {k : Nat} (ho : s.ensOn = true) (hk : k = inputBit i) (hv : s.pow.vbat = true)
    (hr : s.ens.raw.getLsbD k = true) : s.inputChange i false = s.setEns (fun e => { e with
      raw := e.raw &&& ~~~(BitVec.ofNat 8 (2 ^ k)), rawPrev := vset e.rawPrev k (vget e.rawAt k), rawAt := vset e.rawAt k s.clk.now }) := by
  subst hk
  simp only [State.inputChange, hv, hr, ho, Bool.not_true, Bool.false_or, beq_iff_eq, Bool.false_eq_true, if_false, reduceCtorEq]

/-- A rise of HSG_A: after a low of less than 50 µs the input counts as high since before. -/
theorem State.inputChange_hsgA_high {d : Nat} (ho : s.ensOn = true) (hv : s.pow.vbat = true) (hr : s.ens.raw.getLsbD 2 = false)
    (hd : d = s.clk.now - vget s.ens.rawAt 2) : s.inputChange .hsgA true = s.setEns (fun e => { e with
      raw := e.raw ||| 4#8, rawAt := vset e.rawAt 2 (if d < 50000 then vget e.rawPrev 2 else s.clk.now) }) := by
  subst hd
  simp only [State.inputChange, inputBit, hv, hr, ho, Bool.not_true, Bool.false_or, beq_iff_eq, Bool.false_eq_true, if_false, if_true,
    State.inputRise, Nat.reduceLeDiff, false_and, or_false, decide_eq_true_eq, Nat.reduceEqDiff, or_self] <;> rfl

@[simp] theorem State.setDisc_filt (pair : InputPair) (on : Bool) (a : Nat) (s : State) : (s.setDisc pair on a).ens.filt = s.ens.filt := by
  simp only [State.setDisc]
  split
  · cases pair <;> rfl
  · rw [State.resolve_ens]; cases pair <;> rfl

/-- What follows from a filtered level leaves the levels as they are. -/
theorem State.filtered_filt (k a : Nat) (s : State) : (s.filtered k a).ens.filt = s.ens.filt := by
  simp only [State.filtered, State.pairDisc]
  (repeat' split) <;> simp

/-- A bit set to a level reads as that level. -/
theorem getLsbD_put {k : Nat} (hk : k < 8) (b : Bool) (v : BitVec 8) :
    (if b then v ||| BitVec.ofNat 8 (2 ^ k) else v &&& ~~~BitVec.ofNat 8 (2 ^ k)).getLsbD k = b := by
  have hm : (BitVec.ofNat 8 (2 ^ k)).getLsbD k = true := by
    rw [BitVec.getLsbD_ofNat, decide_eq_true hk, Nat.testBit_two_pow_self, Bool.and_self]
  cases b with
  | true => rw [if_pos rfl, BitVec.getLsbD_or, hm, Bool.or_true]
  | false => rw [if_neg Bool.false_ne_true, BitVec.getLsbD_and, BitVec.getLsbD_not, hm, Bool.not_true, Bool.and_false, Bool.and_false]

/-- A level that has lasted for the filter of its input counts. -/
theorem State.inputDue_counts {k a : Nat} {b : Bool} (hk : k < 8) (hs : (b, a) = s.ens.seen s.clk.now k) (hb : b ≠ s.ens.filt.getLsbD k)
    (hd : a + inputFilter k ≤ s.clk.now) : (s.inputDue k).ens.filt.getLsbD k = b := by
  have hc : (b == s.ens.filt.getLsbD k || decide (s.clk.now < a + inputFilter k)) = false := by simp [hb, hd]
  simp only [State.inputDue, ← hs, hc, Bool.false_eq_true, if_false, State.filtered_filt, State.setEns_ens]
  exact getLsbD_put hk b _

/-- One that has not yet changes nothing. -/
theorem State.inputDue_waits {k a : Nat} {b : Bool} (hs : (b, a) = s.ens.seen s.clk.now k) (hd : s.clk.now < a + inputFilter k) :
    s.inputDue k = s := by
  simp only [State.inputDue, ← hs, hd, decide_true, Bool.or_true, if_true]

end

/-- Settles O32: each input's row by the lemma that says what the recognised change does; the filter by what it leaves of its level. -/
theorem inputRows : Obligations.InputRows := by
  rintro t s x rfl ho
  refine ⟨fun ha hb => ?_, fun hr ha hb => ?_, fun hc hf => ⟨fun hv => ?_, fun hv ha => ?_⟩, fun hc ha hb => ?_,
    fun a h4 h5 ha hl hf => ⟨fun hd => ?_, fun hd => ?_⟩, ?_, fun c k hk hn hl hd => ?_, fun hn hf => ?_,
    fun hr hf hn => ⟨fun a ha hd => ?_, fun a ha hd => ?_⟩, ?_, fun i k hk hv hr => ?_, fun d hv hr hd => ?_,
    fun k b a hk hs hb => ⟨fun hd => State.inputDue_counts hk hs hb hd, fun hd => State.inputDue_waits hs hd⟩⟩
  · rw [exec, execDarkDemand, occur_eq, State.darkDemand_seen ho ha hb]
  · rw [exec, execDarkDemandEnd, occur_eq, State.darkEnd_seen ho hr ha hb]
  · rw [exec, execHousingOpen, occur_eq, State.housingOpen_seen ho hc hf, Bool.and_eq_false_iff.mpr hv, if_neg Bool.false_ne_true]
  · rw [exec, execHousingOpen, occur_eq, State.housingOpen_seen ho hc hf, hv, ha, Bool.and_self, if_pos rfl]
  · rw [exec, execHousingClosed, occur_eq, State.housingClosed_seen ho hc ha hb]
  · rw [exec, execServiceEnableArm, occur_eq, State.svcArm_second ho h4 h5 ha hl hf, if_pos hd]
  · rw [exec, execServiceEnableArm, occur_eq, State.svcArm_second ho h4 h5 ha hl hf, if_neg (Nat.not_le.mpr hd)]
  · rintro z ha hf rfl
    refine ⟨fun hk => ?_, fun hh hm => ?_⟩
    · rw [exec, execServiceEnableDisarm, occur_eq, State.svcDisarm_seen ho ha hf, Bool.and_eq_false_iff.mpr hk, if_neg Bool.false_ne_true]
    · rw [exec, execServiceEnableDisarm, occur_eq, State.svcDisarm_seen ho ha hf, hh, hm, Bool.and_self, if_pos rfl]
  · rw [exec, execNearFieldInterruption, occur_eq, State.nearField_low ho hk hn hl hd]
  · obtain ⟨hr6, hd6⟩ := hf 6 (.inl rfl)
    obtain ⟨hr7, hd7⟩ := hf 7 (.inr rfl)
    rw [exec, execNearFieldRelease, occur_eq, State.nearRelease_free ho hn (State.nearFree_high hr6 hd6) (State.nearFree_high hr7 hd7)]
  · rw [exec, execNfTestPulseTimeout, occur_eq, State.pulseTimeout_due (c := .a) ho hr hf hn ha hd]
    rfl
  · rw [exec, execNfTestPulseTimeout, occur_eq, State.pulseTimeout_due (c := .b) ho hr hf hn ha hd]
    rfl
  · intro level hlevel
    refine ⟨fun a ha hd he => ?_, fun a ha hd he => ?_, fun a ha hd he => ?_⟩
    · have hs : discrepant .dark (fun k => ((s.advance t).ens.seen (s.advance t).clk.now k).1) = true := by
        simp only [discrepant, ← hlevel, he, beq_self_eq_true]
      rw [exec, execInputDiscrepancy, occur_eq,
        State.discrepancy_lasts (ms := 50) (code := 0x287) ho (by rw [State.discOf, ha]) hd (.inl hs)]
    · have hs : discrepant .hsg (fun k => ((s.advance t).ens.seen (s.advance t).clk.now k).1) = true := by
        simp only [discrepant, ← hlevel, bne_iff_ne, ne_eq, he, not_false_eq_true]
      rw [exec, execInputDiscrepancy, occur_eq,
        State.discrepancy_lasts (ms := 500) (code := 0x288) ho (by rw [State.discOf, ha]) hd (.inl hs)]
    · have hs : discrepant .nf (fun k => ((s.advance t).ens.seen (s.advance t).clk.now k).1) = true ∨
          InputPair.nf = .nf ∧ (s.advance t).pulseGone = true := by
        simpa only [discrepant, ← hlevel, bne_iff_ne, true_and] using he
      rw [exec, execInputDiscrepancy, occur_eq,
        State.discrepancy_lasts (ms := 100) (code := 0x289) ho (by rw [State.discOf, ha]) hd hs]
  · rw [exec, execSafetyInputChange, occur_eq, State.inputChange_low ho hk hv hr]
  · rw [exec, execSafetyInputChange, occur_eq, State.inputChange_hsgA_high ho hv hr hd]

end Sys2Proof.Machine
end

section
/-! The engine-supply switches: overcurrent, monitors and the latent-fault test; the end of the override test. -/

namespace Sys2Proof.Machine

/-! ### Words that a reply leaves alone -/

/-- A reply raises nothing but the check of R99 and HAL_RBFULL, which have a PEND bit only. -/
theorem State.auditReplies_actW_other {a : Nat} (ha : a ≠ pendAddr 0x041) (p : Port) (s : State) : (s.auditReplies p).actW a = s.actW a := by
  simp only [State.auditReplies]
  split
  · exact State.resolve_actW _ _ _ _
  · exact State.raise0_actW_other ha (fun b m h => nomatch h) _ _

theorem State.place_actW_other {a : Nat} (ha : a ≠ pendAddr 0x041) (p : Port) (r : Reply) (s : State) : (s.place p r).actW a = s.actW a := by
  have hb : a ≠ pendAddr 0x043 := ha
  have hcheck (v : State) (hv : v.actW a = s.actW a) (c : Bool) :
      (if c then (v.auditReplies p).raise0 0x043 (portIdx p).val 0 else v.auditReplies p).actW a = s.actW a := by
    split
    · rw [State.raise0_actW_other hb (fun b m h => nomatch h), State.auditReplies_actW_other ha, hv]
    · rw [State.auditReplies_actW_other ha, hv]
  cases p with
  | cspi | wspi =>
    refine hcheck _ ?_ _
    rw [State.setPort_actW]
  | hcmd =>
    refine hcheck _ ?_ _
    rw [State.sendReplies_actW]
    rfl

theorem State.placeHeld_actW_other {a : Nat} (ha : a ≠ pendAddr 0x041) (n : Nat) (p : Port) (s : State) :
    (State.placeHeld n p s).actW a = s.actW a := by
  induction n generalizing s with
  | zero => rfl
  | succ n ih =>
    simp only [State.placeHeld]
    (repeat' split) <;> simp [ih, State.place_actW_other ha]

/-- A reply leaves every word of another block alone. -/
theorem State.answer_actW_other {a : Nat} (ha : a ≠ pendAddr 0x041) (id : ReqId) (st : Nat) (d : List Byte) (s : State) :
    (s.answer id st d).actW a = s.actW a := by
  simp only [State.answer, State.answerFill, State.reply]
  split
  · exact State.place_actW_other ha _ _ _
  · exact State.placeHeld_actW_other ha _ _ _

/-! ### The override test of SAFETY_TEST (R462) -/

theorem State.testReply_ens (id : ReqId) (k n d : Nat) (s : State) : (s.testReply id k n d).ens = s.ens := by
  simp only [State.testReply, State.event_ens, State.answer_ens]
  (repeat' split) <;> simp
theorem State.testReply_fly (id : ReqId) (k n d : Nat) (s : State) : (s.testReply id k n d).fly = s.fly := by
  simp only [State.testReply, State.event_fly, State.answer_fly]
  (repeat' split) <;> simp
theorem State.testReply_clk (id : ReqId) (k n d : Nat) (s : State) : (s.testReply id k n d).clk = s.clk := by
  simp only [State.testReply, State.event_clk, State.answer_clk]
  (repeat' split) <;> simp

/-- The reply of a safety test raises in Guidon's block alone, so no lane is enabled or disabled by it. -/
theorem State.testReply_laneEn (id : ReqId) (k n d : Nat) (m : Fin 16) (s : State) :
    (s.testReply id k n d).laneEn m.val = s.laneEn m.val := by
  have hne {b : Nat} (hb : b < 0x60040 ∨ 0x60130 < b) : laneAddr m.val ≠ b := by
    have hm := m.isLt
    simp only [laneAddr]
    omega
  have hw : (s.testReply id k n d).actW (laneAddr m.val) = s.actW (laneAddr m.val) := by
    have h43 (v : State) : (v.raise0 0x243 0 0).actW (laneAddr m.val) = v.actW (laneAddr m.val) :=
      State.raise0_actW_other (hne (by decide)) (fun b k h => by
        obtain ⟨rfl, -⟩ := Prod.mk.inj (Option.some.inj (h : some (0x90003, 8) = some (b, k)))
        exact hne (by decide)) _ _
    simp only [State.testReply, State.event]
    rw [State.raise0_actW_other (code := 0x249) (hne (by decide)) (fun b k h => nomatch h), State.answer_actW_other (hne (by decide))]
    (repeat' split) <;> simp [h43]
  rw [State.laneEn, State.laneEn, State.flag, State.flag, State.act, State.act, hw]

/-! ### The restart of the lanes (R336) -/

/-- A lane that is to start anew: its attempts count from 0, and it orders its engine dark only when it is back (R37). -/
def Lane.anew (l : Lane) : Lane := { l with attempt := 0, rejoin := true }

/-- What the end of override does to lane n. -/
def State.restartLane (n : Nat) (s : State) : State :=
  if s.laneEn n || decide ((vget s.fly n).st ≠ .furled) then (s.setLane n Lane.anew).laneBlind n else s

theorem State.lanesRestart_eq (s : State) : s.lanesRestart = iter State.restartLane 16 s := rfl

theorem State.restartLane_ens (n : Nat) (s : State) : (s.restartLane n).ens = s.ens := by
  simp only [State.restartLane]
  split <;> rfl

theorem State.lanesRestart_ens (s : State) : s.lanesRestart.ens = s.ens := by
  rw [State.lanesRestart_eq]
  exact iter_proj State.ens State.restartLane_ens 16 s

/-- What decides whether and when a lane starts: the lane, its EN, the time. -/
def State.startView (n : Nat) (s : State) : Lane × Bool × Clock := (vget s.fly n, s.laneEn n, s.clk)

theorem State.restartLane_other {m : Nat} {n : Fin 16} (hm : m ≠ n.val) (s : State) :
    (s.restartLane m).startView n.val = s.startView n.val := by
  simp only [State.restartLane]
  split
  · rw [State.startView, State.laneBlind, State.setLane_other n.isLt hm.symm, State.setLane_other n.isLt hm.symm]
    rfl
  · rfl

/-- A lane that is enabled or not furled starts blind, with its attempts counted anew. -/
theorem State.lanesRestart_lane {n : Fin 16} {s : State} (h : s.laneEn n.val = true ∨ (vget s.fly n.val).st ≠ .furled) :
    (vget s.lanesRestart.fly n.val).BlindAt s.clk.dtime ∧ (vget s.lanesRestart.fly n.val).attempt = 0 := by
  obtain ⟨u, hu, hn⟩ := iter_at (State.startView n.val) (fun m z hm => State.restartLane_other hm z) n.isLt s
  obtain ⟨hl, hu'⟩ := Prod.mk.inj hu
  obtain ⟨he, hk⟩ := Prod.mk.inj hu'
  have hc : (u.laneEn n.val || decide ((vget u.fly n.val).st ≠ .furled)) = true := by
    rw [he, hl]; simpa using h
  have hf : vget s.lanesRestart.fly n.val = vget ((u.setLane n.val Lane.anew).laneBlind n.val).fly n.val := by
    rw [State.lanesRestart_eq, (Prod.mk.inj hn).1, State.restartLane, if_pos hc]
  have hblind := (u.setLane n.val Lane.anew).laneBlind_blindAt n
  have hkept := (u.setLane n.val Lane.anew).laneBlind_keptView n
  rw [State.setLane_clk, hk] at hblind
  rw [State.setLane_lane] at hkept
  rw [hf]
  exact ⟨hblind, congrArg (·.1) hkept⟩

section
variable {s : State}

/-- The override test has run for 8 ms: the reply, then override ends and the lanes start, unless a safe state holds it. -/
theorem State.injectEnd_due {id : ReqId} {a n : Nat} {ovr : Bool} (hi : s.ens.injectAt = some (id, a)) (hd : a + 8000000 ≤ s.clk.now)
    (hn : n = if (List.range 16).all (fun n => !s.mapped n || (vget s.fly n).kaShown) then 0 else 1) (ho : ovr = s.ens.safe.isSome)
    {z : State} (hz : z = (s.setEns (fun e => { e with injectAt := none, ovr := ovr })).testReply id 4 n
      (bitsOf (fun n => (vget s.fly n).kaShown) 16)) : s.injectEnd = if ovr then z else z.lanesRestart := by
  have hov : z.ens.ovr = ovr := by rw [hz, State.testReply_ens]; rfl
  have hj : s.injectEnd = if z.ens.ovr then z else z.lanesRestart := by
    subst ho hn
    simp only [State.injectEnd, hi, hd, if_true, hz]
    rfl
  rw [hj, hov]

/-! ### Overcurrent and the monitors (R428, R440, R620) -/

theorem State.overcurrent_on (ho : s.ensOn = true) (fast : Bool) {code : Nat} (hc : code = if fast then 0x280 else 0x281) :
    s.overcurrent fast = ((s.setEns (fun e => { e.opened with ocTrip := true })).raiseHv code 0 0).ensEnter true 6 code := by
  subst hc
  simp only [State.overcurrent, ho, Bool.not_true, Bool.false_eq_true, if_false]

theorem State.monitorFault_applies {m : SwitchMonitor} (ho : s.ensOn = true) (hm : s.monitorApplies m = true) :
    s.monitorFault m = s.raiseHv (monitorCode m) 0 0 := by
  simp only [State.monitorFault, ho, hm, Bool.and_self, if_true]

theorem State.monitorFault_other {m : SwitchMonitor} (hm : s.monitorApplies m = false) : s.monitorFault m = s := by
  simp only [State.monitorFault, hm, Bool.and_false, Bool.false_eq_true, if_false]

/-! ### The latent-fault test (R441 to R443, R357) -/

/-- `s` with a switch test ended with RESULT `r`; the one that waits begins. -/
def State.swEnded (r : Nat) (s : State) : State :=
  s.setEns (fun e => { e with
    swTest := s.ens.swNext.map (fun u => (u, s.clk.now)), testBad := s.testIns, swNext := none, testRes := r
    testCnt := satAdd e.testCnt (b2n (r != 3)) })

/-- A test at BEAM entry that passes is noted for the transition. -/
theorem State.switchTestDone_beamPass {m : SwitchMeas} {a : Nat} (hu : s.ens.swTest = some (.beamEntry, a))
    (hp : ((s.ens.hsOn || s.ens.lsOn) && s.progOut) = false) (hr : s.testResult m = 0) {z : State} (hz : z = (s.swEnded 0).resolve 0x286 0) :
    s.switchTestDone m = { z with mode := { z.mode with tested := true } } := by
  subst hz
  simp only [State.switchTestDone, hu, hp, hr, Bool.false_eq_true, if_false, if_true]
  rfl

/-- One of SAFETY_TEST that ends with RESULT 1 opens both switches, raises, and replies with the two currents. -/
theorem State.switchTestDone_safetyHigh {m : SwitchMeas} {id : ReqId} {a : Nat} (hu : s.ens.swTest = some (.safetyTest id, a))
    (hp : ((s.ens.hsOn || s.ens.lsOn) && s.progOut) = false) (hr : s.testResult m = 1) : s.switchTestDone m =
      (((s.swEnded 1).setEns Ensign.opened).raiseHv 0x286 0 1).testReply id 1 1 (m.highMa % 65536 + 65536 * (m.lowMa % 65536)) := by
  simp only [State.switchTestDone, hu, hp, hr, Bool.false_eq_true, if_false, Nat.one_ne_zero]
  rfl

/-- Closed switches are not tested while a page is being programmed. -/
theorem State.switchTestDone_programming (hh : s.ens.hsOn = true) (hp : s.progOut = true) (m : SwitchMeas) : s.switchTestDone m = s := by
  unfold State.switchTestDone
  split
  · rfl
  · simp only [hh, hp, Bool.true_or, Bool.and_self, if_true]

end

/-- Settles O33: each row by the lemma that says what it does; the lanes after the override test by their restart. -/
theorem switchRows : Obligations.SwitchRows := by
  rintro t s x rfl ho
  refine ⟨fun fast code hc => ?_, fun h => ?_, fun hh hl hv hm => ?_, fun h => ?_, fun hh hl => ?_, ?_, fun m a z next hx hp => ⟨?_, ?_⟩,
    fun m hh hp => ?_, fun id a n hi hd hn => ⟨fun hs z hz => ?_, fun hs => ?_⟩⟩
  · rw [exec, execEngineOvercurrent, occur_eq, State.overcurrent_on ho fast hc]
  · have ha : (s.advance t).monitorApplies .gate = true := by
      rcases h with h | h | h <;> simp [State.monitorApplies, h]
    rw [exec, execSwitchMonitorFault, occur_eq, State.monitorFault_applies ho ha, monitorCode]
  · have ha : (s.advance t).monitorApplies .gate = false := by simp [State.monitorApplies, hh, hl, hv, hm]
    rw [exec, execSwitchMonitorFault, occur_eq, State.monitorFault_other ha]
  · rw [exec, execSwitchMonitorFault, occur_eq, State.monitorFault_applies (m := .vds) ho (Bool.or_eq_true_iff.mpr h), monitorCode]
  · have ha : (s.advance t).monitorApplies .leak = true := by simp [State.monitorApplies, hh, hl]
    rw [exec, execSwitchMonitorFault, occur_eq, State.monitorFault_applies ho ha, monitorCode]
  · rw [exec, execSwitchMonitorFault, occur_eq, State.monitorFault_applies ho rfl, monitorCode]
  · rintro hu hr rfl
    rw [exec, execSwitchTestDone, occur_eq, State.switchTestDone_beamPass hu hp hr rfl, hx]
    rfl
  · rintro id hu hr
    rw [exec, execSwitchTestDone, occur_eq, State.switchTestDone_safetyHigh hu hp hr, hx]
    rfl
  · rw [exec, execSwitchTestDone, occur_eq, State.switchTestDone_programming hh hp]
  · have hens : z.ens.ovr = false := by rw [hz, State.testReply_ens]; rfl
    have hfly : z.fly = (s.advance t).fly := by rw [hz, State.testReply_fly, State.setEns_fly]
    have hclk : z.clk = (s.advance t).clk := by rw [hz, State.testReply_clk, State.setEns_clk]
    have hen (k : Fin 16) : z.laneEn k.val = (s.advance t).laneEn k.val := by rw [hz, State.testReply_laneEn]; rfl
    refine ⟨?_, by rw [State.lanesRestart_ens, hens], fun k hk h => ?_⟩
    · rw [exec, execSafetyTestOverrideEnd, occur_eq, State.injectEnd_due (ovr := false) hi hd hn (by rw [hs]; rfl) hz,
        if_neg Bool.false_ne_true]
    · obtain ⟨hb, hat⟩ := State.lanesRestart_lane (n := ⟨k, hk⟩) (s := z) (by rw [hen, hfly]; exact h)
      rw [hclk] at hb
      exact ⟨hb.idle, hb.limp, hb.notUp, hb.start, hat⟩
  · rw [exec, execSafetyTestOverrideEnd, occur_eq,
      State.injectEnd_due (ovr := true) hi hd hn (Option.isSome_iff_ne_none.mpr hs).symm rfl, if_pos rfl]

end Sys2Proof.Machine
end

section
/-! The step, the reset state, and the queue and the instant over every command. -/

namespace Sys2Proof.Machine

/-- Settles O1: the step by its case of a queue that is not empty. -/
theorem stepRunsFront : Obligations.StepRunsFront := fun _ _ _ h => by simp only [step, h]

/-- Settles O2: the step by its case of the empty queue. -/
theorem idleStep : Obligations.IdleStep := fun _ h => by simp only [step, h]

/-- A lane and a surface of a replicated vector are the replicated one. -/
theorem vget_replicate {α : Type} {n i : Nat} (x : α) (h : i < n + 1) : vget (Vector.replicate (n + 1) x) i = x := by
  simp [vget, h]

/-- Settles O5: the register lists of the reset state are empty, its vectors replicated, and the rest is as it is written. -/
theorem resetState : Obligations.ResetState := by
  refine ⟨fun a => ⟨rfl, rfl⟩, rfl, fun n hn => ?_, fun n hn => ?_, rfl, rfl, rfl, rfl, rfl, rfl, rfl, rfl, rfl⟩
  · exact congrArg Surface.st (vget_replicate Surface.reset hn)
  · exact congrArg Lane.st (vget_replicate Lane.reset hn)

/-- The row `o` of the instant `t` in the state `s` answers a next state with the queue of `s`, and with `t` as its instant where that is later. -/
def Completes (o : Host.Outcome State Fault Refusal) (s : State) (t : Nat) : Prop :=
  ∃ u, o = .next u ∧ u.pending = s.pending ∧ u.clk.now = max s.clk.now t

theorem Held.queue {b : Base} {s : State} (h : Held b s.trunk) : s.pending = b.1 ∧ s.clk.now = b.2.1 := ⟨h.1, h.2.1⟩

/-- A row whose effect keeps the queue and the instant completes at its own instant. -/
theorem occur_completes {f : State → State} (hf : ∀ b x, Held b x.trunk → Held b (f x).trunk) (t : Nat) (s : State) :
    Completes (occur t f s) s t := by
  have hs : Held (s.pending, s.clk.now, false, false) s.trunk := ⟨rfl, rfl, nofun, nofun⟩
  exact ⟨_, occur_eq t f s, (occur_held hs hf (occur_eq t f s)).queue⟩

theorem occur_completes_of_trunk {f : State → State} (hf : ∀ x, (f x).trunk = x.trunk) (t : Nat) (s : State) : Completes (occur t f s) s t :=
  occur_completes (keeps_of_trunk hf) t s

/-- Every row completes, but for a store access of a kind that Table 3.2 gives no requester: the commands and the rows that write the store or
reset parts of the machine by their own lemma, every other row because it leaves the trunk alone. -/
theorem exec_completes (i : Instr) (s : State) (hi : ∀ t l e, i = .storeAccess t l e → wrongAccess l = false) :
    Completes (exec i s) s i.instant := by
  cases i with
  | nop | identify | status | frameStatus | dtimeRead | engineInfo | lifeRead | evtReset | portStatus | regRead | regWrite | regModify | commit | modeSet
  | timebaseSelect | safeRequest | surfaceDefine | surfaceDelete | leaseTake | leaseRelease | objlist | ceilingLoad | engineNvRead | engineNvWrite
  | keepaliveWrite | pixelCensus | thermalMeasure | calRun | calRead | evtRead | faultAck | laneTest | safetyTest | reset =>
    exact occur_completes (fun _ _ => State.command_held _ _ _ _ _) _ s
  | put => exact occur_completes (fun _ _ => State.put_held _ _ _) _ s
  | storeAccess t l e =>
    have hl : exec (.storeAccess t l e) s = occur t (State.storeAccess l e) s := by
      simp only [exec, execStoreAccess, hi t l e rfl, Bool.false_eq_true, if_false]
    rw [hl]
    exact occur_completes (fun _ _ => State.storeAccess_held _ _ _) t s
  | bistRegionStart => exact occur_completes (fun _ _ => State.bistStart_held _) _ s
  | bistRegionDone => exact occur_completes (fun _ _ => State.bistDone_held _ _ _) _ s
  | vidWriteDone => exact occur_completes (fun _ _ => State.vidDone_held _) _ s
  | tileDone => exact occur_completes (fun _ _ => State.tileDone_held _ _) _ s
  | ctrlTimeout => exact occur_completes (fun _ _ => State.ctrlTimeout_held _ _ _) _ s
  | nvend => exact occur_completes (fun _ _ => State.nvEnd_held _ _ _ _ _) _ s
  | ctrlack => exact occur_completes (fun _ _ => State.ctrlAck_held _ _ _ _ _) _ s
  | drainTimeout => exact occur_completes (fun _ _ => State.drainTimeout_held _) _ s
  | vbatOff => exact occur_completes (fun _ _ => State.powerOff_held _) _ s
  | sleepPmicRelease => exact occur_completes (fun _ _ => State.sleepPower_held _) _ s
  | brownout => exact occur_completes (fun _ _ => State.brownOut_held _ _) _ s
  | registerWrite | rcRead | framecntlRead | evtWindowRead | rel | pathctlStart | crcInjArm | rtcLoad | alarmhWrite | refillWrite | pcdivmaxWrite =>
    exact occur_completes_of_trunk (State.whenOn_trunk (by simp)) _ s
  | bucketRefill t code => exact occur_completes_of_trunk (fun x => State.refill_trunk x code.toNat) t s
  | _ => exact occur_completes_of_trunk (by simp) _ s

/-- Settles O6: what every row keeps of the trunk, and that it completes. -/
theorem queueAndInstant : Obligations.QueueAndInstant := exec_completes

end Sys2Proof.Machine
end

section
/-! The recorder's queue: the exit of an entry, the check of the balance, and the refill of a bucket. -/

namespace Sys2Proof.Machine

/-- What an exit decides of the recorder, and no raise touches: the store, RLIMIT with its code, and FULLDROP. -/
def Recorder.kept (r : Recorder) : List Entry × Word × Nat × Word := (r.store, r.rlimit, r.limcode, r.fulldrop)

@[simp] theorem State.enqueue_kept (s : State) (e : Entry) : (s.enqueue e).evt.kept = s.evt.kept := by
  simp only [State.enqueue]; split <;> rfl

@[simp] theorem State.raise0_kept (s : State) (code inst data : Nat) : (s.raise0 code inst data).evt.kept = s.evt.kept := by
  unfold State.raise0
  split
  · simp
  · simp only
    split <;> simp

/-- The queue without its oldest entry. -/
def State.popped (l : List Entry) (s : State) : State := { s with evt := { s.evt with queue := l, tied := min s.evt.tied l.length } }

/-- What becomes of the entry that leaves the queue (R500 to R503). -/
def State.entryOut (e : Entry) (s : State) : State :=
  if s.evt.full then { s with evt := { s.evt with fulldrop := s.evt.fulldrop + 1 } }
  else if !e.free && decide (s.evt.tokens e.code = 0) then
    { s with evt := { s.evt with
        rlimit := s.evt.rlimit + 1, limcode := e.code,
        lost := if s.evt.lost.contains e.code then s.evt.lost else s.evt.lost ++ [e.code] } }
  else
    let r := if e.free then s.evt else s.evt.take e.code s.clk.dtime
    let e := { e with lost := r.lost.contains e.code }
    ({ s with evt := { r with lost := r.lost.filter (· != e.code) } } : State).store1 e

/-- The check of the balance at an exit (R506). -/
def State.balanceCheck (s : State) : State := if s.evt.balanced then s.resolve 0x2C1 0 else s.raise0 0x2C1 0 0

/-- A queue exit takes the oldest entry out, and then checks the balance. -/
theorem State.queueExit_cons {s : State} {e : Entry} {l : List Entry} (h : s.evt.queue = e :: l) :
    s.queueExit = ((s.popped l).entryOut e).balanceCheck := by
  simp only [State.queueExit, h]; rfl

theorem State.queueExit_nil {s : State} (h : s.evt.queue = []) : s.queueExit = s := by simp only [State.queueExit, h]

theorem State.balanceCheck_kept (s : State) : s.balanceCheck.evt.kept = s.evt.kept := by
  unfold State.balanceCheck; split <;> simp

section
variable {s : State} {e : Entry}

theorem State.entryOut_full (h : s.evt.full = true) : s.entryOut e = { s with evt := { s.evt with fulldrop := s.evt.fulldrop + 1 } } := by
  rw [State.entryOut, if_pos h]

theorem State.entryOut_limited (hf : s.evt.full = false) (he : e.free = false) (ht : s.evt.tokens e.code = 0) : s.entryOut e =
    { s with evt := { s.evt with
        rlimit := s.evt.rlimit + 1, limcode := e.code,
        lost := if s.evt.lost.contains e.code then s.evt.lost else s.evt.lost ++ [e.code] } } := by
  simp [State.entryOut, hf, he, ht]

end

/-- A token taken changes the buckets alone. -/
theorem Recorder.take_eq (r : Recorder) (code now : Nat) : ∃ b, r.take code now = { r with buckets := b } := by
  unfold Recorder.take; split <;> exact ⟨_, rfl⟩

/-- An entry that neither a full store nor its bucket stops is stored, marked LOST where one of its code was (R502, R503). -/
theorem State.entryOut_stored {s : State} {e : Entry} (hf : s.evt.full = false) (ht : e.free = true ∨ s.evt.tokens e.code ≠ 0) :
    ∃ b, s.entryOut e = ({ s with evt := { s.evt with buckets := b, lost := s.evt.lost.filter (· != e.code) } } : State).store1
      { e with lost := s.evt.lost.contains e.code } := by
  have ht' : (!e.free && decide (s.evt.tokens e.code = 0)) = false := by rcases ht with h | h <;> simp [h]
  obtain ⟨b, hb⟩ := s.evt.take_eq e.code s.clk.dtime
  rw [State.entryOut, hf, ht', hb]
  cases e.free <;> exact ⟨_, rfl⟩

/-- What is stored follows what the store held, and EVT_FULL alone can follow it; no other part of the recorder is concerned but RAISED and FULL. -/
theorem State.store1_frame (s : State) (e : Entry) : (∃ tail, (s.store1 e).evt.store = s.evt.store ++ e :: tail) ∧
    (s.store1 e).evt.queue = s.evt.queue ∧ (s.store1 e).evt.rlimit = s.evt.rlimit ∧ (s.store1 e).flt = s.flt := by
  simp only [State.store1]
  split
  · exact ⟨⟨_, (congrArg (fun r : Recorder => r.store ++ _) (State.setPend_evt _ _ _)).trans (List.append_assoc ..)⟩, by simp⟩
  · exact ⟨⟨[], rfl⟩, rfl, rfl, rfl⟩

theorem State.entryOut_queue (e : Entry) (s : State) : (s.entryOut e).evt.queue = s.evt.queue ∧ (s.entryOut e).flt = s.flt := by
  by_cases hf : s.evt.full = true
  · rw [State.entryOut_full hf]; exact ⟨rfl, rfl⟩
  · by_cases ht : e.free = false ∧ s.evt.tokens e.code = 0
    · rw [State.entryOut_limited (Bool.eq_false_iff.mpr hf) ht.1 ht.2]; exact ⟨rfl, rfl⟩
    · have ht' : e.free = true ∨ s.evt.tokens e.code ≠ 0 := by
        rcases Decidable.not_and_iff_or_not.mp ht with h | h
        · exact .inl (Bool.eq_true_of_not_eq_false h)
        · exact .inr h
      obtain ⟨b, he⟩ := State.entryOut_stored (Bool.eq_false_iff.mpr hf) ht'
      obtain ⟨-, hq, -, hx⟩ := State.store1_frame { s with evt := { s.evt with buckets := b, lost := s.evt.lost.filter (· != e.code) } }
        { e with lost := s.evt.lost.contains e.code }
      rw [he]; exact ⟨hq, hx⟩

section
variable {s : State} {b : Bucket}

theorem State.refill_more (hb : s.evt.buckets = [b]) (hd : b.since + s.refillNs ≤ s.clk.dtime) (ht : b.tokens < 3) :
    s.refill b.code = { s with evt := { s.evt with buckets := [{ b with tokens := b.tokens + 1, since := s.clk.dtime }] } } := by
  have hd' : s.refillNs ≤ s.clk.dtime - b.since := by omega
  simp [State.refill, hb, hd', Nat.ne_of_lt ht]

theorem State.refill_ends (hb : s.evt.buckets = [b]) (hd : b.since + s.refillNs ≤ s.clk.dtime) (ht : b.tokens = 3) :
    s.refill b.code = { s with evt := { s.evt with buckets := [] } } := by
  have hd' : s.refillNs ≤ s.clk.dtime - b.since := by omega
  simp [State.refill, hb, hd', ht]

end

/-- Settles O56: the exit by what becomes of the entry, which the check of the balance leaves as it is; the refill by its two cases. -/
theorem queueRows : Obligations.QueueRows := by
  rintro t s x rfl
  refine ⟨fun h => ?_, fun e q h => ?_, fun code b hb hc hd => ?_⟩
  · rw [exec, execEventQueueExit, occur_eq, State.queueExit_nil h]
  · have hx : exec (.eventQueueExit t) s = .next (((s.advance t).popped q).entryOut e).balanceCheck.finish := by
      rw [exec, execEventQueueExit, occur_eq, State.queueExit_cons h]
    have hk := State.balanceCheck_kept (((s.advance t).popped q).entryOut e)
    simp only [Recorder.kept, Prod.mk.injEq] at hk
    obtain ⟨hst, hrl, hlc, hfd⟩ := hk
    refine ⟨fun hf => ⟨_, hx, ?_⟩, fun hf he ht => ⟨_, hx, ?_⟩, fun hf he ht => ?_⟩
    · rw [hfd, hst, hrl, State.entryOut_full (s := (s.advance t).popped q) hf]
      exact ⟨rfl, rfl, rfl⟩
    · rw [hfd, hst, hrl, hlc, State.entryOut_limited (s := (s.advance t).popped q) hf he ht]
      exact ⟨rfl, rfl, rfl, rfl⟩
    · obtain ⟨b, ho⟩ := State.entryOut_stored (s := (s.advance t).popped q) hf (.inr (Nat.ne_of_gt ht))
      rw [ho] at hx hst hrl
      obtain ⟨⟨tail, hs⟩, -, hr, -⟩ := State.store1_frame _ _
      exact ⟨_, { e with lost := (s.advance t).evt.lost.contains e.code }, hx, ⟨tail, hst.trans hs⟩, rfl, rfl, hrl.trans hr⟩
  · rw [exec, execBucketRefill, occur_eq, ← hc]
    exact ⟨fun ht => by rw [State.refill_more hb hd ht], fun ht => by rw [State.refill_ends hb hd ht]⟩

/-- Settles O57: the check follows what becomes of the entry. -/
theorem balanceChecked : Obligations.BalanceChecked := by
  rintro t s x e l rfl h
  obtain ⟨hq, hf⟩ := ((s.advance t).popped l).entryOut_queue e
  refine ⟨_, hq, hf, ?_⟩
  rw [exec, execEventQueueExit, occur_eq, State.queueExit_cons h, State.balanceCheck, Recorder.balanced]
  exact ⟨fun hb => by rw [decide_eq_true hb, if_pos rfl], fun hb => by rw [decide_eq_false hb, if_neg Bool.false_ne_true]⟩

end Sys2Proof.Machine
end

section
/-! Frames of the die link: what is taken and what is discarded, and what each message does. -/

namespace Sys2Proof.Machine

theorem State.setDl_setDl (f g : DieLink → DieLink) (s : State) : (s.setDl f).setDl g = s.setDl (fun d => g (f d)) := rfl

section
variable {s : State}

theorem State.landDown_taken (h : s.dl.seqDown = s.dl.rxDown) (f : State → State) : s.landDown f = f s.passDown := by
  rw [State.landDown, if_pos h]

theorem State.landDown_discarded (h : s.dl.seqDown ≠ s.dl.rxDown) (f : State → State) : s.landDown f = s.passDown.discardDown := by
  rw [State.landDown, if_neg h]

/-- No STATUS that reports a change goes ahead of the frame. -/
theorem State.takeUp_taken (hu : s.dl.statusOut.any (fun m => m.urgent) = false) (h : s.dl.seqUp = s.dl.rxUp) (f : State → State) :
    s.takeUp f = f s.passUp := by
  rw [State.takeUp, hu, if_neg Bool.false_ne_true, State.landUp, if_pos h]

theorem State.takeUp_discarded (hu : s.dl.statusOut.any (fun m => m.urgent) = false) (h : s.dl.seqUp ≠ s.dl.rxUp) (f : State → State) :
    s.takeUp f = s.passUp.discardUp := by
  rw [State.takeUp, hu, if_neg Bool.false_ne_true, State.landUp, if_neg h]

/-! ### Messages down -/

/-- ESCALATE has the Ensign hold what it names, where its TAG is a new one. -/
def State.escalateTake (o : Out Escal) (s : State) : State :=
  if s.dl.escTag = some o.tag then s else (s.setDl (fun d => { d with escTag := some o.tag })).hold o.body.dark

theorem State.escalateTake_same {o : Out Escal} (h : s.dl.escTag = some o.tag) : s.escalateTake o = s := by rw [State.escalateTake, if_pos h]

theorem State.escalateTake_new {o : Out Escal} (h : s.dl.escTag ≠ some o.tag) :
    s.escalateTake o = (s.setDl (fun d => { d with escTag := some o.tag })).hold o.body.dark := by
  rw [State.escalateTake, if_neg h]

theorem State.escalateMsg_out {o : Out Escal} (h : s.dl.escOut = some o) : s.escalateMsg = s.landDown (State.escalateTake o) := by
  simp only [State.escalateMsg, h]; rfl

/-- REQUEST has the Ensign do what it asks, where its TAG is a new one. -/
def State.requestTake (o : Out (Nat × Nat)) (s : State) : State :=
  if s.dl.reqTag = some o.tag then s else (s.setDl (fun d => { d with reqTag := some o.tag })).serve o.body.1

theorem State.requestTake_same {o : Out (Nat × Nat)} (h : s.dl.reqTag = some o.tag) : s.requestTake o = s := by rw [State.requestTake, if_pos h]

theorem State.requestTake_new {o : Out (Nat × Nat)} (h : s.dl.reqTag ≠ some o.tag) {k : Nat} (hk : o.body.1 = k) :
    s.requestTake o = (s.setDl (fun d => { d with reqTag := some o.tag })).serve k := by
  rw [State.requestTake, if_neg h, hk]

theorem State.requestMsg_out {o : Out (Nat × Nat)} (h : s.dl.reqOut = some o) : s.requestMsg = s.landDown (State.requestTake o) := by
  simp only [State.requestMsg, h]; rfl

/-- A TIMEHIGH with a new TAG brings the high bits of DTIME. -/
def State.highLand (o : Out Nat) (s : State) : State :=
  if s.dl.highTag = some o.tag then s
  else ({ s with clk := { s.clk with timeHigh := o.body } } : State).setDl (fun d => { d with highTag := some o.tag })

theorem State.highLand_new {o : Out Nat} (h : s.dl.highTag ≠ some o.tag) : s.highLand o =
    ({ s with clk := { s.clk with timeHigh := o.body } } : State).setDl (fun d => { d with highTag := some o.tag }) := by
  rw [State.highLand, if_neg h]

theorem State.highTake_out {o : Out Nat} (h : s.dl.highOut = some o) : s.highTake = s.landDown (State.highLand o) := by
  simp only [State.highTake, h]; rfl

theorem State.regAddr_out {o : Out RegAcc} (h : s.dl.regOut = some o) : s.regAddr = s.landDown (State.regTake o) := by
  simp only [State.regAddr, h]

theorem State.regData_waits {q : RegAcc} (h : s.dl.regWait = some q) : s.regData = s.landDown (State.dataTake q) := by
  simp only [State.regData, h]

/-- A release that the Ensign withholds is denied, whatever the die link holds (R437). -/
theorem State.release_withheld {tr : Trans} (hh : s.ensHeld = true) (hs : s.mode.cur.isSafe = true) (ht : s.mode.trans = some tr)
    (hr : tr.target = .ready) (f : DieLink → DieLink) : (s.setDl f).release = (s.setDl f).transFail stModeDenied := by
  have hf : (s.setDl f).ensHeld = true := hh
  simp [State.release, hf, hs, ht, hr]

/-! ### Register access -/

section
variable {o : Out RegAcc} {a : Nat}

/-- A word of no HV register is answered with 0, and counted. -/
theorem State.regTake_unserved (hn : s.dl.regTag ≠ some o.tag) (ha : a = o.body.block * 65536 + o.body.offset) (hv : regHv a = false) :
    s.regTake o = s.setDl (fun d => { d with regTag := some o.tag, resp := some 0, lastResp := 0, downErr := satAdd d.downErr 1 }) := by
  simp only [State.regTake, if_neg hn, ← ha, hv, Bool.not_false, if_true]; rfl

/-- A write waits for its data. -/
theorem State.regTake_write {v : Word} (hn : s.dl.regTag ≠ some o.tag) (ha : a = o.body.block * 65536 + o.body.offset) (hv : regHv a = true)
    (hw : o.body.write = some v) : s.regTake o = s.setDl (fun d => { d with regTag := some o.tag, regWait := some o.body }) := by
  simp only [State.regTake, if_neg hn, ← ha, hv, hw, Bool.not_true, Bool.false_eq_true, if_false]; rfl

/-- A word that a REG_READ names is read for its port, with the effect of the read. -/
theorem State.regTake_read {j : RegJob} {z : State} (hn : s.dl.regTag ≠ some o.tag) (ha : a = o.body.block * 65536 + o.body.offset)
    (hv : regHv a = true) (hw : o.body.write = none) (hj : s.dl.regJob = some j) (ho : j.op = 0)
    (hz : z = s.setDl (fun d => { d with regTag := some o.tag })) :
    s.regTake o = (z.readEffectIn j.id.port a 0xFFFFFFFF).setDl (fun d => { d with
      resp := some (z.readWord j.id.port a), lastResp := z.readWord j.id.port a }) := by
  subst hz
  simp only [State.regTake, if_neg hn, ← ha, hv, hw, State.setDl_dl, hj, ho, Bool.not_true, Bool.false_eq_true, if_false, OfNat.zero_ne_ofNat]

end

theorem State.dataTake_write {q : RegAcc} {v : Word} (h : q.write = some v) : s.dataTake q =
    (s.setDl (fun d => { d with regWait := none, resp := some 0, lastResp := 0 })).writeWord (q.block * 65536 + q.offset) v := by
  simp only [State.dataTake, h]

theorem State.regResp_out {v : Word} {o : Out RegAcc} (hv : s.dl.resp = some v) (ho : s.dl.regOut = some o) :
    s.regResp = (s.setDl (fun d => { d with resp := none })).takeUp (State.respTake v) := by
  simp only [State.regResp, hv, ho]

/-- The last word of a REG_READ ends the command with its data. -/
theorem State.respTake_last {j : RegJob} {a : Nat} {w : Word} (hj : s.dl.regJob = some j) (ho : j.op = 0) (ht : j.todo = [(a, w)]) (v : Word) :
    s.respTake v = (s.setDl (fun d => { d with regOut := none, regJob := none })).answer j.id stOk
      ((j.acc ++ [v]).flatMap (fun k => le 4 k.toNat)) := by
  simp only [State.respTake, State.setDl_dl, hj, ho, ht, if_true, List.tail_cons, State.jobGo, RegJob.data, OfNat.zero_ne_ofNat]
  rfl

end

/-- Settles O34: a frame by whether its SEQ follows, a message by whether its TAG is new, an access by the word it names. -/
theorem reliableOnce : Obligations.ReliableOnce := by
  refine ⟨?_, ?_, ?_, ?_⟩
  · rintro t s x r rfl rfl hs
    refine ⟨fun o ho => ?_, fun o ho => ?_, fun o ho => ?_, fun o ho => ?_, fun q hq => ?_⟩
    · rw [exec, execEscalate, occur_eq, State.escalateMsg_out ho, State.landDown_discarded hs]
    · rw [exec, execRequest, occur_eq, State.requestMsg_out ho, State.landDown_discarded hs]
    · rw [exec, execTimehigh, occur_eq, State.highTake_out ho, State.landDown_discarded hs]
    · rw [exec, execRegaddr, occur_eq, State.regAddr_out ho, State.landDown_discarded hs]
    · rw [exec, execRegdata, occur_eq, State.regData_waits hq, State.landDown_discarded hs]
  · rintro t s x r rfl rfl hs
    refine ⟨rfl, fun o ho => ?_, fun o ho => ?_, fun o ho hn => ?_⟩
    · rw [exec, execEscalate, occur_eq, State.escalateMsg_out ho, State.landDown_taken hs]
      exact ⟨fun h => by rw [State.escalateTake_same (s := (s.advance t).passDown) h],
        fun h => by rw [State.escalateTake_new (s := (s.advance t).passDown) h]⟩
    · rw [exec, execRequest, occur_eq, State.requestMsg_out ho, State.landDown_taken hs]
      refine ⟨fun h => ?_, fun h hk hh hm ⟨tr, ht, hr⟩ => ?_, fun h hk => ?_, fun h hk => ?_⟩
      · rw [State.requestTake_same (s := (s.advance t).passDown) h]
      · rw [State.requestTake_new (s := (s.advance t).passDown) h hk, State.serve, State.release_withheld (s := (s.advance t).passDown) hh hm ht hr]
      · rw [State.requestTake_new (s := (s.advance t).passDown) h hk, State.serve]
      · rw [State.requestTake_new (s := (s.advance t).passDown) h hk, State.serve]
    · rw [exec, execTimehigh, occur_eq, State.highTake_out ho, State.landDown_taken hs, State.highLand_new (s := (s.advance t).passDown) hn]
      exact ⟨_, rfl, rfl, rfl⟩
  · rintro t s x r rfl rfl hs
    refine ⟨fun o a ho hn ha => ?_, fun q v hq hv => ?_⟩
    · rw [exec, execRegaddr, occur_eq, State.regAddr_out ho, State.landDown_taken hs]
      refine ⟨fun hv => ?_, fun v hv hw => ?_, fun j z hv hw hj hop hz => ?_⟩
      · rw [State.regTake_unserved (s := (s.advance t).passDown) hn ha hv]
      · rw [State.regTake_write (s := (s.advance t).passDown) hn ha hv hw]
      · rw [State.regTake_read (s := (s.advance t).passDown) hn ha hv hw hj hop hz]
    · rw [exec, execRegdata, occur_eq, State.regData_waits hq, State.landDown_taken hs, State.dataTake_write hv]
  · rintro t s x v o j a w rfl hu hv ho hj hop ht
    rw [exec, execRegresp, occur_eq, State.regResp_out hv ho]
    refine ⟨fun hs => ?_, fun hs => ?_⟩
    · rw [State.takeUp_taken (s := (s.advance t).setDl (fun d => { d with resp := none })) hu hs,
        State.respTake_last (s := ((s.advance t).setDl (fun d => { d with resp := none })).passUp) hj hop ht,
        State.passUp, State.setDl_setDl, State.setDl_setDl]
    · rw [State.takeUp_discarded (s := (s.advance t).setDl (fun d => { d with resp := none })) hu hs, State.passUp, State.setDl_setDl]

section
variable {s : State}

/-! ### Acknowledgement, resending and discarding -/

theorem State.ackMsg_timehigh {o : Out Nat} (h : s.dl.highOut = some o) (hg : s.dl.highTag = some o.tag)
    (hu : s.dl.statusOut.any (fun m => m.urgent) = false) (hs : s.dl.seqUp = s.dl.rxUp) : s.ackMsg .timehigh o.tag =
      ({ s.passUp with clk := { s.clk with highSent := some o.body } } : State).setDl (fun d => { d with highOut := none }) := by
  simp only [State.ackMsg, acked, h, hg, beq_self_eq_true, Bool.and_self, if_true, State.takeUp_taken hu hs, Option.map_some]
  rfl

theorem State.ackMsg_event {o : Out HvEvent} (h : s.dl.evOut = some o) (hg : s.dl.evTag = some o.tag) (hs : s.dl.seqDown = s.dl.rxDown) :
    s.ackMsg .event o.tag =
      (s.setDl (fun d => { d with seqDown := d.seqDown + 1, rxDown := d.seqDown + 1, evOut := none })).pumpUp := by
  simp only [State.ackMsg, acked, h, hg, beq_self_eq_true, Bool.and_self, if_true, State.landDown_taken hs]
  rfl

/-- The timer of 10 µs that has run finds a resend, or after eight of them a message to abandon (R616). -/
theorem resendDue_after {α : Type} {o : Out α} {now : Nat} (hd : o.sentAt + 10000 ≤ now) : resendDue (some o) now = some (decide (o.resends < 8)) := by
  rw [resendDue, if_pos hd]

theorem State.resend_timehigh {o : Out Nat} (hp : s.pow.logicOn = true) (h : s.dl.highOut = some o) (hd : o.sentAt + 10000 ≤ s.clk.now) :
    s.resend .timehigh = if o.resends < 8 then s.setDl (fun d => { d with highOut := some (o.again s.clk.now) })
      else (s.setDl (fun d => { d with highOut := none })).lossDown := by
  simp only [State.resend, hp, h, resendDue_after hd, Bool.not_true, Bool.false_eq_true, if_false]
  by_cases hr : o.resends < 8
  · rw [if_pos hr, decide_eq_true hr]
    simp only [State.setDl, h, Option.map_some]
  · rw [if_neg hr, decide_eq_false hr]

end

/-- Settles O36: an ACK by the TAG that both ends hold, a resend by its count, a discarded frame by its direction. -/
theorem linkRepair : Obligations.LinkRepair := by
  rintro t s x rfl
  refine ⟨fun o tag ho htag hg hu hs => ?_, fun o tag ho htag hg hs => ?_, fun o hp ho hd => ?_, fun q hp => ⟨?_, ?_⟩⟩
  · subst htag
    rw [exec, execAck, occur_eq, State.ackMsg_timehigh ho hg hu hs]
    exact ⟨_, rfl, rfl, rfl⟩
  · subst htag
    rw [exec, execAck, occur_eq, State.ackMsg_event ho hg hs]
  · rw [exec, execDieLinkResend, occur_eq, State.resend_timehigh hp ho hd]
    exact ⟨fun hr => by rw [if_pos hr]; rfl, fun hr => by rw [if_neg (Nat.not_lt.mpr hr)]; rfl⟩
  · rw [exec, execDieLinkFrameDiscard, occur_eq, State.frameDiscard, hp]; rfl
  · rw [exec, execDieLinkFrameDiscard, occur_eq, State.frameDiscard, hp]; rfl

/-- An instruction that is loaded is in the IR; one of the boundary scan raises TEST_JTAG with what is in force instead of it (R640). -/
theorem State.updateIr_plain {s : State} {c : BitVec 5} (hp : s.pow.logicOn = true) (hc : testCode c.toNat = false) :
    s.updateIr c = { s with jtag := { s.jtag with ir := c } } := by
  simp only [State.updateIr, hp, hc, Bool.not_true, Bool.false_eq_true, if_false]

theorem State.updateIr_test {s y : State} {c : BitVec 5} (hp : s.pow.logicOn = true) (hc : testCode c.toNat = true)
    (hy : y = { s with jtag := { s.jtag with ir := c } }) :
    s.updateIr c = y.raise0 0x441 0 (c.toNat + 256 * (if y.irNow = c.toNat then 0 else 1)) := by
  have hb : b2n (y.irNow != c.toNat) = if y.irNow = c.toNat then 0 else 1 := by
    by_cases h : y.irNow = c.toNat <;> simp [b2n, h]
  subst hy
  simp only [State.updateIr, hp, hc, hb, Bool.not_true, Bool.false_eq_true, if_false, if_true]

/-- Settles O37: the instruction by whether it is a test instruction, the rest on the running logic die. -/
theorem portAndFirmware : Obligations.PortAndFirmware := by
  rintro t s x rfl hp
  refine ⟨fun c hc => ?_, fun c y hc hy => ?_, ?_, ?_, ?_⟩
  · rw [exec, execJtagUpdateIr, occur_eq, State.updateIr_plain hp hc]
  · rw [exec, execJtagUpdateIr, occur_eq, State.updateIr_test hp hc hy]
  · rw [exec, execTmodeHigh, occur_eq, State.tmodeHigh, if_pos hp]
  · rw [exec, execHalFwStall, occur_eq, State.fwFault, if_pos hp]
  · rw [exec, execHalFwTrap, occur_eq, State.fwFault, if_pos hp]

end Sys2Proof.Machine
end

section
/-! THERMAL_MEASURE and CAL_RUN. -/

namespace Sys2Proof.Machine

section
variable {t : Nat} {p : Port} {tag flags : Byte} {s : State}

theorem exec_thermalMeasure_takes {m : Half} (h : (s.advance t).Takes p tag flags (.thermalMeasure m)) :
    exec (.thermalMeasure t p tag flags m) s = .next (((s.advance t).started p tag 0x50).thermalMeasure ⟨p, tag⟩ m.toNat).finish :=
  occur_takes h

theorem exec_calRun_takes {m b : Byte} (h : (s.advance t).Takes p tag flags (.calRun m b)) :
    exec (.calRun t p tag flags m b) s = .next (((s.advance t).started p tag 0x58).need ⟨p, tag⟩
      (decide (m ≠ 0 ∧ m.toNat < 16 ∧ b.toNat ≤ 1)) (State.calStart ⟨p, tag⟩ (BitVec.ofNat 4 m.toNat) (decide (b = 1)))).finish :=
  occur_takes h

end

section
variable {id : ReqId} {s : State}

theorem State.thermalMeasure_none (id : ReqId) (s : State) : s.thermalMeasure id 0 = s.answer id stOk [] := rfl

theorem State.thermalMeasure_bad {m : Nat} (h : 0x4000 ≤ m) : s.thermalMeasure id m = s.answer id stBadParam [] := by
  rw [State.thermalMeasure, if_neg (by omega), if_pos h]

/-- The channels named await their conversions, and the reply awaits them (R516). -/
theorem State.thermalMeasure_waits {m : Nat} (h0 : m ≠ 0) (h : m < 0x4000) : s.thermalMeasure id m = (s.setThm (fun h => { h with
    pendHost := h.pendHost ||| BitVec.ofNat 14 m, measure := some (id, BitVec.ofNat 14 m, []) })).convStart := by
  rw [State.thermalMeasure, if_neg h0, if_neg (Nat.not_le.mpr h)]

theorem State.need_met {c : Bool} (h : c = true) (f : State → State) : s.need id c f = f s := by rw [State.need, if_pos h]

theorem State.need_unmet {c : Bool} (h : c = false) (f : State → State) : s.need id c f = s.answer id stBadParam [] := by
  rw [State.need, h, if_neg Bool.false_ne_true]

end

/-- Settles O19: THERMAL_MEASURE by its mask, CAL_RUN by whether its parameters are those that R569 accepts. -/
theorem measureCommands : Obligations.MeasureCommands := by
  rintro t p tag flags s x rfl
  refine ⟨fun m hk y hy => ?_, fun m b hk y hy => ?_⟩
  · subst hy
    rw [exec_thermalMeasure_takes hk]
    refine ⟨fun hm => ?_, fun hm hb => ?_, fun hm => ?_⟩
    · rw [hm, show BitVec.toNat (0 : Half) = 0 from rfl, State.thermalMeasure_none]
    · rw [State.thermalMeasure_waits (fun h => hm (BitVec.eq_of_toNat_eq h)) hb]
    · rw [State.thermalMeasure_bad hm]
  · subst hy
    rw [exec_calRun_takes hk]
    refine ⟨fun hm hb hn => ?_, fun hm => ?_⟩
    · rw [State.need_met (decide_eq_true ⟨hm, hb, hn⟩), State.calStart]
    · rw [State.need_unmet (decide_eq_false _)]
      rintro ⟨hm', hb, hn⟩
      rcases hm with h | h | h
      · exact hm' h
      · exact Nat.not_le.mpr hb h
      · exact Nat.not_le.mpr h hn

end Sys2Proof.Machine
end

section
/-! Supplies: the brownout, the window of VCORE, and the conditions of Table 15.4. -/

namespace Sys2Proof.Machine

/-! ### Brownout (R605, R607) -/

/-- The logic die in reset by a brownout of a rail, before the Ensign acts on it. -/
def State.browned (r : Rail) (s : State) : State :=
  (s.logicReset.hwSet 0xF0100 0x800).setPow (fun p =>
    { p with railsGood := false, rails4 := p.rails4 &&& ~~~(BitVec.ofNat 4 (2 ^ railBit r)), pmicAt := s.clk.now, retried := false, brown := true })

theorem State.brownOut_off {s : State} (hp : s.pow.logicOn = false) (r : Rail) : s.brownOut r =
    s.setPow (fun q => { q with railsGood := false, rails4 := q.rails4 &&& ~~~(BitVec.ofNat 4 (2 ^ railBit r)) }) := by
  simp only [State.brownOut, hp, Bool.not_false, if_true]

/-- With no safe state in force, and no housing open that SERVICE had allowed, the Ensign holds SAFE-BEAM with cause 3. -/
theorem State.brownOut_on {s : State} (hp : s.pow.logicOn = true) (hs : s.ens.safe = none) (hv : s.ens.svcMode = false ∨ s.ens.hsgOpen = false)
    (r : Rail) : s.brownOut r = (((s.browned r).hold false).latchEns 3) := by
  have hdark : (s.browned r).ens.safe ≠ some .safeDark := by rw [show (s.browned r).ens.safe = s.ens.safe from rfl, hs]; nofun
  have hsvc : (s.ens.svcMode && (s.browned r).ens.hsgOpen) = false := by
    rw [show (s.browned r).ens.hsgOpen = s.ens.hsgOpen from rfl]
    rcases hv with h | h <;> simp [h]
  have hoff : (((s.browned r).hold false).latchEns 3).pow.logicOn = false := by
    rw [((State.hold_off rfl false).trans (State.latchEns_same _ 3)).pow]; rfl
  have hb : s.brownOut r = if (s.browned r).ens.safe = some .safeDark then (s.browned r).hold true
      else if (s.ens.svcMode && (s.browned r).ens.hsgOpen) = true then (s.browned r).serviceOver true
      else (s.browned r).assertSafe false { src := 3, cls := 0, code := 0, logic := false } := by
    simp only [State.brownOut, hp, Bool.not_true, Bool.false_eq_true, if_false]; rfl
  rw [hb, if_neg hdark, hsvc, if_neg Bool.false_ne_true, State.assertSafe, State.assertLines, if_neg Bool.false_ne_true, hoff,
    if_neg Bool.false_ne_true]

/-- The latch of an entry changes the cause that the Ensign shows, and nothing else of it. -/
theorem State.latchEns_ens (s : State) (src : Nat) : ∃ c, (s.latchEns src).ens = { s.ens with cause := c } := by
  unfold State.latchEns
  rw [State.raiseHv_ens]
  split <;> exact ⟨_, rfl⟩

theorem State.latchEns_rtc (s : State) (src : Nat) : (s.latchEns src).rtc = s.rtc := by
  unfold State.latchEns
  rw [State.raiseHv_rtc]
  split <;> rfl

theorem State.hold_rtc (s : State) (dark : Bool) : (s.hold dark).rtc = s.rtc := by
  simp only [State.hold]; split <;> simp

/-! ### VCORE (R608) -/

/-- Where no other code was driven in the last 100 µs the window is that of VCODE. -/
theorem State.vcoreGood_iff {s : State} (h : ∀ e ∈ s.fab.drivenBy s.clk.dtime, e.2 = s.fab.vcode) (v : Nat) :
    s.vcoreGood v = true ↔ 6000 + 50 * s.fab.vcode ≤ v + 600 ∧ v ≤ 6000 + 50 * s.fab.vcode + 600 := by
  have hl : (s.fab.drivenBy s.clk.dtime).map (·.2) = List.replicate (s.fab.drivenBy s.clk.dtime).length s.fab.vcode :=
    List.eq_replicate_iff.mpr ⟨List.length_map .., fun b hb => by
      obtain ⟨e, he, rfl⟩ := List.mem_map.mp hb
      exact h e he⟩
  have hmin (n c : Nat) : (List.replicate n c).foldl min c = c := by
    induction n with
    | zero => rfl
    | succ n ih => rw [List.replicate_succ, List.foldl_cons, Nat.min_self, ih]
  have hmax (n c : Nat) : (List.replicate n c).foldl max c = c := by
    induction n with
    | zero => rfl
    | succ n ih => rw [List.replicate_succ, List.foldl_cons, Nat.max_self, ih]
  rw [State.vcoreGood, hl, hmin, hmax, decide_eq_true_iff]

/-- `s` with the measured VCORE, and whether it is out of its window. -/
def State.vcoreSeen (v : Half) (s : State) : State :=
  { s with
    pow := { s.pow with meas1 := BitVec.ofNat 32 (s.pow.meas1.toNat / 65536 * 65536 + v.toNat) }
    fab := { s.fab with vcoreBad := !s.vcoreGood v.toNat } }

theorem State.vcoreWindow_on {s : State} (hp : s.pow.logicOn = true) (v : Half) : s.vcoreWindow v =
    if s.vcoreGood v.toNat then (s.vcoreSeen v).resolveAll 0x3C7 else (s.vcoreSeen v).raiseHv 0x3C7 0 0 := by
  rw [State.vcoreWindow, if_neg (by rw [hp]; nofun)]; rfl

/-- The inhibit ends 1 ms after its conditions are clear (R589). -/
theorem State.inhibitEnd_due {s : State} {c : Nat} (hc : s.cal.clearAt = some c) (hd : c + 1000000 ≤ s.clk.now) :
    s.inhibitEnd = { s with cal := { s.cal with inhibit := false, clearAt := none } } := by
  simp only [State.inhibitEnd, hc, if_pos hd]

/-! ### The conditions of Table 15.4 (R619) -/

/-- The condition holds. -/
def Power.holds (p : Power) (c : SupplyCond) : Bool :=
  match c with
  | .vbatHigh => p.vbatHigh | .vbatSag => p.vbatSag | .vbatCrank => p.vbatCrank
  | .vio18Sag => p.vioSag | .vledUnder => p.vledUv | .vledOver => p.vledOv

/-- What the entry of a condition does, or its end. -/
def State.supplyTurn (c : SupplyCond) (enters : Bool) (s : State) : State :=
  match c with
  | .vbatHigh =>
    let s := s.setPow (fun p => { p with vbatHigh := enters })
    if enters then s.raiseHv 0x3C9 0 0 else s
  | .vbatSag =>
    let s := s.setPow (fun p => { p with vbatSag := enters })
    let s : State := { s with cal := { s.cal with inhVbat := enters } }
    (if enters then s.raiseHv 0x3C3 0 0 else s).sagChanged
  | .vbatCrank =>
    let s := s.setPow (fun p => { p with vbatCrank := enters })
    if enters then s.raiseHv 0x3C8 0 0 else s
  | .vio18Sag =>
    let s := s.setPow (fun p => { p with vioSag := enters })
    let s : State := { s with cal := { s.cal with inhVio := enters } }
    (if enters then s.raiseHv 0x3C4 0 0 else s).sagChanged
  | .vledUnder =>
    let s := s.setPow (fun p => { p with vledUv := enters, vledUvLeft := if enters then none else some s.clk.now })
    if enters then s.raiseHv 0x3C5 0 0 else s
  | .vledOver =>
    let s := s.setPow (fun p => { p with vledOv := enters })
    if enters then s.raiseHv 0x3C6 0 0 else s.resolveAll 0x3C6

theorem State.supplyValue_holds (c d : SupplyCond) (v : Nat) (s : State) : (s.supplyValue c v).pow.holds d = s.pow.holds d := by
  cases c <;> cases d <;> rfl

/-- A level shows in the measured value; past the threshold it also turns a condition that stood the other way. -/
theorem State.supply_eq {s : State} (hb : s.pow.vbat = true) (c : SupplyCond) (e : Bool) (v : Nat) : s.supply c e v =
    if supplyPast c e v = true ∧ s.pow.holds c ≠ e then (s.supplyValue c v).supplyTurn c e else s.supplyValue c v := by
  have hs : s.supply c e v = if supplyPast c e v then
      (if (s.supplyValue c v).pow.holds c == e then s.supplyValue c v else (s.supplyValue c v).supplyTurn c e) else s.supplyValue c v := by
    simp only [State.supply, hb, Bool.not_true, Bool.false_eq_true, if_false]
    cases supplyPast c e v <;> cases c <;> rfl
  rw [hs, State.supplyValue_holds]
  by_cases hp : supplyPast c e v = true <;> by_cases hh : s.pow.holds c = e <;> simp [hp, hh]

section
variable {t : Nat} {s y : State} {c : SupplyCond} {e : Bool} {v : Nat}

theorem exec_supply_turns (hb : (s.advance t).pow.vbat = true) (hy : y = (s.advance t).supplyValue c v) (hp : supplyPast c e v = true)
    (hh : (s.advance t).pow.holds c = !e) : exec (.supplyThreshold t c e v) s = .next (y.supplyTurn c e).finish := by
  rw [exec, execSupplyThreshold, occur_eq, State.supply_eq hb, if_pos ⟨hp, by rw [hh]; exact Bool.not_ne_self e⟩, hy]

theorem exec_supply_holds (hb : (s.advance t).pow.vbat = true) (hy : y = (s.advance t).supplyValue c v)
    (hh : (s.advance t).pow.holds c = e) : exec (.supplyThreshold t c e v) s = .next y.finish := by
  rw [exec, execSupplyThreshold, occur_eq, State.supply_eq hb, if_neg (fun h => h.2 hh), hy]

theorem exec_supply_short (hb : (s.advance t).pow.vbat = true) (hp : supplyPast c e v = false) :
    exec (.supplyThreshold t c e v) s = .next ((s.advance t).supplyValue c v).finish := by
  rw [exec, execSupplyThreshold, occur_eq, State.supply_eq hb, if_neg (fun h => Bool.false_ne_true (hp.symm.trans h.1))]

end

/-- Settles O28: the brownout by whether the logic die runs, VCORE by its window, each condition by its threshold and by how it stood. -/
theorem supplyRows : Obligations.SupplyRows := by
  rintro t s x rfl
  refine ⟨fun r hp => ?_, fun r hp hs hv => ?_, fun v z hp hz => ⟨fun h => State.vcoreGood_iff h _, fun hg => ?_, fun hg => ?_⟩,
    fun v y hb hy => ⟨fun hv hc => exec_supply_turns hb hy (decide_eq_true hv) hc, fun hv hc => exec_supply_turns hb hy (decide_eq_true hv) hc,
      fun e hc => exec_supply_holds hb hy hc⟩,
    fun v y hb hy => ⟨fun hv hc => exec_supply_turns hb hy (decide_eq_true hv) hc, fun hv hc => exec_supply_turns hb hy (decide_eq_true hv) hc,
      fun e hc => exec_supply_holds hb hy hc⟩,
    fun v y hb hy => ⟨fun hv hc => exec_supply_turns hb hy (decide_eq_true hv) hc, fun hv hc => exec_supply_turns hb hy (decide_eq_true hv) hc,
      fun e hc => exec_supply_holds hb hy hc⟩,
    fun v y hb hy => ⟨fun hv hc => exec_supply_turns hb hy (decide_eq_true hv) hc, fun hv hc => exec_supply_turns hb hy (decide_eq_true hv) hc,
      fun e hc => exec_supply_holds hb hy hc⟩,
    fun v y hb hy => ⟨fun hv hc => exec_supply_turns hb hy (decide_eq_true hv) hc, fun hv hc => ?_,
      fun e hc => exec_supply_holds hb hy hc⟩,
    fun v y hb hy => ⟨fun hv hc => exec_supply_turns hb hy (decide_eq_true hv) hc, fun hv hc => exec_supply_turns hb hy (decide_eq_true hv) hc,
      fun e hc => exec_supply_holds hb hy hc⟩,
    fun c e v hb hp => exec_supply_short hb hp, fun c hc hd => ?_⟩
  · rw [exec, execBrownout, occur_eq, State.brownOut_off hp]
  · have hsame := (State.hold_off (s := (s.advance t).browned r) rfl false).trans (State.latchEns_same _ 3)
    obtain ⟨c, he⟩ := State.latchEns_ens (((s.advance t).browned r).hold false) 3
    have hsafe : ((s.advance t).browned r).ens.safe = none := hs
    refine ⟨_, by rw [exec, execBrownout, occur_eq, State.brownOut_on hp hs hv], ?_⟩
    rw [hsame.pow, hsame.mode, hsame.store, he, State.latchEns_rtc, State.hold_rtc, State.hold_ens, hsafe]
    exact ⟨rfl, rfl, rfl, rfl, rfl, rfl, rfl, rfl, rfl, rfl⟩
  · rw [exec, execVcoreWindow, occur_eq, State.vcoreWindow_on hp, hg, if_neg Bool.false_ne_true, hz]; rfl
  · rw [exec, execVcoreWindow, occur_eq, State.vcoreWindow_on hp, if_pos hg, hz]; rfl
  · have hclk : y.clk = (s.advance t).clk := by rw [hy]; rfl
    rw [exec_supply_turns (e := false) hb hy (decide_eq_true hv) hc, ← hclk]
    rfl
  · rw [exec, execSagInhibitEnd, occur_eq, State.inhibitEnd_due hc hd]

end Sys2Proof.Machine
end

section
/-! The fabric: margin, VREQ, FIRC and the rings; the fuse rows of calibration. -/

namespace Sys2Proof.Machine

/-! ### VREQ (R550) -/

/-- VREQ as the fabric holds it: its code, its target, and the instant of its last step. -/
def State.vreqView (s : State) : Nat × Nat × Nat := (s.fab.vcode, s.fab.vtarget, s.fab.stepAt)

theorem State.resettle_vreqView (s : State) : s.resettle.vreqView = s.vreqView := by unfold State.resettle; split <;> rfl
theorem State.atMaxStill_vreqView (s : State) : s.atMaxStill.vreqView = s.vreqView := rfl
theorem State.downDue_vreqView (s : State) : s.downDue.vreqView = s.vreqView := by unfold State.downDue; split <;> rfl
theorem State.event_vreqView (s : State) (code : Nat) : (s.event code).vreqView = s.vreqView := by simp [State.vreqView]

/-- VREQ drives the code `v`, and what waits for it goes on. -/
def State.vreqDriven (v : Nat) (s : State) : State :=
  ((({ s with fab := { s.fab with
    vcode := v, stepAt := s.clk.dtime, driven := (s.clk.dtime, s.fab.vcode) :: s.fab.drivenBy s.clk.dtime } } : State).resettle).atMaxStill).downDue

theorem State.vreqDriven_view (v : Nat) (s : State) : (s.vreqDriven v).vreqView = (v, s.fab.vtarget, s.clk.dtime) := by
  rw [State.vreqDriven, State.downDue_vreqView, State.atMaxStill_vreqView, State.resettle_vreqView]; rfl

/-- 50 µs after its last step VREQ moves one code toward its aim, and its target stays. -/
theorem State.vreqStep_due {s : State} (hp : s.pow.logicOn = true) (hd : s.fab.stepAt + 50000 ≤ s.clk.dtime) (ha : s.fab.vcode ≠ s.vaim) {v : Nat}
    (hv : v = if s.fab.vcode < s.vaim then s.fab.vcode + 1 else s.fab.vcode - 1) :
    s.vreqStep.vreqView = (v, s.fab.vtarget, s.clk.dtime) := by
  have hc : ¬ (!s.pow.logicOn || decide (s.fab.vcode = s.vaim) || decide (s.clk.dtime < s.fab.stepAt + 50000)) = true := by
    simp [hp, ha, Nat.not_lt.mpr hd]
  have hs : s.vreqStep = if v = (s.vreqDriven v).vmax then (s.vreqDriven v).event 0x04A else s.vreqDriven v := by
    rw [State.vreqStep, if_neg hc, hv]; rfl
  rw [hs]
  split
  · rw [State.event_vreqView, State.vreqDriven_view]
  · exact State.vreqDriven_view v s

/-! ### The rings (R545, R546) -/

/-- Ring `i` has been measured. -/
def State.ringMeasured (cyc : Vector Half 24) (i : Nat) (s : State) : State :=
  let c := (cyc.toArray.getD i 0).toNat
  { (ringSpeed i c s).2 with fab := { (ringSpeed i c s).2.fab with
      canary := vset (ringSpeed i c s).2.fab.canary i (c, (ringSpeed i c s).1) } }

/-- A ring's speed draws at most a free value. -/
theorem ringSpeed_state (i c : Nat) (s : State) : ∃ k, (ringSpeed i c s).2 = { s with free := k } := by
  unfold ringSpeed; split <;> exact ⟨_, rfl⟩

theorem State.ringMeasured_eq (cyc : Vector Half 24) (i : Nat) (s : State) : ∃ k v, s.ringMeasured cyc i =
    { s with free := k, fab := { s.fab with canary := vset s.fab.canary i ((cyc.toArray.getD i 0).toNat, v) } } := by
  obtain ⟨k, hk⟩ := ringSpeed_state i (cyc.toArray.getD i 0).toNat s
  exact ⟨k, _, by rw [State.ringMeasured, hk]⟩

/-- Each ring shows the cycle that was measured. -/
theorem State.ringsMeasured_cycle (cyc : Vector Half 24) (i : Fin 24) (s : State) :
    (vget (iter (State.ringMeasured cyc) 24 s).fab.canary i.val).1 = (vget cyc i.val).toNat := by
  obtain ⟨u, -, hu⟩ := iter_at (n := i.val) (fun s => vget s.fab.canary i.val) (f := State.ringMeasured cyc) (fun m s hm => by
    obtain ⟨k, v, h⟩ := s.ringMeasured_eq cyc m
    rw [h]; exact vget_vset_other _ _ _ _ (Ne.symm hm) i.isLt) i.isLt s
  obtain ⟨k, v, h⟩ := u.ringMeasured_eq cyc i.val
  rw [hu, h]
  simp only
  rw [vget_vset_same _ _ _ i.isLt, vget_fin]
  unfold Array.getD
  rw [dif_pos (Nat.lt_of_lt_of_eq i.isLt cyc.size_toArray.symm)]
  rfl

/-- What the measurement of a ring leaves as it was. -/
theorem State.ringsMeasured_frame (cyc : Vector Half 24) (s : State) :
    ((iter (State.ringMeasured cyc) 24 s).auto, (iter (State.ringMeasured cyc) 24 s).clk, (iter (State.ringMeasured cyc) 24 s).fab.vtarget) =
      (s.auto, s.clk, s.fab.vtarget) :=
  iter_proj (fun s => (s.auto, s.clk, s.fab.vtarget)) (fun i s => by obtain ⟨k, v, h⟩ := s.ringMeasured_eq cyc i; rw [h]; rfl) 24 s

/-- SPEED and the table of the slowest speeds, once the rings are measured. -/
def State.speedTaken (m : State) : State :=
  { m with fab := { m.fab with
    speed := m.fab.canary.toList.foldl (fun v c => min v c.2) 4095
    canaryAt := m.clk.dtime
    spdMax := if m.fab.vcode = m.vmaxEff then vset m.fab.spdMax m.thm.dband (some (m.fab.canary.toList.foldl (fun v c => min v c.2) 4095))
      else m.fab.spdMax } }

theorem State.canaryMeasure_eq (cyc : Vector Half 24) {s m : State} (hm : m = iter (State.ringMeasured cyc) 24 s) : s.canaryMeasure cyc =
    if m.speedTaken.auto && m.speedTaken.scan.run && !m.speedTaken.scan.stopping &&
      decide (100 * m.fab.canary.toList.foldl (fun v c => min v c.2) 4095 < 92 * m.speedTaken.fab.speedBlk) then
      { m.speedTaken with fab := { m.speedTaken.fab with vtarget := max m.speedTaken.fab.vtarget m.speedTaken.vmaxEff } }
    else m.speedTaken := by subst hm; rfl

/-- With AUTO 0 the slowest ring gives SPEED, and the target stays (R545). -/
theorem State.canaryMeasure_manual {s : State} (ha : s.auto = false) (cyc : Vector Half 24) {m : State}
    (hm : m = iter (State.ringMeasured cyc) 24 s) : (s.canaryMeasure cyc).fab.canaryAt = s.clk.dtime ∧
      (s.canaryMeasure cyc).fab.speed = m.fab.canary.toList.foldl (fun m c => min m c.2) 4095 ∧
      (s.canaryMeasure cyc).fab.canary = m.fab.canary ∧ (s.canaryMeasure cyc).fab.vtarget = s.fab.vtarget := by
  have hf := State.ringsMeasured_frame cyc s
  rw [← hm] at hf
  simp only [Prod.mk.injEq] at hf
  obtain ⟨hauto, hclk, hvt⟩ := hf
  have hoff : m.speedTaken.auto = false := hauto.trans ha
  have hs : s.canaryMeasure cyc = m.speedTaken := by
    rw [State.canaryMeasure_eq cyc hm, if_neg (by simp [hoff])]
  rw [hs]
  exact ⟨congrArg Clock.dtime hclk, rfl, rfl, hvt⟩

/-! ### The fuse rows of calibration (R579, R586, R587) -/

/-- The bank with row k of a run's record burned. -/
def Cal.rowBurned (r : CalRun) (k : Nat) (c : Cal) : Vector (List Byte) 32 :=
  vmod c.bank r.record (fun b => putBytes (4 * k) ((r.bytes.drop (4 * k)).take 4) b)

/-- A row that is burned changes the bank and its COUNT alone. -/
theorem State.burnRow_cal (r : CalRun) (k : Nat) (s : State) : ∃ n, (s.burnRow r k).cal = { s.cal with bank := s.cal.rowBurned r k, count := n } := by
  simp only [State.burnRow]
  split
  · rw [State.event_cal]; exact ⟨_, rfl⟩
  · exact ⟨_, rfl⟩

theorem State.ramOnly_cal (s : State) : s.ramOnly.cal = { s.cal with ramOnly := true, src := 2 } := State.event_cal _ _

/-- What follows a row leaves the bank as it is. -/
theorem State.calRow_bank (r : CalRun) (k : Nat) (s : State) : (s.calRow r k).cal.bank = s.cal.bank := by
  unfold State.calRow
  split
  · rw [State.ramOnly_cal]
  · split
    · rw [State.answer_cal, State.ramOnly_cal]
    · rfl

section
variable {s : State} {r : CalRun} {k : Nat}

theorem State.fuseRow_ending (he : s.cal.ending = some r) (hr : r.row = some k) : s.fuseRow =
    if k < 7 then (({ s with cal := { s.cal with ending := none } } : State).burnRow r k).ramOnly
    else (({ s with cal := { s.cal with ending := none } } : State).burnRow r k).burned r := by
  simp only [State.fuseRow, he, hr, Option.getD_some]

theorem State.fuseRow_next (he : s.cal.ending = none) (hc : s.cal.run = some r) (hr : r.row = some k) (hk : k < 7) :
    s.fuseRow = (s.burnRow r k).calRow r (k + 1) := by
  simp only [State.fuseRow, he, hc, hr, if_pos hk]

theorem State.fuseRow_last (he : s.cal.ending = none) (hc : s.cal.run = some r) (hr : r.row = some k) (hk : 7 ≤ k) (hd : r.ended = true) :
    s.fuseRow = ({ s.burnRow r k with cal := { (s.burnRow r k).cal with run := none } } : State).burned r := by
  simp only [State.fuseRow, he, hc, hr, if_neg (Nat.not_lt.mpr hk), hd, if_true]

end

/-- Settles O55: each row of the fabric by what it finds due, a fuse row by whose it is and whether it is the last. -/
theorem fabricRows : Obligations.FabricRows := by
  refine ⟨?_, ?_, ?_⟩
  · rintro t s x rfl
    refine ⟨fun t0 ht hd => ?_, fun hp hd ha => ?_, fun e hx => ?_, fun cyc ha => ?_⟩
    · rw [exec, execMarginDecrease, occur_eq]
      simp only [State.marginDecrease, ht, if_pos hd]
    · have hv := State.vreqStep_due hp hd ha rfl
      simp only [State.vreqView, Prod.mk.injEq] at hv
      obtain ⟨hcode, htarget, hat⟩ := hv
      refine ⟨_, by rw [exec, execVreqStep, occur_eq], hat, fun h => ?_, fun h => ?_, htarget⟩
      · rw [hcode, if_pos h]
      · rw [hcode, if_neg (Nat.not_lt.mpr (Nat.le_of_lt h))]
    · rw [exec, execFircMeasure, occur_eq, State.fircMeasure, if_pos hx]
    · obtain ⟨hat, hspeed, hcan, hvt⟩ := State.canaryMeasure_manual ha cyc rfl
      refine ⟨_, by rw [exec, execCanaryMeasure, occur_eq], hat, hspeed.trans (by rw [hcan]), fun i => ?_, hvt⟩
      rw [hcan]
      exact State.ringsMeasured_cycle cyc i _
  · rintro t s x r k rfl he hr hn
    obtain ⟨c, hc⟩ := State.burnRow_cal r k { s.advance t with cal := { (s.advance t).cal with ending := none } }
    refine ⟨_, by rw [exec, execFuseRowDone, occur_eq, State.fuseRow_ending he hr], ?_⟩
    by_cases hk : k < 7
    · simp only [if_pos hk, State.ramOnly_cal, hc, decide_eq_true hk, and_true, true_and]
      exact vget_vmod_same _ _ _ hn
    · simp only [if_neg hk, State.burned, hc, decide_eq_false hk, and_true, true_and]
      exact vget_vmod_same _ _ _ hn
  · rintro t s x r k rfl he hc hr hn
    obtain ⟨c, hb⟩ := State.burnRow_cal r k (s.advance t)
    refine ⟨fun hk => ?_, fun hk hd => ?_⟩
    · refine ⟨_, by rw [exec, execFuseRowDone, occur_eq, State.fuseRow_next he hc hr hk], ?_⟩
      rw [State.calRow_bank, hb]
      exact ⟨vget_vmod_same _ _ _ hn, fun n hn' hne => vget_vmod_other _ _ _ _ hne hn'⟩
    · exact ⟨_, by rw [exec, execFuseRowDone, occur_eq, State.fuseRow_last he hc hr hk hd], rfl, rfl, rfl, rfl⟩

end Sys2Proof.Machine
end

section
/-! Temperatures: what a sensor shows after a conversion, throttling, and the converter. -/

namespace Sys2Proof.Machine

/-! ### A sensor after a conversion (R518 to R520, R527 to R529) -/

section
variable {s : State} {w : Vector ThermCh 14} {c st : Nat} {k : Int} {x : ThermCh}

/-- The rate of rise is all that R518 forms. -/
theorem State.withRate_eq (s : State) (c st : Nat) (k : Int) (x : ThermCh) : ∃ r n h l, s.withRate c st k x =
    { x with rate := r, rateRun := n, rateHot := h, hist := l } := by
  unfold State.withRate
  split
  · exact ⟨_, _, _, _, rfl⟩
  · split <;> exact ⟨_, _, _, _, rfl⟩

/-- A conversion that fails breaks the channel. -/
theorem State.withAgreement_failed (h : st ≠ 0) (x : ThermCh) :
    (s.withAgreement w c st k x).broken = true ∧ (s.withAgreement w c st k x).agree = 0 := by
  cases hb : x.broken <;> simp [State.withAgreement, h, hb]

/-- A good on-die channel stays good while its disagreements are below XCNT. -/
theorem State.withAgreement_onDie (hc : 12 ≤ c) (hb : x.broken = false) (hd : x.disagree < s.fld 0xC0002 17 16) :
    (s.withAgreement w c 0 k x).broken = false := by
  simp [State.withAgreement, hc, hb, Nat.not_le.mpr hd]

/-- A good channel that agrees with its neighbours stays good. -/
theorem State.withAgreement_agrees {m : Int} (hc : c < 12) (hb : x.broken = false) (hm : median (s.goodNeighbours w c) = some m)
    (ht : (k - m).natAbs ≤ 16 * (if c < 8 then s.fld 0xC0002 7 0 else s.fld 0xC0002 15 8)) (hn : 0 < s.fld 0xC0002 17 16) :
    (s.withAgreement w c 0 k x).broken = false ∧ (s.withAgreement w c 0 k x).disagree = 0 := by
  simp [-mul_ite, State.withAgreement, Nat.not_le.mpr hc, hb, hm, Nat.not_lt.mpr ht, Nat.pos_iff_ne_zero.mp hn]

/-- What the channel shows: its rate and its agreement, then the value in use. -/
theorem State.sensed_eq (s : State) (w : Vector ThermCh 14) (c st : Nat) (k : Int) : ∃ x : ThermCh,
    x.broken = (s.withAgreement w c st k (vget w c)).broken ∧ x.agree = (s.withAgreement w c st k (vget w c)).agree ∧
      x.disagree = (s.withAgreement w c st k (vget w c)).disagree ∧ s.sensed w c st k = s.withValue w c k x := by
  obtain ⟨r, n, h, l, hr⟩ := s.withRate_eq c st k (s.withAgreement w c st k (vget w c))
  exact ⟨s.withRate c st k (s.withAgreement w c st k (vget w c)), by rw [hr], by rw [hr], by rw [hr], rfl⟩

theorem State.withValue_good (h : x.broken = false) : (s.withValue w c k x).temp = k ∧ (s.withValue w c k x).state = 0 := by
  simp [State.withValue, State.valued, h, b2n]

theorem State.withValue_substitute {m : Int} (h : x.broken = true) (hm : maxInt? (s.goodNeighbours w c) = some m) :
    (s.withValue w c k x).temp = m + 128 := by
  simp [State.withValue, State.valued, h, hm]

theorem State.withValue_alone (h : x.broken = true) (hc : c < 12) (hm : s.goodNeighbours w c = []) : (s.withValue w c k x).temp = s.tlim c := by
  simp [State.withValue, State.valued, h, hm, hc, maxInt?, sortInt]

theorem State.withValue_onDie (hc : 12 ≤ c) : (s.withValue w c k x).lvl = 0 := by
  simp [State.withValue, State.valued, Nat.not_lt.mpr hc]

/-- While the rate is not exceeded the level is that of the value itself. -/
theorem State.withValue_lvl (hc : c < 12) (h : x.rateHot = false) :
    (s.withValue w c k x).lvl = levelOf (s.tstart c) (s.tlim c) (s.withValue w c k x).temp := by
  simp [State.withValue, State.valued, hc, h]

theorem levelOf_below {a b t : Int} (h : t < a) : levelOf a b t = 0 := if_pos h

theorem levelOf_limit {a b t : Int} (h : a ≤ t) (hb : b ≤ t) : levelOf a b t = 7 := by
  rw [levelOf, if_neg (Int.not_lt.mpr h), if_pos hb]

theorem levelOf_between {a b t : Int} (h : a ≤ t) (hb : t < b) : levelOf a b t = min 7 (8 * (t - a) / (b - a) + 1).toNat := by
  rw [levelOf, if_neg (Int.not_lt.mpr h), if_neg (Int.not_le.mpr hb)]

end

/-- What a sensor shows after a conversion. -/
theorem State.sensed_shows (s : State) (w : Vector ThermCh 14) (c st : Nat) (k : Int) (y : ThermCh) (hy : y = s.sensed w c st k) :
    (st ≠ 0 → y.broken = true ∧ y.agree = 0) ∧ y.state = b2n y.broken ∧ (y.broken = false → y.temp = k) ∧
    (c < 12 → y.broken = true → s.goodNeighbours w c = [] → y.temp = s.tlim c) ∧
    (∀ m : Int, y.broken = true → maxInt? (s.goodNeighbours w c) = some m → y.temp = m + 8 * 16) ∧
    (12 ≤ c → y.lvl = 0) ∧ (c < 12 → y.rateHot = false → y.temp < s.tstart c → y.lvl = 0) ∧
    (c < 12 → y.rateHot = false → s.tstart c ≤ y.temp → s.tlim c ≤ y.temp → y.lvl = 7) ∧
    (c < 12 → y.rateHot = false → s.tstart c ≤ y.temp → y.temp < s.tlim c →
      y.lvl = min 7 (8 * (y.temp - s.tstart c) / (s.tlim c - s.tstart c) + 1).toNat) ∧
    (∀ m : Int, c < 12 → st = 0 → (vget w c).broken = false → median (s.goodNeighbours w c) = some m →
      (k - m).natAbs ≤ 16 * (if c < 8 then s.fld 0xC0002 7 0 else s.fld 0xC0002 15 8) → 0 < s.fld 0xC0002 17 16 →
      y.broken = false ∧ y.disagree = 0) := by
  obtain ⟨x, hbroken, hagree, hdisagree, hs⟩ := s.sensed_eq w c st k
  subst hy
  rw [hs]
  refine ⟨fun h => ?_, rfl, fun h => (State.withValue_good (x := x) h).1, fun hc h hm => State.withValue_alone h hc hm,
    fun m h hm => State.withValue_substitute h hm, State.withValue_onDie, fun hc hr h => ?_, fun hc hr h hl => ?_, fun hc hr h hl => ?_,
    fun m hc h0 hb hm ht hn => ?_⟩
  · exact (State.withAgreement_failed h (vget w c)).imp hbroken.trans hagree.trans
  · rw [State.withValue_lvl (x := x) hc hr, levelOf_below h]
  · rw [State.withValue_lvl (x := x) hc hr, levelOf_limit h hl]
  · rw [State.withValue_lvl (x := x) hc hr, levelOf_between h hl]
  · subst h0
    exact (State.withAgreement_agrees hc hb hm ht hn).imp hbroken.trans hdisagree.trans

/-- The channel that was converted shows what its sensor does; the others follow it. -/
theorem State.sensedAll_same (s : State) (v : Vector ThermCh 14) {c : Nat} (hc : c < 14) (st : Nat) (k : Int) :
    vget (s.sensedAll v c st k) c = s.sensed v c st k := by
  refine iter_keeps (P := fun w => vget w c = s.sensed v c st k) (vget_vset_same v c _ hc) fun j _ w hw => ?_
  split
  next h => rw [vget_vset_other _ _ _ _ (Ne.symm h.1) hc, hw]
  next => exact hw

/-! ### Throttling (R521 to R525, R530 to R534) -/

section
variable {s : State}

/-- A change of the budget leaves the temperatures and the calibration as they are. -/
theorem State.budgetMoved_thm (s : State) : s.budgetMoved.thm = s.thm := by unfold State.budgetMoved; split <;> simp
theorem State.budgetMoved_cal (s : State) : s.budgetMoved.cal = s.cal := by unfold State.budgetMoved; split <;> simp

theorem State.riseEnf_rises {l : Nat} (h : s.thm.enf < l) : s.riseEnf l = ((({ s with thm := { s.thm with
    enf := l, enfAt := s.clk.dtime, belowAt := none } } : State).raise0 0x301 0 l).budgetMoved) := if_pos h

theorem State.riseEnf_stays {l : Nat} (h : l ≤ s.thm.enf) : s.riseEnf l = s := if_neg (Nat.not_lt.mpr h)

/-- ENF rises to `l` or was there; when it rose is all else that changes of the temperatures. -/
theorem State.riseEnf_thm (l : Nat) (s : State) : ∃ a b, (s.riseEnf l).thm = { s.thm with enf := max s.thm.enf l, enfAt := a, belowAt := b } := by
  by_cases h : s.thm.enf < l
  · exact ⟨_, _, by rw [State.riseEnf_rises h, State.budgetMoved_thm, State.raise0_thm, Nat.max_eq_right (Nat.le_of_lt h)]⟩
  · have hl : l ≤ s.thm.enf := Nat.not_lt.mp h
    exact ⟨_, _, by rw [State.riseEnf_stays hl, Nat.max_eq_left hl]⟩

theorem State.riseEnf_cal (l : Nat) (s : State) : (s.riseEnf l).cal = s.cal := by
  unfold State.riseEnf; split
  · rw [State.budgetMoved_cal, State.raise0_cal]
  · rfl

theorem State.relaxMark_thm (s : State) : ∃ b g m, s.relaxMark.thm = { s.thm with belowAt := b, gdnLagAt := g, xcheck := m } := by
  unfold State.relaxMark
  extract_lets m
  split
  · rw [State.resolve_thm]; exact ⟨_, _, _, rfl⟩
  · exact ⟨_, _, _, rfl⟩

theorem State.relaxMark_cal (s : State) : s.relaxMark.cal = s.cal := by
  unfold State.relaxMark
  extract_lets m
  split
  · rw [State.resolve_cal]; rfl
  · rfl

/-- TGT: the highest level of the channels, of the junction rule and of the cross-check (R520, R532, R533). -/
def State.targetLevel (s : State) : Nat :=
  max ((List.range 12).foldl (fun m c => max m (vget s.thm.ch c).lvl) 0) (max s.thm.tjLvl (if s.thm.xcheck = 0 then 0 else 4))

/-- TGT and REQ are at the target level. -/
def State.targeted (s : State) : State :=
  s.setThm (fun h => { h with
    tgt := s.targetLevel, req := s.targetLevel
    levelAt := iter (fun l v => vmod v l (fun o => if l ≤ s.targetLevel then o.or (some s.clk.dtime) else none)) 8 h.levelAt })

/-- The target is raised where it rose. -/
def State.targetSaid (s : State) : State := if s.thm.req < s.targetLevel then s.targeted.raise0 0x300 0 s.targetLevel else s.targeted

theorem State.retarget_eq (s : State) : s.retarget = s.targetSaid.riseEnf s.targetSaid.heldLevel := rfl

theorem State.targetSaid_thm (s : State) : s.targetSaid.thm = s.targeted.thm := by
  unfold State.targetSaid; split
  · rw [State.raise0_thm]
  · rfl

theorem State.targetSaid_cal (s : State) : s.targetSaid.cal = s.cal := by
  unfold State.targetSaid State.targeted
  split <;> simp

theorem State.tjLvl_le_targetLevel (s : State) : s.thm.tjLvl ≤ s.targetLevel :=
  Nat.le_trans (Nat.le_max_left _ _) (Nat.le_max_right _ _)

theorem State.retarget_thm (s : State) : ∃ l e a b, s.retarget.thm =
    { s.thm with tgt := s.targetLevel, req := s.targetLevel, levelAt := l, enf := e, enfAt := a, belowAt := b } := by
  obtain ⟨a, b, h⟩ := State.riseEnf_thm s.targetSaid.heldLevel s.targetSaid
  rw [State.retarget_eq, h, State.targetSaid_thm]
  simp only [State.targeted, State.setThm]
  exact ⟨_, _, _, _, rfl⟩

theorem State.retarget_cal (s : State) : s.retarget.cal = s.cal := by
  rw [State.retarget_eq, State.riseEnf_cal, State.targetSaid_cal]

/-- ENF falls by one level, not to 0. -/
theorem State.enfRelax_due {t0 : Nat} (hb : s.thm.belowAt = some t0) (hd : max t0 s.thm.enfAt + s.fld 0xC0000 13 8 * 1000000000 ≤ s.clk.dtime)
    (hf : s.thm.floor = none) (he : 1 < s.thm.enf) : s.enfRelax =
      ((((s.setThm (fun h => { h with enf := h.enf - 1, enfAt := s.clk.dtime })).event 0x308).budgetMoved).relaxMark) := by
  have hpos : s.thm.floor.getD 0 < s.thm.enf := by rw [hf]; exact Nat.lt_of_succ_lt he
  simp only [State.enfRelax, hb]
  rw [if_pos ⟨hd, hpos⟩]
  exact congrArg (fun u => ((State.event u 0x308).budgetMoved).relaxMark) (if_neg (show s.thm.enf - 1 ≠ 0 by omega))

/-- The junction's level a second later, which TGT and ENF are at least at. -/
theorem State.tjSecond_due {t0 : Nat} (ht : s.thm.tjAt = some t0) (hd : t0 + 1000000000 ≤ s.clk.dtime) (hh : s.thm.tjHot = true) :
    s.tjSecond.thm.tjLvl = min 7 (s.thm.tjLvl + 1) ∧ s.tjSecond.thm.tjAt = some (t0 + 1000000000) ∧
      s.tjSecond.thm.tjLvl ≤ s.tjSecond.thm.enf ∧ s.tjSecond.thm.tjLvl ≤ s.tjSecond.thm.tgt := by
  obtain ⟨m, hm⟩ : ∃ m, m = s.setThm (fun h => { h with tjAt := some (t0 + 1000000000), tjLvl := min 7 (h.tjLvl + 1) }) := ⟨_, rfl⟩
  have hs : s.tjSecond = ((m.retarget).riseEnf m.thm.tjLvl).relaxMark := by
    simp only [State.tjSecond, ht]
    rw [if_pos ⟨hd, hh⟩, hm]
  obtain ⟨l, e, a, b, hr⟩ := m.retarget_thm
  obtain ⟨a', b', he⟩ := State.riseEnf_thm m.thm.tjLvl m.retarget
  obtain ⟨b'', g, x, hx⟩ := ((m.retarget).riseEnf m.thm.tjLvl).relaxMark_thm
  rw [hs, hx, he, hr]
  exact ⟨by rw [hm]; rfl, by rw [hm]; rfl, Nat.le_max_right _ _, m.tjLvl_le_targetLevel⟩

theorem State.gdnForce_due {t0 : Nat} (hl : s.thm.gdnLagAt = some t0) (hd : t0 + s.guidonView.enfGrace + 1000000000 ≤ s.clk.dtime) :
    s.gdnForce = ((((s.setThm (fun h => { h with xcheck := h.xcheck ||| 0x4000 })).raise0 0x306 14 0).riseEnf s.thm.gdnTgt).relaxMark) := by
  simp only [State.gdnForce, hl]
  rw [if_pos hd, State.raise0_thm]
  rfl

end

/-! ### A conversion (R514, R516) -/

/-- The channels, the conversion in progress, the requests and their counts, and the run of calibration. -/
def State.convView (s : State) : Vector ThermCh 14 × Option Conv × (Byte × Byte × Byte) × (BitVec 14 × BitVec 14 × BitVec 14) × Option CalRun :=
  (s.thm.ch, s.thm.conv, (s.thm.nHost, s.thm.nPol, s.thm.nGdn), (s.thm.pendHost, s.thm.pendPol, s.thm.pendGdn), s.cal.run)

section
variable (s : State)

/-- The view is of the temperatures and of calibration alone. -/
theorem State.convView_congr {s u : State} (ht : u.thm = s.thm) (hc : u.cal = s.cal) : u.convView = s.convView := by
  rw [State.convView, ht, hc]; rfl

@[simp] theorem State.raise0_convView (code inst data : Nat) : (s.raise0 code inst data).convView = s.convView :=
  State.convView_congr (s.raise0_thm _ _ _) (s.raise0_cal _ _ _)

@[simp] theorem State.resolve_convView (code inst : Nat) : (s.resolve code inst).convView = s.convView :=
  State.convView_congr (s.resolve_thm _ _) (s.resolve_cal _ _)

@[simp] theorem State.resolveAll_convView (code : Nat) : (s.resolveAll code).convView = s.convView :=
  State.convView_congr (s.resolveAll_thm _) (s.resolveAll_cal _)

@[simp] theorem State.riseEnf_convView (l : Nat) : (s.riseEnf l).convView = s.convView := by
  obtain ⟨a, b, h⟩ := State.riseEnf_thm l s
  rw [State.convView, h, State.riseEnf_cal]; rfl

@[simp] theorem State.relaxMark_convView : s.relaxMark.convView = s.convView := by
  obtain ⟨b, g, m, h⟩ := s.relaxMark_thm
  rw [State.convView, h, State.relaxMark_cal]; rfl

@[simp] theorem State.retarget_convView : s.retarget.convView = s.convView := by
  obtain ⟨l, e, a, b, h⟩ := s.retarget_thm
  rw [State.convView, h, State.retarget_cal]; rfl

@[simp] theorem State.newMargin_convView : s.newMargin.convView = s.convView := by unfold State.newMargin; split <;> rfl

@[simp] theorem State.resettle_convView : s.resettle.convView = s.convView := by unfold State.resettle; split <;> rfl

@[simp] theorem State.setDband_convView : s.setDband.convView = s.convView := by
  unfold State.setDband
  extract_lets b
  split
  · rfl
  · rw [State.raise0_convView, State.newMargin_convView]; rfl

@[simp] theorem State.setTjHot_convView (v : Bool) : (s.setTjHot v).convView = s.convView := by
  unfold State.setTjHot
  extract_lets old m n
  split
  · rfl
  · rw [State.resettle_convView]; rfl

@[simp] theorem State.inhibitEval_convView : s.inhibitEval.convView = s.convView := by
  unfold State.inhibitEval
  split
  · extract_lets was m
    split
    · rfl
    · rw [State.raise0_convView]; rfl
  · split <;> rfl

@[simp] theorem State.inhibitTj_convView (tj : Int) : (s.inhibitTj tj).convView = s.convView := by
  rw [State.inhibitTj, State.inhibitEval_convView]; rfl

@[simp] theorem State.setTj_convView : s.setTj.convView = s.convView := by
  unfold State.setTj
  extract_lets tj hot was m a b c
  have hm : m.convView = s.convView := rfl
  have ha : a.convView = m.convView := by
    unfold a; split
    · exact State.setTjHot_convView m hot
    · rfl
  have hb : b.convView = a.convView := by unfold b; split <;> simp
  have hc : c.convView = b.convView := by unfold c; split <;> simp
  rw [State.inhibitTj_convView, State.setDband_convView, hc, hb, ha, hm]

@[simp] theorem State.brokenChange_convView (c st : Nat) (was : ThermCh) : (s.brokenChange c st was).convView = s.convView := by
  unfold State.brokenChange
  extract_lets last m
  have hm : m.convView = s.convView := by
    unfold m; split
    · simp
    · split <;> simp
  split
  · rw [State.raise0_convView]; exact hm
  · split
    · rw [State.resolveAll_convView]; rfl
    · rfl

@[simp] theorem State.rateChange_convView (c st : Nat) : (s.rateChange c st).convView = s.convView := by
  unfold State.rateChange
  extract_lets x
  split
  · rfl
  · split
    · simp
    · split <;> simp

/-- An evaluation that is not of a diode shows in the view by the channels' values alone. -/
theorem State.evalChannel_convView {c : Nat} (hc : 8 ≤ c) (st : Nat) (k : Int) : (s.evalChannel c st k).convView =
    (s.setThm (fun h => { h with ch := s.sensedAll h.ch c st k })).convView := by
  unfold State.evalChannel
  extract_lets was t10 m n top o p
  have ho : o.convView = m.convView := by unfold o n; split <;> simp
  have hp : p.convView = o.convView := by unfold p; split <;> simp
  rw [if_neg (Nat.not_lt.mpr hc), hp, ho]

end

/-- With no request and no run of calibration no conversion starts. -/
theorem State.convStart_none {s : State} (hh : s.thm.pendHost = 0) (hp : s.thm.pendPol = 0) (hg : s.thm.pendGdn = 0) (hr : s.cal.run = none) :
    s.convStart = s := by
  have hn : nextChannel (s.thm.pendHost ||| s.thm.pendPol ||| s.thm.pendGdn) s.thm.lastCh = none := by
    rw [hh, hp, hg, nextChannel, List.find?_eq_none]; simp
  unfold State.convStart
  simp only [hn, hr, ite_self]

/-- The state after a conversion that served the policy alone, but for what its value says. -/
def State.policyServed (v : Conv) (s : State) : State :=
  s.setThm (fun h => { h with conv := none, nPol := h.nPol + 1, pendPol := h.pendPol &&& ~~~(BitVec.ofNat 14 (2 ^ v.ch)) })

/-- A conversion for the policy alone: its channel is evaluated, and the requests it served are over. -/
theorem State.convEnd_policy {s : State} {v : Conv} (hg : v.gdn = false) (hh : v.host = false) (hp : v.policy = true) (st : Nat) (k : Int) :
    s.convEnd v st k = ((s.policyServed v).evalChannel v.ch st k).relaxMark := by
  have hs : s.policyServed v = s.setThm (fun h => { h with
      conv := none, nHost := h.nHost + BitVec.ofNat 8 (b2n v.host), nPol := h.nPol + BitVec.ofNat 8 (b2n v.policy)
      nGdn := h.nGdn + BitVec.ofNat 8 (b2n v.gdn)
      pendHost := if v.host then h.pendHost &&& ~~~(BitVec.ofNat 14 (2 ^ v.ch)) else h.pendHost
      pendPol := if v.policy then h.pendPol &&& ~~~(BitVec.ofNat 14 (2 ^ v.ch)) else h.pendPol
      pendGdn := if v.gdn then h.pendGdn &&& ~~~(BitVec.ofNat 14 (2 ^ v.ch)) else h.pendGdn }) := by
    simp [State.policyServed, hg, hh, hp, b2n]
  rw [hs, State.convEnd]
  simp [hg, hh]

theorem State.convDone_channel {s : State} {v : Conv} (hv : s.thm.conv = some v) (hc : v.ch < 14) (raw : Nat) (k : Int) :
    s.convDone raw k = (s.convEnd v (convState v.ch raw) (s.scaledTemp v raw k)).convStart := by
  simp only [State.convDone, hv]
  exact if_neg (Nat.ne_of_lt hc)

/-- An on-die channel's value is the measurement itself, which cannot be open or shorted. -/
theorem State.scaledTemp_onDie {v : Conv} (hc : 12 ≤ v.ch) (s : State) (raw : Nat) (k : Int) : s.scaledTemp v raw k = k := by
  simp only [State.scaledTemp]
  rw [if_neg (by omega), if_neg (by omega)]

theorem convState_onDie {c : Nat} (hc : 12 ≤ c) (raw : Nat) : convState c raw = 0 := by
  rw [convState, if_neg (by omega), if_neg (by omega)]

/-- A good on-die channel that is converted for the policy takes the measurement, and the policy's request is over. -/
theorem State.convDone_onDie {s : State} {v : Conv} (hv : s.thm.conv = some v) (h12 : 12 ≤ v.ch) (h14 : v.ch < 14) (hg : v.gdn = false)
    (hh : v.host = false) (hp : v.policy = true) (hph : s.thm.pendHost = 0) (hpp : s.thm.pendPol = BitVec.ofNat 14 (2 ^ v.ch))
    (hpg : s.thm.pendGdn = 0) (hr : s.cal.run = none) (hb : (vget s.thm.ch v.ch).broken = false)
    (hd : (vget s.thm.ch v.ch).disagree < s.fld 0xC0002 17 16) (raw : Nat) (k : Int) :
    ∃ w, (s.convDone raw k).convView = (w, none, (s.thm.nHost, s.thm.nPol + 1, s.thm.nGdn), (0, 0, 0), none) ∧
      (vget w v.ch).temp = k ∧ (vget w v.ch).state = 0 := by
  obtain ⟨y, hy⟩ : ∃ y, y = s.policyServed v := ⟨_, rfl⟩
  obtain ⟨u, hu⟩ : ∃ u, u = ((y.evalChannel v.ch 0 k).relaxMark) := ⟨_, rfl⟩
  have hview : u.convView = (y.sensedAll s.thm.ch v.ch 0 k, none, (s.thm.nHost, s.thm.nPol + 1, s.thm.nGdn), (0, 0, 0), none) := by
    rw [hu, State.relaxMark_convView, State.evalChannel_convView y (by omega)]
    rw [hy]
    simp [State.convView, State.policyServed, State.setThm, hph, hpp, hpg, hr]
  have hdone : s.convDone raw k = u := by
    simp only [State.convView, Prod.mk.injEq] at hview
    obtain ⟨-, -, -, ⟨hh0, hp0, hg0⟩, hr0⟩ := hview
    rw [State.convDone_channel hv h14, convState_onDie h12, State.scaledTemp_onDie h12, State.convEnd_policy hg hh hp, ← hy, ← hu,
      State.convStart_none hh0 hp0 hg0 hr0]
  refine ⟨_, by rw [hdone, hview], ?_⟩
  rw [State.sensedAll_same y _ h14]
  obtain ⟨x, hx, -, -, hs⟩ := y.sensed_eq s.thm.ch v.ch 0 k
  have hgood : x.broken = false := hx.trans (State.withAgreement_onDie h12 hb (by rw [hy]; exact hd))
  rw [hs]
  exact State.withValue_good hgood

theorem State.convTimeout_cal {s : State} {v : Conv} (hv : s.thm.conv = some v) (hc : v.ch = 14) (hd : v.startAt + 2 * v.dur ≤ s.clk.now) :
    s.convTimeout = ((s.raise0 0x307 14 0).setThm (fun h => { h with conv := none })).convStart := by
  simp only [State.convTimeout, hv]
  rw [if_pos hd, if_pos hc, hc]

/-- Settles O54: the converter by its channel, throttling by what is due, and a sensor by its value and its neighbours. -/
theorem thermalRows : Obligations.ThermalRows := by
  refine ⟨?_, ?_, ?_, fun s => ⟨fun h => if_pos h, fun h => if_neg h⟩, State.sensed_shows⟩
  · rintro t s x rfl
    refine ⟨fun v raw k hv h12 h14 hg hh hp _ hph hpp hpg hr hb hd => ?_, fun v hv hc hd => ?_, fun hm hp => ?_, fun hm hp hd => ?_⟩
    · obtain ⟨w, hview, htemp, hstate⟩ := State.convDone_onDie hv h12 h14 hg hh hp hph hpp hpg hr hb hd raw k
      simp only [State.convView, Prod.mk.injEq] at hview
      obtain ⟨hch, hconv, ⟨hnh, hnp, hng⟩, ⟨-, hpol, -⟩, -⟩ := hview
      exact ⟨_, by rw [exec, execConversionDone, occur_eq], hconv, by rw [hch, htemp], by rw [hch, hstate], hnp, hnh, hng, hpol⟩
    · rw [exec, execConversionTimeout, occur_eq, State.convTimeout_cal hv hc hd]
    · rw [exec, execThermalPolicyTick, occur_eq]
      simp [State.policyTick, hm, hp]
    · rw [exec, execThermalPolicyTick, occur_eq]
      simp [State.policyTick, hm, hp, Nat.not_lt.mpr hd]
  · rintro t s x rfl
    refine ⟨fun h => ?_, fun h => ?_, fun t0 hb hd hf he => ?_, fun t0 ht hd hh => ?_, fun t0 hl hd => ?_⟩
    · rw [exec, execEnfGraceExpiry, occur_eq, State.enfDue, State.graceDue, State.riseEnf_rises h]
    · rw [exec, execEnfGraceExpiry, occur_eq, State.enfDue, State.graceDue, State.riseEnf_stays h]
    · rw [exec, execEnfRelax, occur_eq, State.enfRelax_due hb hd hf he]
    · exact ⟨_, by rw [exec, execTjSecond, occur_eq], State.tjSecond_due ht hd hh⟩
    · rw [exec, execGuidonThermalOverride, occur_eq, State.gdnForce_due hl hd]
  · rintro t s x v raw k rfl hv hc
    rw [exec, execConversionDone, occur_eq, State.convDone_channel hv hc]

end Sys2Proof.Machine
end

section
/-! Table 2.9 read back: the byte strings of numbers, and the parameters of every command. -/

namespace Sys2Proof.Machine

/-! ### Little-endian numbers in byte strings (R25) -/

@[simp] theorem le_length (n v : Nat) : (le n v).length = n := by
  induction n generalizing v with
  | zero => rfl
  | succ n ih => simp [le, ih]

/-- Reading the bytes of a number gives it back, to their width. -/
theorem ofLe_le (n v : Nat) : ofLe (le n v) = v % 256 ^ n := by
  induction n generalizing v with
  | zero => simp [le, ofLe, Nat.mod_one]
  | succ n ih => rw [le, ofLe, ih, BitVec.toNat_ofNat, Nat.pow_succ' (m := 256), Nat.mod_mul (a := 256)]

theorem leAt_le_append (n v : Nat) (t : List Byte) : leAt (le n v ++ t) 0 n = v % 256 ^ n := by
  rw [leAt, List.drop_zero, List.take_left' (le_length n v), ofLe_le]

/-- Behind a number of k bytes, a field is read k bytes earlier in the rest. -/
theorem leAt_append {l : List Byte} {i : Nat} (h : l.length ≤ i) (t : List Byte) (n : Nat) : leAt (l ++ t) i n = leAt t (i - l.length) n := by
  rw [leAt, leAt, List.drop_append, List.drop_eq_nil_of_le h, List.nil_append]

@[simp] theorem leAt_cons_succ (b : Byte) (t : List Byte) (i n : Nat) : leAt (b :: t) (i + 1) n = leAt t i n := rfl

@[simp] theorem byteAt_cons (b : Byte) (t : List Byte) : byteAt (b :: t) 0 = b := by
  simp [byteAt, leAt, ofLe]

@[simp] theorem byteAt_cons_succ (b : Byte) (t : List Byte) (i : Nat) : byteAt (b :: t) (i + 1) = byteAt t i := rfl
@[simp] theorem halfAt_cons_succ (b : Byte) (t : List Byte) (i : Nat) : halfAt (b :: t) (i + 1) = halfAt t i := rfl
@[simp] theorem wordAt_cons_succ (b : Byte) (t : List Byte) (i : Nat) : wordAt (b :: t) (i + 1) = wordAt t i := rfl

@[simp] theorem halfAt_le (h : Half) (t : List Byte) : halfAt (le 2 h.toNat ++ t) 0 = h := by
  rw [halfAt, leAt_le_append, Nat.mod_eq_of_lt (show h.toNat < 256 ^ 2 from h.isLt), BitVec.ofNat_toNat, BitVec.setWidth_eq]

@[simp] theorem wordAt_le (w : Word) (t : List Byte) : wordAt (le 4 w.toNat ++ t) 0 = w := by
  rw [wordAt, leAt_le_append, Nat.mod_eq_of_lt (show w.toNat < 256 ^ 4 from w.isLt), BitVec.ofNat_toNat, BitVec.setWidth_eq]

theorem byteAt_append {l : List Byte} {i : Nat} (h : l.length ≤ i) (t : List Byte) : byteAt (l ++ t) i = byteAt t (i - l.length) :=
  congrArg _ (leAt_append h t 1)
theorem halfAt_append {l : List Byte} {i : Nat} (h : l.length ≤ i) (t : List Byte) : halfAt (l ++ t) i = halfAt t (i - l.length) :=
  congrArg _ (leAt_append h t 2)
theorem wordAt_append {l : List Byte} {i : Nat} (h : l.length ≤ i) (t : List Byte) : wordAt (l ++ t) i = wordAt t (i - l.length) :=
  congrArg _ (leAt_append h t 4)

@[simp] theorem halfAt_le_all (h : Half) : halfAt (le 2 h.toNat) 0 = h := by simpa using halfAt_le h []
@[simp] theorem wordAt_le_all (w : Word) : wordAt (le 4 w.toNat) 0 = w := by simpa using wordAt_le w []

/-! ### Runs of words -/

/-- The words of R108, spelled and read back. -/
theorem wordsOf_flatMap (v : List Word) : wordsOf v.length (v.flatMap (fun w => le 4 w.toNat)) = v := by
  induction v with
  | nil => rfl
  | cons w t ih => simp [wordsOf, ih]

/-! ### The commands whose parameters vary in length -/

theorem parseCmd_regWrite (a : Word) {v : List Word} (h : v.length ≤ 254) :
    parseCmd 0x11 (cmdParams (.regWrite a v)) = some (.regWrite a v) := by
  have hn : leAt (cmdParams (.regWrite a v)) 4 2 = v.length := by
    simp [cmdParams, leAt_append, leAt_le_append]; omega
  have hl : (cmdParams (.regWrite a v)).length = 8 + 4 * v.length := by
    simp [cmdParams]; omega
  have hd : (cmdParams (.regWrite a v)).drop 8 = v.flatMap (fun w => le 4 w.toNat) := by
    simp [cmdParams, List.drop_append, List.drop_eq_nil_of_le]
  have ha : wordAt (cmdParams (.regWrite a v)) 0 = a := by simp [cmdParams]
  simp [parseCmd, hn, hl, hd, ha, wordsOf_flatMap]

theorem parseCmd_engineNvWrite (g : Byte) (a : Word) {d : List Byte} (h : d.length ≤ 1016) :
    parseCmd 0x4A (cmdParams (.engineNvWrite g a d)) = some (.engineNvWrite g a d) := by
  have hn : leAt (cmdParams (.engineNvWrite g a d)) 2 2 = d.length := by
    simp [cmdParams, leAt_le_append]; omega
  have hl : (cmdParams (.engineNvWrite g a d)).length = 8 + d.length := by simp [cmdParams]; omega
  have ha : wordAt (cmdParams (.engineNvWrite g a d)) 4 = a := by simp [cmdParams, wordAt_append]
  have hd : (cmdParams (.engineNvWrite g a d)).drop 8 = d := by simp [cmdParams, List.drop_append, List.drop_eq_nil_of_le]
  have hg : byteAt (cmdParams (.engineNvWrite g a d)) 0 = g := by simp [cmdParams]
  simp [parseCmd, hn, hl, hd, ha, hg]

/-- Settles O7: the fields of Table 2.9 stand where parsing reads them. -/
theorem parseOfParams : Obligations.ParseOfParams := by
  intro c hc
  cases c with
  | regWrite a v => exact parseCmd_regWrite a (by simpa [cmdFits] using hc)
  | engineNvWrite g a d => exact parseCmd_engineNvWrite g a (by simpa [cmdFits] using hc)
  | objlist q f l d =>
    have hd : (cmdParams (.objlist q f l d)).drop 4 = d := by simp [cmdParams, List.drop_append, List.drop_eq_nil_of_le]
    have hl : 4 ≤ (cmdParams (.objlist q f l d)).length := by simp [cmdParams]; omega
    simp only [cmdOp, parseCmd, hl, hd, if_pos]
    simp [cmdParams, byteAt_append]
  | nop | identify | status | frameStatus | dtimeRead | engineInfo | lifeRead | evtReset => rfl
  | _ => simp [cmdOp, parseCmd, cmdParams, byteAt_append, halfAt_append, wordAt_append]

end Sys2Proof.Machine
end

section
/-! The reply buffer of an SPI port: placing a reply, holding it, and reading it out. -/

namespace Sys2Proof.Machine

/-! ### A port written with what it holds -/

theorem State.setPort_self (s : State) (p : Port) : s.setPort p (s.port p) = s := by
  simp only [State.setPort, State.port, Fin.getElem_fin, Vector.set_getElem_self]

/-! ### Placing and holding (R81, R89, R95, R101) -/

/-- The reply packet that a placement makes of a reply (R88, R90). -/
def State.replyPacket (s : State) (p : Port) (r : Reply) : List Byte :=
  packet 0xC5 r.status r.tag (s.replyFlags r.last) (s.port p).repSeq (s.filled r)

/-- An SPI port once a reply's packet stands at the end of its buffer. -/
def PortState.placed (ps : PortState) (r : Reply) (pkt : List Byte) : PortState :=
  { ps with
    repSeq := ps.repSeq + 1, replied := ps.replied + 1
    tags := if r.frees then ps.tags.filter (fun u => u.tag != r.tag) else ps.tags, buf := ps.buf ++ pkt }

/-- A placement on an SPI port writes that port alone. -/
theorem State.place_ports {p : Port} (hp : p ≠ .hcmd) (s : State) (r : Reply) :
    (s.place p r).ports = (s.setPort p ((s.port p).placed r (s.replyPacket p r))).ports := by
  unfold State.place
  cases p with
  | hcmd => exact absurd rfl hp
  | cspi | wspi => simp only [apply_ite State.ports, State.raise0_ports, State.auditReplies_ports, ite_self]; rfl

theorem State.port_of_ports {s u : State} (h : s.ports = u.ports) (q : Port) : s.port q = u.port q := by
  simp only [State.port, h]

theorem State.place_port_same {p : Port} (hp : p ≠ .hcmd) (s : State) (r : Reply) :
    (s.place p r).port p = (s.port p).placed r (s.replyPacket p r) := by
  rw [State.port_of_ports (State.place_ports hp s r), State.setPort_port_same]

theorem State.place_port_other {p k : Port} (hp : p ≠ .hcmd) (hk : k ≠ p) (s : State) (r : Reply) : (s.place p r).port k = s.port k := by
  rw [State.port_of_ports (State.place_ports hp s r), State.setPort_port_other _ _ _ _ hk]

/-- With room and nothing held before it a reply is placed (R81). -/
theorem State.reply_placed {s : State} {p : Port} (hh : (s.port p).held = []) (hc : (s.port p).carry = [])
    (hf : (s.port p).rbFull p = false) (r : Reply) : s.reply p r = s.place p r := by
  simp [State.reply, hh, hc, hf]

/-- Under RBFULL it is held (R95). -/
theorem State.reply_held {s : State} {p : Port} (hh : (s.port p).held = []) (hc : (s.port p).carry = [])
    (hf : (s.port p).rbFull p = true) (r : Reply) : s.reply p r = s.setPort p { s.port p with held := [r] } := by
  have hf' : ((s.setPort p { s.port p with held := [r] }).port p).rbFull p = true := by rw [State.setPort_port_same]; exact hf
  have hp : State.placeHeld 1 p (s.setPort p { s.port p with held := [r] }) = s.setPort p { s.port p with held := [r] } := by
    rw [State.placeHeld]; simp only [hf', if_true]
  rw [State.reply]
  simpa [hh, hc, hf] using hp

/-- Settles O10: the two cases of a reply on an SPI port whose earlier replies are all placed. -/
theorem answerPlaces : Obligations.AnswerPlaces := by
  rintro id st d s q hp rfl hh hc
  refine ⟨fun hf => ?_, fun hf => ?_, fun k hk => ?_, State.answer_store .., State.answer_scan .., State.answer_fly ..⟩
  · rw [State.answer, State.answerFill, State.reply_placed hh hc hf, State.place_port_same hp]
    rfl
  · rw [State.answer, State.answerFill, State.reply_held hh hc hf, State.setPort_port_same]
  · rw [State.answer, State.answerFill]
    cases hf : (s.port id.port).rbFull id.port with
    | false => rw [State.reply_placed hh hc hf, State.place_port_other hp hk]
    | true => rw [State.reply_held hh hc hf, State.setPort_port_other _ _ _ _ hk]

/-! ### GET (R93) -/

/-- With nothing held, GET answers with the buffer and then with zeros. -/
theorem State.getGo_plain {q : Port} (n : Nat) {s : State} (hh : (s.port q).held = []) (hc : (s.port q).carry = []) :
    State.getGo q n s = ((s.port q).buf.take n ++ List.replicate (n - (s.port q).buf.length) 0,
      s.setPort q { s.port q with buf := (s.port q).buf.drop n }) := by
  induction n generalizing s with
  | zero => exact Prod.ext (by simp [State.getGo]) (State.setPort_self s q).symm
  | succ n ih =>
    cases hb : (s.port q).buf with
    | nil =>
      have hs : s.setPort q { s.port q with buf := [] } = s := by rw [← hb]; exact State.setPort_self s q
      simp [State.getGo, hb, ih hh hc, hs, List.replicate_succ]
    | cons b t =>
      simp [State.getGo, hb, hh, hc, State.placeHeld, ih, State.setPort_setPort]

/-- What a placement fills in follows the mode, the time and the frame count alone (R90). -/
theorem State.filled_congr {s u : State} (hm : u.mode = s.mode) (hc : u.clk = s.clk) (hs : u.scan = s.scan) (r : Reply) : u.filled r = s.filled r := by
  simp only [State.filled, hm, hc, hs]

/-- The packets of held replies, numbered on from a sequence. -/
def State.packetsFrom (s : State) (seq : Word) (f : Nat → Byte) (l : List Reply) : List Byte :=
  (l.zipIdx.map (fun (r, m) => packet 0xC5 r.status r.tag (f m) (seq + BitVec.ofNat 32 m) (s.filled r))).flatten

theorem State.packetsFrom_concat (s : State) (seq : Word) (f : Nat → Byte) (l : List Reply) (r : Reply) (b : Byte) :
    s.packetsFrom seq (Function.update f l.length b) (l ++ [r]) =
      s.packetsFrom seq f l ++ packet 0xC5 r.status r.tag b (seq + BitVec.ofNat 32 l.length) (s.filled r) := by
  have hl : l.zipIdx.map (fun (r, m) => packet 0xC5 r.status r.tag (Function.update f l.length b m) (seq + BitVec.ofNat 32 m) (s.filled r))
      = l.zipIdx.map (fun (r, m) => packet 0xC5 r.status r.tag (f m) (seq + BitVec.ofNat 32 m) (s.filled r)) := by
    refine List.map_congr_left fun ⟨r, m⟩ h => ?_
    have : m < l.length := by simpa using (List.mem_zipIdx h).2.1
    simp [Function.update_of_ne (Nat.ne_of_lt this)]
  rw [State.packetsFrom, List.zipIdx_append, List.map_append, hl]
  simp [State.packetsFrom]

/-- A port from which bytes have been read out while its kept packets and held replies moved up, in order: none of them is dropped or repeated
(R93, R95). -/
def Drained (q : Port) (x : State) (read : List Byte) (y : State) : Prop :=
  (y.mode = x.mode ∧ y.clk = x.clk ∧ y.scan = x.scan) ∧ ∃ (i j : Nat) (f : Nat → Byte),
    i ≤ (x.port q).carry.length ∧ j ≤ (x.port q).held.length ∧ (0 < j → i = (x.port q).carry.length) ∧
    (y.port q).carry = (x.port q).carry.drop i ∧ (y.port q).held = (x.port q).held.drop j ∧ (y.port q).repSeq = (x.port q).repSeq + BitVec.ofNat 32 j ∧
    read ++ (y.port q).buf = (x.port q).buf ++ ((x.port q).carry.take i).flatten ++ x.packetsFrom (x.port q).repSeq f ((x.port q).held.take j)

theorem Drained.refl (q : Port) (x : State) : Drained q x [] x :=
  ⟨⟨rfl, rfl, rfl⟩, 0, 0, fun _ => 0, by simp [State.packetsFrom]⟩

/-- A byte read leaves the front of the buffer. -/
theorem Drained.read {q : Port} {x y : State} {read : List Byte} (h : Drained q x read y) {b : Byte} {t : List Byte} (hb : (y.port q).buf = b :: t) :
    Drained q x (read ++ [b]) (y.setPort q { y.port q with buf := t }) := by
  obtain ⟨hframe, i, j, f, hi, hj, hij, hc, hh, hs, he⟩ := h
  refine ⟨hframe, i, j, f, hi, hj, hij, ?_⟩
  simp only [State.setPort_port_same]
  refine ⟨hc, hh, hs, ?_⟩
  rw [← he, hb, List.append_assoc]; rfl

/-- A packet kept over a RESET goes to the end of the buffer. -/
theorem Drained.carried {q : Port} {x y : State} {read : List Byte} (h : Drained q x read y) {c : List Byte} {t : List (List Byte)}
    (hc' : (y.port q).carry = c :: t) : Drained q x read (y.setPort q { y.port q with carry := t, buf := (y.port q).buf ++ c }) := by
  obtain ⟨hframe, i, j, f, hi, hj, hij, hc, hh, hs, he⟩ := h
  have hd : (x.port q).carry.drop i = c :: t := by rw [← hc, hc']
  have hlt : i < (x.port q).carry.length := by
    rw [← Nat.not_le, ← List.drop_eq_nil_iff, hd]; exact List.cons_ne_nil c t
  have hj0 : j = 0 := by omega
  subst hj0
  have hget : (x.port q).carry.take (i + 1) = (x.port q).carry.take i ++ [c] := by
    rw [List.take_add_one, List.getElem?_eq_getElem hlt]
    have := List.drop_eq_getElem_cons hlt
    rw [hd] at this
    simp [(List.cons.inj this).1]
  refine ⟨hframe, i + 1, 0, f, hlt, hj, by omega, ?_⟩
  simp only [State.setPort_port_same]
  refine ⟨?_, hh, hs, ?_⟩
  · rw [← List.drop_drop, hd]; rfl
  · rw [hget, ← List.append_assoc, he]; simp [State.packetsFrom]

/-- Then a held reply is placed under the next sequence. -/
theorem Drained.placed {q : Port} {x y : State} {read : List Byte} (hq : q ≠ .hcmd) (h : Drained q x read y) (hc' : (y.port q).carry = [])
    {r : Reply} {t : List Reply} (hh' : (y.port q).held = r :: t) :
    Drained q x read ((y.setPort q { y.port q with held := t }).place q r) := by
  obtain ⟨⟨hm, hk, hsc⟩, i, j, f, hi, hj, hij, hc, hh, hs, he⟩ := h
  have hd : (x.port q).held.drop j = r :: t := by rw [← hh, hh']
  have hlt : j < (x.port q).held.length := by
    rw [← Nat.not_le, ← List.drop_eq_nil_iff, hd]; exact List.cons_ne_nil r t
  have hil : i = (x.port q).carry.length := by
    rw [hc, List.drop_eq_nil_iff] at hc'; omega
  have hget : (x.port q).held.take (j + 1) = (x.port q).held.take j ++ [r] := by
    rw [List.take_add_one, List.getElem?_eq_getElem hlt]
    have := List.drop_eq_getElem_cons hlt
    rw [hd] at this
    simp [(List.cons.inj this).1]
  have hlen : ((x.port q).held.take j).length = j := by simp; omega
  have hfill : (y.setPort q { y.port q with held := t }).filled r = x.filled r := State.filled_congr hm hk hsc r
  refine ⟨⟨by simpa using hm, by simpa using hk, by simpa using hsc⟩, i, j + 1,
    Function.update f j ((y.setPort q { y.port q with held := t }).replyFlags r.last), hi, hlt, fun _ => hil, ?_⟩
  rw [State.place_port_same hq]
  simp only [State.setPort_port_same, PortState.placed, State.replyPacket, hfill]
  refine ⟨hc, ?_, ?_, ?_⟩
  · rw [← List.drop_drop, hd]; rfl
  · rw [hs, BitVec.ofNat_add]; ac_rfl
  · have hp := State.packetsFrom_concat x (x.port q).repSeq f ((x.port q).held.take j) r
      ((y.setPort q { y.port q with held := t }).replyFlags r.last)
    rw [hlen] at hp
    rw [hget, hp, ← List.append_assoc, he]
    simp only [List.append_assoc, hs]

theorem Drained.placeHeld {q : Port} {x : State} {read : List Byte} (hq : q ≠ .hcmd) (n : Nat) {y : State} (h : Drained q x read y) :
    Drained q x read (State.placeHeld n q y) := by
  induction n generalizing y with
  | zero => exact h
  | succ n ih =>
    unfold State.placeHeld
    simp only
    split
    · exact h
    · split
      · rename_i hc; exact ih (h.carried hc)
      · rename_i hc hh; exact ih (h.placed hq hc hh)
      · exact h

theorem State.getGo_empty {q : Port} {s : State} (hb : (s.port q).buf = []) (n : Nat) : State.getGo q n s = (List.replicate n 0, s) := by
  induction n with
  | zero => rfl
  | succ n ih => simp [State.getGo, hb, ih, List.replicate_succ]

/-- GET reads from the front until the buffer is empty, and zeros from then on. -/
theorem Drained.getGo {q : Port} {x : State} (hq : q ≠ .hcmd) (n : Nat) {read : List Byte} {y : State} (h : Drained q x read y) :
    ∃ (more : List Byte) (k : Nat), (State.getGo q n y).1 = more ++ List.replicate k 0 ∧ more.length + k = n ∧
      (0 < k → ((State.getGo q n y).2.port q).buf = []) ∧ Drained q x (read ++ more) (State.getGo q n y).2 := by
  induction n generalizing read y with
  | zero => exact ⟨[], 0, rfl, rfl, fun h => absurd h (Nat.lt_irrefl 0), by simpa [State.getGo] using h⟩
  | succ n ih =>
    cases hb : (y.port q).buf with
    | nil => exact ⟨[], n + 1, by simp [State.getGo_empty hb], by simp, fun _ => by simp [State.getGo_empty hb, hb], by simpa [State.getGo_empty hb] using h⟩
    | cons b t =>
      obtain ⟨more, k, he, hk, hz, hd⟩ := ih ((h.read hb).placeHeld hq ((y.port q).carry.length + (y.port q).held.length))
      refine ⟨b :: more, k, ?_, by simp only [List.length_cons]; omega, ?_⟩
      · simp only [State.getGo, hb, he, List.cons_append]
      · simp only [State.getGo, hb]
        exact ⟨hz, by simpa using hd⟩

/-- An SPI port is not that of Hoist CMD. -/
theorem spiPort_ne (p : SpiPort) : spiPort p ≠ .hcmd := by cases p <;> exact nofun

/-- GET on a port that answers reads, and drives what it read. -/
theorem State.get_open {s : State} {p : SpiPort} (ho : s.portOpen (spiPort p) = true) (n : Nat) :
    s.get p n = (State.getGo (spiPort p) n s).2.drive (spiPort p) (State.getGo (spiPort p) n s).1 := by
  rw [State.get]; exact if_pos ho

/-- Settles O21: the plain case is the buffer's own; the general one follows the bytes through every placement (R93, R95). -/
theorem getReturnsBuffer : Obligations.GetReturnsBuffer := by
  rintro t n p s x q rfl rfl ho
  have he : exec (.get t p n) s = .next (((s.advance t).get p n).finish) := rfl
  rw [he, State.get_open ho]
  refine ⟨fun hh hc => ?_, ?_⟩
  · rw [State.getGo_plain n hh hc, State.drive, State.setPort_setPort, State.setPort_port_same]
  · obtain ⟨read, k, hr, hk, hz, -, i, j, f, hi, hj, hij, hcar, hheld, -, hbuf⟩ := (Drained.refl (spiPort p) (s.advance t)).getGo (spiPort_ne p) n
    refine ⟨_, read, k, i, j, f, rfl, ?_⟩
    simp only [State.drive, State.setPort_port_same]
    exact ⟨hr, hk, hz, hi, hj, hij, hcar, hheld, hbuf⟩

end Sys2Proof.Machine
end

section
/-! A PUT of one packet: framing, and the refusals of admission. -/

namespace Sys2Proof.Machine

/-! ### The fields of a packet (Table 2.1) -/

section
variable (sync op tag flags : Byte) (seq : Word) (data : List Byte)

/-- What a packet's CRC covers. -/
def packetBody : List Byte := [sync, op, tag, flags] ++ le 2 data.length ++ data

theorem packet_eq : packet sync op tag flags seq data =
    packetBody sync op tag flags data ++ le 4 (crc32c seq (packetBody sync op tag flags data)).toNat := rfl

@[simp] theorem packetBody_length : (packetBody sync op tag flags data).length = 6 + data.length := by
  simp [packetBody]; omega

@[simp] theorem packet_length : (packet sync op tag flags seq data).length = 10 + data.length := by
  simp [packet_eq]; omega

theorem packet_len (h : data.length ≤ 1024) : leAt (packet sync op tag flags seq data) 4 2 = data.length := by
  have hl : leAt (packet sync op tag flags seq data) 4 2 = data.length % 256 ^ 2 := by
    simp [packet, leAt_le_append]
  omega

@[simp] theorem packet_sync : leAt (packet sync op tag flags seq data) 0 1 = sync.toNat := by simp [packet, leAt, ofLe]
@[simp] theorem packet_op : leAt (packet sync op tag flags seq data) 1 1 = op.toNat := by simp [packet, leAt, ofLe]
@[simp] theorem packet_opByte : byteAt (packet sync op tag flags seq data) 1 = op := by simp [packet]
@[simp] theorem packet_tag : byteAt (packet sync op tag flags seq data) 2 = tag := by simp [packet]
@[simp] theorem packet_flags : byteAt (packet sync op tag flags seq data) 3 = flags := by simp [packet]

@[simp] theorem packet_body : (packet sync op tag flags seq data).take (6 + data.length) = packetBody sync op tag flags data := by
  rw [packet_eq, List.take_left' (packetBody_length ..)]

@[simp] theorem packetBody_data : (packetBody sync op tag flags data).drop 6 = data := by
  simp [packetBody]

@[simp] theorem packet_crc :
    wordAt (packet sync op tag flags seq data) (6 + data.length) = crc32c seq (packetBody sync op tag flags data) := by
  rw [packet_eq, wordAt_append (by simp)]; simp

end

/-! ### A packet on a port (R9, R87, R88, R92) -/

/-- A packet under the port's sequence frames: it is shut out, falls to an injection, or is accepted. -/
theorem State.request_packet (s : State) (p : Port) (op tag flags : Byte) {data : List Byte} (h : data.length ≤ 1024) :
    s.request p (packet 0x5C op tag flags (s.port p).reqSeq data) =
      if s.portShut p then s.discard p
      else if s.portArmed p then
        s.packetBad p (crc32c (s.port p).reqSeq (packetBody 0x5C op tag flags data)) (crc32c (s.port p).reqSeq (packetBody 0x5C op tag flags data))
      else s.accept p op tag flags (parseCmd op.toNat data) := by
  have hlim : ¬ 1024 < data.length := Nat.not_lt.mpr h
  simp [State.request, packet_len _ _ _ _ _ _ h, hlim]

/-- A PUT of one packet is one request. -/
theorem State.put_packet {s : State} {p : SpiPort} (ho : s.portOpen (spiPort p) = true) (op tag flags : Byte) (seq : Word) {data : List Byte}
    (h : data.length ≤ 1024) :
    s.put p (packet 0x5C op tag flags seq data) =
      ((s.drive (spiPort p) []).request (spiPort p) (packet 0x5C op tag flags seq data)).finish := by
  have hgo : ∀ n z, State.putGo (spiPort p) n [] z = z := by
    intro n z; cases n <;> rfl
  have hne : (packet 0x5C op tag flags seq data).isEmpty = false := by
    rw [List.isEmpty_eq_false_iff, ← List.length_pos_iff, packet_length]; omega
  have hall : (packet 0x5C op tag flags seq data).take (10 + data.length) = packet 0x5C op tag flags seq data :=
    List.take_of_length_le (by rw [packet_length])
  have hnil : (packet 0x5C op tag flags seq data).drop (10 + data.length) = [] :=
    List.drop_eq_nil_of_le (by rw [packet_length])
  have hlim : ¬ (10 + data.length < 6 ∨ 1034 < 10 + data.length ∨ 10 + data.length < 10 + data.length) := by omega
  rw [State.put]
  simp only [ho, if_true]
  rw [packet_length, Nat.add_comm 10, State.putGo]
  simp only [hne, packet_len _ _ _ _ _ _ h, packet_length, hlim, hall, hnil, hgo]
  simp

/-- The transaction leaves the port as it was, but for MISO. -/
theorem State.drive_reqSeq (s : State) (p : Port) (l : List Byte) : ((s.drive p l).port p).reqSeq = (s.port p).reqSeq := by
  rw [State.drive, State.setPort_port_same]

theorem State.exec_put_packet {t : Nat} {p : SpiPort} {s : State} (ho : (s.advance t).portOpen (spiPort p) = true) (op tag flags : Byte)
    {data : List Byte} (h : data.length ≤ 1024) :
    exec (.put t p (packet 0x5C op tag flags ((s.advance t).port (spiPort p)).reqSeq data)) s =
      .next ((((s.advance t).drive (spiPort p) []).request (spiPort p)
        (packet 0x5C op tag flags (((s.advance t).drive (spiPort p) []).port (spiPort p)).reqSeq data)).finish).finish := by
  have he : ∀ b, exec (.put t p b) s = .next (((s.advance t).put p b).finish) := fun _ => rfl
  rw [he, State.put_packet ho _ _ _ _ h, State.drive_reqSeq]

/-! ### A command packet -/

/-- The parameters of a command that fits make a LEN of at most 1,024. -/
theorem cmdParams_length {c : Cmd} (h : cmdFits c = true) : (cmdParams c).length ≤ 1024 := by
  cases c with
  | regWrite a v => simp [cmdFits] at h; simp [cmdParams]; omega
  | objlist q f l d => simp [cmdFits] at h; simp [cmdParams]; omega
  | engineNvWrite g a d => simp [cmdFits] at h; simp [cmdParams]; omega
  | _ => simp [cmdParams]

theorem cmdOp_toNat (c : Cmd) : (BitVec.ofNat 8 (cmdOp c)).toNat = cmdOp c := by
  rw [BitVec.toNat_ofNat]; exact cmdOp_byte c

/-- The packet of a command, as bytes, does what the command does. -/
theorem State.request_command {s : State} {p : Port} (ho : s.portOpen p = true) (tag flags : Byte) {c : Cmd} (h : cmdFits c = true) :
    s.request p (commandPacket (s.port p).reqSeq tag flags c) = s.command p tag flags c := by
  have hcrc : wordAt (commandPacket (s.port p).reqSeq tag flags c) ((commandPacket (s.port p).reqSeq tag flags c).length - 4) =
      crc32c (s.port p).reqSeq (packetBody 0x5C (BitVec.ofNat 8 (cmdOp c)) tag flags (cmdParams c)) := by
    rw [commandPacket, packet_length, show 10 + (cmdParams c).length - 4 = 6 + (cmdParams c).length by omega, packet_crc]
  have hparse : parseCmd (cmdOp c) (cmdParams c) = some c := parseOfParams c h
  have hreq := s.request_packet p (BitVec.ofNat 8 (cmdOp c)) tag flags (cmdParams_length h)
  rw [State.command]
  simp only [hcrc, ho, h]
  rw [cmdOp_toNat, hparse] at hreq
  rw [commandPacket, hreq]
  simp

/-- Settles O8: a PUT of one packet is one request, and its bytes parse to the command (R87, R88, R92). -/
theorem putIsCommand : Obligations.PutIsCommand := by
  rintro t p tag flags c s x rfl ho hc
  have ho' : ((s.advance t).drive (spiPort p) []).portOpen (spiPort p) = true := ho
  rw [← State.request_command ho' tag flags hc]
  exact State.exec_put_packet ho _ _ _ (cmdParams_length hc)

/-! ### Admission (R100, Table 2.7) -/

theorem State.drive_portShut (s : State) (p : Port) (l : List Byte) : (s.drive p l).portShut p = s.portShut p := by
  simp only [State.portShut, State.drive, State.setPort_port_same]; rfl

theorem State.counted_tags (s : State) (p : Port) : ((s.counted p).port p).tags = (s.port p).tags := by
  rw [State.counted, State.setPort_port_same]; rfl

theorem State.drive_tags (s : State) (p : Port) (l : List Byte) : ((s.drive p l).port p).tags = (s.port p).tags := by
  rw [State.drive, State.setPort_port_same]

/-- A request that Table 2.7 refuses is answered with the status it gives. -/
theorem State.accept_refused {s : State} {p : Port} {op tag flags : Byte} {c : Option Cmd} {st : Nat}
    (h : (s.counted p).admission p op tag flags c = some st) :
    s.accept p op tag flags c =
      (if st = stTagsExhausted ∨ st = stTagInUse then (s.counted p).raise0 0x04B (portIdx p).val 0 else s.counted p).refuse p op tag st := by
  simp only [State.accept, h]

/-- Settles O9: the first row of Table 2.7 that holds names the status. -/
theorem admissionRefusals : Obligations.AdmissionRefusals := by
  rintro t p op tag flags a k s x z q rfl rfl ho hs ha hlen rfl rfl
  have hput : exec (.put t p (packet 0x5C op tag flags ((s.advance t).port (spiPort p)).reqSeq a)) s =
      .next ((((s.advance t).drive (spiPort p) []).accept (spiPort p) op tag flags (parseCmd op.toNat a)).finish).finish := by
    have ha' : ((s.advance t).drive (spiPort p) []).portArmed (spiPort p) = false := ha
    rw [State.exec_put_packet ho _ _ _ hlen, State.request_packet _ _ _ _ _ hlen, State.drive_portShut, hs, ha']
    simp only [Bool.false_eq_true, if_false]
  have htags : ((((s.advance t).drive (spiPort p) []).counted (spiPort p)).port (spiPort p)).tags = ((s.advance t).port (spiPort p)).tags := by
    rw [State.counted_tags, State.drive_tags]
  have hmode : (((s.advance t).drive (spiPort p) []).counted (spiPort p)).mode = (s.advance t).mode := rfl
  rw [hput]
  refine ⟨fun hfull => ?_, fun hfree => ⟨fun huse => ?_, fun hnew => ⟨fun hop => ?_, fun hop hbad => ?_, fun c hop hc => ⟨fun hfl => ?_,
    fun hfl hp => ?_, fun hfl hp hm => ?_⟩⟩⟩⟩
  · rw [State.accept_refused (st := stTagsExhausted) (by simp [State.admission, htags, hfull])]; rfl
  · rw [State.accept_refused (st := stTagInUse) (by simp only [State.admission, htags, Nat.not_le.mpr hfree, huse, if_true, if_false])]; rfl
  all_goals have hfree' := Nat.not_le.mpr hfree
  · rw [State.accept_refused (st := stBadOpcode) (by simp only [State.admission, htags, hfree', hnew, hop]; rfl)]; rfl
  · rw [State.accept_refused (st := stBadLen) (by simp only [State.admission, htags, hfree', hnew, hop, hbad]; rfl)]; rfl
  · rw [State.accept_refused (st := stBadParam) (by simp [State.admission, htags, hfree', hnew, hop, hc, hfl])]; rfl
  · rw [State.accept_refused (st := stPortDenied) (by simp only [State.admission, htags, hfree', hnew, hop, hc, hfl, hp]; rfl)]; rfl
  · rw [State.accept_refused (st := stModeDenied) (by simp only [State.admission, htags, hfree', hnew, hop, hc, hfl, hp, hmode, hm]; rfl)]; rfl

end Sys2Proof.Machine
end

section
/-! Calm: a state in which nothing follows of itself. -/

namespace Sys2Proof.Machine

/-- Step 7 is over: the ladder looks at it no more. -/
theorem State.step7Check_done {s : State} (h : s.eng.step7 = .done) : s.step7Check = s := by
  simp [State.step7Check, h]

/-- No lane trains out of a mode other than LIMP and READY, or while scan-out runs (R329). -/
theorem State.trainLanes_none {s : State} (h : s.scan.run = true ∨ (s.mode.cur ≠ .limp ∧ s.mode.cur ≠ .ready)) : s.trainLanes = s := by
  rw [State.trainLanes]
  refine if_pos ?_
  rcases h with h | h <;> simp [h]

theorem State.hoistLate_none {s : State} (h : s.hoist.st ≠ .limp ∨ s.hoist.gaveUp = true) : s.hoistLate = s := by
  rw [State.hoistLate]
  refine if_neg ?_
  rintro ⟨-, hl, hg⟩
  rcases h with h | h <;> simp_all

/-- The ladder stays where it is before step 6. -/
theorem State.bringUp_early {s : State} (h : s.mode.step < 6) : s.bringUp = s := by
  rw [State.bringUp]
  exact if_pos (by simp [h])

/-- At step 11, once its lanes, waves and host link are settled, there is no more to do. -/
theorem State.bringUp_over {s : State} (h : s.mode.step = 11) (h7 : s.eng.step7 = .done) (hw : s.thm.waveSent = 0xFF)
    (ht : s.scan.run = true ∨ (s.mode.cur ≠ .limp ∧ s.mode.cur ≠ .ready)) (hh : s.hoist.st ≠ .limp ∨ s.hoist.gaveUp = true) : s.bringUp = s := by
  simp [State.bringUp, State.step7Check_done h7, h7, hw, State.trainLanes_none ht, State.hoistLate_none hh, h]

/-- Outside a SLEEP entry its steps do nothing. -/
theorem State.sleepPlaced_none {s : State} (h : s.mode.sleep = .none) : s.sleepPlaced = s := by simp [State.sleepPlaced, h]
theorem State.sleepCheck_none {s : State} (h : s.mode.sleep = .none) : s.sleepCheck = s := by simp [State.sleepCheck, h]

theorem State.resetDrained_none {s : State} (h : s.mode.restart = none) : s.resetDrained = s := by simp [State.resetDrained, h]

theorem nextChannel_none {pend : BitVec 14} (h : pend = 0) (last : Nat) : nextChannel pend last = none := by
  simp [nextChannel, h]

/-- A converter that is busy, or of which nothing is asked, starts nothing. -/
theorem State.convStart_calm {s : State}
    (h : s.thm.conv.isSome = true ∨ (s.thm.pendHost ||| s.thm.pendPol ||| s.thm.pendGdn = 0 ∧ s.cal.run = none)) : s.convStart = s := by
  rw [State.convStart]
  simp only
  split
  · rfl
  · rename_i hn
    rcases h with h | ⟨hp, hr⟩
    · simp [h] at hn
    · simp only [nextChannel_none hp, hr]

theorem State.statusChange_none {s : State} (h : (s.ensOn && s.pow.logicOn && s.statusStale) = false) : s.statusChange = s := by
  rw [State.statusChange, h]; rfl

/-- A calm state settles as it is. -/
theorem State.settle_calm {s : State} (h : s.Calm) : s.settle = s := by
  obtain ⟨hc, hp, hi, hg, hl, hr, hsl, hb, hconv, -, -, hst⟩ := h
  have hbring : s.bringUp = s := by
    rcases hb with hb | ⟨h11, h7, hw, ht, hh⟩
    · exact State.bringUp_early hb
    · exact State.bringUp_over h11 h7 hw ht hh
  simp only [State.settle, State.escalateDue_quiet hc hp hi, hg, Bool.false_and, Bool.false_eq_true, if_false, State.furlDrained_none hl,
    State.resetDrained_none hr, State.sleepPlaced_none hsl, hbring, State.sleepCheck_none hsl, State.convStart_calm hconv,
    State.statusChange_none hst]

/-- Settles O12: nothing settles, and no command or message waits to start. -/
theorem calmFinish : Obligations.CalmFinish := by
  intro s h
  obtain ⟨-, -, -, -, -, -, -, -, -, hw, hin, -⟩ := id h
  simp only [State.finish, State.settle_calm h, hw, hin, List.length_nil, Nat.mul_zero, Nat.add_zero]
  rfl

end Sys2Proof.Machine
end

section
/-! The commands that read the device's state: their reply bytes (Table 2.9). -/

namespace Sys2Proof.Machine

section
variable {t : Nat} {p : Port} {tag flags : Byte} {s : State}

theorem exec_nop_takes (h : (s.advance t).Takes p tag flags .nop) :
    exec (.nop t p tag flags) s = .next (((s.advance t).started p tag 0x00).ok ⟨p, tag⟩ []).finish := occur_takes h

theorem exec_identify_takes (h : (s.advance t).Takes p tag flags .identify) : exec (.identify t p tag flags) s =
    .next (((s.advance t).started p tag 0x01).ok ⟨p, tag⟩ (identifyData ((s.advance t).started p tag 0x01))).finish := occur_takes h

theorem exec_status_takes (h : (s.advance t).Takes p tag flags .status) : exec (.status t p tag flags) s =
    .next (((s.advance t).started p tag 0x02).ok ⟨p, tag⟩ (statusData p ((s.advance t).started p tag 0x02))).finish := occur_takes h

theorem exec_portStatus_takes {k : Byte} (h : (s.advance t).Takes p tag flags (.portStatus k)) : exec (.portStatus t p tag flags k) s =
    .next (((s.advance t).started p tag 0x03).need ⟨p, tag⟩ (decide (k.toNat < 3))
      (fun s => s.ok ⟨p, tag⟩ (portStatusData k.toNat s))).finish := occur_takes h

theorem exec_frameStatus_takes (h : (s.advance t).Takes p tag flags .frameStatus) : exec (.frameStatus t p tag flags) s =
    .next (((s.advance t).started p tag 0x40).ok ⟨p, tag⟩ (frameData ((s.advance t).started p tag 0x40))).finish := occur_takes h

theorem exec_dtimeRead_takes (h : (s.advance t).Takes p tag flags .dtimeRead) : exec (.dtimeRead t p tag flags) s =
    .next (((s.advance t).started p tag 0x42).ok ⟨p, tag⟩ (le 8 (s.advance t).clk.dtime ++ le 1 (b2n (s.advance t).clk.tbXtal) ++ le 3 0)).finish :=
  occur_takes h

theorem exec_engineInfo_takes (h : (s.advance t).Takes p tag flags .engineInfo) :
    exec (.engineInfo t p tag flags) s = .next (((s.advance t).started p tag 0x48).engineInfo ⟨p, tag⟩).finish := occur_takes h

theorem exec_lifeRead_takes (h : (s.advance t).Takes p tag flags .lifeRead) : exec (.lifeRead t p tag flags) s =
    .next (((s.advance t).started p tag 0x4D).ok ⟨p, tag⟩ ((s.advance t).started p tag 0x4D).lifeData).finish := occur_takes h

theorem exec_calRead_takes {r : Byte} (h : (s.advance t).Takes p tag flags (.calRead r)) : exec (.calRead t p tag flags r) s =
    .next (((s.advance t).started p tag 0x59).need ⟨p, tag⟩ (decide (r.toNat < 32))
      (fun s => s.ok ⟨p, tag⟩ (s.calRecord r.toNat))).finish := occur_takes h

end

/-- The tag of the command that starts is one of those outstanding (R101). -/
theorem State.started_free (s : State) (p : Port) (tag : Byte) (op : Nat) :
    ((s.started p tag op).port p).free = 31 - (s.port p).tags.length := by
  rw [State.started, State.setPort_port_same, PortState.free, List.length_append, List.length_singleton]
  omega

theorem State.need_holds {c : Bool} (h : c = true) (id : ReqId) (f : State → State) (s : State) : s.need id c f = f s := if_pos h

theorem State.need_fails {c : Bool} (h : c = false) (id : ReqId) (f : State → State) (s : State) :
    s.need id c f = s.answer id stBadParam [] := by
  subst h; rfl

/-- PORT_STATUS of port number p reads that port. -/
theorem portStatusData_port {k : Nat} {q : Port} (h : (portIdx q).val = k) (s : State) :
    portStatusData k s = le 4 (s.port q).accept.toNat ++ le 4 (s.port q).replied.toNat ++ le 4 (s.port q).discard.toNat ++
      le 4 (s.port q).reqSeq.toNat ++ le 4 (s.port q).repSeq.toNat ++ le 1 (32 - (s.port q).tags.length) ++ le 3 0 := by
  have hq : s.ports.toArray.getD k PortState.reset = s.port q := by subst h; cases q <;> simp [State.port, portIdx]
  simp only [portStatusData, hq, PortState.free]

/-- Settles O13: each command starts at once and answers its row of Table 2.9. -/
theorem statusCommands : Obligations.StatusCommands := by
  rintro t p tag flags s x rfl
  refine ⟨fun h => exec_nop_takes h, fun h => exec_identify_takes h, ?_, fun k h y hy => ⟨fun hk => ?_, fun q hq => ?_⟩, ?_, fun h => ?_, fun h he => ?_,
    fun h => exec_lifeRead_takes h, fun r h => ?_⟩
  · rintro h y rfl
    rw [exec_status_takes h, statusData, State.started_free]; rfl
  · rw [exec_portStatus_takes h, State.need_fails (by simpa using hk), hy]
  · have hk : k.toNat < 3 := hq ▸ (portIdx q).isLt
    rw [exec_portStatus_takes h, State.need_holds (by simpa using hk), portStatusData_port hq, hy]; rfl
  · rintro h r rfl
    exact exec_frameStatus_takes h
  · rw [exec_dtimeRead_takes h]
    cases (s.advance t).clk.tbXtal <;> rfl
  · rw [exec_engineInfo_takes h, State.engineInfo, if_pos (show ((s.advance t).started p tag 0x48).eng.engId = true from he)]; rfl
  · rw [exec_calRead_takes h]
    by_cases hr : r.toNat < 32
    · rw [State.need_holds (by simpa using hr), if_pos hr, if_pos hr]; rfl
    · rw [State.need_fails (by simpa using hr), if_neg hr, if_neg hr]

end Sys2Proof.Machine
end

section
/-! REG_READ, REG_WRITE and REG_MODIFY of one word of the logic die. -/

namespace Sys2Proof.Machine

section
variable {t : Nat} {p : Port} {tag flags : Byte} {addr : Word} {s : State}

theorem exec_regRead_takes (h : (s.advance t).Takes p tag flags (.regRead addr 1)) : exec (.regRead t p tag flags addr 1) s =
    .next (((s.advance t).started p tag 0x10).regRun ⟨p, tag⟩ 0 [(addr.toNat, 0)] 0 0).finish := occur_takes h

theorem exec_regWrite_takes {v : Word} (h : (s.advance t).Takes p tag flags (.regWrite addr [v])) : exec (.regWrite t p tag flags addr [v]) s =
    .next (((s.advance t).started p tag 0x11).regRun ⟨p, tag⟩ 1 [(addr.toNat, v)] 0 0).finish := occur_takes h

theorem exec_regModify_takes {m v : Word} (h : (s.advance t).Takes p tag flags (.regModify addr m v)) :
    exec (.regModify t p tag flags addr m v) s =
      .next (((s.advance t).started p tag 0x12).regRun ⟨p, tag⟩ 2 [(addr.toNat, 0)] m v).finish := occur_takes h

end

/-- A register command on one word that fails R110 answers the status and offset 0. -/
theorem State.regRun_refused {id : ReqId} {op a st : Nat} {s : State} (h : s.regCheck id.port (op != 0) a = some st) (v mask value : Word) :
    s.regRun id op [(a, v)] mask value = s.answer id st (le 2 0 ++ le 2 0) := by
  simp [State.regRun, State.regRefusal, h]

/-- The register job of a command on one word. -/
def wordJob (id : ReqId) (op a : Nat) (v mask value : Word) : RegJob :=
  { id := id, op := op, todo := [(a, v)], acc := [], mask := mask, value := value }

/-- One word of the logic die that passes R110 is done at once, and the reply follows (R111). -/
theorem State.regRun_word {id : ReqId} {op a : Nat} {s : State} (h : s.regCheck id.port (op != 0) a = none) (hv : regHv a = false) (v mask value : Word)
    {u : State} {j : RegJob} (hj : j.todo = [])
    (hw : (s.setDl (fun d => { d with regJob := some (wordJob id op a v mask value) })).jobWord (wordJob id op a v mask value) a v [] =
      u.setDl (fun d => { d with regJob := some j })) :
    s.regRun id op [(a, v)] mask value = (u.setDl (fun d => { d with regJob := none })).answer j.id stOk j.data := by
  have hgo : (u.setDl (fun d => { d with regJob := some j })).jobGo 1 = (u.setDl (fun d => { d with regJob := none })).answer j.id stOk j.data := by
    simp only [State.jobGo, State.setDl, hj]
  have hrun : s.regRun id op [(a, v)] mask value = (s.setDl (fun d => { d with regJob := some (wordJob id op a v mask value) })).jobGo 2 := by
    simp [State.regRun, State.regRefusal, h, wordJob]
  rw [hrun, ← hgo, ← hw]
  simp only [State.jobGo, State.setDl, wordJob, hv]
  rfl

/-- A read passes R110 on every mapped word. -/
theorem State.regCheck_read {a : Nat} (h : regInfo a ≠ none) (p : Port) (s : State) : s.regCheck p false a = none := by
  obtain ⟨r, hr⟩ := Option.ne_none_iff_exists'.mp h
  simp [State.regCheck, hr]

theorem State.regCheck_unmapped {a : Nat} (h : regInfo a = none) (p : Port) (w : Bool) (s : State) : s.regCheck p w a = some stBadAddr := by
  simp [State.regCheck, h]

/-- Settles O14: the one word is refused, or done and answered. -/
theorem registerCommands : Obligations.RegisterCommands := by
  rintro t p tag flags addr s x rfl
  refine ⟨?_, ?_, ?_⟩
  · rintro h y rfl
    rw [exec_regRead_takes h]
    refine ⟨fun hn => ?_, ?_⟩
    · rw [State.regRun_refused (State.regCheck_unmapped hn _ _ _)]
    · rintro hr hv z j rfl rfl
      rw [State.regRun_word (State.regCheck_read hr _ _) hv _ _ _ (j := { wordJob ⟨p, tag⟩ 0 addr.toNat 0 0 0 with todo := [], acc := [_] }) rfl rfl]
      simp [RegJob.data, wordJob]
  · rintro v h y rfl hc hv z j rfl rfl
    rw [exec_regWrite_takes h, State.regRun_word hc hv _ _ _ (j := { wordJob ⟨p, tag⟩ 1 addr.toNat v 0 0 with todo := [] }) rfl rfl]
    rfl
  · rintro m v h y rfl hc hv z j rfl rfl
    rw [exec_regModify_takes h, State.regRun_word hc hv _ _ _
      (j := { wordJob ⟨p, tag⟩ 2 addr.toNat 0 m v with todo := [], acc := [_] }) rfl rfl]
    simp [RegJob.data, wordJob]

end Sys2Proof.Machine
end

section
/-! EVT_READ, EVT_RESET and FAULT_ACK. -/

namespace Sys2Proof.Machine

section
variable {t : Nat} {p : Port} {tag flags : Byte} {s : State}

theorem exec_evtRead_takes {n : Byte} (h : (s.advance t).Takes p tag flags (.evtRead n)) : exec (.evtRead t p tag flags n) s =
    .next (((s.advance t).started p tag 0x60).need ⟨p, tag⟩ (decide (1 ≤ n.toNat ∧ n.toNat ≤ 63))
      (fun s => (s.evtRead n.toNat).2.ok ⟨p, tag⟩ (s.evtRead n.toNat).1)).finish := occur_takes h

theorem exec_evtReset_takes (h : (s.advance t).Takes p tag flags .evtReset) : exec (.evtReset t p tag flags) s =
    .next (((s.advance t).started p tag 0x62).evtReset.ok ⟨p, tag⟩ []).finish := occur_takes h

theorem exec_faultAck_takes {b : Byte} {code : Half} {u : State} {st : Nat} {d : List Byte} (h : (s.advance t).Takes p tag flags (.faultAck b code))
    (ha : ((s.advance t).started p tag 0x61).faultAck b.toNat code.toNat = (u, st, d)) :
    exec (.faultAck t p tag flags b code) s = .next (u.answer ⟨p, tag⟩ st d).finish := by
  have he : exec (.faultAck t p tag flags b code) s =
      .next ((((s.advance t).started p tag 0x61).faultAck b.toNat code.toNat).1.answer ⟨p, tag⟩
        (((s.advance t).started p tag 0x61).faultAck b.toNat code.toNat).2.1
        (((s.advance t).started p tag 0x61).faultAck b.toNat code.toNat).2.2).finish := occur_takes h
  rw [he, ha]

end

/-! ### EVT_RESET (R504) -/

/-- Away from entry 4,094 an entry stored is the store's last. -/
theorem State.store1_plain {s : State} (e : Entry) (h : s.evt.store.length ≠ 4094) :
    s.store1 e = { s with evt := { s.evt with store := s.evt.store ++ [e] } } := by
  rw [State.store1]
  exact if_neg (by simp only [List.length_append, List.length_singleton]; omega)

/-- EVT_RESET leaves its own event alone in the store; the entries that wait stay (R505). -/
theorem State.evtReset_evt (s : State) : s.evtReset.evt = { s.evt with
    store := [s.entry 0x2C2 0 0], cursor := 0, full := false, raised := 1 + BitVec.ofNat 32 s.evt.queue.length, rlimit := 0, fulldrop := 0, qovf := 0,
    buckets := [], lost := [], gen := s.evt.gen + 1 } := by
  rw [State.evtReset, State.store1_plain _ (by simp)]
  simp

theorem State.evtReset_flt (s : State) : s.evtReset.flt = s.flt := by
  rw [State.evtReset, State.store1_plain _ (by simp)]
  simp

/-! ### FAULT_ACK (R118, R487) -/

section
variable {s y : State} {b code : Nat} (hy : y = s.expireFirst) (hb : b ≤ 0x11)
include hy hb

/-- No fault of the code is active. -/
theorem State.faultAck_inactive (ha : y.activeOf code = none) : s.faultAck b code = (y, stStaleAck, []) := by
  simp only [State.faultAck, if_neg (Nat.not_lt.mpr hb), ← hy, ha]

variable {a : Active} {l : Latch} (ha : y.activeOf code = some a) (hl : l = vget y.flt.latch b)
include ha hl

/-- The block's latch does not hold the fault, or its activation is of this instant. -/
theorem State.faultAck_unlatched (hs : l.valid = false ∨ srcBlock code ≠ b ∨ l.idx ≠ srcIdx code ∨ a.born = y.clk.now) :
    s.faultAck b code = (y, stStaleAck, []) := by
  have hc : (!l.valid || srcBlock code != b || l.idx != srcIdx code || decide (a.born = y.clk.now)) = true := by
    rcases hs with h | h | h | h <;> simp [h]
  simp only [State.faultAck, if_neg (Nat.not_lt.mpr hb), ← hy, ha, ← hl, hc, if_true]

/-- The latch holds an activation from before: the condition decides. -/
theorem State.faultAck_latched (hv : l.valid = true) (hblk : srcBlock code = b) (hi : l.idx = srcIdx code) (hn : a.born ≠ y.clk.now) :
    s.faultAck b code =
      if y.resolved (a.before y.clk.now) then
        ((a.again.filter (fun g => g.at_ == y.clk.now)).foldl (State.raiseAfter a.code a.cls) ((y.ackFault a).ackEntry a),
          stOk, le 1 a.cls ++ le 1 (b2n l.ovf) ++ le 2 0 ++ le 8 y.clk.dtime)
      else (y, stNotResolved, []) := by
  have hc : (!l.valid || srcBlock code != b || l.idx != srcIdx code || decide (a.born = y.clk.now)) = false := by
    simp [hv, hblk, hi, hn]
  simp only [State.faultAck, if_neg (Nat.not_lt.mpr hb), ← hy, ha, ← hl, hc]
  cases y.resolved (a.before y.clk.now) with
  | false => simp only [Bool.not_false, if_true, Bool.false_eq_true, if_false]
  | true => simp only [Bool.not_true, Bool.false_eq_true, if_false, if_true]

end

/-- Settles O17: the commands run at once, and FAULT_ACK goes by the active fault, its latch and its condition. -/
theorem recorderCommands : Obligations.RecorderCommands := by
  rintro t p tag flags s x rfl
  refine ⟨?_, fun h => ⟨_, exec_evtReset_takes h, ?_⟩, ?_⟩
  · rintro n h h1 h63 y k rfl rfl
    rw [exec_evtRead_takes h, State.need_holds (by simp [h1, h63])]
    rfl
  · rw [State.evtReset_evt, State.evtReset_flt]
    exact ⟨rfl, rfl, rfl, rfl, rfl, rfl, rfl, rfl, rfl⟩
  · intro b code h hb y hy
    refine ⟨fun ha => exec_faultAck_takes h (State.faultAck_inactive hy hb ha), fun a l ha hl => ⟨fun hs =>
      exec_faultAck_takes h (State.faultAck_unlatched hy hb ha hl hs), fun hv hblk hi hn => ?_⟩⟩
    have hack := State.faultAck_latched hy hb ha hl hv hblk hi hn
    refine ⟨fun hr => exec_faultAck_takes h (by rw [hack, hr]; rfl), fun hr z hz => ?_⟩
    rw [hr, if_pos rfl, ← hz] at hack
    rw [exec_faultAck_takes h hack]
    cases l.ovf <;> rfl

end Sys2Proof.Machine
end

section
/-! The store's port: one request in a slot, what it writes and what it reads. -/

namespace Sys2Proof.Machine

/-! ### One request alone in a slot (Table 3.2) -/

/-- With no request left the only partner is a write-back of the word that is read (R131). -/
theorem partner_nil (g : Vector Nat 7) (cap pointer : Nat) (scrub : Option Nat) (word : Nat) (write : Bool) :
    partner g cap pointer scrub word write [] = match scrub with
      | some w => if w = word ∧ !write then some (.scrub w) else none
      | none => none := by
  cases scrub with
  | none => simp [partner, pickReq, workerPick, whenReq]
  | some w => simp [partner, pickReq, workerPick, whenReq, Option.or_none]

/-- Hoist's request alone is granted. -/
theorem winner_hoist {r : StoreReq} (h : r.who = .hoist) (g : Vector Nat 7) (cap pointer : Nat) (scrub : Option Nat) :
    winner g cap pointer scrub (heads [r]) = some (.req r) := by
  simp [winner, heads, pickReq, workerPick, whenReq, reqCode, h]

/-- So is Halyard's, within its grants of the window. -/
theorem winner_halyard {r : StoreReq} (h : r.who = .halyard) {g : Vector Nat 7} (hg : vget g 4 < 8) (cap pointer : Nat) (scrub : Option Nat) :
    winner g cap pointer scrub (heads [r]) = some (.req r) := by
  simp [winner, heads, pickReq, workerPick, whenReq, reqCode, h, hg]

/-- So is the background test's, where no write-back is older. -/
theorem winner_background {r : StoreReq} (h : r.who = .background) (g : Vector Nat 7) (cap pointer : Nat) :
    winner g cap pointer none (heads [r]) = some (.req r) := by
  simp [winner, heads, pickReq, workerPick, whenReq, fifth, reqCode, h]

section
variable {r : StoreReq} {s : State} {e : List (Fin 16 × EccResult)} (hc : s.store.clrDone = true)
  (hw : winner s.store.arb.grants (s.fld 0x20000 5 0) s.store.arb.pointer (s.scrubNext [r]) (heads [r]) = some (.req r))
include hc hw

/-- A write granted alone. -/
theorem State.storeAccess_write (hr : r.write = true) :
    s.storeAccess [r] e = ((s.countGrant r).grantWrite r).endSlot (some (reqCode r.who)) := by
  have hp : ∀ g cap pointer scrub, partner g cap pointer scrub r.word.toNat true (heads []) = none := by
    intro g cap pointer scrub; rw [heads, partner_nil]; cases scrub <;> simp
  simp [State.storeAccess, hc, hw, Grant.rest, Grant.word, Grant.write, Grant.code, State.granted, hr, hp]

/-- A read granted alone, or beside the write-back of its word. -/
theorem State.storeAccess_read (hr : r.write = false) : ∃ (y : State) (behind : Nat), (y = s ∨ y = s.scrubbed r.word.toNat) ∧
    s.storeAccess [r] e = ((y.countGrant r).grantRead r e behind).endSlot (some (reqCode r.who)) := by
  have hp : ∀ g cap pointer scrub, partner g cap pointer scrub r.word.toNat false (heads []) = none ∨
      partner g cap pointer scrub r.word.toNat false (heads []) = some (.scrub r.word.toNat) := by
    intro g cap pointer scrub
    rw [heads, partner_nil]
    cases scrub with
    | none => exact .inl rfl
    | some w =>
      by_cases h : w = r.word.toNat
      · exact .inr (by simp [h])
      · exact .inl (by simp [h])
  rcases hp (vmod s.store.arb.grants (reqCode r.who) (· + 1)) (s.fld 0x20000 5 0) s.store.arb.pointer ((s.afterGrant (.req r)).scrubNext [])
    with h | h
  · exact ⟨s, _, .inl rfl, by
      simp only [State.storeAccess, hc, hw, Grant.rest, Grant.word, Grant.write, Grant.code, State.granted, hr, List.erase_cons_head, h]
      rfl⟩
  · exact ⟨s.scrubbed r.word.toNat, _, .inr rfl, by
      simp only [State.storeAccess, hc, hw, Grant.rest, Grant.word, Grant.write, Grant.code, State.granted, hr, List.erase_cons_head, h]
      rfl⟩

end

/-! ### Writes (R134, R162) -/

theorem sparseBytes_length (l : List Host.Cell) (a n : Nat) : (sparseBytes l a n).length = n := by
  induction n generalizing a with
  | zero => rfl
  | succ n ih => simp [sparseBytes, ih]

theorem sparseBytes_getD (l : List Host.Cell) (a : Nat) {n i : Nat} (h : i < n) : (sparseBytes l a n).getD i 0 = sparseGet 0 l (a + i) := by
  induction n generalizing a i with
  | zero => omega
  | succ n ih =>
    cases i with
    | zero => rfl
    | succ i => simp only [sparseBytes, List.getD_cons_succ]; rw [ih (a + 1) (by omega)]; congr 1; omega

/-- A masked write through the port writes the bytes of its word. -/
theorem State.grantWrite_mem {r : StoreReq} {s : State} (h : s.inTest r = false) : (s.grantWrite r).store.mem =
    memPut s.store.mem (128 * r.word.toNat) (maskBytes r.data r.mask (sparseBytes s.store.mem (128 * r.word.toNat) 128)) := by
  simp [State.grantWrite, State.cellsFor, h]

/-- In the region under test the test's own write reaches its array alone. -/
theorem State.grantWrite_inTest {r : StoreReq} {s : State} (h : s.inTest r = true) :
    (s.grantWrite r).store.mem = s.store.mem ∧ (s.grantWrite r).store.bistSave = s.store.bistSave := by
  simp [State.grantWrite, h]

theorem maskBytes_length (data : BitVec 1024) (mask : BitVec 128) (old : List Byte) : (maskBytes data mask old).length = 128 := by
  simp [maskBytes]

theorem maskBytes_getElem (data : BitVec 1024) (mask : BitVec 128) (old : List Byte) {i : Nat} (h : i < (maskBytes data mask old).length) :
    (maskBytes data mask old)[i] = if mask.getLsbD i then data.extractLsb' (8 * i) 8 else old.getD i 0 := by
  simp [maskBytes]

/-! ### Reads (R133, R135) -/

/-- What raises, resolutions and counts leave alone of the store: its bytes and the word last read. -/
def State.portView (s : State) : List Host.Cell × BitVec 1024 := (s.store.mem, s.store.arb.lastRead)

@[simp] theorem State.raise0_portView (s : State) (code inst data : Nat) : (s.raise0 code inst data).portView = s.portView := by
  simp [State.portView]
@[simp] theorem State.resolveAll_portView (s : State) (code : Nat) : (s.resolveAll code).portView = s.portView := rfl
@[simp] theorem State.event_portView (s : State) (code : Nat) : (s.event code).portView = s.portView := State.raise0_portView _ _ _ _

theorem State.groupFixed_portView (w behind : Nat) (s : State) : (s.groupFixed w behind).portView = s.portView := by
  rw [State.groupFixed, State.event_portView]; rfl

/-- A group that Halyard's read cannot correct is zero for it alone. -/
theorem State.groupLost_portView (w g : Nat) (s : State) : (s.groupLost .halyard w g).portView = s.portView := by
  have hz : ∀ z : State, z.savedZero .halyard w g = z := fun z => by simp [State.savedZero, reqCode]
  simp only [State.groupLost, State.raise0_portView, reqCode, hz]
  rw [if_neg (by decide)]
  split <;> rfl

/-- Halyard's granted read: what it gives, with zeros in the groups that it cannot correct. -/
def readBytes (l : List Host.Cell) (w : Nat) (e : List (Fin 16 × EccResult)) : List Byte :=
  (List.range 128).map (fun i =>
    if e.any (fun x => x.1.val == i / 8 && decide (x.2 = .uncorrectable)) then 0 else (sparseBytes l (128 * w) 128).getD i 0)

theorem State.grantRead_portView {r : StoreReq} (h : r.who = .halyard) (e : List (Fin 16 × EccResult)) (behind : Nat) (s : State) :
    (s.grantRead r e behind).portView = (s.store.mem, BitVec.ofNat 1024 (ofLe (readBytes s.store.mem r.word.toNat e))) := by
  have hmem : s.cellsFor r = s.store.mem := by simp [State.cellsFor, State.inTest, reqCode, h]
  have hf : ∀ (l : List (Fin 16 × EccResult)) (z : State), (l.foldl (fun s e =>
      if e.2 = .uncorrectable then s.groupLost r.who r.word.toNat e.1.val else s.groupFixed r.word.toNat behind) z).portView = z.portView := by
    intro l
    induction l with
    | nil => exact fun z => rfl
    | cons x t ih =>
      intro z
      rw [List.foldl_cons, ih, h]
      split
      · exact State.groupLost_portView _ _ _
      · exact State.groupFixed_portView _ _ _
  simp only [State.grantRead, hf, hmem, apply_ite State.portView, State.resolveAll_portView, ite_self]
  simp only [State.portView, State.readOver, readBytes]

/-- Without an uncorrectable group the bytes are those of the word. -/
theorem readBytes_clean (l : List Host.Cell) (w : Nat) : readBytes l w [] = sparseBytes l (128 * w) 128 := by
  refine List.ext_getElem (by simp [readBytes, sparseBytes_length]) fun i hi hj => ?_
  simp only [readBytes, List.any_nil, Bool.false_eq_true, if_false, List.getElem_map, List.getElem_range]
  exact List.getD_eq_getElem _ _ hj

/-- A bit of a little-endian number is a bit of its byte. -/
theorem testBit_ofLe (l : List Byte) (k : Nat) : (ofLe l).testBit k = (l.getD (k / 8) 0).getLsbD (k % 8) := by
  induction l generalizing k with
  | nil => simp [ofLe]
  | cons b t ih =>
    rw [ofLe, Nat.add_comm, show (256 : Nat) = 2 ^ 8 from rfl, Nat.testBit_two_pow_mul_add _ b.isLt]
    split
    · rename_i h
      rw [Nat.div_eq_of_lt h, Nat.mod_eq_of_lt h]; rfl
    · rename_i h
      obtain ⟨m, rfl⟩ : ∃ m, k = m + 8 := ⟨k - 8, by omega⟩
      rw [Nat.add_sub_cancel, ih, Nat.add_div_right _ (by decide), Nat.add_mod_right]; rfl

/-- A group that could not be corrected reads as zero. -/
theorem readBytes_lost {e : List (Fin 16 × EccResult)} {g : Fin 16} (he : (g, EccResult.uncorrectable) ∈ e) (l : List Host.Cell) (w : Nat) {i : Nat}
    (hi : i < 64) : (BitVec.ofNat 1024 (ofLe (readBytes l w e))).getLsbD (64 * g.val + i) = false := by
  have hb : (readBytes l w e).getD ((64 * g.val + i) / 8) 0 = 0 := by
    have hj : (64 * g.val + i) / 8 < 128 := by omega
    have hg : (64 * g.val + i) / 8 / 8 = g.val := by omega
    have hany : e.any (fun x => x.1.val == g.val && decide (x.2 = .uncorrectable)) = true :=
      List.any_eq_true.mpr ⟨_, he, by simp⟩
    rw [List.getD_eq_getElem _ _ (by simpa [readBytes] using hj)]
    simp only [readBytes, List.getElem_map, List.getElem_range, hg, hany, if_true]
  rw [BitVec.getLsbD_ofNat, testBit_ofLe, hb]
  simp

/-- Settles O58: a slot with one request of Table 3.2 grants it, and a granted access touches its word alone. -/
theorem storeAccessRows : Obligations.StoreAccessRows := by
  rintro t s x rfl
  have hrun : ∀ {l : List StoreReq} {e : List (Fin 16 × EccResult)}, wrongAccess l = false →
      exec (.storeAccess t l e) s = .next (((s.advance t).storeAccess l e).finish) := by
    intro l e h
    rw [exec, execStoreAccess, h]; rfl
  refine ⟨?_, ?_, ?_, ?_, ?_⟩
  · rintro l e ⟨r, hr, hw⟩
    have h : wrongAccess l = true := by
      refine List.any_eq_true.mpr ⟨r, hr, ?_⟩
      rcases hw with ⟨hw, hs | hs⟩ | ⟨hw, hs⟩ <;> simp [hw, hs, reqCode]
    rw [exec, execStoreAccess, h]; rfl
  · intro l e h hc
    rw [hrun h, State.storeAccess, hc]; rfl
  · intro r e _ hc hwho hwr
    have hok : wrongAccess [r] = false := by simp [wrongAccess, hwho, hwr, reqCode]
    have hin : ((s.advance t).countGrant r).inTest r = false := by simp [State.inTest, reqCode, hwho]
    have hacc := State.storeAccess_write (e := e) hc (winner_hoist hwho _ _ _ _) hwr
    have hmem : (((s.advance t).storeAccess [r] e)).store.mem = memPut (s.advance t).store.mem (128 * r.word.toNat)
        (maskBytes r.data r.mask (sparseBytes (s.advance t).store.mem (128 * r.word.toNat) 128)) := by
      rw [hacc]; exact State.grantWrite_mem hin
    refine ⟨_, hrun hok, by rw [hacc, hwho]; rfl, fun i hi => ?_, fun a ha => ?_⟩
    · rw [State.storeByte, hmem, memPut_read _ _ _ _ (by rw [maskBytes_length]; exact hi), maskBytes_getElem, sparseBytes_getD _ _ hi]
      rfl
    · rw [State.storeByte, hmem, memPut_frame _ _ _ _ (by rw [maskBytes_length]; exact ha)]
      rfl
  · intro r e hc hwho hwr htest hscrub
    have hok : wrongAccess [r] = false := by simp [wrongAccess, hwho, hwr, reqCode]
    have hnone : (s.advance t).scrubNext [r] = none := by simp [State.scrubNext, hscrub]
    have hacc := State.storeAccess_write (e := e) hc (by rw [hnone]; exact winner_background hwho _ _ _) hwr
    have htest' : ((s.advance t).countGrant r).inTest r = true := htest
    obtain ⟨hm, hsv⟩ := State.grantWrite_inTest htest'
    refine ⟨_, hrun hok, by rw [hacc, hwho]; rfl, ?_, ?_⟩
    · rw [hacc]; exact hm
    · rw [hacc]; exact hsv
  · intro r e hc hwho hrd hgr
    have hok : wrongAccess [r] = false := by simp [wrongAccess, hwho, hrd, reqCode]
    obtain ⟨y, behind, hy, hacc⟩ := State.storeAccess_read (e := e) hc (winner_halyard hwho hgr _ _ _) hrd
    have hymem : (y.countGrant r).store.mem = (s.advance t).store.mem := by rcases hy with rfl | rfl <;> rfl
    have hview : ((s.advance t).storeAccess [r] e).portView = ((s.advance t).store.mem,
        BitVec.ofNat 1024 (ofLe (readBytes (s.advance t).store.mem r.word.toNat e))) := by
      rw [hacc, ← hymem]; exact State.grantRead_portView hwho e behind _
    obtain ⟨hm, hl⟩ := Prod.ext_iff.mp hview
    refine ⟨_, hrun hok, hm, fun he => ?_, fun g hg i hi => ?_⟩
    · subst he
      rw [readBytes_clean] at hl; exact hl
    · exact (congrArg (fun v => BitVec.getLsbD v _) hl).trans (readBytes_lost hg _ _ hi)

end Sys2Proof.Machine
end

section
/-! Underruns, the echo's deadlines, and a pass of the LIMP base layer. -/

namespace Sys2Proof.Machine

/-! ### Underruns (R272, R273) -/

/-- A pipeline counts an underrun, and its pass is tainted. -/
def Seg.underAt (line pixel : Nat) (g : Seg) : Seg :=
  { g with undercnt := satAdd g.undercnt 1, taintNow := true, under := g.under ++ [(line, pixel)] }

/-- An underrun in a pass that is read, raised; one in a pass after another raises the second fault too. -/
def State.underSeen (n line pixel : Nat) (s : State) : State :=
  let u := ({ s with scan := { s.scan with segs := vmod s.scan.segs n (Seg.underAt line pixel), underNow := true } } : State).raise0 0x143 n 0
  if u.scan.underPrev then u.raise0 0x144 0 0 else u

theorem State.underrun_read {s : State} {n : Nat} (hr : s.scan.run = true) (ho : s.scan.curOn = true) (hc : s.scan.curRead.getLsbD n = true)
    (line pixel : Nat) : s.underrun n line pixel = s.underSeen n line pixel := by
  simp only [State.underrun, hr, ho, hc, Bool.and_self, if_true]
  rfl

theorem State.underSeen_scan (n line pixel : Nat) (s : State) : (s.underSeen n line pixel).scan =
    { s.scan with segs := vmod s.scan.segs n (Seg.underAt line pixel), underNow := true } := by
  simp only [State.underSeen]
  split <;> simp only [State.raise0_scan]

theorem State.underSeen_frame (n line pixel : Nat) (s : State) :
    (s.underSeen n line pixel).store = s.store ∧ (s.underSeen n line pixel).fly = s.fly := by
  simp only [State.underSeen]
  split <;> simp

/-! ### The echo (R280, R281) -/

/-- What ECHO_DEADLINE does for lane n. -/
def State.echoOverdue (n : Nat) (s : State) : State :=
  match (vget s.scan.segs n).wait with
  | some (_, _, d) => if d ≤ s.clk.dtime then s.echoSkip n else s
  | none => s

theorem State.echoDeadline_eq (s : State) : s.echoDeadline = iter State.echoOverdue 16 s := rfl

/-- A pipeline and the time. -/
def State.segNow (n : Nat) (s : State) : Seg × Nat := (vget s.scan.segs n, s.clk.dtime)

theorem State.echoSkip_segNow_other {m n : Nat} (hn : n < 16) (h : m ≠ n) (s : State) : (s.echoSkip m).segNow n = s.segNow n := by
  simp only [State.segNow, State.echoSkip, State.raise0_scan, State.raise0_clk, State.setSeg_clk]
  exact Prod.ext (vget_vmod_other _ _ _ _ (Ne.symm h) hn) rfl

theorem State.echoOverdue_segNow_other {m n : Nat} (hn : n < 16) (h : m ≠ n) (s : State) : (s.echoOverdue m).segNow n = s.segNow n := by
  simp only [State.echoOverdue]
  split
  · split
    · exact State.echoSkip_segNow_other hn h s
    · rfl
  · rfl

theorem State.echoSkip_seg {n : Nat} (hn : n < 16) (s : State) :
    vget (s.echoSkip n).scan.segs n = { vget s.scan.segs n with echoskip := satAdd (vget s.scan.segs n).echoskip 1, wait := none } := by
  simp only [State.echoSkip, State.raise0_scan]
  exact vget_vmod_same _ _ _ hn

/-- The deadline judges each pipeline by its own pass alone. -/
theorem State.echoDeadline_seg {n : Nat} (hn : n < 16) (s : State) : ∃ u : State, vget u.scan.segs n = vget s.scan.segs n ∧ u.clk.dtime = s.clk.dtime ∧
    vget s.echoDeadline.scan.segs n = vget (u.echoOverdue n).scan.segs n := by
  obtain ⟨u, hu, he⟩ := iter_at (State.segNow n) (f := State.echoOverdue) (fun m z h => State.echoOverdue_segNow_other hn h z) hn s
  rw [State.echoDeadline_eq]
  simp only [State.segNow, Prod.mk.injEq] at hu he
  exact ⟨u, hu.1, hu.2, he.1⟩

/-! ### A pass of the LIMP base layer (R39) -/

/-- How ready a lane is shows in the lanes and the registers alone. -/
theorem State.laneReady_congr {s u : State} (hf : u.fly = s.fly) (hr : u.regs = s.regs) (n : Nat) : u.laneReady n = s.laneReady n := by
  simp only [State.laneReady, State.laneEn, State.flag, State.act, State.actW, hf, hr]

theorem State.readOver_scan (reader a n : Nat) (s : State) : (s.readOver reader a n).scan = s.scan := id rfl
theorem State.readOver_laneReady (reader a k : Nat) (s : State) (n : Nat) : (s.readOver reader a k).laneReady n = s.laneReady n :=
  State.laneReady_congr (id rfl) (id rfl) n

/-- A change of a lane that leaves its state and its lock alone leaves every lane as ready as it was. -/
theorem State.setLane_laneReady {f : Lane → Lane} (hf : ∀ l, (f l).up = l.up ∧ (f l).st = l.st) (m : Nat) {n : Nat} (hn : n < 16) (s : State) :
    (s.setLane m f).laneReady n = s.laneReady n := by
  have hen : (s.setLane m f).laneEn n = s.laneEn n := rfl
  simp only [State.laneReady, hen, State.setLane_fly]
  by_cases h : n = m
  · subst h; rw [vget_vmod_same _ _ _ hn, (hf _).1, (hf _).2]
  · rw [vget_vmod_other _ _ _ _ h hn]

/-- What a lane that is ready at a pass start carries from it on. -/
def State.laneShows (n : Nat) (s : State) : LaneSt × Show := ((vget s.fly n).st, (vget s.fly n).lastShow)

theorem State.laneShows_of_fly {s u : State} (h : u.fly = s.fly) (n : Nat) : u.laneShows n = s.laneShows n := by
  simp only [State.laneShows, h]

theorem State.setLane_laneShows {f : Lane → Lane} (hf : ∀ l, (f l).st = l.st ∧ (f l).lastShow = l.lastShow) (m : Nat) {n : Nat} (hn : n < 16)
    (s : State) : (s.setLane m f).laneShows n = s.laneShows n := by
  simp only [State.laneShows, State.setLane_fly]
  by_cases h : n = m
  · subst h; rw [vget_vmod_same _ _ _ hn, (hf _).1, (hf _).2]
  · rw [vget_vmod_other _ _ _ _ h hn]

theorem State.keepBytes_laneReady {n : Nat} (hn : n < 16) (s : State) : s.keepBytes.laneReady n = s.laneReady n := by
  refine iter_proj (fun z => z.laneReady n) (fun m z => ?_) 16 s
  dsimp only
  split
  · refine State.setLane_laneReady ?_ m hn z
    exact fun l => ⟨rfl, rfl⟩
  · rfl

theorem State.pushWindow_laneShows {n : Nat} (hn : n < 16) (s : State) : s.pushWindow.laneShows n = s.laneShows n := by
  refine iter_proj (State.laneShows n) (fun m z => ?_) 16 s
  have hset := State.setLane_laneShows (f := fun l => { l with window := (0, 0) :: l.window.take 254 }) (fun l => ⟨rfl, rfl⟩) m hn z
  dsimp only
  split
  · exact (State.laneShows_of_fly (State.resolve_fly _ _ _) n).trans hset
  · exact hset

theorem State.scanEvt_fly (m en code : Nat) (s : State) : (s.scanEvt m en code).fly = s.fly := by
  simp only [State.scanEvt]; split <;> simp

theorem State.eolCheck_fly (n : Nat) (s : State) : (s.eolCheck n).fly = s.fly := by
  simp only [State.eolCheck]
  split <;> split <;> simp

theorem State.passStress_fly (n ts psent : Nat) (s : State) : (s.passStress n ts psent).fly = s.fly := State.eolCheck_fly _ _

/-- The frame start of a pass with lines, on lane n. -/
def State.startsLines (p : Nat) (show_ : Show) (n : Nat) (s : State) : State :=
  if s.laneReady n then
    s.setLane n (fun l =>
      { (l.sendFstart p s.scan.fseq (l.showFor show_)).enqueue { due := 1000 * p, kind := .data none, done := 0, left := 16464 } with st := .active })
  else s

/-- FSEQ moves on (R265). -/
def State.nextFseq (s : State) : State := { s with scan := { s.scan with fseq := s.scan.fseq + 1 } }

theorem State.nextFseq_fseq (s : State) : s.nextFseq.scan.fseq = s.scan.fseq + 1 := id rfl
theorem State.nextFseq_limp (s : State) : s.nextFseq.scan.limp = s.scan.limp := id rfl
theorem State.nextFseq_laneReady (n : Nat) (s : State) : s.nextFseq.laneReady n = s.laneReady n :=
  State.laneReady_congr (id rfl) (id rfl) n

theorem State.frameStart_lines (p : Nat) (show_ : Show) (s : State) : s.frameStart p show_ true =
    ((iter (State.startsLines p show_) 16 s.nextFseq).pushWindow).scanEvt 1 8 0x140 := id rfl

theorem State.pushWindow_scan (s : State) : s.pushWindow.scan = s.scan := by
  refine iter_proj State.scan (fun m z => ?_) 16 s
  dsimp only
  split <;> simp

theorem State.startsLines_scan (p : Nat) (show_ : Show) (n : Nat) (s : State) : (s.startsLines p show_ n).scan = s.scan := by
  simp only [State.startsLines]
  split <;> rfl

/-- A frame start moves FSEQ on and leaves the base layer's anchor (R265). -/
theorem State.frameStart_scan (p : Nat) (show_ : Show) (s : State) :
    (s.frameStart p show_ true).scan.fseq = s.scan.fseq + 1 ∧ (s.frameStart p show_ true).scan.limp = s.scan.limp := by
  rw [State.frameStart_lines, State.scanEvt_scan, State.pushWindow_scan,
    iter_proj State.scan (fun m z => State.startsLines_scan p show_ m z) 16 _]
  exact ⟨s.nextFseq_fseq, s.nextFseq_limp⟩

/-- What a pass start goes by on a lane, and what it brings it. -/
def State.passStartView (n : Nat) (s : State) : (LaneSt × Show) × Bool := (s.laneShows n, s.laneReady n)

theorem State.startsLines_other {m n : Nat} (hn : n < 16) (h : m ≠ n) (p : Nat) (show_ : Show) (s : State) :
    (s.startsLines p show_ m).passStartView n = s.passStartView n := by
  simp only [State.startsLines]
  split
  · have hl : ∀ f, vget (s.setLane m f).fly n = vget s.fly n := fun f => vget_vmod_other _ _ _ _ (Ne.symm h) hn
    have hen : ∀ f, (s.setLane m f).laneEn n = s.laneEn n := fun f => rfl
    simp only [State.passStartView, State.laneShows, State.laneReady, hl, hen]
  · rfl

/-- A SHOW other than DARK is carried as it is (R37). -/
theorem Lane.showFor_lit {sh : Show} (h : sh ≠ .dark) (l : Lane) : l.showFor sh = sh := by
  simp [Lane.showFor, h]

theorem Lane.sendFstart_lastShow {sh : Show} (h : sh ≠ .dark) (p : Nat) (fseq : Half) (l : Lane) :
    (l.sendFstart p fseq (l.showFor sh)).lastShow = sh := by
  simp only [Lane.sendFstart, Lane.showFor_lit h]

/-- The lines of a pass start make a ready lane ACTIVE, with the pass's SHOW. -/
theorem State.startsLines_each {n : Nat} (hn : n < 16) (p : Nat) {show_ : Show} (hs : show_ ≠ .dark) {s : State} (hr : s.laneReady n = true) :
    (iter (State.startsLines p show_) 16 s).laneShows n = (.active, show_) := by
  obtain ⟨u, hu, he⟩ := iter_at (State.passStartView n) (fun m z h => State.startsLines_other hn h p show_ z) hn s
  simp only [State.passStartView, Prod.mk.injEq] at hu he
  have hur : u.laneReady n = true := hu.2.trans hr
  rw [he.1, State.startsLines, if_pos hur]
  simp only [State.laneShows, State.setLane_fly, vget_vmod_same _ _ _ hn]
  exact Prod.ext rfl (Lane.sendFstart_lastShow hs p u.scan.fseq _)

/-- A pass start with lines makes the ready lanes ACTIVE, with its SHOW. -/
theorem State.frameStart_laneShows {n : Nat} (hn : n < 16) (p : Nat) {show_ : Show} (hs : show_ ≠ .dark) {s : State} (hr : s.laneReady n = true) :
    (s.frameStart p show_ true).laneShows n = (.active, show_) := by
  rw [State.frameStart_lines, State.laneShows_of_fly (State.scanEvt_fly _ _ _ _), State.pushWindow_laneShows hn]
  exact State.startsLines_each hn p hs ((State.nextFseq_laneReady n s).trans hr)

/-- The zero lines of the pass before are dropped. -/
def State.noZeros (s : State) : State := { s with scan := { s.scan with zeros := [] } }

theorem State.noZeros_fseq (s : State) : s.noZeros.scan.fseq = s.scan.fseq := id rfl
theorem State.noZeros_fly (s : State) : s.noZeros.fly = s.fly := id rfl
theorem State.noZeros_limp (s : State) : s.noZeros.scan.limp = s.scan.limp := id rfl

/-- A lane's stress in a pass of the base layer. -/
def State.limpStress (ts n : Nat) (s : State) : State :=
  if s.mapped n && s.laneReady n then
    s.passStress n ts (demandPw s.tok.ecw s.tok.eam (((List.range 256).map (fun l => ((s.limpLine n l).map (·.1)).sum)).sum) 0)
  else s

/-- The frame start of a pass of the base layer. -/
def State.limpFrame (p : Nat) (first : Bool) (s : State) : State :=
  ((s.keepBytes.readOver 1 0 0x2000000).frameStart p (if first then .keep else .next) true).noZeros

theorem State.limpStart_eq (p ts : Nat) (first : Bool) (s : State) :
    s.limpStart p ts first = iter (State.limpStress ts) 16 (s.limpFrame p first) := id rfl

/-- The stress of a pass leaves the lanes and scan-out alone. -/
theorem State.limpStress_frame (ts n : Nat) (s : State) : (s.limpStress ts n).fly = s.fly ∧ (s.limpStress ts n).scan = s.scan := by
  rw [State.limpStress]
  split
  · exact ⟨State.passStress_fly _ _ _ _, State.passStress_scan _ _ _ _⟩
  · exact ⟨rfl, rfl⟩

theorem State.limpStart_fly (p ts : Nat) (first : Bool) (s : State) : (s.limpStart p ts first).fly = (s.limpFrame p first).fly := by
  rw [State.limpStart_eq]
  exact iter_proj State.fly (fun m z => (State.limpStress_frame ts m z).1) 16 _

theorem State.limpStart_scan (p ts : Nat) (first : Bool) (s : State) :
    (s.limpStart p ts first).scan.fseq = s.scan.fseq + 1 ∧ (s.limpStart p ts first).scan.limp = s.scan.limp := by
  have hframe := State.frameStart_scan p (if first then .keep else .next) (s.keepBytes.readOver 1 0 0x2000000)
  rw [State.readOver_scan, State.keepBytes_scan] at hframe
  rw [State.limpStart_eq, iter_proj State.scan (fun m z => (State.limpStress_frame ts m z).2) 16 _, State.limpFrame,
    State.noZeros_fseq, State.noZeros_limp]
  exact hframe

/-- A pass of the base layer makes the ready lanes ACTIVE, with KEEP in the first and NEXT after it. -/
theorem State.limpStart_laneShows {n : Nat} (hn : n < 16) (p ts : Nat) (first : Bool) {s : State} (hr : s.laneReady n = true) :
    (s.limpStart p ts first).laneShows n = (.active, if first then .keep else .next) := by
  have hshow : (if first then Show.keep else .next) ≠ .dark := by split <;> exact nofun
  rw [State.laneShows_of_fly (State.limpStart_fly _ _ _ _), State.limpFrame, State.laneShows_of_fly (State.noZeros_fly _)]
  refine State.frameStart_laneShows hn p hshow ?_
  rw [State.readOver_laneReady, State.keepBytes_laneReady hn, hr]

/-- The base layer's next pass and its anchor are noted. -/
def State.limpSet (a k : Nat) (s : State) : State := { s with scan := { s.scan with limp := some (a, k) } }

theorem State.limpSet_fseq (a k : Nat) (s : State) : (s.limpSet a k).scan.fseq = s.scan.fseq := id rfl
theorem State.limpSet_limp (a k : Nat) (s : State) : (s.limpSet a k).scan.limp = some (a, k) := id rfl
theorem State.limpSet_laneReady (a k n : Nat) (s : State) : (s.limpSet a k).laneReady n = s.laneReady n :=
  State.laneReady_congr (id rfl) (id rfl) n

/-- The state once a pass start of the base layer has come. -/
def State.limpStarted (a k : Nat) (s : State) : State :=
  (s.limpSet a (k + 1)).limpStart (passTime a 60 k) (passTime a 60 (k + 1) - passTime a 60 k)
    s.scan.limp.isNone

theorem State.limpPass_shown {s : State} {a k : Nat} (hak : (a, k) = s.scan.limp.getD (s.clk.dtime, 0)) (hb : s.limpBase = true)
    (ho : s.ens.ovr = false) : s.limpPass = if s.clk.dtime < passTime a 60 k then s else s.limpStarted a k := by
  simp only [State.limpPass, hb, ho, ← hak, Bool.not_false, Bool.and_self, if_true, State.limpStarted, State.limpSet]

theorem State.limpStarted_scan (a k : Nat) (s : State) :
    (s.limpStarted a k).scan.fseq = s.scan.fseq + 1 ∧ (s.limpStarted a k).scan.limp = some (a, k + 1) := by
  obtain ⟨hfseq, hlimp⟩ := State.limpStart_scan (passTime a 60 k) (passTime a 60 (k + 1) - passTime a 60 k) s.scan.limp.isNone (s.limpSet a (k + 1))
  rw [State.limpStarted, hfseq, hlimp, State.limpSet_fseq, State.limpSet_limp]
  exact ⟨rfl, rfl⟩

theorem State.limpStarted_lane {n : Nat} (hn : n < 16) (a k : Nat) {s : State} (hr : s.laneReady n = true) :
    (s.limpStarted a k).laneShows n = (.active, if s.scan.limp.isNone then .keep else .next) :=
  State.limpStart_laneShows hn _ _ _ ((State.limpSet_laneReady a (k + 1) n s).trans hr)

/-- Settles O53: an underrun's counts and raise, the echo's deadlines lane by lane, and a pass of the base layer. -/
theorem passFaultRows : Obligations.PassFaultRows := by
  rintro t s x rfl
  refine ⟨fun n l p hr ho hc => ?_, ⟨_, rfl, fun n hn => ?_⟩, fun n t0 ts hg hr ht hen hts hlate => ?_, fun a k hak hb ho => ?_⟩
  · obtain ⟨hst, hfly⟩ := State.underSeen_frame n.val l.toNat p.toNat (s.advance t)
    refine ⟨_, by rw [exec, execReadUnderrun, occur_eq, State.underrun_read hr ho hc], ?_⟩
    rw [State.underSeen_scan, hst, hfly]
    simp only [vget_vmod_same _ _ _ n.isLt, Seg.underAt, and_self]
  · obtain ⟨u, hu, hd, he⟩ := State.echoDeadline_seg hn (s.advance t)
    rw [he]
    refine ⟨fun f c d hw => ⟨fun hle => ?_, fun hlt => ?_⟩, fun hw => ?_⟩
    · simp only [State.echoOverdue, hu, hw, hd, hle, if_true, State.echoSkip_seg hn, and_self]
    · simp only [State.echoOverdue, hu, hw, hd, Nat.not_le.mpr hlt, if_false]
    · simp only [State.echoOverdue, hu, hw]
  · rw [exec, execEchoLostTimeout, occur_eq, State.echoLost]
    simp only [hg, hr, ht, hen, ← hts, hlate]
    rfl
  · have hpass := State.limpPass_shown hak hb ho
    refine ⟨fun hle => ?_, fun hlt => ?_⟩
    · rw [if_neg (Nat.not_lt.mpr hle)] at hpass
      have hscan := State.limpStarted_scan a k (s.advance t)
      refine ⟨_, by rw [exec, execLimpBaseLayerPass, occur_eq, hpass], hscan.1, hscan.2, ?_, fun n hn hr => ?_⟩
      · rw [← hpass]
        exact congrArg (fun v => v.2.2.1) (State.limpPass_trunk (s.advance t))
      · have hlane := State.limpStarted_lane hn a k hr
        exact ⟨congrArg Prod.fst hlane, congrArg Prod.snd hlane⟩
    · rw [if_pos hlt] at hpass
      rw [exec, execLimpBaseLayerPass, occur_eq, hpass]

end Sys2Proof.Machine
end

section
/-! Time marks, events, drops and measurements over the die link. -/

namespace Sys2Proof.Machine

section
variable {s : State}

/-! ### Time (R60) -/

theorem State.markSend_waits (hp : s.pow.logicOn = true) (h : s.dl.highOut.isSome = true) : s.markSend = s := by
  simp only [State.markSend, hp, h, Bool.not_true, Bool.false_or, if_true]

/-- `s` with a TIMEMARK on its way. -/
def State.markSent (s : State) : State :=
  { s with clk := { s.clk with markWord := some (BitVec.ofNat 32 (s.clk.dtime / 2 ^ 20)), markAt := s.clk.dtime } }

/-- `s` with a TIMEHIGH on its way. -/
def State.highSend (s : State) : State :=
  s.setDl (fun d => { d with
    highOut := some { body := s.clk.dtime / 2 ^ 52, tag := d.highNext, resends := 0, sentAt := s.clk.now }
    highNext := d.highNext + 1 })

/-- A TIMEMARK goes where the HV die holds the high bits, and a TIMEHIGH where it does not. -/
theorem State.markSend_free (hp : s.pow.logicOn = true) (h : s.dl.highOut = none) :
    s.markSend = if s.clk.highSent = some (s.clk.dtime / 2 ^ 52) then s.markSent else s.highSend := by
  simp only [State.markSend, hp, h, Bool.not_true, Option.isSome_none, Bool.or_self, Bool.false_eq_true, if_false]
  rfl

theorem State.markSent_frame (s : State) : s.markSent.clk.markWord = some (BitVec.ofNat 32 (s.clk.dtime / 2 ^ 20)) ∧
    s.markSent.clk.markAt = s.clk.dtime ∧ s.markSent.dl = s.dl := ⟨id rfl, id rfl, id rfl⟩

theorem State.highSend_frame (s : State) :
    s.highSend.dl.highOut = some { body := s.clk.dtime / 2 ^ 52, tag := s.dl.highNext, resends := 0, sentAt := s.clk.now } ∧
      s.highSend.dl.highNext = s.dl.highNext + 1 ∧ s.highSend.clk = s.clk := ⟨id rfl, id rfl, id rfl⟩

/-- The word of a TIMEMARK is with the HV die. -/
def State.markGone (s : State) : State := { s with clk := { s.clk with markWord := none } }

/-- DMARK from the newest pair, never lowered. -/
def State.markLand (w : Word) (s : State) : State :=
  { s with clk := { s.clk with dmark := max s.clk.dmark (s.clk.timeHigh * 2 ^ 52 + w.toNat * 2 ^ 20) } }

theorem State.markTake_word {w : Word} (h : s.clk.markWord = some w) : s.markTake = s.markGone.landDown (State.markLand w) := by
  simp only [State.markTake, h]
  rfl

theorem State.markLand_clk (w : Word) (s : State) : (s.markGone.passDown.markLand w).clk.markWord = none ∧
    (s.markGone.passDown.markLand w).clk.dmark = max s.clk.dmark (s.clk.timeHigh * 2 ^ 52 + w.toNat * 2 ^ 20) := ⟨id rfl, id rfl⟩

/-! ### Events of the HV die (R618) -/

/-- An EVENT with a new TAG arrives at its block. -/
def State.eventTake (o : Out HvEvent) (s : State) : State :=
  if s.dl.evTag = some o.tag then s
  else
    let z := s.setDl (fun d => { d with evTag := some o.tag })
    if isEns o.body.code then z.ensArrive o.body else z.hvArrive o.body

theorem State.eventMsg_out {o : Out HvEvent} (hp : s.pow.logicOn = true) (h : s.dl.evOut = some o) : s.eventMsg = s.takeUp (State.eventTake o) := by
  simp only [State.eventMsg, h, hp, Bool.not_true, Bool.false_eq_true, if_false]
  rfl

theorem State.eventTake_new {o : Out HvEvent} {z : State} (h : s.dl.evTag ≠ some o.tag) (hz : z = s.setDl (fun d => { d with evTag := some o.tag })) :
    s.eventTake o = if isEns o.body.code then z.ensArrive o.body else z.hvArrive o.body := by
  rw [hz, State.eventTake, if_neg h]

theorem State.ensArrive_event {e : HvEvent} (h : e.act = false) :
    s.ensArrive e = s.enqueue { s.entry e.code e.inst e.data with hv := true, act := false, esc := e.esc } := by
  simp only [State.ensArrive, h]

theorem State.ensArrive_fault {e : HvEvent} {a : Active} (h : e.act = true) (ha : s.activeOf e.code = some a) : s.ensArrive e =
    (((({ s with flt := { s.flt with active := s.flt.active.map (fun k => if k.code = e.code then { k with seen := true } else k) } } : State).startTimer
      a.cls).countAct a.cls).enqueue { s.entry e.code e.inst e.data with hv := true, act := true, esc := e.esc }) := by
  simp only [State.ensArrive, h, ha]

theorem State.setPend_entry (s : State) (code inst k i d : Nat) : (s.setPend code inst).entry k i d = s.entry k i d := by
  simp only [State.entry, State.stamp, State.setPend_clk, State.setPend_scan]

theorem State.hvArrive_event {e : HvEvent} (h : faultClass e.code = none) : s.hvArrive e =
    (if e.pended then s else s.setPend e.code e.inst).enqueue { s.entry e.code e.inst e.data with hv := true } := by
  simp only [State.hvArrive, h]
  split
  · rfl
  · rw [State.setPend_entry]

/-! ### Drops and measurements -/

/-- DROPS with a new TAG adds its count. -/
def State.dropsTake (o : Out Nat) (s : State) : State :=
  if s.dl.dropTag = some o.tag then s
  else
    let z := s.setDl (fun d => { d with dropTag := some o.tag })
    { z with evt := { z.evt with
        raised := z.evt.raised + BitVec.ofNat 32 (o.body % 65536), qovf := z.evt.qovf + BitVec.ofNat 32 (o.body % 65536) } }

theorem State.dropsMsg_out {o : Out Nat} (hp : s.pow.logicOn = true) (h : s.dl.dropOut = some o) : s.dropsMsg = s.takeUp (State.dropsTake o) := by
  simp only [State.dropsMsg, h, hp, Bool.not_true, Bool.false_eq_true, if_false]
  rfl

theorem State.dropsTake_same {o : Out Nat} (h : s.dl.dropTag = some o.tag) : s.dropsTake o = s := by rw [State.dropsTake, if_pos h]

theorem State.dropsTake_new {o : Out Nat} (h : s.dl.dropTag ≠ some o.tag) :
    (s.dropsTake o).evt = { s.evt with
      raised := s.evt.raised + BitVec.ofNat 32 (o.body % 65536), qovf := s.evt.qovf + BitVec.ofNat 32 (o.body % 65536) } ∧
    (s.dropsTake o).dl.dropTag = some o.tag := by
  rw [State.dropsTake, if_neg h]
  exact ⟨id rfl, id rfl⟩

/-- What the Ensign's converter has measured, on the HV die. -/
def State.measHeld (ma mv : Half) (s : State) : State :=
  let z := s.setEns (fun e => { e with imeas := ma, vled := mv })
  { z with pow := { z.pow with meas1 := BitVec.ofNat 32 (z.pow.meas1.toNat % 65536 + 65536 * mv.toNat) } }

theorem State.measHeld_frame (ma mv : Half) (s : State) : (s.measHeld ma mv).ens = { s.ens with imeas := ma, vled := mv } ∧
    (s.measHeld ma mv).gdn = s.gdn ∧
    (s.measHeld ma mv).pow = { s.pow with meas1 := BitVec.ofNat 32 (s.pow.meas1.toNat % 65536 + 65536 * mv.toNat) } ∧
    (s.measHeld ma mv).dl = s.dl := ⟨id rfl, id rfl, id rfl, id rfl⟩

/-- MEAS is held on the HV die, and taken by Guidon. -/
theorem State.meas_taken (hb : s.pow.vbat = true) (hp : s.pow.logicOn = true) (hu : s.dl.statusOut.any (fun m => m.urgent) = false)
    (hs : s.dl.seqUp = s.dl.rxUp) (ma mv : Half) :
    s.meas ma mv = (s.measHeld ma mv).passUp.setGdn (fun g => { g with imeas := ma, vled := mv }) := by
  obtain ⟨-, -, hpow, hdl⟩ := State.measHeld_frame ma mv s
  have hon : (s.measHeld ma mv).pow.logicOn = true := by rw [hpow]; exact hp
  rw [← State.takeUp_taken (by rw [hdl]; exact hu) (by rw [hdl]; exact hs) (State.setGdn (fun g => { g with imeas := ma, vled := mv }))]
  simp only [State.meas, hb, Bool.not_true, Bool.false_eq_true, if_false]
  exact if_pos hon

theorem State.passUp_frame (s : State) : s.passUp.ens = s.ens ∧ s.passUp.gdn = s.gdn ∧ s.passUp.pow = s.pow ∧ s.passUp.evt = s.evt ∧
    s.passUp.dl = { s.dl with seqUp := s.dl.seqUp + 1, rxUp := s.dl.seqUp + 1 } := ⟨id rfl, id rfl, id rfl, id rfl, id rfl⟩

/-! ### A STATUS ahead of a frame (R617) -/

theorem State.takeUp_behind {m : StatusMsg} (h : s.dl.statusOut = some m) (hu : m.urgent = true) (f : State → State) :
    s.takeUp f = s.ensStatus.landUp f := by
  simp only [State.takeUp, h, Option.any_some, hu, if_true]

theorem State.landUp_taken (h : s.dl.seqUp = s.dl.rxUp) (f : State → State) : s.landUp f = f s.passUp := by rw [State.landUp, if_pos h]

end

/-- Settles O35: the time messages by what is outstanding, the messages up by their TAG and kind, and a STATUS ahead of them. -/
theorem dieLinkTraffic : Obligations.DieLinkTraffic := by
  refine ⟨?_, ?_, ?_⟩
  · rintro t s x rfl
    refine ⟨fun hp ho => ?_, fun hp ho hh => ?_, fun hp ho hh => ?_, fun w hw hs => ?_, fun w hw hs => ?_⟩
    · rw [exec, execTimemarkSend, occur_eq, State.markSend_waits hp ho]
    · exact ⟨_, by rw [exec, execTimemarkSend, occur_eq, State.markSend_free hp ho, if_pos hh], State.markSent_frame _⟩
    · exact ⟨_, by rw [exec, execTimemarkSend, occur_eq, State.markSend_free hp ho, if_neg hh], State.highSend_frame _⟩
    · obtain ⟨hgone, hmark⟩ := State.markLand_clk w (s.advance t)
      exact ⟨_, by rw [exec, execTimemark, occur_eq, State.markTake_word hw, State.landDown_taken (s := (s.advance t).markGone) hs],
        hgone, hmark, hmark.symm ▸ Nat.le_max_left _ _⟩
    · rw [exec, execTimemark, occur_eq, State.markTake_word hw, State.landDown_discarded (s := (s.advance t).markGone) hs, State.markGone]
  · intro t s x r hx hr hp hu hs
    subst hx
    refine ⟨by rw [hr]; exact (State.passUp_frame _).2.2.2.2, fun o z e ho hn hz he => ⟨fun hi ha => ?_, fun a hi ha hact => ?_, fun hi hf => ?_⟩,
      fun o ho hn => ?_, fun ma mv hb => ?_⟩
    · rw [exec, execEvent, occur_eq, State.eventMsg_out hp ho, State.takeUp_taken hu hs, ← hr,
        State.eventTake_new (s := r) (hr ▸ hn) hz, if_pos hi, State.ensArrive_event ha, he]
    · rw [exec, execEvent, occur_eq, State.eventMsg_out hp ho, State.takeUp_taken hu hs, ← hr,
        State.eventTake_new (s := r) (hr ▸ hn) hz, if_pos hi, State.ensArrive_fault ha hact, he]
    · rw [exec, execEvent, occur_eq, State.eventMsg_out hp ho, State.takeUp_taken hu hs, ← hr,
        State.eventTake_new (s := r) (hr ▸ hn) hz, if_neg (Bool.eq_false_iff.mp hi), State.hvArrive_event hf, he]
    · exact ⟨_, by rw [exec, execDrops, occur_eq, State.dropsMsg_out hp ho, State.takeUp_taken hu hs],
        State.dropsTake_new (s := (s.advance t).passUp) hn⟩
    · obtain ⟨hens, hgdn, hpow, hdl⟩ := State.measHeld_frame ma mv (s.advance t)
      obtain ⟨pens, pgdn, ppow, -, pdl⟩ := State.passUp_frame ((s.advance t).measHeld ma mv)
      refine ⟨_, by rw [exec, execMeas, occur_eq, State.meas_taken hb hp hu hs], ?_⟩
      rw [State.setGdn_ens, State.setGdn_gdn, State.setGdn_pow, State.setGdn_dl, pens, hens, pgdn, hgdn, ppow, hpow, pdl, hdl, hr]
      exact ⟨rfl, rfl, rfl, rfl, (State.passUp_frame _).2.2.2.2.symm⟩
  · intro t s x r m hx hp ho hu hs hc hr
    subst hx
    have hheard := State.ensStatus_taken hp (m := m) (by rw [ho]; rfl) hs hc
    rw [← hr] at hheard
    obtain ⟨hgdn, -, hdl, -⟩ := State.statusHeard_frame m (fun d => { d with statusOut := none, seqUp := d.seqUp + 1, rxUp := d.seqUp + 1 }) (s.advance t)
    rw [← hheard] at hgdn hdl
    refine ⟨hgdn, hdl, fun o hd ht => ?_⟩
    have htag : r.passUp.dl.dropTag = some o.tag := by rw [(State.passUp_frame r).2.2.2.2, hdl]; exact ht
    rw [exec, execDrops, occur_eq, State.dropsMsg_out hp hd, State.takeUp_behind ho hu, ← hr, State.landUp_taken (by rw [hdl]),
      State.dropsTake_same htag]

end Sys2Proof.Machine
end

section
/-! The steps of a SLEEP entry, and the wake that follows it. -/

namespace Sys2Proof.Machine

/-! ### Furling (R78, R325) -/

/-- Where one index alone changes the state, the others leave it as it was before and after. -/
theorem iter_one {f : Nat → State → State} {n k : Nat} {s : State} (hn : n < k) (hb : ∀ m, m < n → f m s = s)
    (ha : ∀ m, n < m → m < k → f m (f n s) = f n s) : iter f k s = f n s := by
  induction k with
  | zero => exact absurd hn (Nat.not_lt_zero n)
  | succ k ih =>
    rcases Nat.lt_succ_iff_lt_or_eq.mp hn with h | h
    · rw [iter, ih h (fun m hm hk => ha m hm (Nat.lt_succ_of_lt hk)), ha k h (Nat.lt_succ_self k)]
    · subst h; rw [iter, iter_id hb]

/-- Whether lane n is to be furled, the clock and the mode. -/
def State.furlView (n : Nat) (s : State) : Option Nat × Clock × ModeState := ((vget s.fly n).furlDue, s.clk, s.mode)

theorem State.furlView_of_fly {s u : State} (hf : u.fly = s.fly) (hc : u.clk = s.clk) (hm : u.mode = s.mode) (n : Nat) :
    u.furlView n = s.furlView n := by
  simp only [State.furlView, hf, hc, hm]

theorem State.setLane_furlView {n : Nat} (hn : n < 16) {f : Lane → Lane} (hf : ∀ l, (f l).furlDue = l.furlDue) (m : Nat) (s : State) :
    (s.setLane m f).furlView n = s.furlView n := by
  simp only [State.furlView, State.setLane_fly, State.setLane_clk, State.setLane_mode]
  by_cases h : n = m
  · subst h; rw [vget_vmod_same _ _ _ hn, hf]
  · rw [vget_vmod_other _ _ _ _ h hn]

theorem State.answer_furlView (n : Nat) (id : ReqId) (st : Nat) (l : List Byte) (s : State) : (s.answer id st l).furlView n = s.furlView n :=
  State.furlView_of_fly (State.answer_fly ..) (State.answer_clk ..) (State.answer_mode ..) n

theorem State.withEng_furlView (n : Nat) (e : Engine) (s : State) : ({ s with eng := e } : State).furlView n = s.furlView n :=
  State.furlView_of_fly (id rfl) (id rfl) (id rfl) n

section
variable {n : Nat} (hn : n < 16)
include hn

theorem State.dropOps_furlView (m : Nat) (p : CtrlUse → Bool) (s : State) : (s.dropOps m p).furlView n = s.furlView n := by
  unfold State.dropOps
  refine State.setLane_furlView hn ?_ m s
  exact fun l => rfl

theorem State.dropJobs_furlView (p : Job → Bool) (s : State) : (s.dropJobs p).furlView n = s.furlView n := by
  refine (State.withEng_furlView n _ _).trans (iter_proj (State.furlView n) (fun m s => ?_) 16 s)
  split
  · split
    · exact State.dropOps_furlView hn m _ s
    · rfl
  · rfl

theorem State.dropRead_furlView (s : State) : s.dropRead.furlView n = s.furlView n := by
  unfold State.dropRead
  split
  · exact (State.dropOps_furlView hn _ _ _).trans (State.withEng_furlView n _ s)
  · rfl

theorem State.dropCensus_furlView (s : State) : s.dropCensus.furlView n = s.furlView n := by
  unfold State.dropCensus
  split
  · exact (iter_proj (State.furlView n) (fun m s => State.dropOps_furlView hn m _ s) 16 _).trans (State.withEng_furlView n _ s)
  · rfl

theorem State.dropKa_furlView (s : State) : s.dropKa.furlView n = s.furlView n := by
  unfold State.dropKa
  split
  · exact ((foldl_proj (State.furlView n) (fun s p => State.dropOps_furlView hn _ _ s) _ _).trans (State.dropJobs_furlView hn _ _)).trans
      (State.withEng_furlView n _ s)
  · rfl

theorem State.endRead_furlView (st : Nat) (s : State) : (s.endRead st).furlView n = s.furlView n := by
  unfold State.endRead
  split
  · rw [State.answer_furlView, State.dropRead_furlView hn]
  · rfl

theorem State.endKa_furlView (st : Nat) (s : State) : (s.endKa st).furlView n = s.furlView n := by
  unfold State.endKa
  split
  · rw [State.answer_furlView, State.dropKa_furlView hn]
  · rfl

theorem State.endCensus_furlView (st : Nat) (s : State) : (s.endCensus st).furlView n = s.furlView n := by
  unfold State.endCensus
  split
  · rw [State.answer_furlView, State.dropCensus_furlView hn]
  · rfl

theorem State.abortLaneOps_furlView (m : Nat) (s : State) : (s.abortLaneOps m).furlView n = s.furlView n := by
  refine (foldl_proj (State.furlView n) (fun s j => ?_) _ _).trans ?_
  · split
    · exact State.answer_furlView n _ _ _ s
    · rfl
  · simp only [State.dropJobs_furlView hn, apply_ite (State.furlView n), State.endRead_furlView hn, State.endKa_furlView hn,
      State.endCensus_furlView hn, ite_self]

/-- A lane that furls leaves the others to be furled or not as they were. -/
theorem State.furlNow_furlView {m : Nat} (hm : m ≠ n) (s : State) : (s.furlNow m).furlView n = s.furlView n := by
  refine Eq.trans ?_ (State.abortLaneOps_furlView hn m s)
  rw [State.furlNow]
  generalize s.abortLaneOps m = u
  simp only [State.furlView, State.raise0_fly, State.raise0_clk, State.raise0_mode, State.setLane_fly, State.setLane_clk, State.setLane_mode]
  rw [vget_vmod_other _ _ _ _ (Ne.symm hm) hn]
  rfl

end

/-- What DRAIN_TIMEOUT does for lane n. -/
def State.furlOverdue (n : Nat) (s : State) : State :=
  match (vget s.fly n).furlDue with
  | some t => if t ≤ s.clk.dtime then s.furlNow n else s
  | none => s

theorem State.furlExpired_eq (s : State) : s.furlExpired = iter State.furlOverdue 16 s := rfl

theorem State.furlOverdue_none {n : Nat} {s : State} (h : (vget s.fly n).furlDue = none) : s.furlOverdue n = s := by
  simp only [State.furlOverdue, h]

theorem State.furlOverdue_due {n d : Nat} {s : State} (h : (vget s.fly n).furlDue = some d) (hd : d ≤ s.clk.dtime) : s.furlOverdue n = s.furlNow n := by
  simp only [State.furlOverdue, h, if_pos hd]

theorem State.furlExpired_none {s : State} (h : ∀ n, n < 16 → (vget s.fly n).furlDue = none) : s.furlExpired = s := by
  rw [State.furlExpired_eq]
  exact iter_id fun n hn => State.furlOverdue_none (h n hn)

/-- The one lane that is overdue furls. -/
theorem State.furlExpired_one {n d : Nat} {s : State} (hn : n < 16) (h : (vget s.fly n).furlDue = some d) (hd : d ≤ s.clk.dtime)
    (ho : ∀ m, m < 16 → m ≠ n → (vget s.fly m).furlDue = none) : s.furlExpired = s.furlNow n := by
  rw [State.furlExpired_eq]
  refine (iter_one hn (fun m hm => State.furlOverdue_none (ho m (Nat.lt_trans hm hn) (Nat.ne_of_lt hm))) (fun m hm hk => ?_)).trans
    (State.furlOverdue_due h hd)
  rw [State.furlOverdue_due h hd]
  refine State.furlOverdue_none ?_
  exact (congrArg Prod.fst (State.furlNow_furlView hk (Nat.ne_of_lt hm) s)).trans (ho m hk (Nat.ne_of_gt hm))

theorem State.furlNow_mode (n : Nat) (s : State) : (s.furlNow n).mode = s.mode := by
  have h (m : Nat) (hm : m < 16) (hne : n ≠ m) := congrArg (fun v => v.2.2) (State.furlNow_furlView hm hne s)
  by_cases h0 : n = 0
  · exact h 1 (by decide) (by omega)
  · exact h 0 (by decide) h0

/-! ### The drain's end (R77 to R80) -/

theorem State.resetTimeout_none {s : State} (h : s.mode.restart = none) : s.resetTimeout = s := by
  simp only [State.resetTimeout, h]

theorem State.resetTimeout_due {s : State} {r : Restart} (h : s.mode.restart = some r) (hr : r.replied = none)
    (hd : r.since + 500000 ≤ s.clk.dtime) : s.resetTimeout = s.resetReply r := by
  simp only [State.resetTimeout, h, hr, Option.isNone_none, hd, decide_true, Bool.and_self, if_true]

/-- The life record follows once SLEEP entry has drained. -/
theorem State.drainTimeout_sleep {s : State} {tr : Trans} (hf : s.furlExpired = s) (hr : s.mode.restart = none) (hs : s.mode.sleep = .draining)
    (hd : s.mode.sleepAt + 500000 ≤ s.clk.dtime) (ht : s.mode.trans = some tr) :
    s.drainTimeout = (((s.abortCur.abortWaiting none).abortAll ((tr.owner.toList ++ tr.merged).map (fun r => r.id))).sleepLife) := by
  simp only [State.drainTimeout, hf, State.resetTimeout_none hr, hs, hd, ht, decide_true, Bool.and_self, if_true]

/-- Without a SLEEP entry that drains, DRAIN_TIMEOUT furls lanes and places the replies of a RESET alone. -/
theorem State.drainTimeout_awake {s y : State} (hy : s.furlExpired.resetTimeout = y) (hs : y.mode.sleep = .none) : s.drainTimeout = y := by
  simp only [State.drainTimeout, hy, hs]
  rfl

theorem State.resetReply_sleep (r : Restart) (s : State) : (s.resetReply r).mode.sleep = .none := by
  simp only [State.resetReply, ModeState.unowned]

/-! ### The power-down (R81, R412, R605) -/

/-- 2 ms after the SLEEP reply, HTX having sent all, the logic die is reset and PMIC_EN released. -/
theorem State.sleepPower_due {s : State} (hs : s.mode.sleep = .replied) (hd : s.mode.sleepAt + 2000000 ≤ s.clk.dtime)
    (hq : s.hoistUp = false ∨ s.hoist.quiet s.clk.dtime = true) : s.sleepPower = s.logicReset.pmicOff := by
  have hc : (!s.hoistUp || s.hoist.quiet s.clk.dtime) = true := by rcases hq with h | h <;> simp [h]
  simp only [State.sleepPower, hs, hd, hc, decide_true, Bool.and_self, if_true]

theorem State.pmicOff_pow (s : State) : s.pmicOff.pow =
    { s.pow with pmicEn := false, pmicAt := s.clk.now, railsGood := false, rails4 := 0, retried := false, retryDue := none, viaReset := false } := id rfl
theorem State.pmicOff_mode (s : State) : s.pmicOff.mode = { ModeState.reset with cur := .sleep, sleep := .released } := id rfl

/-- What is off, and what the HV die keeps, once SLEEP entry has released PMIC_EN. -/
theorem State.logicReset_pmicOff (s : State) : s.logicReset.pmicOff.rtc = s.rtc ∧ s.logicReset.pmicOff.store = Store.reset ∧
    s.logicReset.pmicOff.regs.act = keepHv s.regs.act ∧ s.logicReset.pow.logicOn = false ∧ s.logicReset.clk.now = s.clk.now :=
  ⟨id rfl, id rfl, id rfl, id rfl, id rfl⟩

/-! ### The wake (R54, R56, R459, R651) -/

/-- The inputs are filtered anew from the wake on. -/
def State.inputsFresh (s : State) : State :=
  s.setEns (fun e => { e with rawAt := Vector.replicate 8 s.clk.now, rawPrev := Vector.replicate 8 s.clk.now })

theorem State.inputsFresh_frame (s : State) : SameLogic s s.inputsFresh ∧ s.inputsFresh.rtc = s.rtc ∧ s.inputsFresh.cal = s.cal ∧
    s.inputsFresh.ens.safe = s.ens.safe ∧ s.inputsFresh.inputDemand = s.inputDemand :=
  ⟨⟨id rfl, id rfl, id rfl, id rfl, id rfl, id rfl, id rfl⟩, id rfl, id rfl, id rfl, id rfl⟩

theorem State.latchEns_cal (s : State) (src : Nat) : (s.latchEns src).cal = s.cal := by
  unfold State.latchEns
  rw [State.raiseHv_cal]
  split <;> rfl

theorem State.hold_cal (s : State) (dark : Bool) : (s.hold dark).cal = s.cal := by
  simp only [State.hold]; split <;> simp

/-- Before the logic die runs, a demand still recognised at the wake is held, and nothing else but the inputs changes. -/
theorem State.inputsWake_off {s : State} (hm : s.mode.cur = .boot) (hp : s.pow.logicOn = false) :
    SameLogic s s.inputsWake ∧ s.inputsWake.rtc = s.rtc ∧ s.inputsWake.cal = s.cal ∧
      s.inputsWake.ens.safe = if s.inputDemand then some .safeDark else s.ens.safe := by
  obtain ⟨hsame, hrtc, hcal, hsafe, hdem⟩ := s.inputsFresh_frame
  have hw : s.inputsWake = if s.inputsFresh.inputDemand then
      s.inputsFresh.ensEnter true (if s.inputsFresh.ens.darkReq then 4 else 5) 0x28D else s.inputsFresh := rfl
  rw [hw, hdem]
  cases s.inputDemand with
  | false => exact ⟨hsame, hrtc, hcal, hsafe⟩
  | true =>
    rw [if_pos rfl, if_pos rfl]
    have hoff : s.inputsFresh.pow.logicOn = false := by rw [hsame.pow, hp]
    rw [State.ensEnter_off (by rw [hsame.mode, hm]) hoff, State.latchEns_rtc, State.latchEns_cal, State.hold_rtc, State.hold_cal]
    obtain ⟨c, hc⟩ := State.latchEns_ens (s.inputsFresh.hold true) (if s.inputsFresh.ens.darkReq then 4 else 5)
    refine ⟨(hsame.trans (State.hold_off hoff true)).trans (State.latchEns_same _ _), hrtc, hcal, ?_⟩
    rw [hc, State.hold_ens]
    rfl

/-- The causes of a wake are noted and PMIC_EN is asserted. -/
def State.woken (s : State) : State :=
  let z := ((s.hwSet 0x00003 s.wakeBits).bufferHv { code := 0x002, inst := 0, data := 0, act := false, esc := false, pended := false }).setPow
    (fun p => { p with hrxEdge := false, pmicEn := true, pmicAt := s.clk.now, railsGood := false, retried := false, retryDue := none })
  { z with mode := { ModeState.reset with cur := .boot } }

theorem State.woken_frame (s : State) : s.woken.mode = { ModeState.reset with cur := .boot } ∧
    s.woken.pow = { s.pow with hrxEdge := false, pmicEn := true, pmicAt := s.clk.now, railsGood := false, retried := false, retryDue := none } ∧
    s.woken.store = s.store ∧ s.woken.rtc = s.rtc ∧ s.woken.cal = s.cal ∧ s.woken.ens = s.ens := by
  simp only [State.woken, State.setPow_pow, State.setPow_store, State.setPow_rtc, State.setPow_cal, State.setPow_ens, State.bufferHv_pow,
    State.bufferHv_store, State.bufferHv_rtc, State.bufferHv_cal, State.bufferHv_ens, State.hwSet_pow, State.hwSet_store, State.hwSet_rtc,
    State.hwSet_cal, State.hwSet_ens, and_self]

theorem State.wakeCheck_none {s : State} (h : s.wakeBits = 0) : s.wakeCheck = s := by
  simp only [State.wakeCheck, h, ne_eq, not_true_eq_false, decide_false, Bool.and_false, Bool.false_eq_true, if_false]

theorem State.wakeCheck_awake {s : State} (h : s.mode.cur ≠ .sleep) : s.wakeCheck = s := by
  simp only [State.wakeCheck, h, false_and, decide_false, Bool.and_false, Bool.false_and, Bool.false_eq_true, if_false]

/-- In SLEEP a pending source starts the bring-up. -/
theorem State.wakeCheck_due {s : State} (hv : s.pow.vbat = true) (hm : s.mode.cur = .sleep) (hs : s.mode.sleep = .none) (hw : s.wakeBits ≠ 0) :
    s.wakeCheck = s.woken.inputsWake := by
  simp only [State.wakeCheck, hv, hm, hs, hw, ne_eq, not_false_eq_true, and_self, decide_true, Bool.and_self, if_true, State.setPow_clk,
    State.bufferHv_clk, State.hwSet_clk, State.woken]

/-- What a wake from SLEEP brings, the logic die being off. -/
theorem State.wakeCheck_wakes {s : State} (hv : s.pow.vbat = true) (hl : s.pow.logicOn = false) (hm : s.mode.cur = .sleep)
    (hs : s.mode.sleep = .none) (hw : s.wakeBits ≠ 0) : s.wakeCheck.mode = { ModeState.reset with cur := .boot } ∧
      s.wakeCheck.pow = { s.pow with hrxEdge := false, pmicEn := true, pmicAt := s.clk.now, railsGood := false, retried := false, retryDue := none } ∧
      s.wakeCheck.store = s.store ∧ s.wakeCheck.rtc = s.rtc ∧ s.wakeCheck.cal = s.cal ∧
      s.wakeCheck.ens.safe = if s.inputDemand then some .safeDark else s.ens.safe := by
  obtain ⟨wmode, wpow, wstore, wrtc, wcal, wens⟩ := s.woken_frame
  obtain ⟨hsame, hrtc, hcal, hsafe⟩ := State.inputsWake_off (s := s.woken) (by rw [wmode]) (by rw [wpow]; exact hl)
  rw [State.wakeCheck_due hv hm hs hw, hsame.mode, hsame.pow, hsame.store, hrtc, hcal, hsafe, State.inputDemand, State.inputDemand,
    wmode, wpow, wstore, wrtc, wcal, wens]
  exact ⟨rfl, rfl, rfl, rfl, rfl, rfl⟩

/-! ### SLEEP is complete (R61, R463, R605) -/

/-- A near-field discrepancy shows in the Ensign's record of it, and in the fault that it resolves. -/
theorem State.pairDisc_nf (t0 : Nat) (s : State) : (∃ o, (s.pairDisc .nf t0).ens = { s.ens with discNf := o }) ∧
    (s.pairDisc .nf t0).mode = s.mode ∧ (s.pairDisc .nf t0).pow = s.pow ∧ (s.pairDisc .nf t0).clk = s.clk ∧ (s.pairDisc .nf t0).regs = s.regs := by
  simp only [State.pairDisc, State.setDisc]
  split
  · exact ⟨⟨_, rfl⟩, id rfl, id rfl, id rfl, id rfl⟩
  · rw [State.resolve_ens, State.resolve_mode, State.resolve_pow, State.resolve_clk, State.resolve_regs]
    exact ⟨⟨_, rfl⟩, id rfl, id rfl, id rfl, id rfl⟩

/-- `s` in SLEEP, the Ensign holding nothing. -/
def State.fallenAsleep (s : State) : State :=
  ({ s with mode := { s.mode with sleep := .none }, ens := s.ens.asleep } : State).pairDisc .nf s.clk.now

theorem State.sleepDone_due {s : State} (hm : s.mode.cur = .sleep) (hs : s.mode.sleep = .released) (hd : s.pow.pmicAt + 20000000 ≤ s.clk.now) :
    s.sleepDone = s.fallenAsleep.wakeCheck := by
  simp only [State.sleepDone, hm, hs, hd, and_self, decide_true, Bool.and_self, if_true, State.fallenAsleep]

theorem State.fallenAsleep_frame (s : State) : (∃ o, s.fallenAsleep.ens = { s.ens.asleep with discNf := o }) ∧
    s.fallenAsleep.mode = { s.mode with sleep := .none } ∧ s.fallenAsleep.pow = s.pow ∧ s.fallenAsleep.clk = s.clk ∧
    s.fallenAsleep.regs = s.regs := State.pairDisc_nf s.clk.now _

/-- The wake sources show in the registers and the supplies alone. -/
theorem State.wakeBits_congr {s u : State} (hr : u.regs = s.regs) (hp : u.pow = s.pow) : u.wakeBits = s.wakeBits := by
  simp only [State.wakeBits, State.flag, State.act, State.actW, hr, hp]

/-- Settles O27: the drain's end by what waits for it, the power-down, and the wake at the end of SLEEP entry. -/
theorem sleepRows : Obligations.SleepRows := by
  rintro t s x rfl
  refine ⟨fun tr hs hd hr hf ht => ?_, fun r hs hr hn hd hf => ?_, fun n d hs hr hf hd ho => ?_, fun hs hd hq => ?_, fun hm hs hd z hz => ?_⟩
  · rw [exec, execDrainTimeout, occur_eq, State.drainTimeout_sleep (State.furlExpired_none hf) hr hs hd ht]
  · rw [exec, execDrainTimeout, occur_eq, State.drainTimeout_awake (y := (s.advance t).resetReply r)
      (by rw [State.furlExpired_none hf, State.resetTimeout_due hr hn hd]) (State.resetReply_sleep r _)]
  · have hmode := State.furlNow_mode n.val (s.advance t)
    rw [exec, execDrainTimeout, occur_eq, State.drainTimeout_awake (y := (s.advance t).furlNow n.val)
      (by rw [State.furlExpired_one n.isLt hf hd ho, State.resetTimeout_none (by rw [hmode, hr])]) (by rw [hmode, hs])]
  · obtain ⟨hrtc, hstore, hact, hoff, hnow⟩ := State.logicReset_pmicOff (s.advance t)
    refine ⟨_, by rw [exec, execSleepPmicRelease, occur_eq, State.sleepPower_due hs hd hq], State.pmicOff_mode _, ?_, ?_, ?_, hrtc, hstore, hact⟩
    · rw [State.pmicOff_pow, hoff]
    · rw [State.pmicOff_pow]
    · rw [State.pmicOff_pow, hnow]
  · obtain ⟨⟨o, hens⟩, hmode, hpow, hclk, hregs⟩ := State.fallenAsleep_frame (s.advance t)
    have hbits := State.wakeBits_congr hregs hpow
    have hzf : z = (s.advance t).fallenAsleep := hz
    rw [exec, execSleepComplete, occur_eq, State.sleepDone_due hm hs hd, hzf]
    refine ⟨by rw [hens]; rfl, by rw [hens]; rfl, by rw [hens]; rfl, by rw [hens]; rfl, by rw [hens]; rfl, by rw [hens]; rfl,
      fun hw => by rw [State.wakeCheck_none (hbits.trans hw)], fun hw hv hl => ?_⟩
    obtain ⟨wmode, wpow, -, -, -, wsafe⟩ := State.wakeCheck_wakes (s := (s.advance t).fallenAsleep) (by rw [hpow, hv]) (by rw [hpow, hl])
      (by rw [hmode, hm]) (by rw [hmode]) (by rw [hbits]; exact hw)
    refine ⟨_, rfl, wmode, by rw [wpow], by rw [wpow, hclk], ?_⟩
    rw [wsafe, State.inputDemand, hens]
    cases hdark : (s.advance t).ens.darkReq <;> cases hopen : (s.advance t).ens.hsgOpen <;> simp [Ensign.asleep, hdark, hopen]

end Sys2Proof.Machine
end

section
/-! Power-on, the wake pin, the rails' ladder and the release of the logic die's reset. -/

namespace Sys2Proof.Machine

section
variable {s : State}

/-! ### Power-on and wake (R52 to R57, R602) -/

/-- `s` as the first supply finds it: in SLEEP, the RTC at zero. -/
def State.powered (s : State) : State :=
  let z := s.setPow (fun p => { Power.reset with vbat := true, wakeN := p.wakeN })
  { z with
    mode := { ModeState.reset with cur := .sleep }, rtc := { Rtc.reset with since := z.clk.now }
    ens := { z.ens with powerOnAt := z.clk.now }, ports := z.ports.map (fun x => { x with rtcHi := 0, lastHi := 0 }) }

theorem State.powered_frame (s : State) : s.powered.pow = { Power.reset with vbat := true, wakeN := s.pow.wakeN } ∧
    s.powered.mode = { ModeState.reset with cur := .sleep } ∧ s.powered.rtc = { Rtc.reset with since := s.clk.now } ∧
    s.powered.store = s.store ∧ s.powered.cal = s.cal ∧ s.powered.regs = s.regs := ⟨id rfl, id rfl, id rfl, id rfl, id rfl, id rfl⟩

theorem State.powerOn_off (h : s.pow.vbat = false) : s.powerOn = s.powered.calPowerOn.wakeCheck := by
  rw [State.powerOn, if_neg (by rw [h]; exact Bool.false_ne_true)]
  rfl

/-- Reading the bank changes the calibration in force alone (R581). -/
theorem State.calPowerOn_frame (s : State) : s.calPowerOn.pow = s.pow ∧ s.calPowerOn.mode = s.mode ∧ s.calPowerOn.rtc = s.rtc ∧
    s.calPowerOn.store = s.store ∧ s.calPowerOn.regs = s.regs ∧ s.calPowerOn.cal.bank = s.cal.bank := by
  simp only [State.calPowerOn]
  split <;> exact ⟨id rfl, id rfl, id rfl, id rfl, id rfl, id rfl⟩

/-- With no edge latched and nothing ignored, a source is pending where a level source is active. -/
theorem State.wakeBits_level (hr : s.pow.ignoreRtc = false) (hi : s.pow.ignoreWakeN = false) (he : s.pow.hrxEdge = false) :
    s.wakeBits ≠ 0 ↔ s.wakeLevel = true := by
  rw [State.wakeBits, State.wakeLevel, hr, hi, he]
  cases s.flag 0x00002 0 <;> cases s.flag 0x100007 0 <;> cases s.flag 0x00002 1 <;> cases s.pow.wakeN <;> simp [b2n, b2m]

theorem State.wakeLevel_congr {u : State} (hr : u.regs = s.regs) (hp : u.pow.wakeN = s.pow.wakeN) : u.wakeLevel = s.wakeLevel := by
  simp only [State.wakeLevel, State.flag, State.act, State.actW, hr, hp]

/-- The first supply brings the machine to SLEEP, and into bring-up where a level source is active. -/
theorem State.powerOn_brings (h : s.pow.vbat = false) : s.powerOn.pow.vbat = true ∧ s.powerOn.pow.pmicEn = s.wakeLevel ∧
    s.powerOn.mode.cur = (if s.wakeLevel then .boot else .sleep) ∧ s.powerOn.rtc = { Rtc.reset with since := s.clk.now } ∧
    s.powerOn.store = s.store ∧ s.powerOn.cal.bank = s.cal.bank := by
  obtain ⟨ppow, pmode, prtc, pstore, pcal, pregs⟩ := s.powered_frame
  obtain ⟨cpow, cmode, crtc, cstore, cregs, cbank⟩ := s.powered.calPowerOn_frame
  rw [ppow] at cpow
  rw [pmode] at cmode
  rw [prtc] at crtc
  rw [pstore] at cstore
  rw [pregs] at cregs
  rw [pcal] at cbank
  rw [State.powerOn_off h]
  have hlevel : s.powered.calPowerOn.wakeLevel = s.wakeLevel := State.wakeLevel_congr cregs (by rw [cpow])
  have hbits := State.wakeBits_level (s := s.powered.calPowerOn) (by rw [cpow]; rfl) (by rw [cpow]; rfl) (by rw [cpow]; rfl)
  rw [hlevel] at hbits
  cases hw : s.wakeLevel with
  | false =>
    rw [hw] at hbits
    rw [State.wakeCheck_none (not_not.mp (fun hn => Bool.false_ne_true (hbits.mp hn))), cpow, cmode, crtc, cstore, cbank]
    exact ⟨rfl, rfl, rfl, rfl, rfl, rfl⟩
  | true =>
    obtain ⟨wmode, wpow, wstore, wrtc, wcal, -⟩ := State.wakeCheck_wakes (s := s.powered.calPowerOn) (by rw [cpow]) (by rw [cpow]; rfl)
      (by rw [cmode]) (by rw [cmode]; rfl) (hbits.mpr hw)
    rw [wmode, wpow, wstore, wrtc, wcal, cpow, crtc, cstore, cbank]
    exact ⟨rfl, rfl, rfl, rfl, rfl, rfl⟩

/-- The wake pin is low. -/
def State.pinLow (s : State) : State := s.setPow (fun q => { q with wakeN := false })

theorem State.wakeLow_eq (s : State) : s.wakeLow = s.pinLow.wakeCheck := rfl

theorem State.pinLow_pending (he : s.flag 0x00002 1 = true) (hi : s.pow.ignoreWakeN = false) : s.pinLow.wakeBits ≠ 0 := by
  have hf : s.pinLow.flag 0x00002 1 = true := he
  have hn : s.pinLow.pow.wakeN = false := rfl
  have hg : s.pinLow.pow.ignoreWakeN = false := hi
  simp [State.wakeBits, hf, hn, hg, b2m, b2n]

/-- Until SLEEP is complete no source wakes the device. -/
theorem State.wakeCheck_entering (h : s.mode.sleep ≠ .none) : s.wakeCheck = s := by
  simp only [State.wakeCheck, h, and_false, decide_false, Bool.and_false, Bool.false_and, Bool.false_eq_true, if_false]

theorem State.hrxEdge_latched (hv : s.pow.vbat = true) (he : s.flag 0x00002 2 = true) (hm : s.mode.cur = .sleep) (hs : s.mode.sleep = .released)
    (hb : s.clk.now + 91600 < s.pow.pmicAt + 20000000) : s.hrxEdge = s.setPow (fun q => { q with hrxEdge := true }) := by
  have hblind : ¬ s.pow.pmicAt + 20000000 - 91600 ≤ s.clk.now := by omega
  simp only [State.hrxEdge, hv, he, hm, hs, hblind, decide_true, decide_false, Bool.and_false, Bool.not_false, Bool.and_self, if_true]
  exact State.wakeCheck_entering (by rw [State.setPow_mode, hs]; nofun)

/-! ### The RTC's second (R675) -/

/-- `s` with one second more. -/
def State.secondOn (s : State) : State :=
  { s with rtc := { s.rtc with count := (s.rtc.count + 1) % 2 ^ 40, since := s.clk.now } }

theorem State.rtcTick_due (hv : s.pow.vbat = true) (hd : s.rtc.since + 950000000 ≤ s.clk.now) : s.rtcTick = s.secondOn.compareAlarm.wakeCheck := by
  simp only [State.rtcTick, State.rtcDue, hv, hd, decide_true, Bool.and_self, if_true]
  rfl

/-- The comparison with the alarm that is armed. -/
theorem State.compareAlarm_eq {met : Bool} (h : met = (s.flag 0x100006 0 && decide (s.rtc.count = s.rtc.alarm.toNat))) :
    s.compareAlarm = if met then s.setAlarm else s := by
  rw [State.compareAlarm, h]

/-! ### The rails (R605, Table 1.8) -/

theorem State.railsUp_due (he : s.pow.pmicEn = true) (hl : s.pow.logicOn = false) (hm : s.mode.cur = .boot) :
    s.railsUp = s.setPow (fun q => { q with railsGood := true, railsAt := s.clk.now, rails4 := 15 }) := by
  simp only [State.railsUp, he, hl, hm, decide_true, Bool.not_false, Bool.and_self, if_true]

/-- A failure of the rails is noted. -/
def State.railsFailed (s : State) : State :=
  (s.hwSet 0x00003 0x20).bufferHv { code := 0x007, inst := 0, data := 0, act := false, esc := false, pended := false }

theorem State.railsFailed_frame (s : State) : s.railsFailed.pow = s.pow ∧ s.railsFailed.mode = s.mode ∧ s.railsFailed.clk = s.clk := by
  simp only [State.railsFailed, State.bufferHv_pow, State.bufferHv_mode, State.bufferHv_clk, State.hwSet_pow, State.hwSet_mode,
    State.hwSet_clk, and_self]

/-- A first failure releases PMIC_EN for 100 ms; a second one returns to SLEEP, the level sources that are active ignored. -/
theorem State.railsLate_due (he : s.pow.pmicEn = true) (hg : s.pow.railsGood = false) (hl : s.pow.logicOn = false) (hm : s.mode.cur = .boot)
    (hd : s.pow.pmicAt + 20000000 ≤ s.clk.now) : s.railsLate = if s.railsFailed.pow.retried then
      (s.railsFailed.setPow (fun p => { p with ignoreRtc := s.railsFailed.flag 0x100007 0, ignoreWakeN := !p.wakeN })).pmicOff
    else s.railsFailed.setPow (fun p => { p with
      pmicEn := false, pmicAt := s.railsFailed.clk.now, retried := true, retryDue := some (s.railsFailed.clk.now + 100000000) }) := by
  simp only [State.railsLate, he, hg, hl, hm, hd, and_self, decide_true, Bool.not_false, Bool.and_self, if_true]
  rfl

theorem State.pmicRetry_due {d : Nat} (h : s.pow.retryDue = some d) (hd : d ≤ s.clk.now) :
    s.pmicRetry = s.setPow (fun q => { q with pmicEn := true, pmicAt := s.clk.now, retryDue := none }) := by
  simp only [State.pmicRetry, h, if_pos hd]

/-! ### The release of the logic die's reset (R58, R59, R605, R636) -/

/-- When DTIME starts: at the later of the RTC's count and DMARK + 3 ms. -/
def State.startTime (s : State) : Nat := max (s.rtc.count * 1000000000) (s.clk.dmark + 3000000)

/-- The logic die runs, with its straps, and DTIME from a start. -/
def State.releasedAt (start : Nat) (straps : BitVec 4) (s : State) : State :=
  let z := s.setPow (fun p => { p with
    logicOn := true, retried := false, ignoreRtc := p.ignoreRtc && s.flag 0x100007 0,
    straps := if p.strapsKept then p.straps else straps, strapsKept := true, viaReset := false, brown := false, rails4 := 15 })
  let z : State := { z with
    clk := { z.clk with dtime := start, part := 0, tbXtal := false, xtalOk := false, highSent := none, markWord := none, markAt := start }
    gdn := { z.gdn with hbRun := true, hbAt := z.clk.now, ensAt := z.clk.now }
    dl := { z.dl with
      highOut := some { body := start / 2 ^ 52, tag := z.dl.highNext, resends := 0, sentAt := z.clk.now }
      highNext := z.dl.highNext + 1 } }
  z.setAct 0x110003 (if z.pow.straps.getLsbD 2 then 1 else 0)

/-- The logic die runs, DTIME from its start. -/
def State.released (straps : BitVec 4) (s : State) : State := s.releasedAt s.startTime straps

theorem State.resetRelease_due (hg : s.pow.railsGood = true) (hl : s.pow.logicOn = false) (hm : s.mode.cur = .boot)
    (hd : s.pow.railsAt + 200000 ≤ s.clk.now) (straps : BitVec 4) :
    s.resetRelease straps = ((List.range 7).foldl State.resumeTimer (s.released straps)).inhibitRelease := by
  simp only [State.resetRelease, hg, hl, hm, Nat.not_lt.mpr hd, ne_eq, not_true_eq_false, decide_false, Bool.not_true, Bool.or_self,
    Bool.false_eq_true, if_false]
  rfl

/-- What the release sets, and what it leaves. -/
def State.releaseView (s : State) : Bool × BitVec 4 × Nat × Bool × Bool × Store × Rtc :=
  (s.pow.logicOn, s.pow.straps, s.clk.dtime, s.clk.tbXtal, s.gdn.hbRun, s.store, s.rtc)

theorem State.releasedAt_view (hk : s.pow.strapsKept = false) (start : Nat) (straps : BitVec 4) :
    (s.releasedAt start straps).releaseView = (true, straps, start, false, true, s.store, s.rtc) := by
  have hp : (s.releasedAt start straps).pow.straps = if s.pow.strapsKept then s.pow.straps else straps := id rfl
  rw [hk, if_neg Bool.false_ne_true] at hp
  rw [State.releaseView, hp]
  exact id rfl

theorem State.resumeTimer_view (c : Nat) (s : State) : (s.resumeTimer c).releaseView = s.releaseView := by
  unfold State.resumeTimer
  split <;> exact id rfl

/-- The supply-sag inhibit is set at the release, and nothing else of what the release sets changes (R590). -/
theorem State.inhibitRelease_view (s : State) : s.inhibitRelease.releaseView = s.releaseView ∧ s.inhibitRelease.cal.inhibit = true := by
  simp only [State.inhibitRelease, State.releaseView, State.raise0_pow, State.raise0_clk, State.raise0_gdn, State.raise0_store, State.raise0_rtc,
    State.raise0_cal, and_self]

theorem State.noteReset_view (was : Bool) (s : State) : (s.noteReset was).releaseView = s.releaseView ∧ (s.noteReset was).cal = s.cal := by
  unfold State.noteReset
  split
  · simp only [State.releaseView, State.event_pow, State.event_clk, State.event_gdn, State.event_store, State.event_rtc, State.event_cal,
      State.hwSet_pow, State.hwSet_clk, State.hwSet_gdn, State.hwSet_store, State.hwSet_rtc, State.hwSet_cal, and_self]
  · exact ⟨rfl, rfl⟩

theorem State.placeHeld_view (n : Nat) (p : Port) (s : State) :
    (State.placeHeld n p s).releaseView = s.releaseView ∧ (State.placeHeld n p s).cal = s.cal := by
  simp only [State.releaseView, State.placeHeld_pow, State.placeHeld_clk, State.placeHeld_gdn, State.placeHeld_store, State.placeHeld_rtc,
    State.placeHeld_cal, and_self]

/-- No sooner than 0.2 ms after the rails are good the logic die starts. -/
theorem State.releaseRow_due (hg : s.pow.railsGood = true) (hl : s.pow.logicOn = false) (hm : s.mode.cur = .boot)
    (hd : s.pow.railsAt + 200000 ≤ s.clk.now) (hk : s.pow.strapsKept = false) (straps : BitVec 4) :
    (s.releaseRow straps).releaseView = (true, straps, s.startTime, false, true, s.store, s.rtc) ∧
      (s.releaseRow straps).cal.inhibit = true := by
  have hview : (s.resetRelease straps).releaseView = (true, straps, s.startTime, false, true, s.store, s.rtc) := by
    rw [State.resetRelease_due hg hl hm hd, (State.inhibitRelease_view _).1, foldl_proj State.releaseView (fun s c => s.resumeTimer_view c),
      State.released, State.releasedAt_view hk]
  have hinh : (s.resetRelease straps).cal.inhibit = true := by
    rw [State.resetRelease_due hg hl hm hd, (State.inhibitRelease_view _).2]
  have hon : (s.resetRelease straps).pow.logicOn = true := congrArg Prod.fst hview
  simp only [State.releaseRow, hl, hon, Bool.not_false, Bool.and_self, if_true]
  rw [(State.placeHeld_view _ _ _).1, (State.placeHeld_view _ _ _).2, (State.placeHeld_view _ _ _).1, (State.placeHeld_view _ _ _).2,
    (State.noteReset_view _ _).1, (State.noteReset_view _ _).2]
  exact ⟨hview, hinh⟩

end

/-- Settles O25: the supply and the wake sources by the mode, the rails' ladder by what has failed, and the release. -/
theorem powerAndRelease : Obligations.PowerAndRelease := by
  refine ⟨?_, ?_⟩
  · rintro t s x rfl
    refine ⟨fun hv => ?_, fun hv => ?_, ?_, fun hm => ?_, fun hv hl hm hs he hi => ?_, fun hv he hm hs hb => ?_, fun hv hd z met hz hmet => ?_⟩
    · exact ⟨_, by rw [exec, execVbatPowerOn, occur_eq], State.powerOn_brings hv⟩
    · rw [exec, execVbatOff, occur_eq, State.powerOff, if_pos hv]
    · rw [exec, execWakeNHigh, occur_eq, State.wakeHigh]
    · rw [exec, execWakeNLow, occur_eq, State.wakeLow, State.wakeCheck_awake (by rw [State.setPow_mode]; exact hm)]
    · obtain ⟨wmode, wpow, wstore, -, -, -⟩ := State.wakeCheck_wakes (s := (s.advance t).pinLow) hv hl hm hs (State.pinLow_pending he hi)
      exact ⟨_, by rw [exec, execWakeNLow, occur_eq, State.wakeLow_eq], wmode, congrArg Power.pmicEn wpow, congrArg Power.pmicAt wpow, wstore⟩
    · rw [exec, execHrx0Edge, occur_eq, State.hrxEdge_latched hv he hm hs hb]
    · have hzs : z = (s.advance t).secondOn := hz
      rw [exec, execRtcTick, occur_eq, State.rtcTick_due hv hd, ← hzs]
      subst hzs
      rw [State.compareAlarm_eq hmet]
  · rintro t s x rfl
    refine ⟨fun he hl hm => ?_, fun he hg hl hm => ⟨fun hd hr => ?_, fun hd hr => ?_⟩, fun d hr hd => ?_, fun hg hl hm hd hk straps => ?_⟩
    · rw [exec, execRailsGood, occur_eq, State.railsUp_due he hl hm]
    · obtain ⟨fpow, fmode, fclk⟩ := State.railsFailed_frame (s.advance t)
      have hret : (s.advance t).railsFailed.pow.retried = false := by rw [fpow, hr]
      refine ⟨_, by rw [exec, execRailsTimeout, occur_eq, State.railsLate_due he hg hl hm hd, hret, if_neg Bool.false_ne_true], ?_, ?_⟩
      · rw [State.setPow_pow, fpow, fclk]
      · rw [State.setPow_mode, fmode]
    · obtain ⟨fpow, -, -⟩ := State.railsFailed_frame (s.advance t)
      have hret : (s.advance t).railsFailed.pow.retried = true := by rw [fpow, hr]
      refine ⟨_, by rw [exec, execRailsTimeout, occur_eq, State.railsLate_due he hg hl hm hd, if_pos hret], ?_⟩
      rw [State.pmicOff_mode, State.pmicOff_pow, State.setPow_pow, fpow]
      exact ⟨rfl, rfl, rfl, rfl⟩
    · rw [exec, execPmicRetry, occur_eq, State.pmicRetry_due hr hd]
    · obtain ⟨hview, hinh⟩ := State.releaseRow_due hg hl hm hd hk straps
      simp only [State.releaseView, Prod.mk.injEq] at hview
      obtain ⟨hon, hstraps, htime, hxtal, hrun, hstore, hrtc⟩ := hview
      exact ⟨_, by rw [exec, execLogicResetRelease, occur_eq], hon, hstraps, htime, hxtal, hinh, hrun, hstore, hrtc⟩

end Sys2Proof.Machine
end

section
/-! Store clear, patch check, crystal and the end of a mode transition. -/

namespace Sys2Proof.Machine

/-! ### What leaves the mode alone

The operations that a mode's entry and its end call: on lanes, on jobs and commands under way, on pending sets, and on the performance policy. -/

section
variable (s : State)

theorem State.withEng_mode (e : Engine) : ({ s with eng := e } : State).mode = s.mode := id rfl

@[simp] theorem State.resettle_mode : s.resettle.mode = s.mode := by unfold State.resettle; split <;> rfl
@[simp] theorem State.wantPcdiv_mode (v : Nat) : (s.wantPcdiv v).mode = s.mode := rfl
@[simp] theorem State.downDue_mode : s.downDue.mode = s.mode := by unfold State.downDue; split <;> rfl
@[simp] theorem State.setPcdiv_mode (v : Nat) : (s.setPcdiv v).mode = s.mode := by unfold State.setPcdiv; split <;> simp
@[simp] theorem State.idleTarget_mode : s.idleTarget.mode = s.mode := by unfold State.idleTarget; rw [State.setPcdiv_mode]
@[simp] theorem State.queueTarget_mode : s.queueTarget.mode = s.mode := by unfold State.queueTarget; split <;> simp
@[simp] theorem State.budgetMoved_mode : s.budgetMoved.mode = s.mode := by unfold State.budgetMoved; split <;> simp
@[simp] theorem State.graceDue_mode : s.graceDue.mode = s.mode := by
  unfold State.graceDue State.riseEnf; split <;> simp

@[simp] theorem State.policy_mode (missed blockEnd : Bool) (low : Nat) : (s.policy missed blockEnd low).mode = s.mode := by
  simp only [State.policy]
  (repeat' split) <;> simp
@[simp] theorem State.slackMissed_mode : s.slackMissed.mode = s.mode := by
  simp only [State.slackMissed, State.enterSlack]
  split <;> simp

/-! ### Lanes -/

@[simp] theorem State.keepBytes_mode : s.keepBytes.mode = s.mode := by
  refine iter_proj State.mode (fun m z => ?_) 16 s
  dsimp only
  split <;> rfl
@[simp] theorem State.lanesIdle_mode : s.lanesIdle.mode = s.mode := by simp only [State.lanesIdle]
@[simp] theorem State.cutPass_mode : s.cutPass.mode = s.mode := by simp only [State.cutPass, State.keepBytes_mode]
@[simp] theorem State.limpOff_mode : s.limpOff.mode = s.mode := by
  simp only [State.limpOff]
  split <;> simp
@[simp] theorem State.laneBlind_mode (n : Nat) : (s.laneBlind n).mode = s.mode := id rfl
@[simp] theorem State.laneFurl_mode (n : Nat) : (s.laneFurl n).mode = s.mode := by
  unfold State.laneFurl
  split
  · rfl
  · split
    · rfl
    · exact State.furlNow_mode n s
@[simp] theorem State.laneTrain_mode (n : Nat) : (s.laneTrain n).mode = s.mode := by unfold State.laneTrain; split <;> rfl
@[simp] theorem State.laneRetrain_mode (n : Nat) : (s.laneRetrain n).mode = s.mode := by
  simp only [State.laneRetrain]
  (repeat' split) <;> simp
@[simp] theorem State.lanesRestart_mode : s.lanesRestart.mode = s.mode := by
  refine iter_proj State.mode (fun m z => ?_) 16 s
  split <;> simp
@[simp] theorem State.lanesEn_mode (old : Nat → Nat) : (s.lanesEn old).mode = s.mode := by
  refine iter_proj State.mode (fun m z => ?_) 16 s
  (repeat' split) <;> simp

/-! ### Commands and jobs under way -/

@[simp] theorem State.dropOps_mode (n : Nat) (p : CtrlUse → Bool) : (s.dropOps n p).mode = s.mode := rfl
@[simp] theorem State.dropJobs_mode (p : Job → Bool) : (s.dropJobs p).mode = s.mode := by
  simp only [State.dropJobs]
  exact iter_proj State.mode (fun m z => by (repeat' split) <;> simp) 16 s
@[simp] theorem State.dropRead_mode : s.dropRead.mode = s.mode := by unfold State.dropRead; split <;> simp
@[simp] theorem State.dropCensus_mode : s.dropCensus.mode = s.mode := by
  unfold State.dropCensus
  split
  · rw [iter_proj State.mode (fun _ z => State.dropOps_mode z _ _)]
  · rfl
@[simp] theorem State.dropKa_mode : s.dropKa.mode = s.mode := by
  unfold State.dropKa
  split
  · rw [foldl_proj State.mode (fun z _ => State.dropOps_mode z _ _), State.dropJobs_mode]
  · rfl
@[simp] theorem State.endRead_mode (st : Nat) : (s.endRead st).mode = s.mode := by unfold State.endRead; split <;> simp
@[simp] theorem State.endKa_mode (st : Nat) : (s.endKa st).mode = s.mode := by unfold State.endKa; split <;> simp
@[simp] theorem State.endCensus_mode (st : Nat) : (s.endCensus st).mode = s.mode := by unfold State.endCensus; split <;> simp
@[simp] theorem State.endJobs_mode (st : Nat) : (s.endJobs st).mode = s.mode := by
  simp only [State.endJobs, State.endKa_mode]
  rw [foldl_proj State.mode (fun z id => State.answer_mode z id _ _), State.dropJobs_mode]
@[simp] theorem State.dropLaneTest_mode : s.dropLaneTest.mode = s.mode := by
  unfold State.dropLaneTest
  split
  · refine iter_proj State.mode (fun m z => ?_) 16 _
    dsimp only
    (repeat' split) <;> simp
  · rfl
@[simp] theorem State.endLaneTest_mode (st : Nat) : (s.endLaneTest st).mode = s.mode := by unfold State.endLaneTest; split <;> simp
@[simp] theorem State.endInject_mode (st : Nat) : (s.endInject st).mode = s.mode := by
  simp only [State.endInject]
  (repeat' split) <;> simp
@[simp] theorem State.endSwTest_mode (st : Nat) : (s.endSwTest st).mode = s.mode := by
  simp only [State.endSwTest]
  split <;> simp
@[simp] theorem State.endCal_mode (st : Nat) : (s.endCal st).mode = s.mode := by
  unfold State.endCal
  (repeat' split) <;> simp
theorem State.endOne_mode {α : Type} (o : Option α) (id : α → ReqId) {clear : State → State} (hc : (clear s).mode = s.mode) (st : Nat) :
    (State.endOne o id clear st s).mode = s.mode := by
  unfold State.endOne
  split
  · rw [State.answer_mode, hc]
  · rfl
@[simp] theorem State.abortFor_mode (m : Mode) (st : Nat) : (s.abortFor m st).mode = s.mode := by
  simp only [State.abortFor, apply_ite State.mode, State.endOne_mode, State.endRead_mode, State.endJobs_mode, State.endCensus_mode,
    State.endLaneTest_mode, State.endInject_mode, State.endCal_mode, State.endSwTest_mode, ite_self]

@[simp] theorem State.ctrlSend_mode (n : Nat) (u : CtrlUse) (addr count : Nat) : (s.ctrlSend n u addr count).mode = s.mode := by
  have hpump (z : State) : (z.ctrlPump1 n).mode = z.mode := State.setLane_mode z n _
  rw [State.ctrlSend, State.ctrlPump, iter_proj State.mode (fun _ z => hpump z), State.setLane_mode]
@[simp] theorem State.modJob_mode (n : Nat) (f : Job → Option Job) : (s.modJob n f).mode = s.mode := rfl
@[simp] theorem State.lifeSkip_mode : s.lifeSkip.mode = s.mode := by unfold State.lifeSkip; split <;> simp
@[simp] theorem State.logSkip_mode : s.logSkip.mode = s.mode := by unfold State.logSkip; simp
@[simp] theorem State.jobFail_mode (n st : Nat) : (s.jobFail n st).mode = s.mode := by
  simp only [State.jobFail]
  (repeat' split) <;> simp
@[simp] theorem State.jobsInhibited_mode (n : Nat) : (s.jobsInhibited n).mode = s.mode := by
  unfold State.jobsInhibited
  split
  · refine iter_proj State.mode (fun m z => ?_) _ s
    (repeat' split) <;> simp
  · rfl
@[simp] theorem State.jobStep_mode (n : Nat) : (s.jobStep n).mode = s.mode := by
  simp only [State.jobStep]
  (repeat' split) <;> simp
@[simp] theorem State.lifeDue_mode : s.lifeDue.mode = s.mode := by unfold State.lifeDue; split <;> simp

/-! ### Pending sets and surfaces -/

@[simp] theorem State.newSteps_mode : s.newSteps.mode = s.mode := by simp only [State.newSteps]
@[simp] theorem State.newThresholds_mode : s.newThresholds.mode = s.mode := by simp only [State.newThresholds]
@[simp] theorem State.copyThermal_mode : s.copyThermal.mode = s.mode := by simp only [State.copyThermal, State.resolveAll_mode]
@[simp] theorem State.markDue_mode : s.markDue.mode = s.mode := by simp only [State.markDue]
@[simp] theorem State.groupEffect_mode (g : Nat) : (s.groupEffect g).mode = s.mode := by
  simp only [State.groupEffect, apply_ite State.mode, State.newSteps_mode, State.resolveAll_mode, State.budgetMoved_mode,
    State.graceDue_mode, State.newThresholds_mode, State.copyThermal_mode, State.markDue_mode, ite_self]
@[simp] theorem State.applyCommits_mode : s.applyCommits.mode = s.mode := by
  simp only [State.applyCommits]
  rw [foldl_proj State.mode (fun z x => by split <;> simp), foldl_proj State.mode (fun z x => ?_)]
  split
  · rfl
  · refine iter_proj State.mode (fun g y => ?_) 8 z
    split
    · rw [State.groupEffect_mode]; rfl
    · rfl
@[simp] theorem State.applyIdle_mode : s.applyIdle.mode = s.mode := by
  simp only [State.applyIdle]
  split
  · simp
  · rw [iter_proj State.mode (fun m z => by split <;> simp)]
    simp
@[simp] theorem State.auditLeases_mode : s.auditLeases.mode = s.mode := by unfold State.auditLeases; split <;> simp
@[simp] theorem State.completeRelease_mode (n : Nat) : (s.completeRelease n).mode = s.mode := by
  simp only [State.completeRelease, State.auditLeases_mode]
  split <;> simp
@[simp] theorem State.releaseIdle_mode : s.releaseIdle.mode = s.mode := by
  unfold State.releaseIdle
  split
  · rfl
  · refine iter_proj State.mode (fun m z => ?_) 128 s
    split <;> simp
@[simp] theorem State.commitRun_mode (id : ReqId) (mask : Word) : (s.commitRun id mask).mode = s.mode := by
  simp only [State.commitRun]
  (repeat' split) <;> simp
@[simp] theorem State.commitDeferred_mode : s.commitDeferred.mode = s.mode := by
  simp only [State.commitDeferred]
  rw [foldl_proj State.mode (f := fun (z : State) (c : ReqId × Word) => z.commitRun c.1 c.2) (fun z c => State.commitRun_mode z c.1 c.2)]

/-! ### Scan-out stops -/

@[simp] theorem State.scanEvt_mode (m en code : Nat) : (s.scanEvt m en code).mode = s.mode := by simp only [State.scanEvt]; split <;> simp
@[simp] theorem State.auditFrames_mode : s.auditFrames.mode = s.mode := by simp only [State.auditFrames]; split <;> simp
@[simp] theorem State.countMissed_mode : s.countMissed.mode = s.mode := by unfold State.countMissed; simp
@[simp] theorem State.abandon_mode : s.abandon.mode = s.mode := by
  simp only [State.abandon]
  (repeat' split) <;> simp
@[simp] theorem State.scanOff_mode : s.scanOff.mode = s.mode := by
  simp only [State.scanOff, State.idleTarget_mode, State.releaseIdle_mode, State.commitDeferred_mode, State.applyIdle_mode]
@[simp] theorem State.cutScan_mode : s.cutScan.mode = s.mode := by
  simp only [State.cutScan]
  split <;> simp

/-! ### Mode entries -/

@[simp] theorem State.modeAnswer_mode (st outcome mode : Nat) (r : ModeReq) : (s.modeAnswer st outcome mode r).mode = s.mode := by
  unfold State.modeAnswer; split <;> simp
@[simp] theorem State.modeAnswers_mode (st : Nat) (first merged : List ModeReq) : (s.modeAnswers st first merged).mode = s.mode := by
  unfold State.modeAnswers
  rw [foldl_proj State.mode (fun z r => State.modeAnswer_mode z _ _ _ r), foldl_proj State.mode (fun z r => State.modeAnswer_mode z _ _ _ r)]
@[simp] theorem State.beamSync_mode : s.beamSync.mode = s.mode := State.withEng_mode s _
@[simp] theorem State.eolReady_mode : s.eolReady.mode = s.mode := by
  refine iter_proj State.mode (fun m z => ?_) 16 s
  dsimp only
  (repeat' split) <;> simp
@[simp] theorem State.calReady_mode : s.calReady.mode = s.mode := by
  simp only [State.calReady]
  (repeat' split) <;> simp

end

/-! ### A mode's entry (R44, R46) -/

/-- Mode `m` is in force and no request waits in the queue. -/
def State.Unqueued (m : Mode) (s : State) : Prop := s.mode.cur = m ∧ s.mode.queue = none

section
variable {s : State} {m : Mode}

theorem State.Unqueued.of_mode {u : State} (h : s.Unqueued m) (hm : u.mode = s.mode) : u.Unqueued m := by
  rw [State.Unqueued, hm]; exact h

theorem State.dropRequests_unqueued (h : s.Unqueued m) (st : Nat) : (s.dropRequests st).Unqueued m := by
  simp only [State.dropRequests, h.2]
  refine State.Unqueued.of_mode (s := { s with mode := { s.mode with trans := none, queue := none, sleep := .none } }) ⟨h.1, rfl⟩ ?_
  split
  · exact State.modeAnswers_mode _ _ _ _
  · rfl

theorem State.coveredLines_unqueued (h : s.Unqueued m) (dark : Bool) (why : SafeWhy) : (s.coveredLines dark why).Unqueued m := by
  unfold State.coveredLines
  split
  · exact (State.dropRequests_unqueued h _).of_mode (by rw [State.hold_mode, State.assertLines_mode])
  · exact h.of_mode (State.assertLines_mode _ _ _)

/-- `s` with the transition to a safe state begun, its lanes no longer in training. -/
def State.transBegun (t : Mode) (s : State) : State :=
  { s with
    fly := iter (fun n v => vmod v n Lane.suspend) 16 s.fly
    ens := s.ens.keepTests (fun u => u.id.isSome) s.clk.now s.testIns
    mode := { s.mode with trans := some { target := t, since := s.clk.dtime, owner := none, merged := [] } } }

theorem State.transBegun_unqueued (h : s.Unqueued m) (t : Mode) : (s.transBegun t).Unqueued m := ⟨h.1, h.2⟩

/-- A safe state that is asked for leaves the mode in force until its transition is done. -/
theorem State.enterSafe_unqueued (h : s.Unqueued m) (dark : Bool) (why : SafeWhy) : (s.enterSafe dark why none).Unqueued m := by
  simp only [State.enterSafe]
  split
  · exact h
  split
  · exact h.of_mode (State.assertSafe_mode _ _ _)
  split
  · exact h.of_mode (State.assertSafe_mode _ _ _)
  split
  · have hmode := State.assertSafe_mode s dark why
    exact ⟨(congrArg ModeState.cur hmode).trans h.1, (congrArg ModeState.queue hmode).trans h.2⟩
  split
  · split
    · exact h
    · exact State.coveredLines_unqueued h dark why
  · have hcut := (State.dropRequests_unqueued h stPreempted).of_mode
      (u := (((s.dropRequests stPreempted).assertSafe dark why).abortFor (if dark then .safeDark else .safeBeam) stPreempted).cutScan)
      (by rw [State.cutScan_mode, State.abortFor_mode, State.assertSafe_mode])
    generalize (((s.dropRequests stPreempted).assertSafe dark why).abortFor (if dark then .safeDark else .safeBeam) stPreempted).cutScan = z at hcut ⊢
    have hbegun := State.transBegun_unqueued hcut (if dark then .safeDark else .safeBeam)
    split
    · exact hbegun.of_mode (State.event_mode _ _)
    · exact hbegun

/-- SERVICE is left: its mark goes, the life record is due, and an open housing counts. -/
theorem State.leaveService_unqueued (h : s.Unqueued m) : s.leaveService.Unqueued m := by
  have hz : (({ s with ens := { s.ens with svcMode := false }, mask := { s.mask with late := 0 } } : State).lifeDue).Unqueued m :=
    h.of_mode (State.lifeDue_mode _)
  simp only [State.leaveService]
  split
  · exact State.enterSafe_unqueued hz _ _
  · exact hz

theorem State.firstReady_unqueued (h : s.Unqueued m) : s.firstReady.Unqueued m := by
  unfold State.firstReady
  split
  · exact h
  · exact ⟨by rw [State.eolReady_mode]; exact h.1, by rw [State.eolReady_mode]; exact h.2⟩

/-- Mode `t` is in force; what ran under another one is no longer metered, or is ended. -/
def State.modeStart (t : Mode) (s : State) : State :=
  let z := (if s.mode.cur = .limp then s.limpOff else s).beamSync
  let z : State := { z with mode := { z.mode with cur := t } }
  let z : State := if t = .beam then { z with eng := { z.eng with beamFrom := some z.clk.dtime }, gdn := { z.gdn with winAt := z.clk.dtime, winEnergy := 0, winTime := 0 } } else z
  if t = .limp then z else z.abortFor t stPreempted

/-- What each mode changes at its entry. -/
def State.modeEffect (t : Mode) (s : State) : State :=
  match t with
  | .ready => ((s.firstReady).calReady).idleTarget
  | .service => { s with ens := { s.ens with svcMode := true }, mask := { s.mask with late := 0 } }
  | .limp => s.idleTarget
  | _ => s

theorem State.enterMode_eq (t : Mode) (s : State) : s.enterMode t =
    if s.mode.cur = .service ∧ t ≠ .service then (((s.modeStart t).modeEffect t).event 0x000).leaveService
    else ((s.modeStart t).modeEffect t).event 0x000 := rfl

theorem State.modeStart_mode (t : Mode) (s : State) : (s.modeStart t).mode = { s.mode with cur := t } := by
  have hz : (if s.mode.cur = .limp then s.limpOff else s).beamSync.mode = s.mode := by
    rw [State.beamSync_mode]; split <;> simp
  simp only [State.modeStart, apply_ite State.mode, State.abortFor_mode, hz, ite_self]

theorem State.modeEffect_unqueued (h : s.Unqueued m) (t : Mode) : (s.modeEffect t).Unqueued m := by
  unfold State.modeEffect
  split
  · exact (State.firstReady_unqueued h).of_mode (by rw [State.idleTarget_mode, State.calReady_mode])
  · exact h
  · exact h.of_mode (State.idleTarget_mode _)
  · exact h

/-- A mode that is entered is in force, and no request joins the queue. -/
theorem State.enterMode_unqueued (h : s.mode.queue = none) (t : Mode) : (s.enterMode t).Unqueued t := by
  have hstart : (s.modeStart t).Unqueued t := by
    rw [State.Unqueued, State.modeStart_mode]; exact ⟨rfl, h⟩
  have hevent := (State.modeEffect_unqueued hstart t).of_mode (State.event_mode _ 0x000)
  rw [State.enterMode_eq]
  split
  · exact State.leaveService_unqueued hevent
  · exact hevent

/-! ### SERVICE and LIMP are entered -/

@[simp] theorem State.keepBytes_store (s : State) : s.keepBytes.store = s.store := by
  refine iter_proj State.store (fun m z => ?_) 16 s
  dsimp only
  split <;> rfl

@[simp] theorem State.limpOff_store (s : State) : s.limpOff.store = s.store := by
  simp only [State.limpOff]
  split <;> simp [State.lanesIdle]

/-- The engine's meters are no part of the store, the lanes or the demands. -/
theorem State.withEng_frame (e : Engine) (s : State) : ({ s with eng := e } : State).store = s.store ∧ ({ s with eng := e } : State).fly = s.fly :=
  ⟨id rfl, id rfl⟩

theorem State.beamSync_frame (s : State) : s.beamSync.store = s.store ∧ s.beamSync.fly = s.fly := State.withEng_frame _ s

/-- SERVICE ends a ceiling load alone. -/
theorem State.abortFor_service (st : Nat) (s : State) :
    s.abortFor .service st = State.endOne s.mask.ceilRun id (fun s => { s with mask := { s.mask with ceilRun := none } }) st s := rfl

theorem State.modeStart_service_store (s : State) : (s.modeStart .service).store = s.store := by
  have hz : (if s.mode.cur = .limp then s.limpOff else s).beamSync.store = s.store := by
    rw [(State.beamSync_frame _).1]; split <;> simp
  simp only [State.modeStart, State.abortFor_service, State.endOne, if_neg (show ¬ Mode.service = .beam by decide),
    if_neg (show ¬ Mode.service = .limp by decide)]
  split
  · rw [State.answer_store]; exact hz
  · exact hz

/-- In SERVICE the Ensign has its mark, and no transition is begun. -/
theorem State.enterMode_service (s : State) : (s.enterMode .service).mode.trans = s.mode.trans ∧ (s.enterMode .service).ens.svcMode = true ∧
    (s.enterMode .service).store = s.store := by
  have hmode : ((s.modeStart .service).modeEffect .service).mode = (s.modeStart .service).mode := id rfl
  have hstore : ((s.modeStart .service).modeEffect .service).store = (s.modeStart .service).store := id rfl
  rw [State.enterMode_eq, if_neg (fun h => h.2 rfl), State.event_mode, State.event_ens, State.event_store, hmode, hstore,
    State.modeStart_mode, State.modeStart_service_store]
  exact ⟨rfl, rfl, rfl⟩

theorem State.idleTarget_frame (s : State) : s.idleTarget.store = s.store ∧ s.idleTarget.fly = s.fly := by
  simp only [State.idleTarget, State.setPcdiv]
  split
  · exact ⟨id rfl, id rfl⟩
  · rw [State.event_store, State.event_fly]; exact ⟨id rfl, id rfl⟩

/-- LIMP is entered at the end of bring-up, the lanes as they are. -/
theorem State.enterMode_limp (h : s.mode.cur = .boot) : (s.enterMode .limp).mode = { s.mode with cur := .limp } ∧
    (s.enterMode .limp).store = s.store ∧ (s.enterMode .limp).fly = s.fly := by
  have hstart : (s.modeStart .limp).store = s.store ∧ (s.modeStart .limp).fly = s.fly := by
    simp only [State.modeStart, h, if_neg (show ¬ Mode.boot = .limp by decide), if_neg (show ¬ Mode.limp = .beam by decide), if_true]
    exact State.beamSync_frame s
  obtain ⟨istore, ifly⟩ := State.idleTarget_frame (s.modeStart .limp)
  have heffect : (s.modeStart .limp).modeEffect .limp = (s.modeStart .limp).idleTarget := rfl
  rw [State.enterMode_eq, if_neg (fun hc => by rw [h] at hc; exact absurd hc.1 (by decide)), heffect, State.event_mode, State.event_store,
    State.event_fly, State.idleTarget_mode, istore, ifly, State.modeStart_mode]
  exact ⟨rfl, hstart⟩

/-! ### Bring-up (R66, R67, R84) -/

theorem State.storeCleared_first (hp : s.pow.logicOn = true) (hc : s.store.clrDone = false) : s.storeCleared =
    State.event { s with store := { s.store with clrDone := true }, mode := { s.mode with step := max s.mode.step 4 } } 0x089 := by
  simp only [State.storeCleared, hp, hc, Bool.not_false, Bool.and_self, if_true]

/-- Every lane starts blind. -/
def State.lanesBlind (s : State) : State := iter (fun n z => z.laneBlind n) 16 s

theorem State.lanesBlind_frame (s : State) : s.lanesBlind.mode = s.mode ∧ s.lanesBlind.store = s.store :=
  ⟨iter_proj State.mode (fun _ z => State.laneBlind_mode z _) 16 s, iter_proj State.store (fun n z => z.setLane_store n _) 16 s⟩

theorem State.lanesBlind_lane {n : Nat} (hn : n < 16) (s : State) :
    (vget s.lanesBlind.fly n).st = .idle ∧ (vget s.lanesBlind.fly n).full = false := by
  obtain ⟨u, -, hu⟩ := iter_at (fun z => vget z.fly n) (f := fun m z => z.laneBlind m)
    (fun m z hm => by rw [State.laneBlind, State.setLane_fly]; exact vget_vmod_other _ _ _ _ (Ne.symm hm) hn) hn s
  have hb := State.laneBlind_blindAt ⟨n, hn⟩ u
  rw [State.lanesBlind, hu]
  exact ⟨hb.idle, hb.limp⟩

theorem State.hoistFirst_frame (s : State) : s.hoistFirst.mode = s.mode ∧ s.hoistFirst.store = s.store ∧ s.hoistFirst.fly = s.fly := by
  have h := iter_proj (fun z => (z.mode, z.store, z.fly)) (f := fun c z => z.setCred c (Cred.newEpoch (hoistCap c))) (fun c z => id rfl) 4 (s.hoistBlind 0)
  simp only [Prod.mk.injEq] at h
  exact h

/-- Bring-up has come to step 6. -/
def State.atSix (s : State) : State := { s with mode := { s.mode with step := 6, bootSafe := none } }

/-- With no safe state asked for or held, step 6 enters LIMP. -/
theorem State.stepSix_limp (hd : s.inputDemand = false) (hs : s.ens.safe = none) (hb : s.mode.bootSafe = none) :
    s.stepSix = s.lanesBlind.hoistFirst.atSix.enterMode .limp := by
  simp only [State.stepSix, hd, hs, hb, reduceCtorEq, decide_false, Bool.or_self, Option.isSome_none, Bool.not_false, Bool.and_self, if_true]
  rfl

/-- Halyard is at step 5 and has found no patch. -/
def State.unpatched (s : State) : State := { s with mode := { s.mode with patch := 0, patchVer := 0, step := 5 } }

theorem State.unpatched_frame (s : State) : s.unpatched.mode = { s.mode with patch := 0, patchVer := 0, step := 5 } ∧
    s.unpatched.inputDemand = s.inputDemand ∧ s.unpatched.ens = s.ens ∧ s.unpatched.store = s.store := ⟨id rfl, id rfl, id rfl, id rfl⟩

theorem State.atSix_frame (s : State) : s.atSix.mode = { s.mode with step := 6, bootSafe := none } ∧ s.atSix.store = s.store ∧
    s.atSix.fly = s.fly := ⟨id rfl, id rfl, id rfl⟩

/-- Without a boot flash the patch check ends step 5, and step 6 follows. -/
theorem State.patchDone_unflashed (hp : s.pow.logicOn = true) (hc : s.store.clrDone = true) (hm : s.mode.cur = .boot)
    (hf : s.pow.straps.getLsbD 0 = false) (image : List Byte) : s.patchDone image = s.unpatched.stepSix := by
  simp only [State.patchDone, hp, hc, hm, hf, patchOutcome, Bool.not_true, Bool.not_false, ne_eq, not_true_eq_false, decide_false, Bool.or_self,
    Bool.false_eq_true, if_false, if_true, OfNat.zero_ne_ofNat, zero_ne_one, or_self, State.unpatched]

/-- Bring-up without a patch and without a demand ends in LIMP, every lane started blind. -/
theorem State.patchDone_limp (hp : s.pow.logicOn = true) (hc : s.store.clrDone = true) (hm : s.mode.cur = .boot)
    (hf : s.pow.straps.getLsbD 0 = false) (hd : s.inputDemand = false) (hs : s.ens.safe = none) (hb : s.mode.bootSafe = none)
    (image : List Byte) : (s.patchDone image).mode = { s.mode with cur := .limp, step := 6, bootSafe := none, patch := 0, patchVer := 0 } ∧
      (s.patchDone image).store = s.store ∧
      ∀ n, n < 16 → (vget (s.patchDone image).fly n).st = .idle ∧ (vget (s.patchDone image).fly n).full = false := by
  obtain ⟨umode, udem, uens, ustore⟩ := s.unpatched_frame
  obtain ⟨bmode, bstore⟩ := s.unpatched.lanesBlind_frame
  obtain ⟨fmode, fstore, ffly⟩ := s.unpatched.lanesBlind.hoistFirst_frame
  obtain ⟨smode, sstore, sfly⟩ := s.unpatched.lanesBlind.hoistFirst.atSix_frame
  rw [fmode, bmode, umode] at smode
  obtain ⟨lmode, lstore, lfly⟩ := State.enterMode_limp (s := s.unpatched.lanesBlind.hoistFirst.atSix) (by rw [smode]; exact hm)
  rw [State.patchDone_unflashed hp hc hm hf, State.stepSix_limp (udem.trans hd) (by rw [uens, hs]) (by rw [umode, hb]), lmode, lstore, lfly, smode,
    sstore, sfly, fstore, ffly, bstore, ustore]
  exact ⟨rfl, rfl, fun n hn => State.lanesBlind_lane hn _⟩

/-! ### A transition completes -/

theorem State.modeDequeue_none (h : s.mode.queue = none) : s.modeDequeue = s := by
  simp only [State.modeDequeue, h]

/-- A transition with nothing left to wait for completes: its one request is answered OK with OUTCOME 0. -/
theorem State.modeDone_ready {tr : Trans} {r : ModeReq} {y : State} (ht : s.mode.trans = some tr) (ho : tr.owner = some r) (hg : tr.merged = [])
    (hr : s.transReady tr = true) (hy : y = ({ s with mode := { s.mode with trans := none } } : State).enterMode tr.target)
    (hq : y.mode.queue = none) : s.modeDone = y.modeAnswer stOk 0 y.mode.cur.code r := by
  have hd : s.modeDone = (y.modeAnswers stOk tr.owner.toList tr.merged).modeDequeue := by
    simp only [State.modeDone, State.transDone, ht, hr, if_true, hy]
  rw [hd, State.modeDequeue_none (by rw [State.modeAnswers_mode, hq]), ho, hg]
  rfl

theorem State.transReady_of {tr : Trans} (hs : tr.target ≠ .sleep) (hb : tr.target = .beam → s.scan.frontValid = true)
    (hr : tr.target = .ready → if s.mode.cur.isSafe then s.ens.ovr = false
      else s.scan.run = false ∧ s.scan.settleAt = none ∧ s.scan.retrain = none) : s.transReady tr = true := by
  unfold State.transReady
  split
  case h_1 h =>
    have hc := hr h
    split
    · next hsafe => rw [if_pos hsafe] at hc; rw [hc]; rfl
    · next hsafe =>
      rw [if_neg hsafe] at hc
      obtain ⟨hrun, hset, hre⟩ := hc
      rw [hrun, hset, hre]; rfl
  case h_2 h => exact hb h
  case h_3 h => exact absurd h hs
  case h_4 => rfl

end

/-- Settles O26: the store clear, the patch check without a flash, the crystal by the timebase, and a transition's end. -/
theorem bringUpRows : Obligations.BringUpRows := by
  rintro t s x rfl hp
  refine ⟨fun hc => ?_, fun hc hm hf hd hs hb a b c d => ?_, ?_, fun hx => ?_, fun hx => ?_, fun tr r y ht ho hg hq hs hbeam hready hy => ?_⟩
  · rw [exec, execStoreClearDone, occur_eq, State.storeCleared_first hp hc]
  · obtain ⟨hmode, hstore, hlanes⟩ := State.patchDone_limp hp hc hm hf hd hs hb (a ++ b ++ c ++ d)
    exact ⟨_, by rw [exec, execPatchCheckDone, occur_eq], by rw [hmode], by rw [hmode], by rw [hmode], hstore, hlanes⟩
  · rw [exec, execXtalGood, occur_eq, State.xtalGood, if_pos hp]
  · simp only [exec, execXtalLoss, occur_eq, State.xtalLoss, hp, hx, Bool.not_true, Bool.false_eq_true, if_false, if_true]
  · simp only [exec, execXtalLoss, occur_eq, State.xtalLoss, hp, hx, Bool.not_true, Bool.false_eq_true, if_false]
  · obtain ⟨hcur, hqueue⟩ := State.enterMode_unqueued (s := { s.advance t with mode := { (s.advance t).mode with trans := none } }) hq tr.target
    rw [← hy] at hcur hqueue
    refine ⟨by rw [exec, execModeTransitionDone, occur_eq, State.modeDone_ready ht ho hg (State.transReady_of hs hbeam hready) hy hqueue], hcur,
      fun hsvc => ?_⟩
    rw [hy, hsvc]
    exact State.enterMode_service _

end Sys2Proof.Machine
end

section
/-! The register rows whose effect is more than storing a value. -/

namespace Sys2Proof.Machine

/-! ### Fields of a written word -/

/-- A field all of whose bits a write reaches has the value written. -/
theorem bits_kept_or {rw hi lo : Nat} (hr : ∀ j, lo ≤ j → j ≤ hi → rw.testBit j = true) (hw : hi < 32) (old m : Word) (fx : Nat) :
    bits (old &&& ~~~BitVec.ofNat 32 rw &&& m ||| BitVec.ofNat 32 fx).toNat hi lo = bits fx hi lo := by
  refine Nat.eq_of_testBit_eq fun i => ?_
  rw [bits, bits, Nat.testBit_mod_two_pow, Nat.testBit_mod_two_pow, Nat.testBit_div_two_pow, Nat.testBit_div_two_pow]
  by_cases hi' : i < hi + 1 - lo
  · have hj : i + lo < 32 := by omega
    have hbit := hr (i + lo) (by omega) (by omega)
    simp only [BitVec.testBit_toNat, BitVec.getLsbD_or, BitVec.getLsbD_and, BitVec.getLsbD_not, BitVec.getLsbD_ofNat, hj, hbit, decide_true,
      Bool.true_and, Bool.not_true, Bool.and_false, Bool.false_and, Bool.false_or]
  · simp [hi']

/-- A field that a mask reaches in full is as it was. -/
theorem bits_and_mask {rw hi lo : Nat} (hr : ∀ j, lo ≤ j → j ≤ hi → rw.testBit j = true) (x : Nat) : bits (x &&& rw) hi lo = bits x hi lo := by
  refine Nat.eq_of_testBit_eq fun i => ?_
  rw [bits, bits, Nat.testBit_mod_two_pow, Nat.testBit_mod_two_pow, Nat.testBit_div_two_pow, Nat.testBit_div_two_pow, Nat.testBit_and]
  by_cases hi' : i < hi + 1 - lo
  · rw [hr (i + lo) (by omega) (by omega), Bool.and_true]
  · simp [hi']

/-- A field that a mask clears has the value that is put into it. -/
theorem bits_cleared_or {m hi lo : Nat} (hm : ∀ j, lo ≤ j → j ≤ hi → m.testBit j = false) (old b : Word) :
    bits (old &&& BitVec.ofNat 32 m ||| b).toNat hi lo = bits b.toNat hi lo := by
  refine Nat.eq_of_testBit_eq fun i => ?_
  rw [bits, bits, Nat.testBit_mod_two_pow, Nat.testBit_mod_two_pow, Nat.testBit_div_two_pow, Nat.testBit_div_two_pow]
  by_cases hi' : i < hi + 1 - lo
  · have hbit := hm (i + lo) (by omega) (by omega)
    simp only [BitVec.testBit_toNat, BitVec.getLsbD_or, BitVec.getLsbD_and, BitVec.getLsbD_ofNat, hbit, Bool.and_false, Bool.false_or]
  · simp [hi']

theorem State.writeLive_actW (a : Nat) (v : Word) (r : RegInfo) (s : State) : (s.writeLive a v r).actW a =
    (s.actW a &&& ~~~(BitVec.ofNat 32 r.rw) &&& ~~~(v &&& BitVec.ofNat 32 r.w1c &&& ~~~(hotBits s.regs.hot a))) |||
      BitVec.ofNat 32 (regFix a (v.toNat &&& r.rw) ((s.actW a).toNat &&& r.rw)) :=
  (State.setAct_actW s a a _).trans (if_pos rfl)

/-- A field that a live write reaches has the value that the write stores. -/
theorem State.writeLive_fld {a hi lo : Nat} {r : RegInfo} (hr : ∀ j, lo ≤ j → j ≤ hi → r.rw.testBit j = true) (hw : hi < 32) (v : Word) (s : State) :
    (s.writeLive a v r).fld a hi lo = bits (regFix a (v.toNat &&& r.rw) ((s.actW a).toNat &&& r.rw)) hi lo := by
  rw [State.fld, State.act, State.writeLive_actW, bits_kept_or hr hw]

section
variable {s : State}

/-! ### Reads (R97, R264) -/

theorem State.latchHigh_framecnt (p : Port) (s : State) :
    s.latchHigh p (lowHalf .framecnt) = s.setPort p { s.port p with frameHi := BitVec.ofNat 32 (s.scan.framecnt / 2 ^ 32) } := rfl
theorem State.latchHigh_fliptime (p : Port) (s : State) :
    s.latchHigh p (lowHalf .fliptime) = s.setPort p { s.port p with flipHi := BitVec.ofNat 32 (s.scan.fliptime / 2 ^ 32) } := rfl
theorem State.latchHigh_rtc (p : Port) (s : State) :
    s.latchHigh p (lowHalf .rtc) = s.setPort p { s.port p with rtcHi := BitVec.ofNat 32 (s.rtc.count / 2 ^ 32) } := rfl
theorem State.latchHigh_lasttime (p : Port) (s : State) :
    s.latchHigh p (lowHalf .lasttime) = s.setPort p { s.port p with lastHi := BitVec.ofNat 32 (s.lastTime / 2 ^ 32) } := rfl

/-- The window's last word moves the cursor, but not for WSPI (R507). -/
theorem State.readEffect_window (p : Port) (s : State) : s.readEffect p 0xB0006 =
    if p = .wspi then s
    else if s.evt.cursor < s.evt.store.length then { s with evt := { s.evt with cursor := s.evt.cursor + 1 } } else s := by
  have hl : s.latchHigh p (addrPlain 0xB0006) = s := rfl
  rw [State.readEffect, State.readEffectIn, hl]
  rfl

theorem whenOn_on (h : s.pow.logicOn = true) (f : State → State) : s.whenOn f = f s := if_pos h

/-! ### The supply path (R377, R378) -/

/-- A path measurement is under way. -/
def State.pathBegun (s : State) : State := { s with eng := { s.eng with pathBusy := true, pathRefused := false } }

/-- An idle lane carries DARK at once. -/
def State.pathDark (n : Nat) (s : State) : State := if (vget s.fly n).st = .idle then s.extraFstart n .dark else s

theorem State.pathStart_ready (hm : s.mode.cur = .ready) (ht : s.mode.trans = none) (hb : s.eng.pathBusy = false) :
    s.pathStart = iter State.pathDark 16 s.pathBegun := by
  rw [State.pathStart, if_pos ⟨hm, by rw [ht]; rfl, by rw [hb]; rfl⟩]
  rfl

theorem State.pathStart_refused (hm : s.mode.cur ≠ .ready) :
    s.pathStart = { s with eng := { s.eng with pathRefused := true, pathValid := false } } := by
  rw [State.pathStart, if_neg (fun h => hm h.1)]

/-- What the frame starts of a path measurement leave as it was. -/
def State.pathFrame (s : State) : Engine × Vector PortState 3 × Store × Clock := (s.eng, s.ports, s.store, s.clk)

theorem State.extraFstart_pathFrame (n : Nat) (sh : Show) (s : State) : (s.extraFstart n sh).pathFrame = s.pathFrame := id rfl

theorem State.pathDark_pathFrame (n : Nat) (s : State) : (s.pathDark n).pathFrame = s.pathFrame := by
  unfold State.pathDark
  split
  · exact State.extraFstart_pathFrame n .dark s
  · rfl

theorem State.pathDark_other {m n : Nat} (hn : n < 16) (h : m ≠ n) (s : State) : vget (s.pathDark m).fly n = vget s.fly n := by
  unfold State.pathDark
  split
  · exact vget_vmod_other _ _ _ _ (Ne.symm h) hn
  · rfl

theorem State.extraFstart_dark {n : Nat} (hn : n < 16) (s : State) :
    (vget (s.extraFstart n .dark).fly n).lastShow = .dark ∧ (vget (s.extraFstart n .dark).fly n).fstartAt = s.clk.dtime := by
  have hl : vget (s.extraFstart n .dark).fly n = (vget s.fly n).sendExtra s.clk.dtime s.scan.fseq .dark (s.fresh.1 % 65536) :=
    vget_vmod_same _ _ _ hn
  rw [hl, Lane.sendExtra]
  exact ⟨rfl, rfl⟩

/-- Each idle lane carries DARK from then on, and no other changes. -/
theorem State.pathDark_each {n : Nat} (hn : n < 16) (s : State) :
    ((vget s.fly n).st = .idle → (vget (iter State.pathDark 16 s).fly n).lastShow = .dark ∧
      (vget (iter State.pathDark 16 s).fly n).fstartAt = s.clk.dtime) ∧
    ((vget s.fly n).st ≠ .idle → vget (iter State.pathDark 16 s).fly n = vget s.fly n) := by
  obtain ⟨u, hu, he⟩ := iter_at (fun z => (vget z.fly n, z.clk)) (f := State.pathDark) (fun m z h => Prod.ext (State.pathDark_other hn h z)
    (congrArg (fun v => v.2.2.2) (State.pathDark_pathFrame m z))) hn s
  simp only [Prod.mk.injEq] at hu he
  rw [he.1]
  refine ⟨fun hi => ?_, fun hi => ?_⟩
  · rw [State.pathDark, if_pos (by rw [hu.1]; exact hi), ← hu.2]
    exact State.extraFstart_dark hn u
  · rw [State.pathDark, if_neg (by rw [hu.1]; exact hi), hu.1]

/-- With the current step that the measurement needs it runs. -/
theorem State.pathctl_enough {d : Nat} (hd : 50 ≤ d) (s : State) : s.pathctl d = s.pathStart := by
  rw [State.pathctl, if_neg (fun h => absurd h.1 (Nat.not_lt.mpr hd))]

theorem Engine.refused_idle {e : Engine} (h : e.pathBusy = false) :
    { e with pathRefused := true, pathValid := false } = { e with pathBusy := false, pathRefused := true, pathValid := false } := by
  cases e; cases h; rfl

theorem State.pathctl_refused (hm : s.mode.cur ≠ .ready) (d : Nat) : s.pathctl d = { s with eng := { s.eng with
    pathBusy := s.eng.pathBusy && decide (50 ≤ d), pathRefused := true, pathValid := false } } := by
  rw [State.pathctl, State.pathStart_refused hm]
  by_cases hd : 50 ≤ d
  · rw [if_neg (fun h => absurd h.1 (Nat.not_lt.mpr hd)), decide_eq_true hd, Bool.and_true]
  · rw [decide_eq_false hd, Bool.and_false]
    cases hb : s.eng.pathBusy with
    | true => rw [if_pos ⟨Nat.not_le.mp hd, rfl⟩]; rfl
    | false => rw [if_neg (fun h => Bool.false_ne_true h.2), Engine.refused_idle hb]

/-- The resistance that the measurement gives, and its event above the limit. -/
theorem State.pathDone_measured (hm : s.mode.cur = .ready) (hb : s.eng.pathBusy = true) {uv ma r : Nat} (ha : 50 ≤ ma) (hr : r = uv / ma)
    (hw : r < 65536) : s.pathDone uv ma = if s.fld 0x70008 31 16 < r then
      State.event { s with eng := { s.eng with pathBusy := false, pathValid := true, rmeas := r } } 0x1C8
    else { s with eng := { s.eng with pathBusy := false, pathValid := true, rmeas := r } } := by
  have hc : ¬ (ma < 50 ∨ s.mode.cur ≠ .ready) := fun h => h.elim (fun h => absurd h (Nat.not_lt.mpr ha)) (fun h => h hm)
  simp only [State.pathDone, hb, Bool.not_true, Bool.false_eq_true, if_false, if_neg hc, ← hr, if_pos hw, Nat.mod_eq_of_lt hw, State.setEng_fld]
  rfl

/-! ### The RTC (R674 to R676) -/

theorem State.setAlarm_rtc (s : State) : s.setAlarm.rtc = s.rtc := by
  simp only [State.setAlarm]
  split
  · rw [State.hwSet_rtc]
  · rw [State.raiseHv_rtc, State.hwSet_rtc]

/-- An increment that waits behind the command is applied first. -/
theorem State.rtcFirst_waits (hp : s.pending.contains (.rtcTick s.clk.now) = true) (hd : s.rtcDue = true) :
    s.rtcFirst.rtc.count = (s.rtc.count + 1) % 2 ^ 40 := by
  have hf : s.rtcFirst = s.secondOn.compareAlarm := by
    rw [State.rtcFirst, hp, hd]; rfl
  rw [hf, State.compareAlarm_eq rfl]
  split
  · rw [State.setAlarm_rtc]; rfl
  · rfl

theorem State.rtcFirst_none (hp : s.pending.contains (.rtcTick s.clk.now) = false) : s.rtcFirst = s := by
  rw [State.rtcFirst, hp, Bool.false_and, if_neg Bool.false_ne_true]

/-- `s` with the RTC's count loaded. -/
def State.rtcLoaded (v : Nat) (s : State) : State := { s with rtc := { s.rtc with count := v, since := s.clk.now } }

/-- LOAD takes no earlier count; one that it takes passes the alarm where it crosses it. -/
theorem State.rtcLoad_eq {y z : State} {v : Nat} {crossed : Bool} (hy : y = s.rtcFirst) (hv : v = y.act 0x100005 * 2 ^ 32 + y.act 0x100004)
    (hz : z = y.rtcLoaded v)
    (hc : crossed = (z.flag 0x100006 0 && decide (y.rtc.count < y.rtc.alarm.toNat ∧ y.rtc.alarm.toNat ≤ v))) :
    s.rtcLoad = if v < y.rtc.count then y.hwSet 0x100007 8
      else (if crossed then z.setAlarm else z).raiseHv 0x402 0 ((v - y.rtc.count) % 2 ^ 32) := by
  rw [hc, hz]
  simp only [State.rtcLoad, ← hy, ← hv]
  rfl

/-- `s` with the alarm's high half written, and an alarm in force. -/
def State.alarmSet (w : Word) (alarm : BitVec 40) (s : State) : State := { s.setAct 0x100003 w with rtc := { s.rtc with alarm := alarm } }

theorem State.alarmSet_frame (w : Word) (alarm : BitVec 40) (s : State) :
    (s.alarmSet w alarm).flag 0x100006 0 = s.flag 0x100006 0 ∧ (s.alarmSet w alarm).rtc.count = s.rtc.count := by
  have hw : (s.alarmSet w alarm).actW 0x100006 = s.actW 0x100006 := (State.setAct_actW s _ _ _).trans (if_neg (by decide))
  rw [State.flag, State.act, hw, State.flag, State.act]
  exact ⟨rfl, id rfl⟩

/-- Both staged halves of the alarm come into force, and the comparison follows. -/
theorem State.alarmhWrite_eq {w : Word} {z : State} {met : Bool}
    (hz : z = s.alarmSet (w &&& 0xFF) (BitVec.ofNat 40 ((w &&& 0xFF).toNat * 2 ^ 32 + s.act 0x100002)))
    (hm : met = (s.flag 0x100006 0 && decide (s.rtc.count = z.rtc.alarm.toNat))) : s.alarmhWrite w = if met then z.setAlarm else z := by
  have hhi : (s.setAct 0x100003 (w &&& 0xFF)).act 0x100003 = (w &&& 0xFF).toNat := by
    rw [State.act, State.setAct_actW, if_pos rfl]
  have hlo : (s.setAct 0x100003 (w &&& 0xFF)).act 0x100002 = s.act 0x100002 := by
    rw [State.act, State.setAct_actW, if_neg (by decide), State.act]
  have hw : s.alarmhWrite w = z.compareAlarm := by
    simp only [hz, State.alarmSet, State.alarmhWrite, hhi, hlo, State.setAct_rtc]
  obtain ⟨hflag, hcount⟩ := s.alarmSet_frame (w &&& 0xFF) (BitVec.ofNat 40 ((w &&& 0xFF).toNat * 2 ^ 32 + s.act 0x100002))
  rw [← hz] at hflag hcount
  rw [hw, State.compareAlarm_eq (met := met) (by rw [hm, hflag, hcount])]

/-! ### REL, CRC.INJ and REFILL (R72, R501, R600) -/

theorem State.rel_held (h : s.pow.padHeld = true) : s.rel = State.event { s with pow := { s.pow with padHeld := false } } 0x008 := by
  rw [State.rel, if_pos h]

/-- The register information of CRC.INJ and of PERF.CFG. -/
theorem regInfo_crcInj : regInfo 0xE0000 = some { regL 0x1F 0 with wo := 0x100 } := by decide
theorem regInfo_perfCfg : regInfo 0x10200 = some (regL 491391 408606) := by decide

/-- A write of ARM in SERVICE stores the unit and arms it. -/
theorem State.writePlain_crcInj (hm : s.mode.cur = .service) {v : Word} (hv : bit v.toNat 8 = true) :
    s.writePlain 0xE0000 v = (s.writeLive 0xE0000 v { regL 0x1F 0 with wo := 0x100 }).crcArm := by
  simp [State.writePlain, regInfo_crcInj, regL, regRo, hv, hm]

/-- Every unit of Table 14.9 is stored as it is written. -/
theorem regFix_unit (k : Fin 21) (old : Nat) :
    bits (regFix 0xE0000 ((BitVec.ofNat 32 ((BitVec.ofNat 8 k.val).toNat % 32 + 256)).toNat &&& 0x1F) old) 4 0 = k.val := by
  have hf (x : Nat) : regFix 0xE0000 x old = remap x 0 5 (fun x => min x 20) := by simp [regFix]
  rw [hf]
  revert k
  decide

theorem crcInj_arms (k : Fin 21) : bit (BitVec.ofNat 32 ((BitVec.ofNat 8 k.val).toNat % 32 + 256)).toNat 8 = true := by
  revert k
  decide

theorem State.crcArm_unit {k : Fin 21} (hm : s.mode.cur = .service) (hk : s.fld 0xE0000 4 0 = k.val) :
    s.crcArm = { s with chk := { s.chk with armed := some k } } := by
  have hlt : s.mode.cur = .service ∧ s.fld 0xE0000 4 0 < 21 := ⟨hm, by rw [hk]; exact k.isLt⟩
  rw [State.crcArm, dif_pos hlt, show (⟨s.fld 0xE0000 4 0, hlt.2⟩ : Fin 21) = k from Fin.ext hk]

/-- CRC_INJ_ARM arms its unit. -/
theorem State.writeWord_crcInj (hm : s.mode.cur = .service) (k : Fin 21) {w : Word}
    (hw : w = BitVec.ofNat 32 ((BitVec.ofNat 8 k.val).toNat % 32 + 256)) :
    (s.writeWord 0xE0000 w).chk = { s.chk with armed := some k } ∧ (s.writeWord 0xE0000 w).store = s.store ∧
      (s.writeWord 0xE0000 w).ports = s.ports := by
  have hfld : (s.writeLive 0xE0000 w { regL 0x1F 0 with wo := 0x100 }).fld 0xE0000 4 0 = k.val := by
    rw [State.writeLive_fld (by decide) (by decide), hw]
    exact regFix_unit k _
  rw [State.writeWord, show addrPlain 0xE0000 = 0xE0000 from rfl, State.writePlain_crcInj hm (hw ▸ crcInj_arms k), State.crcArm_unit (s := s.writeLive 0xE0000 w _) hm hfld]
  exact ⟨rfl, rfl, rfl⟩

/-- A write of REFILL stores at least 1, and restarts the buckets. -/
theorem State.refillWrite_fld (v : Byte) (s : State) : (s.refillWrite v.toNat).fld 0xB0000 7 0 = max 1 v.toNat := by
  have ha : (s.refillWrite v.toNat).actW 0xB0000 = BitVec.ofNat 32 (s.act 0xB0000 / 256 * 256 + max 1 (v.toNat % 256)) :=
    (State.setAct_actW s _ _ _).trans (if_pos rfl)
  have hv := v.isLt
  rw [State.fld, State.act, ha, bits, BitVec.toNat_ofNat]
  omega

/-! ### PERF.CFG (R559) -/

/-- A write of PERF.CFG stores its limits, and the policy follows. -/
theorem State.writePlain_perfCfg (v : Word) (s : State) :
    s.writePlain 0x10200 v = (s.writeLive 0x10200 v (regL 491391 408606)).perfWritten s.vaim := by
  simp [State.writePlain, regInfo_perfCfg, regL, regRo]

theorem remap_low {v w : Nat} (f : Nat → Nat) (h : w = remap v 0 7 f) : w / 65536 = v / 65536 := by
  rw [h, remap]
  generalize f (v / 2 ^ 0 % 2 ^ 7) = y
  omega

theorem remap_mid {v w : Nat} (f : Nat → Nat) (h : w = remap v 8 7 f) : w / 65536 = v / 65536 := by
  rw [h, remap]
  generalize f (v / 2 ^ 8 % 2 ^ 7) = y
  omega

theorem remap_pcdivmax (v : Nat) : bits (remap v 16 2 (fun x => min x 2)) 17 16 = min (bits v 17 16) 2 := by
  simp only [remap, bits]
  omega

/-- PCDIVMAX is stored as 2 at most. -/
theorem regFix_pcdivmax (v old : Nat) : bits (regFix 0x10200 v old) 17 16 = min (bits v 17 16) 2 := by
  have hf : regFix 0x10200 v old = remap (remap (remap v 16 2 (fun x => min x 2)) 0 7 (clamp 30 70)) 8 7
      (fun x => max (min x 70) (remap (remap v 16 2 (fun x => min x 2)) 0 7 (clamp 30 70) % 128)) := by simp [regFix]
  have htop : regFix 0x10200 v old / 65536 = remap v 16 2 (fun x => min x 2) / 65536 := (remap_mid _ hf).trans (remap_low _ rfl)
  rw [← remap_pcdivmax, bits, bits]
  exact congrArg (· % 2 ^ (17 + 1 - 16)) htop

/-- The word that a write of PCDIVMAX alone gives has it in its field. -/
theorem bits_pcdivmax (old : Word) (v : BitVec 2) :
    bits ((old &&& 0xFFFCFFFF#32) ||| (v.zeroExtend 32 <<< 16)).toNat 17 16 = v.toNat := by
  rw [show (0xFFFCFFFF#32 : Word) = BitVec.ofNat 32 0xFFFCFFFF from rfl, bits_cleared_or (by decide)]
  revert v
  decide

/-! ### The performance policy after a write (Table 13.4) -/

theorem State.perfTarget_frame (s : State) : s.perfTarget.regs = s.regs ∧ s.perfTarget.scan.pcdiv = s.scan.pcdiv := by
  simp only [State.perfTarget, apply_ite State.regs, apply_ite State.scan, apply_ite Scan.pcdiv, ite_self, and_self]
theorem State.perfDivider_regs (s : State) : s.perfDivider.regs = s.regs := by unfold State.perfDivider; split <;> rfl
theorem State.downDue_regs (s : State) : s.downDue.regs = s.regs := by unfold State.downDue; split <;> rfl
theorem State.resettle_frame (s : State) : s.resettle.regs = s.regs ∧ s.resettle.scan.pcdivWant = s.scan.pcdivWant := by
  unfold State.resettle; split <;> exact ⟨rfl, rfl⟩

/-- A change that VREQ at VMAX lets go on keeps within PCDIVMAX. -/
theorem State.downDue_want {m w : Nat} (hm : s.pcdivMax = m) (hw : s.scan.pcdivWant = some w) (hle : w ≤ m) :
    ∃ k, s.downDue.scan.pcdivWant = some k ∧ k ≤ m := by
  unfold State.downDue
  split
  · exact ⟨_, rfl, hm ▸ Nat.min_le_right _ _⟩
  · exact ⟨w, hw, hle⟩

/-- A divider above PCDIVMAX is wanted lower. -/
theorem State.perfDivider_want {m : Nat} (hm : s.pcdivMax = m) (hlt : m < s.scan.pcdiv) :
    ∃ k, s.perfDivider.scan.pcdivWant = some k ∧ k ≤ m := by
  rw [State.perfDivider, if_pos (hm ▸ hlt)]
  exact ⟨_, rfl, hm ▸ Nat.min_le_right _ _⟩

theorem State.pcdivMax_congr {u : State} (h : u.regs = s.regs) : u.pcdivMax = s.pcdivMax := by
  simp only [State.pcdivMax, State.fld, State.act, State.actW, h]

/-- The policy while Bunting composes, before the settle time begins anew. -/
def State.perfKept (s : State) : State := s.perfTarget.perfDivider.atMaxStill.downDue

theorem State.perfKept_regs (s : State) : s.perfKept.regs = s.regs :=
  (State.downDue_regs _).trans ((State.perfDivider_regs _).trans (State.perfTarget_frame s).1)

theorem State.perfWritten_eq (aim : Nat) (s : State) : s.perfWritten aim =
    if s.composing then (if s.perfKept.vaim = aim then s.perfKept else s.perfKept.resettle) else s.idleTarget := by
  unfold State.perfWritten
  cases s.composing <;> rfl

/-- The idle target moves no word but a PEND word. -/
theorem State.idleTarget_perfCfg (s : State) : s.idleTarget.actW 0x10200 = s.actW 0x10200 := by
  simp only [State.idleTarget, State.setPcdiv]
  split
  · rfl
  · exact (State.raise0_actW_other (by decide) (fun b m h => by simp [evtBit] at h) 0 _).trans rfl

/-- The policy leaves PERF.CFG as it was written. -/
theorem State.perfWritten_pcdivMax (aim : Nat) (s : State) : (s.perfWritten aim).pcdivMax = s.pcdivMax := by
  rw [State.perfWritten_eq]
  split
  · split
    · exact State.pcdivMax_congr s.perfKept_regs
    · exact State.pcdivMax_congr ((State.resettle_frame _).1.trans s.perfKept_regs)
  · simp only [State.pcdivMax, State.fld, State.act, State.idleTarget_perfCfg]

/-- While Bunting composes a divider above PCDIVMAX is wanted lower. -/
theorem State.perfWritten_want {m : Nat} (hc : s.composing = true) (hm : s.pcdivMax = m) (hlt : m < s.scan.pcdiv) (aim : Nat) :
    ∃ k, (s.perfWritten aim).scan.pcdivWant = some k ∧ k ≤ m := by
  obtain ⟨tregs, tdiv⟩ := s.perfTarget_frame
  obtain ⟨w, hw, hle⟩ := State.perfDivider_want (s := s.perfTarget) ((State.pcdivMax_congr tregs).trans hm) (by rw [tdiv]; exact hlt)
  have hmax : s.perfTarget.perfDivider.atMaxStill.pcdivMax = m :=
    (State.pcdivMax_congr (u := s.perfTarget.perfDivider.atMaxStill) (s := s) ((State.perfDivider_regs _).trans tregs)).trans hm
  obtain ⟨k, hk, hkm⟩ := State.downDue_want (s := s.perfTarget.perfDivider.atMaxStill) hmax hw hle
  refine ⟨k, ?_, hkm⟩
  rw [State.perfWritten_eq, if_pos hc]
  split
  · exact hk
  · rw [(State.resettle_frame _).2]; exact hk

/-- A write of PCDIVMAX stores it, and a divider above it is wanted lower. -/
theorem State.pcdivmax_stored (v : BitVec 2) (s : State) : (s.pcdivmax v).pcdivMax = min v.toNat 2 ∧
    (s.scan.run = true → s.scan.stopping = false → min v.toNat 2 < s.scan.pcdiv →
      ∃ w, (s.pcdivmax v).scan.pcdivWant = some w ∧ w ≤ min v.toNat 2) := by
  have hw : s.pcdivmax v = (s.writeLive 0x10200 ((s.actW 0x10200 &&& 0xFFFCFFFF#32) ||| (v.zeroExtend 32 <<< 16)) (regL 491391 408606)).perfWritten
      s.vaim := by
    rw [State.pcdivmax, State.writeWord, show addrPlain 0x10200 = 0x10200 from rfl, State.writePlain_perfCfg]
  have hm : (s.writeLive 0x10200 ((s.actW 0x10200 &&& 0xFFFCFFFF#32) ||| (v.zeroExtend 32 <<< 16)) (regL 491391 408606)).pcdivMax = min v.toNat 2 := by
    rw [State.pcdivMax, State.writeLive_fld (by decide) (by decide), regFix_pcdivmax, bits_and_mask (by decide), bits_pcdivmax]
  rw [hw]
  refine ⟨(State.perfWritten_pcdivMax _ _).trans hm, fun hr hs hlt => State.perfWritten_want ?_ hm hlt _⟩
  have hrun : (s.writeLive 0x10200 ((s.actW 0x10200 &&& 0xFFFCFFFF#32) ||| (v.zeroExtend 32 <<< 16)) (regL 491391 408606)).scan = s.scan := rfl
  rw [State.composing, hrun, hr, hs]
  rfl

end

/-- Settles O24: the reads, the supply path, the RTC and the written words, each row by its branches. -/
theorem registerRows : Obligations.RegisterRows := by
  rintro t p s x rfl hon
  refine ⟨fun a => ?_, fun h hh => ?_, fun h hh => ?_, fun h hh => ?_, fun h hh => ?_, fun hp hc => ?_, fun hp => ?_, fun hh => ?_,
    fun hm ht hb d hd => ?_, fun hm d => ?_, fun hm hb uv ma r ha hr hw hle => ?_, fun hm hb uv ma r ha hr hw hlt => ?_, fun k hm => ?_,
    State.rtcFirst_none, State.rtcFirst_waits, fun v y hy hv => ?_, fun v z met hz hm => ?_, fun v => ?_, fun v => ?_⟩
  · rw [exec, execRcRead, occur_eq, whenOn_on hon, State.readEffect]
  · rw [exec, execFramecntlRead, occur_eq, whenOn_on hon, State.latchHigh_framecnt, hh]
  · rw [exec, execFramecntlRead, occur_eq, whenOn_on hon, State.latchHigh_fliptime, hh]
  · rw [exec, execFramecntlRead, occur_eq, whenOn_on hon, State.latchHigh_rtc, hh]
  · rw [exec, execFramecntlRead, occur_eq, whenOn_on hon, State.latchHigh_lasttime, hh]
  · rw [exec, execEvtWindowRead, occur_eq, whenOn_on hon, State.readEffect_window, if_neg hp, if_pos hc]
  · rw [exec, execEvtWindowRead, occur_eq, whenOn_on hon, State.readEffect_window]
    rcases hp with hp | hc
    · rw [if_pos hp]
    · rw [if_neg (Nat.not_lt.mpr hc), ite_self]
  · rw [exec, execRel, occur_eq, whenOn_on hon, State.rel_held hh]
  · have hframe := iter_proj State.pathFrame (fun m z => State.pathDark_pathFrame m z) 16 (s.advance t).pathBegun
    simp only [State.pathFrame, Prod.mk.injEq] at hframe
    obtain ⟨heng, hports, hstore, -⟩ := hframe
    exact ⟨_, by rw [exec, execPathctlStart, occur_eq, whenOn_on hon, State.pathctl_enough hd, State.pathStart_ready hm ht hb], heng, hports, hstore,
      fun n hn => State.pathDark_each hn (s.advance t).pathBegun⟩
  · rw [exec, execPathctlStart, occur_eq, whenOn_on hon, State.pathctl_refused hm]
  · rw [exec, execPathMeasureDone, occur_eq, State.pathDone_measured hm hb ha hr hw, if_neg (Nat.not_lt.mpr hle)]
  · rw [exec, execPathMeasureDone, occur_eq, State.pathDone_measured hm hb ha hr hw, if_pos hlt]
  · exact ⟨_, by rw [exec, execCrcInjArm, occur_eq, whenOn_on hon], State.writeWord_crcInj hm k rfl⟩
  · refine ⟨fun hlt => ?_, fun hle z crossed hz hc => ?_⟩
    · rw [exec, execRtcLoad, occur_eq, whenOn_on hon, State.rtcLoad_eq hy hv rfl rfl, if_pos hlt]
    · rw [exec, execRtcLoad, occur_eq, whenOn_on hon, State.rtcLoad_eq hy hv hz hc, if_neg (Nat.not_lt.mpr hle)]
  · rw [exec, execAlarmhWrite, occur_eq, whenOn_on hon, State.alarmhWrite_eq hz hm]
  · exact ⟨_, by rw [exec, execRefillWrite, occur_eq, whenOn_on hon], State.refillWrite_fld v _, rfl, rfl⟩
  · exact ⟨_, by rw [exec, execPcdivmaxWrite, occur_eq, whenOn_on hon], State.pcdivmax_stored v _⟩

end Sys2Proof.Machine
end
